-- ==== Sys2Proof/Word.lean ====
section
/-! DEFINITION. The word types of the register model. -/

namespace Sys2Proof

/-- A 32-bit register word, bit 31 most significant (R7). -/
abbrev Word := BitVec 32

/-- A byte of a frame, an image or an overhead field. -/
abbrev Byte := BitVec 8

end Sys2Proof
end

