-- ==== Sys2Proof/Syntax.lean ====
section
/-! DEFINITION. The commands: one constructor of Instr per row of spec/opcode_table.json, with the operands the
row's step takes from outside (a frame, a word written, what the line or the board shows). -/

namespace Sys2Proof

/-- A chain port: A faces the head, B faces away (R33). -/
inductive Side where
  | A
  | B
deriving DecidableEq, Repr

/-- Where a management access comes from: a chain input, or host lane n in-band (R49). -/
inductive Src where
  | chain (side : Side)
  | inband (lane : Fin 8)
deriving DecidableEq, Repr

/-- A chain frame, bytes 0 to 10 (R36). -/
structure Frame where
  dest : BitVec 5
  mtag : BitVec 4
  op : BitVec 4
  tag : BitVec 3
  addr : BitVec 24
  data : Word
  crc : BitVec 16
deriving DecidableEq, Repr

/-- A READ, WRITE or CLAIM request: a chain frame or an in-band record (R36, R348). -/
structure Req where
  src : Src
  dest : BitVec 5
  mtag : BitVec 4
  tag : BitVec 3
  addr : BitVec 24
  data : Word
deriving DecidableEq, Repr

/-- An access of a master to the register its row names, at the moment it reaches that register. -/
structure Acc where
  src : Src
  mtag : BitVec 4
  tag : BitVec 3
  data : Word
deriving DecidableEq, Repr

/-- The register blocks of R77. -/
inductive Blk where
  | DEV_ID | KEEPER | CHAIN | RSTC | CLKC | PWRC | LAYOUT | NVMC | POST | TIME | SPARE | INJ | BOOTF | TMRS | DEBUG
  | LODGE
  | PAV_CTL | DECPOOL | ENGPOOL | LAYBY | PAV_WEAR
  | PORT_CTL | AFE | TXSH | LINKUP | TONES | ECHO | EQ | FEC | LAYBY_P | STREAM | BURST | ROUNDABOUT | WATCH | DIAG
  | SURVEY | HOST | TSU | STATS | OAM | CAL
deriving DecidableEq, Repr

/-- Configuration of one stream entry, words 0 and 1 of R270; all 0 where no layout gives it (DESIGN CHOICE, log 6). -/
structure StreamCfg where
  deadline : Nat := 0
  maxTries : Nat := 0
  cls : Nat := 0
  retx : Bool := false
  inOrder : Bool := false
  fixed : Bool := false
  sen : Bool := false
  guar : Nat := 0
  cap : Nat := 0
deriving DecidableEq, Repr

/-- A way of the match table (R271). -/
structure MatchWay where
  entry : Nat
  mac : Nat
  vid : Nat
  stream : Nat
deriving DecidableEq, Repr

/-- What a layout decides for one port (R103, R104, R442): a pair of `masks` is a tone and a level in 0.1 dBm/Hz,
a pair of `notchSets` a start tone and its width - 1. -/
structure PortLayout where
  mode : Nat := 0
  hostRate : Nat := 0
  permit : Nat := 0
  initProfile : Nat := 0
  compat : Nat := 0
  masks : List (List (Nat × Int)) := []
  notchSets : List (List (Nat × Nat)) := []
  clsMode : Nat := 0
  defaultStream : Nat := 0
  missStream : Nat := 0
  tsStream : Nat := 0
  seed : Nat := 0
  ways : List MatchWay := []
  streams : List (Nat × StreamCfg) := []
  sdest : List (Nat × Nat) := []
  enables : List Blk := []
deriving DecidableEq, Repr

/-- What a layout decides for one pavilion (R17, R103, R442): engines, FFT pipes, decoder cores and lay-by slots of the even
and the odd port, the start enable, the programs of its engine tiles, and FFT and symbol size of the two ports. -/
structure PavLayout where
  eng : Nat × Nat := (16, 16)
  pipes : Nat × Nat := (2, 2)
  cores : Nat × Nat := (6, 6)
  share : Nat × Nat := (8192, 8192)
  enable : Bool := false
  microcode : List Byte := []
  fftSize : Nat × Nat := (32768, 32768)
  symbolSize : Nat × Nat := (32768, 32768)
deriving DecidableEq, Repr

/-- The contents of a layout image's sections. -/
structure Layout where
  ports : List PortLayout := []
  pavs : List PavLayout := []
deriving DecidableEq, Repr

/-- An Ethernet frame on a host lane: its bytes from the destination MAC through the FCS, and the RS-FEC codewords of the lane
that were corrected and that could not be since the frame before it (R339). (DESIGN CHOICE, log 161) -/
structure EthFrame where
  bytes : List Byte
  fecCorr : Nat := 0
  fecUncorr : Nat := 0
deriving DecidableEq, Repr

/-- The frame around an HS payload as a port receives it (R162, R163): the set it came on, SEQ and CRC-32, and how many cycles
of 8 ns ago the partner first heard this port, 0 where it has not. (DESIGN CHOICE, log 156) -/
structure HsHead where
  setB : Bool
  seq : BitVec 8
  crc : Word
  since : Nat
deriving DecidableEq, Repr

/-- A handshake frame as a port receives it: the port, and the frame around the payload (R162, R163). -/
structure HsRx where
  port : Fin 8
  head : HsHead
deriving DecidableEq, Repr

/-- What became of a crossing that timed out: `which` counts those not yet resolved from the oldest, `landed`, its write took
effect before it was withdrawn (R45). -/
structure Landing where
  which : Nat
  landed : Bool
deriving DecidableEq, Repr

/-- What stands where a sync symbol is due: `found`, a sync symbol (R193), `inverted`, one with the switch flag (R139). -/
structure SyncMark where
  found : Bool
  inverted : Bool
deriving DecidableEq, Repr

/-- The verdict of the partner on its echo, and in a warm start whether its checks of T1 passed (R173, R180). -/
structure EchoJudged where
  passed : Bool
  warmOk : Bool
deriving DecidableEq, Repr

/-- A bound of training that a port exceeds; `gone`: the partner's signal ended before it (R159). (DESIGN CHOICE, log 157) -/
structure PhaseBound where
  port : Fin 8
  gone : Bool
deriving DecidableEq, Repr

/-- The partner in Clause 98 auto-negotiation: its abilities, bit 0 1000BASE-T1, bit 1 100BASE-T1 (R196), whether it advertises
EEE and requests master, and how many next pages it sent (R197). -/
structure AnPartner where
  abilities : BitVec 2
  eee : Bool
  master : Bool
  pages : Fin 4
deriving DecidableEq, Repr

/-- What a release concerns: a stream, or in a compatibility mode the frame that the standard PHY has received (R4, R22, R196).
-/
structure Releasing where
  stream : BitVec 12
  phy : List Byte
deriving DecidableEq, Repr

/-- A CAP payload (R166); `bps`, `notches` and `disabled` are its lists, empty when they are omitted. -/
structure Cap where
  listsOmitted : Bool
  svMon : Bool
  stored : Bool
  permit : Nat
  req : Nat
  rolePri : Nat
  ceMin : Nat
  draw : Nat
  uid : Nat
  port : Nat
  storeId : Nat
  bandLo : Nat
  bandHi : Nat
  cfgHash : Nat
  bps : List (Nat × Int)
  notches : List (Nat × Nat)
  disabled : List (Nat × Nat)
deriving DecidableEq, Repr

/-- One tone of a received symbol: the FFT of its window as the ADC and the gain give it, referred to the pins, in 2^−15
units of X(k) (R202, R208). -/
structure ToneIn where
  tone : Nat
  re : Int
  im : Int
deriving DecidableEq, Repr

/-- What the line shows over one received symbol (R202, R205, R206, R220): its tones; the energies of the blocks of 64 samples
since the last window and in the window, after the time-domain canceller; samples of the window at full scale; the residual
echo power at the ADC; the samples that would reach full scale at each gain from 0 to 31 dB; the received power in 0.1 dBm; the
quarter turns by which the receiver finds the points turned: 1 in a count mark, 2 in a ranging mark, else 0 (R174, R176).
(DESIGN CHOICE, log 154) -/
structure RxSymbol where
  tones : List ToneIn
  pre : List Nat
  win : List Nat
  clipped : Nat
  adc : Nat
  atGain : List Nat
  power : Int
  turn : Nat
deriving DecidableEq, Repr

/-- The measurements of a T1 window (R173, R180, R212, R219, R387). -/
structure T1Meas where
  erleB1 : Nat
  erleB2 : Nat
  residualOk : Bool
  fofs : Int
  power : Int
  impulse : Bool
  kurt : Nat
  varRatio : Nat
  statDev : Nat
  trims : List (Nat × Int × Int × Int)
  profile : List Int
deriving DecidableEq, Repr

/-- A decoded codeword: the decoder's result and, when it converged, header and frame data (R231, R237). -/
structure DecodedCw where
  converged : Bool
  info : List Byte
  iterations : Nat
  node : Nat
deriving DecidableEq, Repr

/-- A grant of a schedule (R285). -/
structure Grant where
  node : Nat
  first : Nat
  len : Nat
deriving DecidableEq, Repr

/-- A welcome of a schedule (R285). -/
structure Welcome where
  uid : Nat
  node : Nat
  result : Nat
deriving DecidableEq, Repr

/-- The schedule payload of a schedule burst (R285). -/
structure Schedule where
  cycle : Nat
  members : Nat
  commonGen : Nat
  grants : List Grant
  welcomes : List Welcome
deriving DecidableEq, Repr

/-- A milepost entry of a spur header (R284). -/
structure MpEntry where
  partner : Nat
  cls : Nat
  reflects : Nat
  cum : Nat
  nack : Nat
deriving DecidableEq, Repr

/-- A burst header (R283). -/
structure Header where
  sender : Nat
  dest : Nat
  kind : Nat
  len : Nat
  tableGen : Nat
  cycleNo : Nat
  backlog : Nat
  mileposts : List MpEntry
deriving DecidableEq, Repr

/-- A reflection peak of a TDR run (R325, R326): round trip in 0.125 ns units, ρ in 0.001 units, corrected for loss,
and the round-trip loss in 0.1 dB for each group. -/
structure Reflection where
  rtt : Nat
  rho : Int
deriving DecidableEq, Repr

/-- A fault kind of a pavilion element (EOL_KIND codes of R404). -/
inductive Elem where
  | engine | pipe | decoder | rows
deriving DecidableEq, Repr

/-- Supply rails (R422). -/
inductive Rail where
  | core | afe | drv | nvm | vddio | vbak
deriving DecidableEq, Repr

/-- The three enables whose fall mutes a line (R153). -/
inductive MuteBy where
  | txshEn | tonesEn | txAllow
deriving DecidableEq, Repr

/-- The commands, one per row of the opcode table. -/
inductive Instr where
  | chainFrameForward (side : Side) (f : Frame)
  | read (r : Req)
  | write (r : Req)
  | bwrite (side : Side) (f : Frame)
  | enum (side : Side) (f : Frame)
  | claim (r : Req)
  | prepare (side : Side) (f : Frame)
  | commit (side : Side) (f : Frame)
  | timeset (side : Side) (f : Frame)
  | reservedOpFrame (side : Side) (f : Frame)
  | crcErrorFrame (side : Side) (f : Frame)
  | voidFrame (side : Side)
  | resp (side : Side) (f : Frame)
  | event (side : Side) (f : Frame)
  | eventTransmit
  | domainCrossingDone (m : BitVec 4)
  | domainTimeout (m : BitVec 4)
  | crossingResolved (r : Landing)
  | chainLockChange (side : Side) (locked : Bool)
  | hopMeasure
  | hopRequestRx
  /-- `rtt`: the measured round trip in quarters of a nanosecond (R65). -/
  | hopReflectionRx (rtt : Nat)
  | hopReflectTimeout
  | heartbeat (w : Acc)
  | leaseExpiry
  | nominate (w : Acc)
  | accept (w : Acc)
  | nominateTimeout
  /-- `rand`: the random number drawn (R55). -/
  | nonceReq (w : Acc) (rand : BitVec 128)
  /-- 100 ms after a nonce was placed, or with `refusal` after a failed check of that master (R55). -/
  | nonceExpiry (m : BitVec 4) (refusal : Bool)
  | keyProgram (w : Acc)
  /-- `matched`: the key read back from NVM matches (R56). -/
  | keyProgramDone (matched : Bool)
  | cmdPut (ring : Fin 16) (w : Acc)
  | evtGet (ring : Fin 16) (w : Acc)
  | commandTake (m : Fin 16)
  /-- `outcome`: that of the command, or none where firmware has completed a step of it only, writes its LEDGER and goes on
  (R59). `changes`: the command would change something of the device, `results`: its result words, then LEDGER (R60, R63). -/
  | commandComplete (m : Fin 16) (pos : Fin 64) (outcome : Option (BitVec 4)) (changes : Bool) (results : List Word)
  | stagingComplete
  | modeCommitT
  /-- The rows of every block name the block and its unit: the pavilion or the port, 0 for a device block. -/
  | blkStsClear (b : Blk) (u : Fin 8) (w : Acc)
  | blkFirstClear (b : Blk) (u : Fin 8) (w : Acc)
  | blkIgnClear (b : Blk) (u : Fin 8) (w : Acc)
  | counterLowRead (addr : BitVec 24) (r : Acc)
  | tableDataRead (addr : BitVec 24) (r : Acc)
  | tableDataWrite (addr : BitVec 24) (w : Acc)
  | snapClr (b : Blk) (u : Fin 8) (w : Acc)
  | peakClr (n : Fin 4) (w : Acc)
  | tmrScrub
  | nowNsRead (r : Acc)
  | txSymCntRead (p : Fin 8) (r : Acc)
  | setTime (w : Acc)
  | stepTime (w : Acc)
  | loadData (w : Acc)
  | verify (w : Acc)
  /-- What the sections of a layout image hold, whose encoding the manual does not give; none: a section is malformed
  (R103, R112). (DEDUCED, log 51) -/
  | verifyDone (contents : Option Layout)
  | stage (w : Acc)
  | stageCopyDone
  | apply (w : Acc)
  | applyCommit
  | pavEnableDeferred (n : Fin 4)
  | fwActivate (w : Acc)
  | fwActivateDone
  /-- Written by a master, or none: by firmware itself (R121). -/
  | fwConfirm (w : Option Acc)
  | fwTrialExpiry
  | rollbackRaise (w : Acc)
  | oemProgram (w : Acc)
  | flashProg (w : Acc)
  | flashSectorDone
  | pavilionBringup (n : Fin 4)
  | pavEnable (n : Fin 4) (w : Acc)
  | pavEnableDone (n : Fin 4)
  | pavDisable (n : Fin 4) (w : Acc)
  | pavDisableDone (n : Fin 4)
  | symbolTx (p : Fin 8)
  | symbolRx (p : Fin 8) (o : RxSymbol)
  /-- `alignErr`: the mean alignment error of the superframe in 1/16 sample (R182). -/
  | superframeBoundary (p : Fin 8) (alignErr : Int)
  | syncSymbolRx (p : Fin 8) (m : SyncMark) (o : RxSymbol)
  /-- The overhead field of a received data symbol, its CRC included (R144). -/
  | overheadRx (p : Fin 8) (field : List Byte)
  | impulseHoldMax (p : Fin 8)
  /-- A write of 0 to one of the three enables of R153. -/
  | mute (p : Fin 8) (by_ : MuteBy) (w : Acc)
  | portEnable (p : Fin 8) (w : Acc)
  | portDisable (p : Fin 8) (w : Acc)
  | linkupStart (p : Fin 8)
  | hsListenTimeout (p : Fin 8)
  /-- The silence after the SEEK frames lasts (2 + gap) × 0.125 ms (R164). -/
  | seekCycle (p : Fin 8) (gap : Fin 7)
  /-- A SEEK frame with its UID and port number; `draw`: the random DRAW of an own CAP it causes (R164, R166). -/
  | seek (x : HsRx) (uid : Nat) (port : Nat) (draw : BitVec 16)
  | dmePageDetect (p : Fin 8)
  | hsTimeout (p : Fin 8)
  | cap (x : HsRx) (c : Cap) (draw : BitVec 16)
  /-- `seq`: the SEQ acknowledged (R162). -/
  | capAck (x : HsRx) (seq : BitVec 8) (fullReq : Bool) (draw : BitVec 16)
  | capRepeat (p : Fin 8)
  | hsCapTimeout (p : Fin 8)
  /-- The fourth START, as the master has sent it or the slave receives it (R170). -/
  | start (x : HsRx)
  | t1WindowEnd (p : Fin 8) (o : T1Meas)
  /-- The partner's verdict, with its ERLE in 0.1 dB (R173). -/
  | echoVerdict (p : Fin 8) (v : EchoJudged) (erle : BitVec 12)
  | slaveLock (p : Fin 8)
  | countMarkRx (p : Fin 8)
  /-- `rtt`: the round trip in samples since the port sent its own mark (R176). -/
  | rangingMark (p : Fin 8) (rtt : Nat)
  /-- TA in samples, and the symbol from which it holds (R176). -/
  | taAnnounce (p : Fin 8) (ta : Nat) (symbol : Nat)
  /-- The first and the last sample of the shortest span whose length is SPREAD (R130, R177). -/
  | probeEnd (p : Fin 8) (first last : Nat)
  /-- `storeId`: the random value that a master chooses (R179). -/
  | t3End (p : Fin 8) (storeId : Word)
  /-- A TONES message: LAST, (tone, BITS, GAIN in 0.1 dB) (R178, R190); `crcOk`: its CRC-32 passes (R175, R191). -/
  | tones (p : Fin 8) (last : Bool) (entries : List (Nat × Nat × Int)) (crcOk : Bool)
  /-- A MASK message: (tone, level) breakpoints and (start, width − 1) notches (R166, R190). -/
  | mask (p : Fin 8) (bps : List (Nat × Int)) (notches : List (Nat × Nat))
  | trainingMessageResend (p : Fin 8)
  | phaseTimeout (b : PhaseBound)
  | showtimeEntry (p : Fin 8)
  | linkFailTimeout (p : Fin 8)
  /-- `delta`: Δ in samples, two's complement, `sf`: the superframe S (R182). -/
  | taAdj (p : Fin 8) (seq : BitVec 4) (delta : BitVec 8) (sf : Word)
  | swapReq (p : Fin 8) (seq : BitVec 4) (sf : Word)
  | reconfReq (p : Fin 8) (seq : BitVec 4) (arg : BitVec 8)
  | drained (p : Fin 8) (seq : BitVec 4)
  | drainComplete (p : Fin 8)
  | rcCommit (p : Fin 8) (seq : BitVec 4) (sf : Word)
  | calPause (p : Fin 8) (seq : BitVec 4) (arg : BitVec 8) (sf : Word)
  | rcAck (p : Fin 8) (seq : BitVec 4) (op : BitVec 4)
  | rcNak (p : Fin 8) (seq : BitVec 4) (op : BitVec 4) (reason : BitVec 4)
  | reconfGo (p : Fin 8) (w : Acc)
  | reconfTimeout (p : Fin 8)
  | oamMessageRx (p : Fin 8) (mid : BitVec 4) (type : Byte) (payload : List Byte) (crcOk : Bool)
  | oamAck (p : Fin 8) (mid : BitVec 4)
  | ackTimeout (p : Fin 8)
  | send (p : Fin 8) (w : Acc)
  | rxRelease (p : Fin 8) (w : Acc)
  | retrain (p : Fin 8) (w : Acc)
  | retrainMargin (p : Fin 8)
  | retrainPilot (p : Fin 8)
  | retrainSfSync (p : Fin 8)
  | retrainCwFail (p : Fin 8)
  | fastRetrainNoSignal (p : Fin 8)
  | fastRetrainTimeout (p : Fin 8)
  /-- `tie`: the standard's rule for equal requests makes this port master (R197). -/
  | anResolved (p : Fin 8) (partner : AnPartner) (tie : Bool)
  | compatLinkFail (p : Fin 8)
  /-- A write or a read of CL45_DATA (R198). -/
  | cl45Data (p : Fin 8) (isWrite : Bool) (w : Acc)
  | storeClr (p : Fin 8) (w : Acc)
  /-- ERLE_SHOW in 0.1 dB (R214). -/
  | erleShowUpdate (p : Fin 8) (erle : BitVec 12)
  /-- The insertion loss in 0.1 dB that the port measures in a group of 64 normal tones (R326). -/
  | marginUpdate (p : Fin 8) (il : List (Nat × BitVec 12))
  /-- Blocks of 8 ns without an impulse block since the last one examined (R222, R312). -/
  | impulseEventEnd (p : Fin 8) (blocks : Nat)
  /-- A frame from HSIn. -/
  | hostFrame (p : Fin 8) (f : EthFrame)
  | fcRefresh (p : Fin 8)
  | admission (p : Fin 8) (cls : Fin 8)
  | codewordDecoded (p : Fin 8) (c : DecodedCw)
  | deadlineExpiry (p : Fin 8) (node : Fin 16) (cls : Fin 8) (milestone : BitVec 16)
  | tailResend (p : Fin 8) (node : Fin 16) (cls : Fin 8)
  | gapLimitExpiry (p : Fin 8) (node : Fin 16) (cls : Fin 8) (milestone : BitVec 16)
  | frameRelease (p : Fin 8) (r : Releasing)
  | egressFrameTx (p : Fin 8)
  | streamEnable (p : Fin 8) (stream : BitVec 12) (sen : Bool) (w : Acc)
  /-- `rx`: the word belongs to a received codeword, else to one of the transmit side (R266). -/
  | laybyEccError (p : Fin 8) (corrected : Bool) (bank : Byte) (row : Nat) (rx : Bool) (node : Fin 16) (cls : Fin 8)
      (milestone : BitVec 16)
  | cycleStart (p : Fin 8)
  /-- The SCHEDULE burst of a cycle, its cycle number and its sender (R285). -/
  | scheduleRx (p : Fin 8) (sched : Schedule) (cycleNo : Word) (sender : Fin 16)
  | scheduleMiss (p : Fin 8)
  /-- A slot that begins (R280). -/
  | grantStart (p : Fin 8) (slot : Nat)
  | grantMiss (p : Fin 8) (node : Fin 16)
  /-- `backoff`: the random draw for the next back-off (R296). -/
  | knockSend (p : Fin 8) (backoff : Nat)
  /-- A KNOCK burst: the UID, node number and port of its sender (R297). -/
  | knockRx (p : Fin 8) (uid : Nat) (node : Fin 16) (port : Fin 8)
  | energyDetect (p : Fin 8)
  /-- `frozen`: the level at which the AGC froze, as FROZEN_LVL (R288). -/
  | burstDetect (p : Fin 8) (frozen : BitVec 12)
  /-- Level and AFC as their registers show them; `preamble`: ns of preamble since the search began (R290, R291). -/
  | syncFound (p : Fin 8) (lvl : BitVec 12) (afc : BitVec 16) (preamble : Nat)
  /-- `above`: the power is at or above DET_THR when the acquisition starts again (R291). -/
  | syncSearchClose (p : Fin 8) (above : Bool)
  | energyRise (p : Fin 8) (above : Bool)
  | lateStartLoss (p : Fin 8)
  | captured (p : Fin 8) (above : Bool)
  /-- The slot in which the burst began, its header and the SNR by spur tone in 0.1 dB that its header symbols show
  (R293, R299). -/
  | headerRx (p : Fin 8) (slot : Nat) (crcOk : Bool) (h : Header) (snrBlock : Option (List (Nat × Int)))
  | burstEnd (p : Fin 8) (above : Bool)
  | spListenTimeout (p : Fin 8)
  /-- A TABLE burst: sender, destination, generation and (spur tone, BITS) (R300). -/
  | tableRx (p : Fin 8) (sender : Fin 16) (dest : BitVec 5) (gen : BitVec 8) (loads : List (Nat × Nat))
  | tableSend (p : Fin 8) (node : Fin 16)
  | tableResend (p : Fin 8) (node : Fin 16)
  /-- (group, mean power per tone in 10^−18 W) of an idle slot (R303). -/
  | idleSlotNoise (p : Fin 8) (power : List (Nat × Int))
  | watchIntervalEnd (p : Fin 8)
  | wakeBurst (p : Fin 8)
  | wakeDetect (p : Fin 8)
  | lpiMismatch (p : Fin 8)
  | deepWakeDetect (p : Fin 8)
  /-- `partnerPower`: the check before the first chirp finds a transmitting partner (R324). -/
  | tdrRun (p : Fin 8) (w : Acc) (partnerPower : Bool)
  /-- The check of the silence, and with the last one the run's peaks and (group, round-trip loss in 0.1 dB) (R324 to
  R326). -/
  | tdrSilenceEnd (p : Fin 8) (partnerPower : Bool) (peaks : List Reflection) (ilPre : List (Nat × Nat))
  /-- ρ of bins 0 to 255 in 0.001 (R327). -/
  | surveyProfile (p : Fin 8) (rho : List Int)
  | svBaseSave (p : Fin 8) (w : Acc)
  | svBaseSaveDone (p : Fin 8)
  | hostLockChange (p : Fin 8) (locked : Bool)
  /-- Opcode, class-enable vector and quanta of a MAC control frame (R343). -/
  | macControlFrame (p : Fin 8) (opcode : BitVec 16) (enable : Byte) (quanta : List (BitVec 16))
  /-- The fields of an in-band request after its EtherType (R348). -/
  | inbandRequest (p : Fin 8) (srcMac : BitVec 48) (version : Byte) (count : Byte) (records : List (List Byte))
  | inbandResponse (p : Fin 8)
  /-- A write of LB_MODE (R347). -/
  | lbMode (p : Fin 8) (w : Acc)
  | txPop (p : Fin 8) (w : Acc)
  | rxPop (p : Fin 8) (w : Acc)
  | tsHeadRead (p : Fin 8) (rx : Bool) (r : Acc)
  | tsuEnClear (p : Fin 8) (w : Acc)
  /-- `lodgeIntact`: the Lodge kept its contents (R365). -/
  | powerOnReset (lodgeIntact : Bool)
  | brownOut (rail : Rail) (lodgeIntact : Bool)
  /-- RESET_N low for a number of ns; `taken`: whether a pulse between the two limits of R356 is taken. -/
  | resetN (lowNs : Nat) (taken : Bool)
  | rstGo (w : Acc)
  | rstAssert
  /-- Firmware's write of WDT_EN, WDT_TIME and WDT_KICK (R359). -/
  | wdtKick (en : Bool) (time : BitVec 12)
  | watchdogExpiry
  | resetEpisodeEnd
  /-- `strapCount`: the converter's count of the STRAP pin (R362). -/
  | boscQualified (strapCount : BitVec 6)
  | rootQualified
  | pllLock
  /-- Whether each area reads, whether an area holds a started write, ECC corrections, the duty settings of the device
  and the flash's JEDEC identity (R126, R385, R391). -/
  | nvmReadDone (areaA : Bool) (areaB : Bool) (started : Bool) (corrected : Nat) (duty : Nat × Nat)
      (flashId : BitVec 24)
  | firmwareStart
  | rootSwitchB
  | rootEdgeLoss
  | rootMonitorBad
  | safeEntry
  | rootReturn
  | rootHoldExpiry
  | boscQualTimeout
  | linePllLockLoss
  | stateGo (w : Acc)
  | domainSwitchDone
  /-- A write of GATE of a domain (R375). -/
  | gate (d : Fin 38) (w : Acc)
  | wakeClr (w : Acc)
  /-- `boscRuns`: the ring oscillator in service gives edges (R373). -/
  | measGo (w : Acc) (boscRuns : Bool)
  | measDone (count : Word)
  | measTimeout
  | dbgReset
  | supplyFault (rail : Rail)
  | bgCalRun (p : Fin 8)
  /-- Power in 0.1 dBm, kurtosis and ratio in 0.01, deviation in 0.1 dB, and (entry, gain, offset, skew) trims (R387). -/
  | bgCalDone (p : Fin 8) (power : Int) (kurt : Nat) (impulse : Bool) (statDev : Nat) (varRatio : Nat)
      (trims : List (Nat × Int × Int × Int))
  | hybRecal (p : Fin 8) (w : Acc)
  /-- The gain in 0.1 dB, the hybrid settings found, and (tone, re, im) coefficients (R389). -/
  | hybRecalDone (p : Fin 8) (gain10 : Int) (hybR : Nat) (hybC : Nat) (coefs : List (Nat × Int × Int))
  | save (w : Acc)
  | saveDone (sectorFailed : Bool)
  /-- DRIFT and TJ as their registers show them (R399). -/
  | wearMeasure (n : Fin 4) (drift : BitVec 8) (tj : BitVec 8)
  /-- The kind of element and the port code of DETAIL (R397, R411). -/
  | autoSubstitution (n : Fin 4) (e : Elem) (detail : Fin 3)
  | substitutionDone (n : Fin 4)
  | faultDetect (b : Blk) (u : Fin 8) (src : Byte) (detail : Byte)
  | fatalFault (b : Blk) (src : Byte) (detail : Byte)
  | injArm (w : Acc)
  | armTimeExpiry
  | fire (b : Blk) (u : Fin 8) (w : Acc)
  | injectionWindowEnd (b : Blk) (u : Fin 8)
  | compatLinkUp (p : Fin 8)
  | pauseQuantaExpiry (p : Fin 8) (cls : Fin 8)
  | reArm (p : Fin 8)
  /-- The kind and the index of the unassigned element tested (R21, R396). -/
  | selftestKernelDone (n : Fin 4) (e : Elem) (index : Nat) (passed : Bool)
  /-- A TCK edge with TMS and TDI, or TRST_N low (R382). -/
  | tapTckEdge (tms : Bool) (tdi : Bool) (trst : Bool)
  | rootSwitchA
deriving DecidableEq, Repr

end Sys2Proof
end

