-- ==== Sys2Proof/Config.lean ====
section
/-! DEFINITION. What an implementation fixes and what the spec leaves open: constants with no body, so that no
claim can rest on their values. -/

namespace Sys2Proof.Config

/-- GRADE of DEV_ID, fused (R99): 1 PX8240-A2, 2 PX8240-I1. (DESIGN CHOICE, log 9) -/
opaque grade : Nat

/-- The unique device number, bits [31:0], fused (R99). (DESIGN CHOICE, log 9) -/
opaque uidLo : Nat

/-- The unique device number, bits [63:32], fused (R99). -/
opaque uidHi : Nat

/-- FWD_LAT, the device's own forwarding latency in 0.125 ns units (R33, R73), for which R73 gives no value.
(DESIGN CHOICE, log 14) -/
opaque fwdLat : Nat

/-- The vendor's public key in mask ROM, as its coordinates x and y (R106). (DESIGN CHOICE, log 150) -/
opaque vendorKey : Nat × Nat

/-- A value the spec does not state, the `n`-th of a run (State.fresh counts them). (DESIGN CHOICE, log 12) -/
opaque freeValue : Nat → Nat

/-- The rounding of an adaptive coefficient to its stored format, `n`-th of a run: the spec states the
adaptation of R208, R216 and R217 over real numbers and the format of the window, not the rounding.
(DESIGN CHOICE, log 13) -/
opaque freeRound : Nat → Rat → Int

/-- The cancellation values of a symbol (R149): the spec states their purpose and bound, not their values.
Arguments: the tone and the symbol's other loaded tones as (tone, I, Q). (DESIGN CHOICE, log 16) -/
opaque cancelValue : Nat → List (Nat × Int × Int) → Int × Int

/-- The mean power of a cancellation tone relative to L(k), in units of 2^−20 (R147, R149), by tone. (DESIGN CHOICE, log 16) -/
opaque cancelPower : Nat → Nat

/-- Fine gains the receiver chooses for a loading (R152: the choice is its own), per tone. (DESIGN CHOICE, log 15) -/
opaque gainChoice : Nat → Nat → Int

/-- The code of a power in 0.1 dBm: the rounding of the logarithm is left open (R303, R304). The argument is in
10^−18 W. (DESIGN CHOICE, log 17) -/
opaque levelOf : Rat → Int

/-- The lowering of the mask, in its 0.1 dB units, by 20 log10(active ÷ 8) dB with `active` driver segments (R398):
the rounding is left open. (DESIGN CHOICE, log 17) -/
opaque driverDrop : Nat → Int

/-- (cos 2πq, sin 2πq): the spec states its rotations over real numbers and not their rounding (R218).
(DESIGN CHOICE, log 13) -/
opaque turn : Rat → Rat × Rat

/-- √q. (DESIGN CHOICE, log 13) -/
opaque root : Rat → Rat

/-- 10^(x/200) for a level of `x` in 0.1 dB: an amplitude. (DESIGN CHOICE, log 13) -/
opaque amplitude : Int → Rat

/-- 10 log10 q in 0.1 dB: the rounding is left open (R223). (DESIGN CHOICE, log 17) -/
opaque decibel : Rat → Int

/-- The common phase in turns and its slope in turns per tone that a receiver estimates from its pilots, each given as tone,
equalised value and known point: the spec asks for the estimate and not for its method (R217). (DESIGN CHOICE, log 154) -/
opaque pilotFit : List (Nat × (Rat × Rat) × (Rat × Rat)) → Rat × Rat

/-- The slave's timing loop: FOFS in 0.01 ppm and the advance of φ over a symbol in 1/256 sample, from the present FOFS and
the pilots' slope; the loop's filter is not stated (R218). (DESIGN CHOICE, log 154) -/
opaque timingLoop : Int → Rat → Int × Int

/-- One step of the training of F(k) on a known point, from F(k), Y′(k) and the point; its method is not stated (R216).
(DESIGN CHOICE, log 154) -/
opaque feqTrain : Rat × Rat → Rat × Rat → Rat × Rat → Rat × Rat

/-- How many symbols ahead of a message the symbol that it names lies, beyond the least the spec asks for (R176, R177,
R179). (DESIGN CHOICE, log 155) -/
opaque nameAhead : Nat

/-- The Clause 45 registers that IEEE 802.3 defines for the window of R198, by MMD and register number: which of them
exist is in that standard, not in the spec. (DESIGN CHOICE, log 18) -/
opaque cl45Has : Nat → Nat → Bool

/-- The number of cells of the boundary register, which the spec does not give (R382). (DESIGN CHOICE, log 166) -/
opaque boundaryLen : Nat

/-- What a cell of the boundary register captures from its pin, `n`-th of a run (R382). (DESIGN CHOICE, log 166) -/
opaque boundaryCell : Nat → Nat → Bool

/-- What a Clause 45 register reads, by MMD, register and the value last written (R198). (DESIGN CHOICE, log 18) -/
opaque cl45Value : Nat → Nat → Nat → Nat

end Sys2Proof.Config
end

