-- ==== Sys2Proof/Machine/State.lean ====
section
/-! DEFINITION. The machine's state as plain data, the reasons a step can stop, and the state after reset. -/

namespace Sys2Proof.Machine

/-- How a register field is written (R8, R78, R82, R94, R97): `win` is a word of a table window and `idx` an index
register, both kept for each master. -/
inductive FTy where
  | rw | lrw | ro | st | cmd | wo1 | snap | win | idx
deriving DecidableEq, Repr

/-- Where a field's reset value comes from (the Reset columns). -/
inductive Rst where
  | num (n : Nat)
  | layout
  | nvm (n : Nat)
  | strap
  | fused
deriving DecidableEq, Repr

/-- A register field: block, offset of its word, lowest bit, width, type, reset value, triplicated or not. -/
structure Fld where
  blk : Blk
  off : Nat
  lo : Nat
  width : Nat
  ty : FTy
  rst : Rst
  tmr : Bool
deriving DecidableEq, Repr

/-- Byte memory in canonical form: addresses strictly rising, no zero entry. -/
abbrev Memory := List Host.Cell

/-- A finite map from numbers, keys strictly rising. -/
abbrev NMap (α : Type) := List (Nat × α)

/-- Reset levels (R354), with the codes of WIDEST. -/
inductive Level where
  | core | system | powerOn
deriving DecidableEq, Repr

/-- What a command takes from outside beside the write: a fresh random nonce (R55), whether the partner still transmits at
the first chirp of a reflectometry run (R324). (DESIGN CHOICE, log 24) -/
structure Ext where
  rand : Nat
  power : Bool
deriving DecidableEq, Repr

/-- What an access does beyond its address and data: nothing, a command row with what it takes from outside, or a write of
SEN of one stream entry (R239). -/
inductive Act where
  | plain
  | ext (x : Ext)
  | sen (stream : Nat) (on : Bool)
deriving DecidableEq, Repr

/-- An access accepted and not yet answered (R44, R45): `crossing`, it has started and is on its way into its domain. -/
structure Access where
  req : Req
  op : Nat
  crossing : Bool
  act : Act := .plain
deriving DecidableEq, Repr

/-- A queued EVENT (R64). -/
structure EventEntry where
  mtag : Nat
  addr : Nat
  data : Nat
deriving DecidableEq, Repr

/-- A point on a tone: (i, q) ÷ √E with 3E in `e3` (R140), at the PSD P(k) in 0.1 dBm/Hz (R146). -/
structure TonePt where
  tone : Nat
  i : Int
  q : Int
  e3 : Nat
  psd : Int
deriving DecidableEq, Repr

/-- A symbol as a port launches it: its prefix in samples (R129, R181), the slave's timing phase φ in 1/256 sample, by which
every tone is rotated by 2πkφ ÷ N (R218), the samples by which a slave launches it ahead of the master's boundary as it
receives it (R176), and its points. -/
structure LineSymbol where
  kind : Nat := 0
  pfx : Int := 0
  phi : Int := 0
  lead : Nat := 0
  tones : List TonePt := []
deriving DecidableEq, Repr

/-- What the tone flags of a link follow from: symbol size, band, notches of both ends, disabled tones of both ends
(R128, R149, R155, R169). -/
structure TonePlan where
  short : Bool
  lo : Nat
  hi : Nat
  notches : List (Nat × Nat)
  disabled : List (Nat × Nat)
deriving DecidableEq, Repr

/-- What a transmit direction follows from: its tone plan, its own mask, the one its partner announced, and the PSD
preference (R146). -/
structure TxPlan where
  plan : TonePlan
  mine : List (Nat × Int)
  his : List (Nat × Int)
  pref : Nat
deriving DecidableEq, Repr

/-- What leaves the pins, one entry for each frame, symbol or level the model sends. A handshake frame holds its bytes, the
level of each beacon tone, and for each beacon symbol its bits in ascending order of the tones, none for the reference symbol
(R160, R162). A chirp rises from tone `lo` to tone `hi` at the PSD of its mask (R324). The list `sent` of State is the
model's own record, newest first. -/
inductive Emission where
  | chain (side : Side) (f : Frame)
  | void (side : Side)
  | hopSet (side : Side) (request : Bool)
  | symbol (port : Nat) (sym : LineSymbol)
  | handshake (port : Nat) (setB : Bool) (frame : List Byte) (level : List (Nat × Int)) (bits : List (List Bool))
  | burst (port : Nat) (kind : Nat) (header : List Byte) (payload : List Byte)
  | wake (port : Nat) (tones : List TonePt)
  | chirp (port lo hi : Nat) (mask : List (Nat × Int))
  | host (lane : Nat) (kind : Nat) (bytes : List Byte)
  | t1 (port : Nat) (bytes : List Byte)
  | anPage (port : Nat) (abilities : Nat) (eee master null : Bool)
  | flash (addr : Nat) (sector : Nat)
deriving DecidableEq, Repr

/-- One entry of a tone table (R137, R156). -/
structure ToneEntry where
  bits : Nat := 0
  gain : Int := 0
  pilot : Bool := false
  notched : Bool := false
  disabled : Bool := false
  cancel : Bool := false
  oh : Bool := false
deriving DecidableEq, Repr

/-- State of a transmit codeword (R247). -/
inductive CwSt where
  | queued | sent | resend
deriving DecidableEq, Repr

/-- A transmit codeword in its slot (R243, R247): `frames` names the frames with bytes in it. -/
structure TxCw where
  node : Nat
  cls : Nat
  ms : Nat
  stream : Nat
  st : CwSt
  opened : Bool
  sends : Nat
  data : List Byte
  firstDelim : Nat
  frames : List Nat
  firstSym : Nat
  lastSym : Nat
  cycle : Nat
deriving DecidableEq, Repr

/-- A frame of the transmit accounting of R256, R261, R262: `parts` counts its codewords not yet settled, `whole`
says that its last byte is admitted. `kind` and `key` are those of its time stamp (R346), `stamp` that it still waits
for one. -/
structure TxFrame where
  ident : Nat
  stream : Nat
  whole : Bool
  parts : Nat
  lost : Bool
  lastMs : Nat
  kind : Nat
  key : Nat
  stamp : Bool
deriving DecidableEq, Repr

/-- A frame waiting in an ingress queue: while not started, its bytes; once its first byte is admitted, the rest of
its words of R233 still to map, and how many pad bytes they end in; and its number. -/
structure QFrame where
  stream : Nat
  bytes : List Byte
  started : Bool
  ident : Nat
  pad : Nat := 0
deriving DecidableEq, Repr

/-- A notice entry (R254): `sentSym` is the symbol it was last sent in. -/
structure Notice where
  node : Nat
  cls : Nat
  stream : Nat
  ms : Nat
  sentSym : Option Nat
deriving DecidableEq, Repr

/-- A received codeword in its slot (R257): `headDone`, the bytes before its first delimiter are released or
discarded; `pos`, the byte at which the next frame that begins in it starts; `out`, the frames with bytes in it that
were released; `at_`, device time of its arrival in ⅛ ns. -/
structure RxCw where
  node : Nat
  cls : Nat
  ms : Nat
  stream : Nat
  firstDelim : Nat
  data : List Byte
  headDone : Bool
  pos : Nat
  out : Nat
  at_ : Nat
deriving DecidableEq, Repr

/-- A resolved milestone at the receiver, with its stream when known (R248, R255). (DEDUCED, log 84; DEDUCED, log 129) -/
structure RxGiven where
  node : Nat
  cls : Nat
  ms : Nat
  stream : Option Nat
deriving DecidableEq, Repr

/-- Milestone counters of one partner node and class (R246, R248, R302). In trunk mode the node is 0. -/
structure Pms where
  txNext : Nat := 0
  txAck : Nat := 0
  rxA : Nat := 0
  rxHigh : Nat := 0
  rxAny : Bool := false
  tailRun : Nat := 0
deriving DecidableEq, Repr

/-- A stream entry: configuration, STATE, LD_TX, LD_RX and counters (R270). -/
structure StreamEnt where
  cfg : StreamCfg := {}
  st : Nat := 0
  ldTx : Option Nat := none
  ldRx : Option Nat := none
  frAdm : Nat := 0
  frDeliv : Nat := 0
  frExpTx : Nat := 0
  frExpRx : Nat := 0
  frTail : Nat := 0
deriving DecidableEq, Repr

/-- A codeword in the decoder queue (R236): device time of the symbol with its last bit in ⅛ ns, its sender, and
whether it came in a broadcast burst, and in which cycle (R284, R302). -/
structure DqCw where
  at_ : Nat
  node : Nat
  bcast : Bool := false
  cycle : Nat := 0
deriving DecidableEq, Repr

/-- Handshake and training of a port (chapter 6): `seekGap`, the cycles in which the present gap of HS_SEEK begins and ends;
`reject`, a failed check of a warm start; `spread` and `hisSpread`, the SPREAD measured here and the partner's; `taFrom` and
`taOn`, the symbol named for the transmit advance and whether it has come; `ceFrom`, the CE announced with its symbol;
`showAt`, the boundary named; `marks`, ranging marks sent; `replyAt`, the symbols in which marks are due; `markDue`, the next
symbol is the count mark; `txBegun`, TONES of this training have come. -/
structure Link where
  capSeq : Nat := 0
  seekGap : Option (Nat × Nat) := none
  draw : Nat := 0
  capSent : Bool := false
  capAcked : Bool := false
  capFull : Bool := false
  partner : Option Cap := none
  initiator : Bool := false
  warm : Bool := false
  window : Nat := 0
  ownPass : Option Bool := none
  partnerPass : Option Bool := none
  reject : Bool := false
  slaveLocked : Bool := false
  markFound : Bool := false
  rtts : List Nat := []
  rangeTry : Nat := 0
  taSet : Bool := false
  taFrom : Option Nat := none
  taOn : Bool := false
  spread : Option Nat := none
  hisSpread : Option Nat := none
  ceFrom : Option (Nat × Nat) := none
  showAt : Option Nat := none
  marks : Nat := 0
  replyAt : List Nat := []
  markDue : Bool := false
  txBegun : Bool := false
  tablesIn : Bool := false
  tablesOut : Bool := false
  storeId : Nat := 0
  startCycle : Nat := 0
  waitSub : Bool := false
  heard : Bool := false
deriving DecidableEq, Repr

/-- A stored channel profile (R179). -/
structure Stored where
  ta : Nat
  ce : Nat
  short : Nat
  profile : Nat
  role : Nat
  txTab : NMap ToneEntry
  rxTab : NMap ToneEntry
  ecf : NMap (Int × Int)
  ect : NMap Int
  feq : NMap (Int × Int)
  teq : NMap Int
  hybR : Nat
  hybC : Nat
  gain : Nat
  cfgHash : Nat
  partnerUid : Nat
  partnerPort : Nat
  survey : List Int
  storeId : Nat
deriving DecidableEq, Repr

/-- A reconfiguration request under way in an overhead field (R183). -/
structure RcReq where
  op : Nat
  seq : Nat
  arg : Nat
  sf : Nat
deriving DecidableEq, Repr

/-- The reconfiguration handshake of a port (R183 to R189, R389): `todo`, operations with their argument that wait for the
answer to the present request. -/
structure Rc where
  seq : Nat := 0
  todo : List (Nat × Nat) := []
  req : Option RcReq := none
  resp : Option (RcReq × Nat) := none
  running : Bool := false
  initiator : Bool := false
  accepted : Bool := false
  profile : Nat := 0
  psd : Nat := 0
  notch : Nat := 0
  maskWait : Bool := false
  maskIn : Option (List (Nat × Int) × List (Nat × Nat)) := none
  tablesIn : Bool := false
  tablesOut : Bool := false
  drainedSent : Bool := false
  drainedRx : Bool := false
  admHeld : Bool := false
  delivered : Bool := false
  swapWait : Bool := false
  abortReq : Bool := false
  pauseSf : Option Nat := none
  pauseOwn : Bool := false
  taAdj : Option (Nat × Int) := none
  heard : Option (Nat × Nat) := none
deriving DecidableEq, Repr

/-- An OAM message being sent (R190, R191): `segs` counts the segments sent of it, in training its bytes (R175). -/
structure OamMsg where
  mid : Nat
  type : Nat
  payload : List Byte
  sends : Nat
  segs : Nat
deriving DecidableEq, Repr

/-- The OAM channel of a port (R190, R191, R201): `stale`, a message that a retrain discarded and that is reported when its
ack timeout expires (R192). -/
structure Oam where
  nextMid : Nat := 1
  cur : Option OamMsg := none
  stale : Option OamMsg := none
  queue : List (Nat × List Byte) := []
  acks : List Nat := []
  lastRx : Option Nat := none
  txBuf : NMap Nat := []
  rxBuf : List Byte := []
  asm : Option (Nat × List Byte) := none
deriving DecidableEq, Repr

/-- The line signal state of a port: `latch`, the AFE, ECHO and EQ fields read at the last start of T1 (R226); `txFirst`, the
next transmitted symbol takes the transmit symbol counter as it is (R132); symbol positions, bits carried over, marks,
coefficients. `lastTx` and `prevTx`, the last two symbols transmitted; `rxGen`, the generator of the partner's training
symbols; `winSym`, symbols received in the present window of T1 or in T3; `hyb`, residual echo power of the present trial of
the hybrid search, `hybBest` the lowest so far, `gainHits` full-scale samples at each gain (R205, R206); `blocks`, energies
of the last blocks that were no impulse blocks, `pilotErrs`, pilot error powers of the last unmarked symbols (R220);
`impRun`, clean blocks since the last impulse block, `impLen`, blocks of the open event (R222); `noise` and `noiseN`, the
sums and the number of symbols of the block being measured, `margins` those of the last completed one (R223, R224);
`pilotBad`, symbols in a row with too few good pilots (R193); `oldTx`, what the sync symbol of a switching superframe still
follows (R131); `disabled`, the runs of tones that software had disabled when the link-up began (R155); `noticeHeld`, notice
entries with their node that wait for a codeword decoded in the same cycle (R263). -/
structure Signal where
  latch : NMap Nat := []
  txFirst : Bool := true
  txPos : Nat := 0
  rxPos : Nat := 0
  rxSym : Nat := 0
  carry : List Bool := []
  cwBits : Nat := 0
  marks : List (Nat × Bool) := []
  scr : Nat := 0
  rxBits : Nat := 0
  rxErased : Nat := 0
  rxFirst : Bool := true
  invert : Bool := false
  gen : Nat := 2047
  dq : List DqCw := []
  doneCw : Nat := 0
  failCw : Nat := 0
  itSum : Nat := 0
  itCw : Nat := 0
  failRun : Nat := 0
  phi : Int := 0
  slipDue : Int := 0
  inImpulse : Bool := false
  ohLost : Bool := false
  cleanRun : Nat := 0
  holdBar : Bool := false
  retrainReq : Nat := 0
  sfMiss : Nat := 0
  paused : Bool := false
  extraPrefix : Int := 0
  gradeRx : Nat := 0
  tables : NMap (NMap ToneEntry) := []
  ecf : NMap (Int × Int) := []
  ect : NMap Int := []
  feq : NMap (Int × Int) := []
  teq : NMap Int := []
  snr : NMap Int := []
  lastTx : LineSymbol := {}
  prevTx : LineSymbol := {}
  rxGen : Nat := 2047
  winSym : Nat := 0
  hyb : Nat := 0
  hybBest : Option Nat := none
  gainHits : List Nat := []
  blocks : List Nat := []
  pilotErrs : List Rat := []
  impRun : Nat := 0
  impLen : Nat := 0
  noise : NMap Rat := []
  noiseN : Nat := 0
  margins : NMap Int := []
  pilotBad : Nat := 0
  oldTx : Option TxPlan := none
  disabled : List (Nat × Nat) := []
  noticeHeld : List (Nat × Nat) := []
deriving DecidableEq, Repr

/-- Low-power idle, watch, diagnostics and survey of a port (chapter 10); `profAt`, the cycle in which a profile was judged
before the baseline that completes in the same cycle (R335). -/
structure Watch where
  idleRun : Nat := 0
  lpiAllTx : Bool := false
  lpiAllRx : Bool := false
  lpiBad : Nat := 0
  lpiAt : Option Nat := none
  wakePend : Bool := false
  running : Bool := false
  cw : Nat := 0
  fail : Nat := 0
  sent : Nat := 0
  resends : Nat := 0
  expTx : Nat := 0
  expRx : Nat := 0
  marginMin : Option Int := none
  long : Bool := false
  trend : List (Nat × Int) := []
  predHold : Option Nat := none
  sweeps : Nat := 0
  tdrVf : Nat := 0
  tdr : List (Nat × Nat × Int × Nat) := []
  tdrAbort : Bool := false
  ilPre : NMap Nat := []
  ilShow : NMap Nat := []
  prof : Option (List Int) := none
  below : Nat := 0
  eventOpen : Bool := false
  acc : List (List Int) := []
  baseAbort : Bool := false
  profAt : Option Nat := none
  erleLow : Bool := false
deriving DecidableEq, Repr

/-- A spur bit-loading table (R299). -/
structure SpTable where
  gen : Nat
  loads : NMap Nat
deriving DecidableEq, Repr

/-- What a spur port knows of one node (R279, R299, R309); `knockAt`, the cycle of its last knock and the grants it had missed
before (R305). (DEDUCED, log 102) -/
structure NodeSt where
  uid : Nat := 0
  syncLvl : Nat := 0
  margin : Int := 0
  backlog : Nat := 0
  idleCycles : Nat := 0
  misses : Nat := 0
  txTab : Option SpTable := none
  rxTab : Option SpTable := none
  newTab : Option SpTable := none
  newTabCycle : Nat := 0
  dirty : Bool := false
  knockAt : Option (Nat × Nat) := none
deriving DecidableEq, Repr

/-- The acquisition of a spur receiver (R288 to R294): 0 armed, 1 energy seen, 2 detected with the sync search
open, 3 sync found, 4 waiting for quiet before re-arming. -/
structure Acq where
  st : Nat := 0
  late : Bool := false
  hdr : Option Header := none
  frozen : Nat := 0
deriving DecidableEq, Repr

/-- Spur mode of a port (chapter 9): the acquisition, the present cycle, joining (`answer`: a knock waits for the next
schedule, `backoff` is its drawn wait), what is known of the nodes, the common table and the tables it is formed from,
noise of each tone group in 10^−18 W with the cycle of its last update, the milepost entries last sent, oldest
first, and the roundabout cycle in which the common table was last sent (R301). -/
structure Spur where
  acq : Acq := {}
  cycleNo : Nat := 0
  grants : List Grant := []
  haveSched : Bool := false
  schedRun : Nat := 0
  missRun : Nat := 0
  knocks : Nat := 0
  backoff : Nat := 0
  welcomes : List Welcome := []
  nodes : NMap NodeSt := []
  common : Option SpTable := none
  commonSent : Bool := true
  commonCycle : Option Nat := none
  rrNext : Nat := 0
  noise : NMap (Int × Nat) := []
  mpLast : List (Nat × List Byte) := []
  answer : Bool := false
  heardTabs : NMap SpTable := []
deriving DecidableEq, Repr

/-- An in-band request (R348, R349): its source address, COUNT, the records still to execute as (OP, TAG, ADDR, DATA),
and the response records so far. -/
structure IbReq where
  src : Nat
  count : Nat
  todo : List (Nat × Nat × Nat × Nat)
  done : List (List Byte)
deriving DecidableEq, Repr

/-- The host lane of a port (chapter 11): lock of its PCS, class egress queues of (stream, frame) and the fixed egress
queue, in-band requests, the source address of the latest one, time-stamp FIFOs. -/
structure Lane where
  lock : Bool := false
  egress : List (List (Nat × List Byte)) := [[], [], [], [], [], [], [], []]
  egFixed : List (List Byte) := []
  ib : List IbReq := []
  ibSrc : Nat := 0
  tsTx : List (List Nat) := []
  tsRx : List (List Nat) := []
deriving DecidableEq, Repr

/-- Calibration of a port (chapter 13): trims by logical position, runs under way, consecutive failures; `held`, a
contained fault of CAL holds the port DISABLED until EN is written 1; `bgPaused`, the present background run met a paused
superframe, `trimsWere`, the trims before the last step with the cycle of it (R401). -/
structure Cal where
  trims : NMap Nat := []
  bgRun : Bool := false
  bgFails : NMap Nat := []
  hybWait : Bool := false
  hybAbort : Bool := false
  hybAt : Option Nat := none
  held : Bool := false
  bgPaused : Bool := false
  trimsWere : Option (Nat × NMap Nat) := none
deriving DecidableEq, Repr

/-- A port: `rxGiven` and `rxDone` hold resolved milestones that no slot holds, given up or released; `rxHist` the frames
released from each freed codeword (R255); `rxCut`, for each node and stream whose latest lost frame has not ended, the
milestone that last held bytes of it and how many may still come (R256); `bcast` holds the bytes of a broadcast frame under
assembly, by sender and stream (R302). Beside these its part of the layout, its link, line signal, coding and lay-by,
streams, watch, spur mode, host lane, calibration and Clause 45 registers. -/
structure Port where
  layout : PortLayout := {}
  link : Link := {}
  stored : Option Stored := none
  rc : Rc := {}
  oam : Oam := {}
  sig : Signal := {}
  cws : List TxCw := []
  txFrames : List TxFrame := []
  inq : List (List QFrame) := [[], [], [], [], [], [], [], []]
  fixedQ : List QFrame := []
  notices : List Notice := []
  rxCws : List RxCw := []
  rxGiven : List RxGiven := []
  rxDone : List RxGiven := []
  rxHist : NMap Nat := []
  rxCut : NMap (Nat × Nat) := []
  bcast : NMap (List Byte) := []
  nextFrame : Nat := 0
  pms : NMap Pms := []
  streams : NMap StreamEnt := []
  watch : Watch := {}
  spur : Spur := {}
  lane : Lane := {}
  cal : Cal := {}
  cl45 : NMap Nat := []
  rateValid : Bool := false
  wasShow : Bool := false
deriving DecidableEq, Repr

/-- A pavilion: active and staged structure, operations under way (R30, R113 to R115), the cycle in which its EN last fell
(R28), the elements whose last self-test kernel failed, and the corrections of the last hour as (bank, row, cycle) (R396). -/
structure Pav where
  active : Option (Nat × Nat × Layout) := none
  staged : Option (Nat × Nat × Layout) := none
  tiles : Bool := false
  deferred : Bool := false
  disabling : Bool := false
  subRun : Bool := false
  enCycle : Nat := 0
  offCycle : Option Nat := none
  fails : List (Elem × Nat) := []
  rowHits : List (Nat × Nat × Nat) := []
deriving DecidableEq, Repr

/-- An image the flash holds whole (R111): its bytes, and what its sections hold where it is a layout. -/
structure FlashImage where
  bytes : Memory
  contents : Option Layout
deriving DecidableEq, Repr

/-- The image buffer, loader and firmware (chapter 4). `stored` lists the word offsets written since the area was
last EMPTY, `contents` what VERIFY found in the layout area, `applyMask` the pavilions of a running APPLY, `reverted` that a
trial failed whose reload is under way (R121). (DESIGN CHOICE, log 11) -/
structure Loader where
  mem : List Memory := [[], []]
  stored : List (List Nat) := [[], []]
  contents : Option Layout := none
  stageLeft : List Nat := []
  stageAbort : Bool := false
  applyLeft : List Nat := []
  applyMask : List Nat := []
  flashSector : Nat := 0
  flashDest : Nat := 0
  flashAbort : Bool := false
  flash : NMap FlashImage := []
  fwRunning : Bool := false
  fwFailed : List Nat := []
  reverted : Bool := false
  actPending : Bool := false
  verArea : Nat := 0
  rejSeen : List Nat := []
  trialLeft : Nat := 0
deriving DecidableEq, Repr

/-- A pavilion element marked for substitution (R396): its pavilion and kind, the port that held it (0 even, 1 odd, 2
unassigned) or, for a repair row, its bank, its number among those of its kind where a self-test or a row names it, and
whether a contained fault marked it (R401). -/
structure Mark where
  pav : Nat
  elem : Elem
  detail : Nat
  index : Option Nat
  faulty : Bool
deriving DecidableEq, Repr

/-- A calibration set in an NVM area (R391): generation, source, trims of each port, clock duty of the device.
(DESIGN CHOICE, log 7) -/
structure CalSet where
  gen : Nat
  src : Nat
  ports : List (NMap Nat)
  duty : Nat × Nat
  readable : Bool
deriving DecidableEq, Repr

/-- NVM contents that no register field holds (R56, R106, R391, R396, R398, R330): the device key, the hash of the OEM key,
the two calibration areas and which holds the current set, the set a SAVE is writing and whether a reset cut one short,
survey baselines, marks and elements out of service of the pavilions and of the ports (by port and trim entry), repair rows
left by pavilion and bank. (DESIGN CHOICE, log 7) -/
structure Nvm where
  key : List Nat := []
  oemHash : List Nat := []
  areaA : Option CalSet := some ⟨1, 0, [], (0, 0), true⟩
  areaB : Option CalSet := none
  current : Nat := 0
  saving : Option CalSet := none
  started : Bool := false
  bases : NMap (List Int) := []
  marks : List Mark := []
  oos : List Mark := []
  portMarks : List (Nat × Nat) := []
  portOos : List (Nat × Nat) := []
  rowsLeft : NMap Nat := []
deriving DecidableEq, Repr

/-- Reset, start-up and clock state (chapter 12). `boot` is the last completed step of R360, `timesetAt` the cycle in which a
TIMESET last set device time (R100); `stateAt` that in which a chain COMMIT last entered a power state and `goAt` that of the
last STATE_GO, `wakeWas` the detectors that fired outside DEEP and `rstWas` a chain reset command that a system reset
overtook, each with its cycle (R377). `boscRuns` says whether the BOSC instance in service gave edges when last noted (R373).
`tap` is the state of the TAP, `tapShift` its instruction shift register, `tapDr` the data register between TDI and TDO, bit
nearest TDO first, `boundary` the updated boundary register (R382). -/
structure Clk where
  boot : Nat := 1
  asserted : List Nat := []
  episode : Bool := false
  widest : Nat := 3
  rootPresent : Bool := false
  timeRun : Bool := false
  timesetAt : Option Nat := none
  holdRun : Bool := false
  holdLeft : Nat := 0
  boscStarting : Bool := true
  rstPend : Option Nat := none
  switching : Bool := false
  measRun : Bool := false
  duty : Nat × Nat := (0, 0)
  fatalCore : Bool := false
  muted : Bool := false
  forced : Bool := false
  tap : Nat := 0
  tapShift : Nat := 1
  tapDr : List Bool := []
  boundary : List Bool := []
  stateAt : Option Nat := none
  goAt : Option Nat := none
  wakeWas : Option (Nat × Nat) := none
  rstWas : Option (Nat × Nat) := none
  boscSel : Nat := 0
  boscSwap : Bool := false
  boscRuns : Bool := true
deriving DecidableEq, Repr

/-- A mode-change staging (R68 to R71): its snapshots of PORT_STAGE as (port, profile, mask, notch set), T as (seconds
[7:0], nanoseconds) when armed; `dead` when a core reset discarded the staging under an arming (R69, R71). -/
structure Staging where
  gen : Nat
  stateTgt : Nat
  mask : Nat
  snaps : List (Nat × Nat × Nat × Nat)
  complete : Bool
  armed : Option (Nat × Nat)
  dead : Bool := false
deriving DecidableEq, Repr

/-- The whole machine. `pending` is the queue of commands, first in, first out. `fields` holds every register field that
differs from its reset value; `slotMark` is the length `sent` had when the chain outputs last began a frame time of 96 ns
(R36); `abortAt` the cycle in which an abort of a running command was last requested, by its field (R90); `latchAt` and
`faultAt`, by block base, the cycles in which BLK_FIRST was last written by a fault and in which a real fault last arose
(R412, R417); `tmr` the three copies of a triplicated field whose copies differ (R88); a pavilion or port that `pavs` or
`ports` does not list is as after reset. -/
structure State where
  pending : List Instr := []
  fields : NMap Nat := []
  tmr : NMap (Nat × Nat × Nat) := []
  banked : NMap Nat := []
  snaps : NMap (Nat × Nat) := []
  caps : NMap Nat := []
  wcap : NMap (Nat × List Nat) := []
  wbuf : NMap Nat := []
  post : Memory := []
  access : List Access := []
  timedOut : List Access := []
  events : List EventEntry := []
  irqOut : List Nat := []
  sent : List Emission := []
  acting : Bool := false
  forwarding : Bool := false
  hopWait : Bool := false
  slotMark : Nat := 0
  abortAt : NMap Nat := []
  latchAt : NMap Nat := []
  faultAt : NMap Nat := []
  cycles : Nat := 0
  secs : Nat := 0
  nanos : Nat := 0
  frac : Nat := 0
  leaseLeft : Nat := 0
  nominee : Option Nat := none
  nonces : List Nat := []
  refused : List Nat := []
  armLeft : Nat := 0
  injOpen : List (Nat × Nat × Nat × Nat × Bool) := []
  staging : Option Staging := none
  interrupted : List (Nat × Nat) := []
  loader : Loader := {}
  nvm : Nvm := {}
  clk : Clk := {}
  causes : List (Nat × Nat) := []
  log : NMap (List Nat) := []
  pavs : NMap Pav := []
  ports : NMap Port := []
  fresh : Nat := 0
deriving DecidableEq, Repr

/-- The reasons a step stops with a fault. Every fault the spec describes (chapter 14) is an effect on State.
(DESIGN CHOICE, log 124) -/
inductive Fault where
  /-- Raised by no command; safe. -/
  | unused
deriving DecidableEq, Repr

/-- The reasons a step is refused. (DESIGN CHOICE, log 124) -/
inductive Refusal where
  /-- Raised by a dispatch arm whose command has no meaning yet; safe. -/
  | notModelled (mnemonic : String)
deriving DecidableEq, Repr

/-- The machine at the release of the first power-on reset, step 1 of R360: every register at its Reset value (the
field map lists nothing), the queue empty, the Lodge as after a loss of its contents, memories clear.
(DESIGN CHOICE, log 5; DESIGN CHOICE, log 6) -/
def State.reset : State := {}

end Sys2Proof.Machine
end

