-- ==== Sys2Proof/Machine/Bits.lean ====
section
/-! DEFINITION. Numbers, bit fields, byte strings, cyclic redundancy checks, finite maps and byte memory. -/

namespace Sys2Proof.Machine

/-- Bits `lo` to `lo + w − 1` of `n`. -/
def bitsOf (n lo w : Nat) : Nat := n / 2 ^ lo % 2 ^ w

/-- Bit `i` of `n`. -/
def bitOf (n i : Nat) : Bool := bitsOf n i 1 == 1

/-- 1 for true, 0 for false. -/
def ofBool (b : Bool) : Nat := if b then 1 else 0

/-- A `w`-bit number read in two's complement. -/
def signedOf (w n : Nat) : Int :=
  if n % 2 ^ w < 2 ^ (w - 1) then (n % 2 ^ w : Nat) else ((n % 2 ^ w : Nat) : Int) - (2 ^ w : Nat)

/-- The `w`-bit two's complement code of a number. -/
def codeOf (w : Nat) (i : Int) : Nat := (i % ((2 ^ w : Nat) : Int)).toNat

/-- `n + k`, held at all ones of `w` bits (R93). -/
def satAdd (w n k : Nat) : Nat := min (n + k) (2 ^ w - 1)

/-- A signed value held to the range of `w` bits. -/
def satSigned (w : Nat) (i : Int) : Int :=
  max (-((2 ^ (w - 1) : Nat) : Int)) (min i (((2 ^ (w - 1) : Nat) : Int) - 1))

/-- Bitwise majority of three copies (R88). -/
def majority (a b c : Nat) : Nat := (a &&& b) ||| (a &&& c) ||| (b &&& c)

/-- The number of ones in the low `w` bits. -/
def popCount (w n : Nat) : Nat := ((List.range w).filter fun i => bitOf n i).length

/-- The low `w` bits of `n`, most significant first. -/
def bitList (w n : Nat) : List Bool := ((List.range w).map fun i => bitOf n i).reverse

/-- The number a list of bits spells, most significant first. -/
def ofBits (bs : List Bool) : Nat := bs.foldl (fun a b => 2 * a + ofBool b) 0

/-- `n` bytes of a number, most significant first (R7). -/
def beBytes : Nat → Nat → List Byte
  | 0, _ => []
  | n + 1, v => BitVec.ofNat 8 (v / 256 ^ n) :: beBytes n v

/-- The number that bytes spell, most significant first. -/
def beNat (bs : List Byte) : Nat := bs.foldl (fun a b => 256 * a + b.toNat) 0

/-- The bits of bytes, each most significant first. -/
def byteBits (bs : List Byte) : List Bool := bs.flatMap fun b => bitList 8 b.toNat

/-- Bytes from bits, eight at a time; a last short group is filled with zeros. -/
def packBytes : Nat → List Bool → List Byte
  | 0, _ => []
  | n + 1, bs => BitVec.ofNat 8 (ofBits ((bs ++ List.replicate 8 false).take 8)) :: packBytes n (bs.drop 8)

/-- One bit into a CRC register of `w` bits, most significant bit first, no reflection. -/
def crcStep (w poly reg : Nat) (b : Bool) : Nat :=
  if bitOf reg (w - 1) == b then 2 * reg % 2 ^ w else (2 * reg % 2 ^ w) ^^^ poly

/-- A CRC without reflection and without final inversion. -/
def crcOf (w poly init : Nat) (bs : List Byte) : Nat := (byteBits bs).foldl (crcStep w poly) init

/-- CRC-16, 0x1021, initial value 0xFFFF (R37). -/
def crc16 (bs : List Byte) : Nat := crcOf 16 0x1021 0xFFFF bs

/-- One byte into the bit-reflected CRC-32 of IEEE 802.3 (R238). -/
def crc32Step (crc : Nat) (b : Byte) : Nat :=
  (List.range 8).foldl (fun c _ => if c % 2 = 1 then (c / 2) ^^^ 0xEDB88320 else c / 2) (crc ^^^ b.toNat)

/-- The CRC-32 of IEEE 802.3, bit-reflected, with a preset and the final inversion (R238). (DEDUCED, log 69) -/
def crc32 (seed : Nat) (bs : List Byte) : Nat := (bs.foldl crc32Step seed) ^^^ 0xFFFFFFFF

/-- `n` bytes of a number, least significant first. -/
def leBytes (n v : Nat) : List Byte := (beBytes n v).reverse

/-! ### Finite maps -/

/-- The value at a key. -/
def mapGet {α : Type} (m : NMap α) (k : Nat) : Option α := (m.find? fun e => e.1 == k).map (·.2)

/-- The value at a key, or a default. -/
def mapGetD {α : Type} (m : NMap α) (k : Nat) (d : α) : α := (mapGet m k).getD d

/-- The map with a key's value set; keys stay rising. -/
def mapPut {α : Type} : NMap α → Nat → α → NMap α
  | [], k, v => [(k, v)]
  | (j, x) :: m, k, v =>
    if k < j then (k, v) :: (j, x) :: m else if k = j then (k, v) :: m else (j, x) :: mapPut m k v

/-- The map without a key. -/
def mapDel {α : Type} (m : NMap α) (k : Nat) : NMap α := m.filter fun e => e.1 != k

/-- The map with several keys set. -/
def mapPutAll {α : Type} (m : NMap α) (kvs : List (Nat × α)) : NMap α :=
  kvs.foldl (fun a kv => mapPut a kv.1 kv.2) m

/-- `f` applied to every value. -/
def mapVals {α β : Type} (f : Nat → α → β) (m : NMap α) : NMap β := m.map fun e => (e.1, f e.1 e.2)

/-! ### Byte memory -/

/-- The byte at an address: 0 where nothing is listed, the content system reset leaves (R58, R109). (DEDUCED, log 10) -/
def readByte (m : Memory) (a : Nat) : Byte := mapGetD m a 0

/-- A byte written; a zero byte is not listed. -/
def writeByte (m : Memory) (a : Nat) (b : Byte) : Memory := if b = 0 then mapDel m a else mapPut m a b

/-- The canonical form: addresses strictly rising and no zero entry. -/
abbrev Memory.wf (m : Memory) : Prop :=
  m.Pairwise (fun x y => x.1 < y.1) ∧ ∀ c ∈ m, c.2 ≠ 0

/-- The 32-bit word at an address, most significant byte first (R7). -/
def readWord (m : Memory) (a : Nat) : Nat := beNat ((List.range 4).map fun i => readByte m (a + i))

/-- A 32-bit word stored, most significant byte first (R7, R110). -/
def writeWord (m : Memory) (a w : Nat) : Memory :=
  writeByte (writeByte (writeByte (writeByte m a (BitVec.ofNat 8 (w / 2 ^ 24)))
    (a + 1) (BitVec.ofNat 8 (w / 2 ^ 16))) (a + 2) (BitVec.ofNat 8 (w / 2 ^ 8))) (a + 3) (BitVec.ofNat 8 w)

/-- `n` bytes from an address. -/
def readBytes (m : Memory) (a n : Nat) : List Byte := (List.range n).map fun i => readByte m (a + i)

/-! ### Lists -/

/-- The list without a number. -/
def dropNat (l : List Nat) (k : Nat) : List Nat := l.filter (· != k)

/-- The list with a number added once. -/
def addNat (l : List Nat) (k : Nat) : List Nat := if l.contains k then l else k :: l

/-- The element at a position replaced by its image under `f`. -/
def listModify {α : Type} (l : List α) (i : Nat) (f : α → α) : List α := l.modify i f

/-- The first element to satisfy `p` replaced by its image under `f`. -/
def modifyFirst {α : Type} (p : α → Bool) (f : α → α) : List α → List α
  | [] => []
  | a :: l => if p a then f a :: l else a :: modifyFirst p f l

/-- The largest element, 0 for none. -/
def maxOf (l : List Nat) : Nat := l.foldl max 0

end Sys2Proof.Machine
end

