-- ==== Sys2Proof/Machine/Fields.lean ====
section
/-! DEFINITION. Register blocks: kind, base address, power domain, header fields (R76 to R81). -/

namespace Sys2Proof.Machine

/-- A named sticky bit of a block's BLK_STS. -/
structure Sticky where
  blk : Blk
  bit : Nat
deriving DecidableEq, Repr

/-- Where a block stands: once in the device, in the Lodge, once for each pavilion or once for each port. -/
inductive Place where
  | device | lodge | pavilion | port
deriving DecidableEq, Repr

/-- The place and block number of a block (R77). -/
def blkPlace : Blk → Place × Nat
  | .DEV_ID => (.device, 0x00) | .KEEPER => (.device, 0x01) | .CHAIN => (.device, 0x02)
  | .RSTC => (.device, 0x03) | .CLKC => (.device, 0x04) | .PWRC => (.device, 0x05)
  | .LAYOUT => (.device, 0x06) | .NVMC => (.device, 0x07) | .POST => (.device, 0x08)
  | .TIME => (.device, 0x09) | .SPARE => (.device, 0x0A) | .INJ => (.device, 0x0B)
  | .BOOTF => (.device, 0x0C) | .TMRS => (.device, 0x0D) | .DEBUG => (.device, 0x0F)
  | .LODGE => (.lodge, 0x00)
  | .PAV_CTL => (.pavilion, 0x00) | .DECPOOL => (.pavilion, 0x01) | .ENGPOOL => (.pavilion, 0x02)
  | .LAYBY => (.pavilion, 0x03) | .PAV_WEAR => (.pavilion, 0x04)
  | .PORT_CTL => (.port, 0x00) | .AFE => (.port, 0x01) | .TXSH => (.port, 0x02) | .LINKUP => (.port, 0x03)
  | .TONES => (.port, 0x04) | .ECHO => (.port, 0x05) | .EQ => (.port, 0x06) | .FEC => (.port, 0x07)
  | .LAYBY_P => (.port, 0x08) | .STREAM => (.port, 0x09) | .BURST => (.port, 0x0A)
  | .ROUNDABOUT => (.port, 0x0B) | .WATCH => (.port, 0x0C) | .DIAG => (.port, 0x0D)
  | .SURVEY => (.port, 0x0E) | .HOST => (.port, 0x0F) | .TSU => (.port, 0x10) | .STATS => (.port, 0x11)
  | .OAM => (.port, 0x12) | .CAL => (.port, 0x13)

/-- The blocks of each place. -/
def deviceBlks : List Blk :=
  [.DEV_ID, .KEEPER, .CHAIN, .RSTC, .CLKC, .PWRC, .LAYOUT, .NVMC, .POST, .TIME, .SPARE, .INJ, .BOOTF, .TMRS, .DEBUG]

/-- The blocks of a pavilion. -/
def pavBlks : List Blk := [.PAV_CTL, .DECPOOL, .ENGPOOL, .LAYBY, .PAV_WEAR]

/-- The blocks of a port. -/
def portBlks : List Blk :=
  [.PORT_CTL, .AFE, .TXSH, .LINKUP, .TONES, .ECHO, .EQ, .FEC, .LAYBY_P, .STREAM, .BURST, .ROUNDABOUT, .WATCH,
    .DIAG, .SURVEY, .HOST, .TSU, .STATS, .OAM, .CAL]

/-- The base address of a block; `u` is the pavilion or port, and 0 elsewhere (R76, R77). -/
def blkBase (b : Blk) (u : Nat) : Nat :=
  (match (blkPlace b).1 with
    | .device => 0
    | .lodge => 0x100000
    | .pavilion => 0x200000 + u * 0x100000
    | .port => 0x800000 + u * 0x100000) + (blkPlace b).2 * 0x1000

/-- How many of a block the device has. -/
def blkUnits (b : Blk) : Nat :=
  match (blkPlace b).1 with
  | .device => 1
  | .lodge => 1
  | .pavilion => 4
  | .port => 8

/-- The power domain of a block (R77, R24). -/
def blkDomain (b : Blk) (u : Nat) : Nat :=
  match b with
  | .LODGE => 0
  | .NVMC => 2
  | .CLKC => 4
  | .DEBUG => 5
  | .LAYBY => 10 + u
  | .PAV_CTL | .DECPOOL | .ENGPOOL | .PAV_WEAR => 6 + u
  | .AFE | .CAL => 22 + u
  | .HOST => 30 + u
  | .PORT_CTL | .TXSH | .LINKUP | .TONES | .ECHO | .EQ | .FEC | .LAYBY_P | .STREAM | .BURST | .ROUNDABOUT | .WATCH
  | .DIAG | .SURVEY | .TSU | .STATS | .OAM => 14 + u
  | _ => 3

/-- The blocks of a power domain with their units. -/
def domainBlks (d : Nat) : List (Blk × Nat) :=
  ((deviceBlks ++ [Blk.LODGE]).map fun b => (b, 0)) ++ (List.range 4).flatMap (fun n => pavBlks.map fun b => (b, n)) ++
    (List.range 8).flatMap (fun p => portBlks.map fun b => (b, p)) |>.filter fun x => blkDomain x.1 x.2 == d

/-- How the EN of a block reads (R81): its own field, always 1, or another block's EN. -/
inductive EnKind where
  | own | one | pavilion | port
deriving DecidableEq, Repr

/-- The EN rule of a block (R81 and the block maps). -/
def enKind : Blk → EnKind
  | .DEV_ID | .KEEPER | .CHAIN | .POST | .TIME | .TMRS | .RSTC | .PWRC | .NVMC | .SPARE | .INJ | .DEBUG | .LODGE
  | .STATS => .one
  | .DECPOOL | .ENGPOOL | .LAYBY | .PAV_WEAR => .pavilion
  | .LAYBY_P => .port
  | _ => .own

/-- The ABORT_LATE bit of a command field (R90). -/
def Fld.abortLate (f : Fld) : Fld := { f with lo := f.lo + 1, ty := .ro, rst := .num 0 }

/-- The OUTCOME field of a command field (R90). -/
def Fld.outcome (f : Fld) : Fld := { f with lo := f.lo + 4, width := 4, ty := .ro, rst := .num 0 }

/-- EN of BLK_CTL (R78, R81). -/
def Fld.en (b : Blk) : Fld :=
  ⟨b, 0x000, 0, 1, if enKind b = .own then .lrw else .ro, .num (if enKind b = .one then 1 else 0), false⟩

/-- LOCK of BLK_CTL (R78); read-only where EN is (R81). -/
def Fld.lock (b : Blk) : Fld := ⟨b, 0x000, 1, 1, if enKind b = .own then .wo1 else .ro, .num 0, true⟩

/-- BLK_STS [23:0] (R78). -/
def Fld.sts (b : Blk) : Fld := ⟨b, 0x004, 0, 24, .st, .num 0, false⟩

/-- SEQ of BLK_STS (R78). -/
def Fld.seq (b : Blk) : Fld := ⟨b, 0x004, 24, 8, .ro, .num 0, false⟩

/-- IEN (R78). -/
def Fld.ien (b : Blk) : Fld := ⟨b, 0x008, 0, 24, .lrw, .num 0, false⟩

/-- DETAIL of BLK_FIRST (R79). -/
def Fld.firstDetail (b : Blk) : Fld := ⟨b, 0x00C, 0, 8, .st, .num 0, false⟩

/-- SEQ of BLK_FIRST (R79). -/
def Fld.firstSeq (b : Blk) : Fld := ⟨b, 0x00C, 8, 8, .st, .num 0, false⟩

/-- SRC of BLK_FIRST (R79). -/
def Fld.firstSrc (b : Blk) : Fld := ⟨b, 0x00C, 16, 8, .st, .num 0, false⟩

/-- INJ of BLK_FIRST (R79). -/
def Fld.firstInj (b : Blk) : Fld := ⟨b, 0x00C, 27, 1, .st, .num 0, false⟩

/-- CLASS of BLK_FIRST (R79). -/
def Fld.firstClass (b : Blk) : Fld := ⟨b, 0x00C, 28, 2, .st, .num 0, false⟩

/-- OVF of BLK_FIRST (R79). -/
def Fld.firstOvf (b : Blk) : Fld := ⟨b, 0x00C, 30, 1, .st, .num 0, false⟩

/-- VALID of BLK_FIRST (R79). -/
def Fld.firstValid (b : Blk) : Fld := ⟨b, 0x00C, 31, 1, .st, .num 0, false⟩

/-- OFFSET of BLK_IGN (R78). -/
def Fld.ignOffset (b : Blk) : Fld := ⟨b, 0x010, 0, 12, .ro, .num 0, false⟩

/-- COUNT of BLK_IGN (R78). -/
def Fld.ignCount (b : Blk) : Fld := ⟨b, 0x010, 16, 8, .ro, .num 0, false⟩

/-- IGN_MTAG of BLK_IGN (R78). -/
def Fld.ignMtag (b : Blk) : Fld := ⟨b, 0x010, 24, 4, .ro, .num 0, false⟩

/-- REASON of BLK_IGN (R78): 1 enabled, 2 locked. -/
def Fld.ignReason (b : Blk) : Fld := ⟨b, 0x010, 28, 2, .ro, .num 0, false⟩

/-- IGN_OVF of BLK_IGN (R78). -/
def Fld.ignOvf (b : Blk) : Fld := ⟨b, 0x010, 30, 1, .st, .num 0, false⟩

/-- IGN_VALID of BLK_IGN (R78). -/
def Fld.ignValid (b : Blk) : Fld := ⟨b, 0x010, 31, 1, .st, .num 0, false⟩

/-- LIVE of BLK_LIVE (R78), a view computed when it is read. -/
def Fld.live (b : Blk) : Fld := ⟨b, 0x014, 0, 24, .ro, .num 0, false⟩

/-- CLR_MISS of BLK_LIVE (R78). -/
def Fld.clrMiss (b : Blk) : Fld := ⟨b, 0x014, 24, 8, .ro, .num 0, false⟩

/-- FIRE of BLK_INJ (R80). -/
def Fld.fire (b : Blk) : Fld := ⟨b, 0x018, 0, 1, .cmd, .num 0, false⟩

/-- CLASS of BLK_INJ (R80). -/
def Fld.injClass (b : Blk) : Fld := ⟨b, 0x018, 8, 2, .lrw, .num 0, false⟩

/-- SRC of BLK_INJ (R80). -/
def Fld.injSrc (b : Blk) : Fld := ⟨b, 0x018, 16, 8, .lrw, .num 0, false⟩

/-- DETAIL of BLK_INJ (R80). -/
def Fld.injDetail (b : Blk) : Fld := ⟨b, 0x018, 24, 8, .lrw, .num 0, false⟩

/-- The reserved word of the header (R78): a register of reserved bits. -/
def Fld.reserved (b : Blk) : Fld := ⟨b, 0x01C, 0, 32, .ro, .num 0, false⟩

/-- The header fields of a block (R78). -/
def headerFlds (b : Blk) : List Fld :=
  [.en b, .lock b, .sts b, .seq b, .ien b, .firstDetail b, .firstSeq b, .firstSrc b, .firstInj b, .firstClass b,
    .firstOvf b, .firstValid b, .ignOffset b, .ignCount b, .ignMtag b, .ignReason b, .ignOvf b, .ignValid b,
    .live b, .clrMiss b, .fire b, (Fld.fire b).abortLate, (Fld.fire b).outcome, .injClass b, .injSrc b,
    .injDetail b, .reserved b]

/-- The address of a field's word. -/
def Fld.addr (u : Nat) (f : Fld) : Nat := blkBase f.blk u + f.off

/-- The key of a field in the register file: the address of its word and its lowest bit. -/
def Fld.key (u : Nat) (f : Fld) : Nat := f.addr u * 32 + f.lo

/-- The value a field has after reset where no layout, NVM content or strap gives it another. (DESIGN CHOICE, log 6; DESIGN
CHOICE, log 8) -/
def Fld.base (f : Fld) : Nat :=
  match f.rst with
  | .num n => n
  | .nvm n => n
  | .layout => 0
  | .strap => 0
  | .fused => 0

/-- Whether system reset leaves a field: the RSTC, DEBUG and LODGE blocks (R354, R378, R381, R383), what the NVM
holds and the strap (R354). In DEBUG and LODGE this covers FIRE and its OUTCOME, as the two maps keep every field, where R92
excepts RSTC alone. (DEDUCED, log 148) -/
def Fld.keepsOnReset (f : Fld) : Bool :=
  f.blk == .RSTC || f.blk == .DEBUG || f.blk == .LODGE ||
    match f.rst with
    | .nvm _ => true
    | .strap => true
    | .fused => true
    | _ => false

/-- Whether a field keeps its value while its power domain is off: what the NVM holds, strap and fuses, and DBG_SEAL,
which holds until the next power-on reset (R375, R383). -/
def Fld.keepsOnDomain (f : Fld) : Bool :=
  (f.blk == .DEBUG && f.off == 0x020 && f.lo == 1) ||
    match f.rst with
    | .nvm _ => true
    | .strap => true
    | .fused => true
    | _ => false

end Sys2Proof.Machine
end

