-- ==== Sys2Proof/Machine/MapDevice.lean ====
section
/-! DEFINITION. The register fields of every device and Lodge block, one constant per field of the block maps of spec/. -/

namespace Sys2Proof.Machine

/-! ### DEV_ID (R99 of 03_register_model.md) -/

def Fld.DEV_ID_VENDOR : Fld := ⟨.DEV_ID, 0x020, 0, 16, .ro, .num 2845, false⟩
def Fld.DEV_ID_PART : Fld := ⟨.DEV_ID, 0x020, 16, 16, .ro, .num 33344, false⟩
def Fld.DEV_ID_REV : Fld := ⟨.DEV_ID, 0x024, 0, 8, .ro, .num 176, false⟩
def Fld.DEV_ID_GRADE : Fld := ⟨.DEV_ID, 0x024, 8, 2, .ro, .fused, false⟩
def Fld.DEV_ID_MAP_VER : Fld := ⟨.DEV_ID, 0x024, 16, 8, .ro, .num 1, false⟩
def Fld.DEV_ID_UID_LO : Fld := ⟨.DEV_ID, 0x028, 0, 32, .ro, .fused, false⟩
def Fld.DEV_ID_UID_HI : Fld := ⟨.DEV_ID, 0x02C, 0, 32, .ro, .fused, false⟩

/-- The fields of the DEV_ID block map. -/
def map_DEV_ID : List Fld :=
  [.DEV_ID_VENDOR, .DEV_ID_PART, .DEV_ID_REV, .DEV_ID_GRADE, .DEV_ID_MAP_VER, .DEV_ID_UID_LO, .DEV_ID_UID_HI]

/-! ### KEEPER (R74 of 02_chain_keeper.md) -/

def Fld.KEEPER_KTAG : Fld := ⟨.KEEPER, 0x020, 0, 4, .ro, .num 0, true⟩
def Fld.KEEPER_KVALID : Fld := ⟨.KEEPER, 0x020, 4, 1, .ro, .num 0, true⟩
def Fld.KEEPER_SEALED : Fld := ⟨.KEEPER, 0x020, 8, 1, .ro, .nvm 0, true⟩
def Fld.KEEPER_LEASE : Fld := ⟨.KEEPER, 0x024, 0, 14, .lrw, .num 1000, false⟩
def Fld.KEEPER_HEARTBEAT : Fld := ⟨.KEEPER, 0x028, 0, 32, .lrw, .num 0, false⟩
def Fld.KEEPER_LEASE_LEFT : Fld := ⟨.KEEPER, 0x02C, 0, 14, .ro, .num 0, false⟩
def Fld.KEEPER_NTAG : Fld := ⟨.KEEPER, 0x030, 0, 4, .lrw, .num 0, false⟩
def Fld.KEEPER_NOMINATE : Fld := ⟨.KEEPER, 0x030, 8, 1, .cmd, .num 0, false⟩
def Fld.KEEPER_ACCEPT : Fld := ⟨.KEEPER, 0x034, 0, 1, .cmd, .num 0, false⟩
def Fld.KEEPER_NONCE_REQ : Fld := ⟨.KEEPER, 0x038, 0, 1, .cmd, .num 0, false⟩
def Fld.KEEPER_NONCE (i : Nat) : Fld := ⟨.KEEPER, 0x040 + 4 * i, 0, 32, .ro, .num 0, false⟩
def Fld.KEEPER_SRESP (i : Nat) : Fld := ⟨.KEEPER, 0x060 + 4 * i, 0, 32, .lrw, .num 0, false⟩
def Fld.KEEPER_KEY (i : Nat) : Fld := ⟨.KEEPER, 0x0A0 + 4 * i, 0, 32, .lrw, .num 0, false⟩
def Fld.KEEPER_KEY_PROGRAM : Fld := ⟨.KEEPER, 0x0C0, 0, 1, .cmd, .num 0, false⟩
def Fld.KEEPER_VISIT_REJ (m : Nat) : Fld := ⟨.KEEPER, 0x100 + 8 * m, 0, 48, .snap, .num 0, false⟩
def Fld.KEEPER_SEAL_FAIL : Fld := ⟨.KEEPER, 0x180, 0, 48, .snap, .num 0, false⟩
def Fld.KEEPER_SNAP_CLR : Fld := ⟨.KEEPER, 0x188, 0, 1, .cmd, .num 0, false⟩

/-- The fields of the KEEPER block map. -/
def map_KEEPER : List Fld :=
  [.KEEPER_KTAG, .KEEPER_KVALID, .KEEPER_SEALED, .KEEPER_LEASE, .KEEPER_HEARTBEAT, .KEEPER_LEASE_LEFT,
    .KEEPER_NTAG, .KEEPER_NOMINATE, Fld.KEEPER_NOMINATE.abortLate, Fld.KEEPER_NOMINATE.outcome,
    .KEEPER_ACCEPT, Fld.KEEPER_ACCEPT.abortLate, Fld.KEEPER_ACCEPT.outcome, .KEEPER_NONCE_REQ,
    Fld.KEEPER_NONCE_REQ.abortLate, Fld.KEEPER_NONCE_REQ.outcome, .KEEPER_KEY_PROGRAM,
    Fld.KEEPER_KEY_PROGRAM.abortLate, Fld.KEEPER_KEY_PROGRAM.outcome, .KEEPER_SEAL_FAIL, .KEEPER_SNAP_CLR,
    Fld.KEEPER_SNAP_CLR.abortLate, Fld.KEEPER_SNAP_CLR.outcome] ++
  (List.range 4).map Fld.KEEPER_NONCE ++
  (List.range 8).map Fld.KEEPER_SRESP ++
  (List.range 8).map Fld.KEEPER_KEY ++
  (List.range 16).map Fld.KEEPER_VISIT_REJ

/-! ### CHAIN (R73 of 02_chain_keeper.md) -/

def Fld.CHAIN_ADDR : Fld := ⟨.CHAIN, 0x020, 0, 5, .ro, .num 0, false⟩
def Fld.CHAIN_LINK_A : Fld := ⟨.CHAIN, 0x024, 0, 1, .ro, .num 0, false⟩
def Fld.CHAIN_LINK_B : Fld := ⟨.CHAIN, 0x024, 1, 1, .ro, .num 0, false⟩
def Fld.CHAIN_TAIL : Fld := ⟨.CHAIN, 0x024, 2, 1, .ro, .num 0, false⟩
def Fld.CHAIN_RING : Fld := ⟨.CHAIN, 0x024, 3, 1, .ro, .strap, false⟩
def Fld.CHAIN_ROOT_SRC : Fld := ⟨.CHAIN, 0x024, 4, 1, .ro, .num 0, false⟩
def Fld.CHAIN_HOP_A : Fld := ⟨.CHAIN, 0x028, 0, 16, .ro, .num 0, false⟩
def Fld.CHAIN_HOP_A_VALID : Fld := ⟨.CHAIN, 0x028, 16, 1, .ro, .num 0, false⟩
def Fld.CHAIN_HOP_A_SET : Fld := ⟨.CHAIN, 0x02C, 0, 16, .lrw, .num 0, false⟩
def Fld.CHAIN_USE : Fld := ⟨.CHAIN, 0x02C, 31, 1, .lrw, .num 0, false⟩
def Fld.CHAIN_FWD_LAT : Fld := ⟨.CHAIN, 0x030, 0, 16, .ro, .num 0, false⟩
def Fld.CHAIN_TS_SEC_HI : Fld := ⟨.CHAIN, 0x034, 0, 24, .lrw, .num 0, false⟩
def Fld.CHAIN_STATE_TGT : Fld := ⟨.CHAIN, 0x038, 0, 2, .lrw, .num 0, false⟩
def Fld.CHAIN_PORT_MASK : Fld := ⟨.CHAIN, 0x038, 8, 8, .lrw, .num 0, false⟩
def Fld.CHAIN_STAGED_GEN : Fld := ⟨.CHAIN, 0x03C, 0, 16, .ro, .num 0, false⟩
def Fld.CHAIN_APPLIED_GEN : Fld := ⟨.CHAIN, 0x03C, 16, 16, .ro, .num 0, false⟩
def Fld.CHAIN_STAGED : Fld := ⟨.CHAIN, 0x040, 0, 1, .ro, .num 0, false⟩
def Fld.CHAIN_ARMED : Fld := ⟨.CHAIN, 0x040, 1, 1, .ro, .num 0, false⟩
def Fld.CHAIN_MISSED_GEN : Fld := ⟨.CHAIN, 0x040, 16, 16, .ro, .num 0, false⟩
def Fld.CHAIN_TO_ADDR : Fld := ⟨.CHAIN, 0x044, 0, 24, .ro, .num 0, false⟩
def Fld.CHAIN_TO_MTAG : Fld := ⟨.CHAIN, 0x044, 24, 4, .ro, .num 0, false⟩
def Fld.CHAIN_TO_DONE : Fld := ⟨.CHAIN, 0x044, 29, 1, .ro, .num 0, false⟩
def Fld.CHAIN_TO_LANDED : Fld := ⟨.CHAIN, 0x044, 30, 1, .ro, .num 0, false⟩
def Fld.CHAIN_TO_VALID : Fld := ⟨.CHAIN, 0x044, 31, 1, .ro, .num 0, false⟩
def Fld.CHAIN_CRC_ERR_A : Fld := ⟨.CHAIN, 0x048, 0, 48, .snap, .num 0, false⟩
def Fld.CHAIN_CRC_ERR_B : Fld := ⟨.CHAIN, 0x050, 0, 48, .snap, .num 0, false⟩
def Fld.CHAIN_FRAMES_IN : Fld := ⟨.CHAIN, 0x058, 0, 48, .snap, .num 0, false⟩
def Fld.CHAIN_SNAP_CLR : Fld := ⟨.CHAIN, 0x060, 0, 1, .cmd, .num 0, false⟩

/-- The fields of the CHAIN block map. -/
def map_CHAIN : List Fld :=
  [.CHAIN_ADDR, .CHAIN_LINK_A, .CHAIN_LINK_B, .CHAIN_TAIL, .CHAIN_RING, .CHAIN_ROOT_SRC, .CHAIN_HOP_A,
    .CHAIN_HOP_A_VALID, .CHAIN_HOP_A_SET, .CHAIN_USE, .CHAIN_FWD_LAT, .CHAIN_TS_SEC_HI, .CHAIN_STATE_TGT,
    .CHAIN_PORT_MASK, .CHAIN_STAGED_GEN, .CHAIN_APPLIED_GEN, .CHAIN_STAGED, .CHAIN_ARMED,
    .CHAIN_MISSED_GEN, .CHAIN_TO_ADDR, .CHAIN_TO_MTAG, .CHAIN_TO_DONE, .CHAIN_TO_LANDED, .CHAIN_TO_VALID,
    .CHAIN_CRC_ERR_A, .CHAIN_CRC_ERR_B, .CHAIN_FRAMES_IN, .CHAIN_SNAP_CLR, Fld.CHAIN_SNAP_CLR.abortLate,
    Fld.CHAIN_SNAP_CLR.outcome]

/-! ### RSTC (R378 of 12_reset_clock_power.md) -/

def Fld.RSTC_CAUSE_MASK : Fld := ⟨.RSTC, 0x020, 0, 16, .ro, .num 1, false⟩
def Fld.RSTC_WIDEST : Fld := ⟨.RSTC, 0x020, 16, 2, .ro, .num 3, false⟩
def Fld.RSTC_FATAL_BLOCK : Fld := ⟨.RSTC, 0x024, 0, 24, .ro, .num 0, false⟩
def Fld.RSTC_FATAL_VALID : Fld := ⟨.RSTC, 0x024, 31, 1, .ro, .num 0, false⟩
def Fld.RSTC_STRAP_CODE : Fld := ⟨.RSTC, 0x028, 0, 4, .ro, .strap, false⟩
def Fld.RSTC_STRAP_COUNT : Fld := ⟨.RSTC, 0x028, 8, 6, .ro, .strap, false⟩
def Fld.RSTC_STRAP_WP : Fld := ⟨.RSTC, 0x028, 16, 1, .ro, .strap, true⟩
def Fld.RSTC_RST_LEVEL : Fld := ⟨.RSTC, 0x02C, 0, 2, .lrw, .num 1, false⟩
def Fld.RSTC_RST_GO : Fld := ⟨.RSTC, 0x02C, 8, 1, .cmd, .num 0, false⟩
def Fld.RSTC_WDT_EN : Fld := ⟨.RSTC, 0x030, 0, 1, .lrw, .num 0, false⟩
def Fld.RSTC_WDT_TIME : Fld := ⟨.RSTC, 0x030, 4, 12, .lrw, .num 1000, false⟩
def Fld.RSTC_WDT_KICK : Fld := ⟨.RSTC, 0x034, 0, 32, .lrw, .num 0, false⟩
def Fld.RSTC_FTC_NVM : Fld := ⟨.RSTC, 0x038, 0, 1, .lrw, .num 0, true⟩
def Fld.RSTC_FTC_SUPPLY : Fld := ⟨.RSTC, 0x038, 1, 1, .lrw, .num 0, true⟩

/-- The fields of the RSTC block map. -/
def map_RSTC : List Fld :=
  [.RSTC_CAUSE_MASK, .RSTC_WIDEST, .RSTC_FATAL_BLOCK, .RSTC_FATAL_VALID, .RSTC_STRAP_CODE,
    .RSTC_STRAP_COUNT, .RSTC_STRAP_WP, .RSTC_RST_LEVEL, .RSTC_RST_GO, Fld.RSTC_RST_GO.abortLate,
    Fld.RSTC_RST_GO.outcome, .RSTC_WDT_EN, .RSTC_WDT_TIME, .RSTC_WDT_KICK, .RSTC_FTC_NVM, .RSTC_FTC_SUPPLY]

/-! ### CLKC (R379 of 12_reset_clock_power.md) -/

def Fld.CLKC_ROOT_OK : Fld := ⟨.CLKC, 0x020, 0, 1, .ro, .num 0, false⟩
def Fld.CLKC_SAFE : Fld := ⟨.CLKC, 0x020, 1, 1, .ro, .num 0, false⟩
def Fld.CLKC_BOSC_SEL : Fld := ⟨.CLKC, 0x020, 4, 1, .ro, .num 0, false⟩
def Fld.CLKC_BOSC_QUAL : Fld := ⟨.CLKC, 0x020, 5, 1, .ro, .num 0, false⟩
def Fld.CLKC_LPLL_SEL : Fld := ⟨.CLKC, 0x020, 8, 1, .ro, .num 0, false⟩
def Fld.CLKC_LPLL_LOCK : Fld := ⟨.CLKC, 0x020, 9, 1, .ro, .num 0, false⟩
def Fld.CLKC_HPLL_LOCK : Fld := ⟨.CLKC, 0x020, 10, 1, .ro, .num 0, false⟩
def Fld.CLKC_ROOT_HOLD : Fld := ⟨.CLKC, 0x024, 0, 14, .lrw, .num 100, false⟩
def Fld.CLKC_HOLD_LEFT : Fld := ⟨.CLKC, 0x024, 16, 14, .ro, .num 0, false⟩
def Fld.CLKC_CO0_DIV : Fld := ⟨.CLKC, 0x028, 0, 16, .rw, .num 1000, false⟩
def Fld.CLKC_CO0_DEPTH : Fld := ⟨.CLKC, 0x028, 16, 5, .rw, .num 0, false⟩
def Fld.CLKC_CO0_RATE : Fld := ⟨.CLKC, 0x028, 24, 6, .rw, .num 30, false⟩
def Fld.CLKC_CO1_DIV : Fld := ⟨.CLKC, 0x02C, 0, 16, .rw, .num 1000, false⟩
def Fld.CLKC_CO1_DEPTH : Fld := ⟨.CLKC, 0x02C, 16, 5, .rw, .num 0, false⟩
def Fld.CLKC_CO1_RATE : Fld := ⟨.CLKC, 0x02C, 24, 6, .rw, .num 30, false⟩
def Fld.CLKC_CO0_OE : Fld := ⟨.CLKC, 0x030, 0, 1, .lrw, .num 0, false⟩
def Fld.CLKC_CO1_OE : Fld := ⟨.CLKC, 0x030, 1, 1, .lrw, .num 0, false⟩
def Fld.CLKC_MEAS_GO : Fld := ⟨.CLKC, 0x034, 0, 1, .cmd, .num 0, false⟩
def Fld.CLKC_MEAS_SEL : Fld := ⟨.CLKC, 0x034, 8, 4, .lrw, .num 0, false⟩
def Fld.CLKC_MEAS_REF : Fld := ⟨.CLKC, 0x034, 12, 1, .lrw, .num 0, false⟩
def Fld.CLKC_MEAS_WIN : Fld := ⟨.CLKC, 0x034, 16, 12, .lrw, .num 4, false⟩
def Fld.CLKC_MEAS_COUNT : Fld := ⟨.CLKC, 0x038, 0, 32, .ro, .num 0, false⟩
def Fld.CLKC_ROOT_LOSSES : Fld := ⟨.CLKC, 0x040, 0, 48, .snap, .num 0, false⟩
def Fld.CLKC_FORCED_SW : Fld := ⟨.CLKC, 0x048, 0, 48, .snap, .num 0, false⟩
def Fld.CLKC_SNAP_CLR : Fld := ⟨.CLKC, 0x050, 0, 1, .cmd, .num 0, false⟩

/-- The fields of the CLKC block map. -/
def map_CLKC : List Fld :=
  [.CLKC_ROOT_OK, .CLKC_SAFE, .CLKC_BOSC_SEL, .CLKC_BOSC_QUAL, .CLKC_LPLL_SEL, .CLKC_LPLL_LOCK,
    .CLKC_HPLL_LOCK, .CLKC_ROOT_HOLD, .CLKC_HOLD_LEFT, .CLKC_CO0_DIV, .CLKC_CO0_DEPTH, .CLKC_CO0_RATE,
    .CLKC_CO1_DIV, .CLKC_CO1_DEPTH, .CLKC_CO1_RATE, .CLKC_CO0_OE, .CLKC_CO1_OE, .CLKC_MEAS_GO,
    Fld.CLKC_MEAS_GO.abortLate, Fld.CLKC_MEAS_GO.outcome, .CLKC_MEAS_SEL, .CLKC_MEAS_REF, .CLKC_MEAS_WIN,
    .CLKC_MEAS_COUNT, .CLKC_ROOT_LOSSES, .CLKC_FORCED_SW, .CLKC_SNAP_CLR, Fld.CLKC_SNAP_CLR.abortLate,
    Fld.CLKC_SNAP_CLR.outcome]

/-! ### PWRC (R380 of 12_reset_clock_power.md) -/

def Fld.PWRC_DEV_STATE : Fld := ⟨.PWRC, 0x020, 0, 2, .ro, .num 1, false⟩
def Fld.PWRC_STATE_GO : Fld := ⟨.PWRC, 0x020, 8, 1, .cmd, .num 0, false⟩
def Fld.PWRC_STATE_REQ : Fld := ⟨.PWRC, 0x020, 16, 2, .lrw, .num 1, false⟩
def Fld.PWRC_WAKE_EN : Fld := ⟨.PWRC, 0x024, 0, 8, .lrw, .num 0, false⟩
def Fld.PWRC_WAKE_LVL : Fld := ⟨.PWRC, 0x024, 16, 2, .lrw, .num 1, false⟩
def Fld.PWRC_WAKE_AUTO : Fld := ⟨.PWRC, 0x024, 20, 1, .lrw, .num 0, false⟩
def Fld.PWRC_WAKE_SRC : Fld := ⟨.PWRC, 0x028, 0, 8, .ro, .num 0, false⟩
def Fld.PWRC_WAKE_CLR : Fld := ⟨.PWRC, 0x028, 8, 1, .cmd, .num 0, false⟩
def Fld.PWRC_RUN_EN (d : Nat) : Fld := ⟨.PWRC, 0x040 + 4 * d, 0, 1, .lrw, .num 1, false⟩
def Fld.PWRC_SLEEP_EN (d : Nat) : Fld := ⟨.PWRC, 0x040 + 4 * d, 1, 1, .lrw, .num 1, false⟩
def Fld.PWRC_DEEP_EN (d : Nat) : Fld := ⟨.PWRC, 0x040 + 4 * d, 2, 1, .lrw,
    .num (if d = 0 ∨ d = 3 ∨ d = 4 then 1 else 0), false⟩
def Fld.PWRC_ON (d : Nat) : Fld := ⟨.PWRC, 0x040 + 4 * d, 8, 1, .ro, .num 1, false⟩
def Fld.PWRC_FIXED (d : Nat) : Fld := ⟨.PWRC, 0x040 + 4 * d, 9, 1, .ro,
    .num (if d = 0 ∨ d = 1 ∨ d = 3 ∨ d = 4 then 1 else 0), false⟩
def Fld.PWRC_STATE_CHANGES : Fld := ⟨.PWRC, 0x100, 0, 48, .snap, .num 0, false⟩
def Fld.PWRC_WAKES : Fld := ⟨.PWRC, 0x108, 0, 48, .snap, .num 0, false⟩
def Fld.PWRC_SNAP_CLR : Fld := ⟨.PWRC, 0x110, 0, 1, .cmd, .num 0, false⟩

/-- The fields of the PWRC block map. -/
def map_PWRC : List Fld :=
  [.PWRC_DEV_STATE, .PWRC_STATE_GO, Fld.PWRC_STATE_GO.abortLate, Fld.PWRC_STATE_GO.outcome,
    .PWRC_STATE_REQ, .PWRC_WAKE_EN, .PWRC_WAKE_LVL, .PWRC_WAKE_AUTO, .PWRC_WAKE_SRC, .PWRC_WAKE_CLR,
    Fld.PWRC_WAKE_CLR.abortLate, Fld.PWRC_WAKE_CLR.outcome, .PWRC_STATE_CHANGES, .PWRC_WAKES,
    .PWRC_SNAP_CLR, Fld.PWRC_SNAP_CLR.abortLate, Fld.PWRC_SNAP_CLR.outcome] ++
  (List.range 38).map Fld.PWRC_RUN_EN ++
  (List.range 38).map Fld.PWRC_SLEEP_EN ++
  (List.range 38).map Fld.PWRC_DEEP_EN ++
  (List.range 38).map Fld.PWRC_ON ++
  (List.range 38).map Fld.PWRC_FIXED

/-! ### LAYOUT (R125 of 04_layout.md) -/

def Fld.LAYOUT_LOAD_OFS : Fld := ⟨.LAYOUT, 0x020, 0, 23, .lrw, .num 0, false⟩
def Fld.LAYOUT_LOAD_AREA : Fld := ⟨.LAYOUT, 0x020, 23, 1, .lrw, .num 0, false⟩
def Fld.LAYOUT_LOAD_DATA : Fld := ⟨.LAYOUT, 0x024, 0, 32, .lrw, .num 0, false⟩
def Fld.LAYOUT_LAY_STATE : Fld := ⟨.LAYOUT, 0x028, 0, 3, .ro, .num 0, false⟩
def Fld.LAYOUT_FW_STATE : Fld := ⟨.LAYOUT, 0x028, 4, 3, .ro, .num 0, false⟩
def Fld.LAYOUT_VERIFY : Fld := ⟨.LAYOUT, 0x02C, 0, 1, .cmd, .num 0, false⟩
def Fld.LAYOUT_VER_AREA : Fld := ⟨.LAYOUT, 0x02C, 8, 1, .lrw, .num 0, false⟩
def Fld.LAYOUT_VERIFY_REASON : Fld := ⟨.LAYOUT, 0x02C, 12, 4, .ro, .num 0, false⟩
def Fld.LAYOUT_STAGE : Fld := ⟨.LAYOUT, 0x030, 0, 1, .cmd, .num 0, false⟩
def Fld.LAYOUT_STG_MASK : Fld := ⟨.LAYOUT, 0x030, 8, 4, .lrw, .num 0, false⟩
def Fld.LAYOUT_APPLY : Fld := ⟨.LAYOUT, 0x034, 0, 1, .cmd, .num 0, false⟩
def Fld.LAYOUT_APP_MASK : Fld := ⟨.LAYOUT, 0x034, 8, 4, .lrw, .num 0, false⟩
def Fld.LAYOUT_FW_ACTIVATE : Fld := ⟨.LAYOUT, 0x038, 0, 1, .cmd, .num 0, false⟩
def Fld.LAYOUT_FW_CONFIRM : Fld := ⟨.LAYOUT, 0x03C, 0, 1, .cmd, .num 0, false⟩
def Fld.LAYOUT_FW_TRIAL : Fld := ⟨.LAYOUT, 0x03C, 8, 8, .lrw, .num 10, false⟩
def Fld.LAYOUT_TRIAL : Fld := ⟨.LAYOUT, 0x03C, 16, 1, .ro, .num 0, false⟩
def Fld.LAYOUT_ROLLBACK_RAISE : Fld := ⟨.LAYOUT, 0x040, 0, 1, .cmd, .num 0, false⟩
def Fld.LAYOUT_RB_COUNTER : Fld := ⟨.LAYOUT, 0x044, 0, 16, .ro, .nvm 0, true⟩
def Fld.LAYOUT_OEM_SET : Fld := ⟨.LAYOUT, 0x044, 16, 1, .ro, .nvm 0, true⟩
def Fld.LAYOUT_BUF_ID_LO : Fld := ⟨.LAYOUT, 0x048, 0, 32, .ro, .num 0, false⟩
def Fld.LAYOUT_BUF_ID_HI : Fld := ⟨.LAYOUT, 0x04C, 0, 32, .ro, .num 0, false⟩
def Fld.LAYOUT_BUF_SVN : Fld := ⟨.LAYOUT, 0x050, 0, 16, .ro, .num 0, false⟩
def Fld.LAYOUT_FW_SVN : Fld := ⟨.LAYOUT, 0x050, 16, 16, .ro, .num 0, false⟩
def Fld.LAYOUT_FW_ID_LO : Fld := ⟨.LAYOUT, 0x054, 0, 32, .ro, .num 0, false⟩
def Fld.LAYOUT_FW_ID_HI : Fld := ⟨.LAYOUT, 0x058, 0, 32, .ro, .num 0, false⟩
def Fld.LAYOUT_APPLIED_ID_LO (n : Nat) : Fld := ⟨.LAYOUT, 0x060 + 16 * n, 0, 32, .ro, .nvm 0, true⟩
def Fld.LAYOUT_APPLIED_ID_HI (n : Nat) : Fld := ⟨.LAYOUT, 0x064 + 16 * n, 0, 32, .ro, .nvm 0, true⟩
def Fld.LAYOUT_APPLIED_SVN (n : Nat) : Fld := ⟨.LAYOUT, 0x068 + 16 * n, 0, 16, .ro, .nvm 0, true⟩
def Fld.LAYOUT_PHASE (n : Nat) : Fld := ⟨.LAYOUT, 0x068 + 16 * n, 16, 3, .ro, .nvm 0, true⟩
def Fld.LAYOUT_NOMATCH (n : Nat) : Fld := ⟨.LAYOUT, 0x068 + 16 * n, 24, 1, .ro, .num 0, false⟩
def Fld.LAYOUT_STAGED_ID_LO (n : Nat) : Fld := ⟨.LAYOUT, 0x06C + 16 * n, 0, 32, .ro, .num 0, false⟩
def Fld.LAYOUT_OEM_HASH (i : Nat) : Fld := ⟨.LAYOUT, 0x0C0 + 4 * i, 0, 32, .lrw, .num 0, false⟩
def Fld.LAYOUT_OEM_PROGRAM : Fld := ⟨.LAYOUT, 0x0E0, 0, 1, .cmd, .num 0, false⟩

/-- The fields of the LAYOUT block map. -/
def map_LAYOUT : List Fld :=
  [.LAYOUT_LOAD_OFS, .LAYOUT_LOAD_AREA, .LAYOUT_LOAD_DATA, .LAYOUT_LAY_STATE, .LAYOUT_FW_STATE,
    .LAYOUT_VERIFY, Fld.LAYOUT_VERIFY.abortLate, Fld.LAYOUT_VERIFY.outcome, .LAYOUT_VER_AREA,
    .LAYOUT_VERIFY_REASON, .LAYOUT_STAGE, Fld.LAYOUT_STAGE.abortLate, Fld.LAYOUT_STAGE.outcome,
    .LAYOUT_STG_MASK, .LAYOUT_APPLY, Fld.LAYOUT_APPLY.abortLate, Fld.LAYOUT_APPLY.outcome,
    .LAYOUT_APP_MASK, .LAYOUT_FW_ACTIVATE, Fld.LAYOUT_FW_ACTIVATE.abortLate,
    Fld.LAYOUT_FW_ACTIVATE.outcome, .LAYOUT_FW_CONFIRM, Fld.LAYOUT_FW_CONFIRM.abortLate,
    Fld.LAYOUT_FW_CONFIRM.outcome, .LAYOUT_FW_TRIAL, .LAYOUT_TRIAL, .LAYOUT_ROLLBACK_RAISE,
    Fld.LAYOUT_ROLLBACK_RAISE.abortLate, Fld.LAYOUT_ROLLBACK_RAISE.outcome, .LAYOUT_RB_COUNTER,
    .LAYOUT_OEM_SET, .LAYOUT_BUF_ID_LO, .LAYOUT_BUF_ID_HI, .LAYOUT_BUF_SVN, .LAYOUT_FW_SVN,
    .LAYOUT_FW_ID_LO, .LAYOUT_FW_ID_HI, .LAYOUT_OEM_PROGRAM, Fld.LAYOUT_OEM_PROGRAM.abortLate,
    Fld.LAYOUT_OEM_PROGRAM.outcome] ++
  (List.range 4).map Fld.LAYOUT_APPLIED_ID_LO ++
  (List.range 4).map Fld.LAYOUT_APPLIED_ID_HI ++
  (List.range 4).map Fld.LAYOUT_APPLIED_SVN ++
  (List.range 4).map Fld.LAYOUT_PHASE ++
  (List.range 4).map Fld.LAYOUT_NOMATCH ++
  (List.range 4).map Fld.LAYOUT_STAGED_ID_LO ++
  (List.range 8).map Fld.LAYOUT_OEM_HASH

/-! ### NVMC (R403 of 13_calibration_spares.md) -/

def Fld.NVMC_WP : Fld := ⟨.NVMC, 0x020, 0, 1, .ro, .strap, true⟩
def Fld.NVMC_CAL_DEFAULTS : Fld := ⟨.NVMC, 0x020, 1, 1, .ro, .nvm 0, false⟩
def Fld.NVMC_CAL_SRC : Fld := ⟨.NVMC, 0x020, 4, 2, .ro, .nvm 0, false⟩
def Fld.NVMC_CAL_GEN : Fld := ⟨.NVMC, 0x024, 0, 32, .ro, .nvm 1, false⟩
def Fld.NVMC_SAVE : Fld := ⟨.NVMC, 0x028, 0, 1, .cmd, .num 0, false⟩
def Fld.NVMC_SECT_LEFT : Fld := ⟨.NVMC, 0x02C, 0, 6, .ro, .nvm 32, false⟩
def Fld.NVMC_WRITING : Fld := ⟨.NVMC, 0x02C, 8, 1, .ro, .num 0, false⟩
def Fld.NVMC_ECC_CORR : Fld := ⟨.NVMC, 0x040, 0, 48, .snap, .num 0, false⟩
def Fld.NVMC_ECC_UNCORR : Fld := ⟨.NVMC, 0x048, 0, 48, .snap, .num 0, false⟩
def Fld.NVMC_SECT_REMAPS : Fld := ⟨.NVMC, 0x050, 0, 48, .snap, .num 0, false⟩
def Fld.NVMC_SNAP_CLR : Fld := ⟨.NVMC, 0x058, 0, 1, .cmd, .num 0, false⟩

/-- The fields of the NVMC block map. -/
def map_NVMC : List Fld :=
  [.NVMC_WP, .NVMC_CAL_DEFAULTS, .NVMC_CAL_SRC, .NVMC_CAL_GEN, .NVMC_SAVE, Fld.NVMC_SAVE.abortLate,
    Fld.NVMC_SAVE.outcome, .NVMC_SECT_LEFT, .NVMC_WRITING, .NVMC_ECC_CORR, .NVMC_ECC_UNCORR,
    .NVMC_SECT_REMAPS, .NVMC_SNAP_CLR, Fld.NVMC_SNAP_CLR.abortLate, Fld.NVMC_SNAP_CLR.outcome]

/-! ### POST (R75 of 02_chain_keeper.md) -/

def Fld.POST_CMD_PUT (m : Nat) : Fld := ⟨.POST, 0x020 + 16 * m, 0, 7, .lrw, .num 0, false⟩
def Fld.POST_CMD_GET (m : Nat) : Fld := ⟨.POST, 0x024 + 16 * m, 0, 7, .ro, .num 0, false⟩
def Fld.POST_EVT_PUT (m : Nat) : Fld := ⟨.POST, 0x028 + 16 * m, 0, 7, .ro, .num 0, false⟩
def Fld.POST_EVT_GET (m : Nat) : Fld := ⟨.POST, 0x02C + 16 * m, 0, 7, .lrw, .num 0, false⟩

/-- The fields of the POST block map. -/
def map_POST : List Fld :=
  (List.range 16).map Fld.POST_CMD_PUT ++
  (List.range 16).map Fld.POST_CMD_GET ++
  (List.range 16).map Fld.POST_EVT_PUT ++
  (List.range 16).map Fld.POST_EVT_GET

/-! ### TIME (R101 of 03_register_model.md) -/

def Fld.TIME_NOW_NS : Fld := ⟨.TIME, 0x020, 0, 30, .ro, .num 0, false⟩
def Fld.TIME_NOW_SEC_LO : Fld := ⟨.TIME, 0x024, 0, 32, .ro, .num 0, false⟩
def Fld.TIME_NOW_SEC_HI : Fld := ⟨.TIME, 0x028, 0, 16, .ro, .num 0, false⟩
def Fld.TIME_NOW_FRAC : Fld := ⟨.TIME, 0x02C, 0, 16, .ro, .num 0, false⟩
def Fld.TIME_SET_NS : Fld := ⟨.TIME, 0x030, 0, 30, .lrw, .num 0, false⟩
def Fld.TIME_SET_SEC_LO : Fld := ⟨.TIME, 0x034, 0, 32, .lrw, .num 0, false⟩
def Fld.TIME_SET_SEC_HI : Fld := ⟨.TIME, 0x038, 0, 16, .lrw, .num 0, false⟩
def Fld.TIME_SET : Fld := ⟨.TIME, 0x03C, 0, 1, .cmd, .num 0, false⟩
def Fld.TIME_STEP_NS : Fld := ⟨.TIME, 0x040, 0, 32, .lrw, .num 0, false⟩
def Fld.TIME_STEP : Fld := ⟨.TIME, 0x044, 0, 1, .cmd, .num 0, false⟩
def Fld.TIME_TIME_VALID : Fld := ⟨.TIME, 0x048, 0, 1, .ro, .num 0, false⟩
def Fld.TIME_TIME_SRC : Fld := ⟨.TIME, 0x048, 1, 1, .ro, .num 0, false⟩

/-- The fields of the TIME block map. -/
def map_TIME : List Fld :=
  [.TIME_NOW_NS, .TIME_NOW_SEC_LO, .TIME_NOW_SEC_HI, .TIME_NOW_FRAC, .TIME_SET_NS, .TIME_SET_SEC_LO,
    .TIME_SET_SEC_HI, .TIME_SET, Fld.TIME_SET.abortLate, Fld.TIME_SET.outcome, .TIME_STEP_NS, .TIME_STEP,
    Fld.TIME_STEP.abortLate, Fld.TIME_STEP.outcome, .TIME_TIME_VALID, .TIME_TIME_SRC]

/-! ### SPARE (R404 of 13_calibration_spares.md) -/

def Fld.SPARE_ENG_LEFT (n : Nat) : Fld := ⟨.SPARE, 0x020 + 4 * n, 0, 3, .ro, .nvm 4, false⟩
def Fld.SPARE_PIPE_LEFT (n : Nat) : Fld := ⟨.SPARE, 0x020 + 4 * n, 4, 1, .ro, .nvm 1, false⟩
def Fld.SPARE_DEC_LEFT (n : Nat) : Fld := ⟨.SPARE, 0x020 + 4 * n, 5, 1, .ro, .nvm 1, false⟩
def Fld.SPARE_ROWS_MIN (n : Nat) : Fld := ⟨.SPARE, 0x020 + 4 * n, 16, 7, .ro, .nvm 64, false⟩
def Fld.SPARE_SUBCONV_LEFT (p : Nat) : Fld := ⟨.SPARE, 0x030 + 4 * p, 0, 2, .ro, .nvm 2, false⟩
def Fld.SPARE_DRV_LEFT (p : Nat) : Fld := ⟨.SPARE, 0x030 + 4 * p, 4, 1, .ro, .nvm 1, false⟩
def Fld.SPARE_LPLL_LEFT : Fld := ⟨.SPARE, 0x050, 0, 1, .ro, .nvm 1, false⟩
def Fld.SPARE_BOSC_LEFT : Fld := ⟨.SPARE, 0x050, 1, 1, .ro, .nvm 1, false⟩
def Fld.SPARE_SECT_LEFT : Fld := ⟨.SPARE, 0x050, 8, 6, .ro, .nvm 32, false⟩
def Fld.SPARE_ALT_ROOT : Fld := ⟨.SPARE, 0x050, 16, 1, .ro, .num 0, false⟩
def Fld.SPARE_EOL_KIND : Fld := ⟨.SPARE, 0x054, 0, 4, .ro, .num 0, false⟩
def Fld.SPARE_SUBSTITUTIONS : Fld := ⟨.SPARE, 0x060, 0, 48, .snap, .num 0, false⟩
def Fld.SPARE_SNAP_CLR : Fld := ⟨.SPARE, 0x068, 0, 1, .cmd, .num 0, false⟩

/-- The fields of the SPARE block map. -/
def map_SPARE : List Fld :=
  [.SPARE_LPLL_LEFT, .SPARE_BOSC_LEFT, .SPARE_SECT_LEFT, .SPARE_ALT_ROOT, .SPARE_EOL_KIND,
    .SPARE_SUBSTITUTIONS, .SPARE_SNAP_CLR, Fld.SPARE_SNAP_CLR.abortLate, Fld.SPARE_SNAP_CLR.outcome] ++
  (List.range 4).map Fld.SPARE_ENG_LEFT ++
  (List.range 4).map Fld.SPARE_PIPE_LEFT ++
  (List.range 4).map Fld.SPARE_DEC_LEFT ++
  (List.range 4).map Fld.SPARE_ROWS_MIN ++
  (List.range 8).map Fld.SPARE_SUBCONV_LEFT ++
  (List.range 8).map Fld.SPARE_DRV_LEFT

/-! ### INJ (R419 of 14_faults.md) -/

def Fld.INJ_INJ_ARM : Fld := ⟨.INJ, 0x020, 0, 1, .lrw, .num 0, true⟩
def Fld.INJ_ALLOW_FATAL : Fld := ⟨.INJ, 0x020, 1, 1, .lrw, .num 0, true⟩
def Fld.INJ_ARM_TIME : Fld := ⟨.INJ, 0x020, 8, 8, .lrw, .num 60, false⟩
def Fld.INJ_ARM_LEFT : Fld := ⟨.INJ, 0x024, 0, 8, .ro, .num 0, false⟩
def Fld.INJ_LAST_BLOCK : Fld := ⟨.INJ, 0x028, 0, 24, .ro, .num 0, false⟩
def Fld.INJ_LAST_VALID : Fld := ⟨.INJ, 0x028, 31, 1, .ro, .num 0, false⟩
def Fld.INJ_INJECTED : Fld := ⟨.INJ, 0x040, 0, 48, .snap, .num 0, false⟩
def Fld.INJ_INJ_DISPLACED : Fld := ⟨.INJ, 0x048, 0, 48, .snap, .num 0, false⟩
def Fld.INJ_SNAP_CLR : Fld := ⟨.INJ, 0x060, 0, 1, .cmd, .num 0, false⟩

/-- The fields of the INJ block map. -/
def map_INJ : List Fld :=
  [.INJ_INJ_ARM, .INJ_ALLOW_FATAL, .INJ_ARM_TIME, .INJ_ARM_LEFT, .INJ_LAST_BLOCK, .INJ_LAST_VALID,
    .INJ_INJECTED, .INJ_INJ_DISPLACED, .INJ_SNAP_CLR, Fld.INJ_SNAP_CLR.abortLate, Fld.INJ_SNAP_CLR.outcome]

/-! ### BOOTF (R126 of 04_layout.md) -/

def Fld.BOOTF_SLOT_PREF : Fld := ⟨.BOOTF, 0x020, 0, 1, .lrw, .nvm 0, true⟩
def Fld.BOOTF_FW_SRC : Fld := ⟨.BOOTF, 0x024, 0, 2, .ro, .num 0, false⟩
def Fld.BOOTF_LAY_SRC : Fld := ⟨.BOOTF, 0x024, 8, 8, .ro, .num 0, false⟩
def Fld.BOOTF_FLASH_PROG : Fld := ⟨.BOOTF, 0x028, 0, 1, .cmd, .num 0, false⟩
def Fld.BOOTF_PROG_SLOT : Fld := ⟨.BOOTF, 0x028, 8, 1, .lrw, .num 0, false⟩
def Fld.BOOTF_PROG_AREA : Fld := ⟨.BOOTF, 0x028, 9, 1, .lrw, .num 0, false⟩
def Fld.BOOTF_FLASH_JEDEC_ID : Fld := ⟨.BOOTF, 0x02C, 0, 24, .ro, .num 0, false⟩
def Fld.BOOTF_BOOT_REJ : Fld := ⟨.BOOTF, 0x030, 0, 48, .snap, .num 0, false⟩
def Fld.BOOTF_SNAP_CLR : Fld := ⟨.BOOTF, 0x038, 0, 1, .cmd, .num 0, false⟩

/-- The fields of the BOOTF block map. -/
def map_BOOTF : List Fld :=
  [.BOOTF_SLOT_PREF, .BOOTF_FW_SRC, .BOOTF_LAY_SRC, .BOOTF_FLASH_PROG, Fld.BOOTF_FLASH_PROG.abortLate,
    Fld.BOOTF_FLASH_PROG.outcome, .BOOTF_PROG_SLOT, .BOOTF_PROG_AREA, .BOOTF_FLASH_JEDEC_ID,
    .BOOTF_BOOT_REJ, .BOOTF_SNAP_CLR, Fld.BOOTF_SNAP_CLR.abortLate, Fld.BOOTF_SNAP_CLR.outcome]

/-! ### TMRS (R102 of 03_register_model.md) -/

def Fld.TMRS_CORRECTED : Fld := ⟨.TMRS, 0x020, 0, 48, .snap, .num 0, false⟩
def Fld.TMRS_PASSES : Fld := ⟨.TMRS, 0x028, 0, 48, .snap, .num 0, false⟩
def Fld.TMRS_LAST_ADDR : Fld := ⟨.TMRS, 0x030, 0, 24, .ro, .num 0, false⟩
def Fld.TMRS_LAST_VALID : Fld := ⟨.TMRS, 0x030, 31, 1, .ro, .num 0, false⟩
def Fld.TMRS_SNAP_CLR : Fld := ⟨.TMRS, 0x034, 0, 1, .cmd, .num 0, false⟩

/-- The fields of the TMRS block map. -/
def map_TMRS : List Fld :=
  [.TMRS_CORRECTED, .TMRS_PASSES, .TMRS_LAST_ADDR, .TMRS_LAST_VALID, .TMRS_SNAP_CLR,
    Fld.TMRS_SNAP_CLR.abortLate, Fld.TMRS_SNAP_CLR.outcome]

/-! ### DEBUG (R383 of 12_reset_clock_power.md) -/

def Fld.DEBUG_DBG_RST_EN : Fld := ⟨.DEBUG, 0x020, 0, 1, .lrw, .num 0, true⟩
def Fld.DEBUG_DBG_SEAL : Fld := ⟨.DEBUG, 0x020, 1, 1, .wo1, .num 0, true⟩
def Fld.DEBUG_JTAG_IDCODE : Fld := ⟨.DEBUG, 0x024, 0, 32, .ro, .num 3089370423, false⟩
def Fld.DEBUG_TAP_RESET : Fld := ⟨.DEBUG, 0x028, 0, 1, .ro, .num 1, false⟩
def Fld.DEBUG_TAP_IR : Fld := ⟨.DEBUG, 0x028, 8, 8, .ro, .num 1, false⟩

/-- The fields of the DEBUG block map. -/
def map_DEBUG : List Fld :=
  [.DEBUG_DBG_RST_EN, .DEBUG_DBG_SEAL, .DEBUG_JTAG_IDCODE, .DEBUG_TAP_RESET, .DEBUG_TAP_IR]

/-! ### LODGE (R381 of 12_reset_clock_power.md) -/

def Fld.LODGE_RESET_COUNT : Fld := ⟨.LODGE, 0x020, 0, 32, .ro, .num 0, false⟩
def Fld.LODGE_CAUSE_NEWEST : Fld := ⟨.LODGE, 0x024, 0, 3, .ro, .num 0, false⟩
def Fld.LODGE_CAUSES_HELD : Fld := ⟨.LODGE, 0x024, 4, 4, .ro, .num 0, false⟩
def Fld.LODGE_CAUSE_IDX : Fld := ⟨.LODGE, 0x028, 0, 32, .idx, .num 2147483648, false⟩
def Fld.LODGE_CAUSE_DATA : Fld := ⟨.LODGE, 0x02C, 0, 32, .win, .num 0, false⟩
def Fld.LODGE_LOG_IDX : Fld := ⟨.LODGE, 0x030, 0, 32, .idx, .num 2147483648, false⟩
def Fld.LODGE_LOG_DATA : Fld := ⟨.LODGE, 0x034, 0, 32, .win, .num 0, false⟩
def Fld.LODGE_LOG_USED : Fld := ⟨.LODGE, 0x038, 0, 6, .ro, .num 0, false⟩
def Fld.LODGE_LOG_OVF : Fld := ⟨.LODGE, 0x038, 16, 16, .ro, .num 0, false⟩

/-- The fields of the LODGE block map. -/
def map_LODGE : List Fld :=
  [.LODGE_RESET_COUNT, .LODGE_CAUSE_NEWEST, .LODGE_CAUSES_HELD, .LODGE_CAUSE_IDX, .LODGE_CAUSE_DATA,
    .LODGE_LOG_IDX, .LODGE_LOG_DATA, .LODGE_LOG_USED, .LODGE_LOG_OVF]

end Sys2Proof.Machine
end

