-- ==== Sys2Proof/Machine/MapPav.lean ====
section
/-! DEFINITION. The register fields of every pavilion block, one constant per field of the block maps of spec/. -/

namespace Sys2Proof.Machine

/-! ### PAV_CTL (R31 of 01_architecture.md) -/

def Fld.PAV_CTL_ENABLED : Fld := ⟨.PAV_CTL, 0x020, 0, 1, .ro, .num 0, false⟩
def Fld.PAV_CTL_LOADING : Fld := ⟨.PAV_CTL, 0x020, 1, 1, .ro, .num 0, false⟩
def Fld.PAV_CTL_NO_IMAGE : Fld := ⟨.PAV_CTL, 0x020, 2, 1, .ro, .num 0, false⟩
def Fld.PAV_CTL_MODE_EVEN : Fld := ⟨.PAV_CTL, 0x024, 0, 3, .ro, .layout, false⟩
def Fld.PAV_CTL_MODE_ODD : Fld := ⟨.PAV_CTL, 0x024, 4, 3, .ro, .layout, false⟩
def Fld.PAV_CTL_EN_TIME : Fld := ⟨.PAV_CTL, 0x028, 0, 16, .ro, .num 0, false⟩
def Fld.PAV_CTL_ENABLES : Fld := ⟨.PAV_CTL, 0x040, 0, 48, .snap, .num 0, false⟩
def Fld.PAV_CTL_FAULT_DISABLES : Fld := ⟨.PAV_CTL, 0x048, 0, 48, .snap, .num 0, false⟩
def Fld.PAV_CTL_SNAP_CLR : Fld := ⟨.PAV_CTL, 0x060, 0, 1, .cmd, .num 0, false⟩

/-- The fields of the PAV_CTL block map. -/
def map_PAV_CTL : List Fld :=
  [.PAV_CTL_ENABLED, .PAV_CTL_LOADING, .PAV_CTL_NO_IMAGE, .PAV_CTL_MODE_EVEN, .PAV_CTL_MODE_ODD,
    .PAV_CTL_EN_TIME, .PAV_CTL_ENABLES, .PAV_CTL_FAULT_DISABLES, .PAV_CTL_SNAP_CLR,
    Fld.PAV_CTL_SNAP_CLR.abortLate, Fld.PAV_CTL_SNAP_CLR.outcome]

/-! ### DECPOOL (R265 of 08_coding_layby.md) -/

def Fld.DECPOOL_CORES_EVEN : Fld := ⟨.DECPOOL, 0x020, 0, 4, .ro, .layout, false⟩
def Fld.DECPOOL_CORES_ODD : Fld := ⟨.DECPOOL, 0x020, 8, 4, .ro, .layout, false⟩
def Fld.DECPOOL_CORES_IDLE : Fld := ⟨.DECPOOL, 0x020, 16, 4, .ro, .layout, false⟩
def Fld.DECPOOL_SPARE_READY : Fld := ⟨.DECPOOL, 0x020, 24, 1, .ro, .num 1, false⟩
def Fld.DECPOOL_CAPA_EVEN : Fld := ⟨.DECPOOL, 0x024, 0, 16, .ro, .num 0, false⟩
def Fld.DECPOOL_CAPA_ODD : Fld := ⟨.DECPOOL, 0x024, 16, 16, .ro, .num 0, false⟩
def Fld.DECPOOL_UTIL_EVEN : Fld := ⟨.DECPOOL, 0x028, 0, 7, .ro, .num 0, false⟩
def Fld.DECPOOL_UTIL_ODD : Fld := ⟨.DECPOOL, 0x028, 8, 7, .ro, .num 0, false⟩
def Fld.DECPOOL_CW_EVEN : Fld := ⟨.DECPOOL, 0x040, 0, 48, .snap, .num 0, false⟩
def Fld.DECPOOL_CW_ODD : Fld := ⟨.DECPOOL, 0x048, 0, 48, .snap, .num 0, false⟩
def Fld.DECPOOL_SELFTESTS : Fld := ⟨.DECPOOL, 0x050, 0, 48, .snap, .num 0, false⟩
def Fld.DECPOOL_SELFTEST_FAILS : Fld := ⟨.DECPOOL, 0x058, 0, 48, .snap, .num 0, false⟩
def Fld.DECPOOL_SNAP_CLR : Fld := ⟨.DECPOOL, 0x060, 0, 1, .cmd, .num 0, false⟩

/-- The fields of the DECPOOL block map. -/
def map_DECPOOL : List Fld :=
  [.DECPOOL_CORES_EVEN, .DECPOOL_CORES_ODD, .DECPOOL_CORES_IDLE, .DECPOOL_SPARE_READY, .DECPOOL_CAPA_EVEN,
    .DECPOOL_CAPA_ODD, .DECPOOL_UTIL_EVEN, .DECPOOL_UTIL_ODD, .DECPOOL_CW_EVEN, .DECPOOL_CW_ODD,
    .DECPOOL_SELFTESTS, .DECPOOL_SELFTEST_FAILS, .DECPOOL_SNAP_CLR, Fld.DECPOOL_SNAP_CLR.abortLate,
    Fld.DECPOOL_SNAP_CLR.outcome]

/-! ### ENGPOOL (R32 of 01_architecture.md) -/

def Fld.ENGPOOL_ENG_EVEN : Fld := ⟨.ENGPOOL, 0x020, 0, 6, .ro, .layout, false⟩
def Fld.ENGPOOL_ENG_ODD : Fld := ⟨.ENGPOOL, 0x020, 8, 6, .ro, .layout, false⟩
def Fld.ENGPOOL_ENG_IDLE : Fld := ⟨.ENGPOOL, 0x020, 16, 6, .ro, .layout, false⟩
def Fld.ENGPOOL_PIPES_EVEN : Fld := ⟨.ENGPOOL, 0x024, 0, 3, .ro, .layout, false⟩
def Fld.ENGPOOL_PIPES_ODD : Fld := ⟨.ENGPOOL, 0x024, 4, 3, .ro, .layout, false⟩
def Fld.ENGPOOL_PIPES_IDLE : Fld := ⟨.ENGPOOL, 0x024, 8, 3, .ro, .layout, false⟩
def Fld.ENGPOOL_PIPE_SPARE_READY : Fld := ⟨.ENGPOOL, 0x024, 16, 1, .ro, .num 1, false⟩
def Fld.ENGPOOL_ENG_UTIL_EVEN : Fld := ⟨.ENGPOOL, 0x028, 0, 7, .ro, .num 0, false⟩
def Fld.ENGPOOL_ENG_UTIL_ODD : Fld := ⟨.ENGPOOL, 0x028, 8, 7, .ro, .num 0, false⟩
def Fld.ENGPOOL_TRAIN_SLOWS : Fld := ⟨.ENGPOOL, 0x040, 0, 48, .snap, .num 0, false⟩
def Fld.ENGPOOL_SNAP_CLR : Fld := ⟨.ENGPOOL, 0x060, 0, 1, .cmd, .num 0, false⟩

/-- The fields of the ENGPOOL block map. -/
def map_ENGPOOL : List Fld :=
  [.ENGPOOL_ENG_EVEN, .ENGPOOL_ENG_ODD, .ENGPOOL_ENG_IDLE, .ENGPOOL_PIPES_EVEN, .ENGPOOL_PIPES_ODD,
    .ENGPOOL_PIPES_IDLE, .ENGPOOL_PIPE_SPARE_READY, .ENGPOOL_ENG_UTIL_EVEN, .ENGPOOL_ENG_UTIL_ODD,
    .ENGPOOL_TRAIN_SLOWS, .ENGPOOL_SNAP_CLR, Fld.ENGPOOL_SNAP_CLR.abortLate, Fld.ENGPOOL_SNAP_CLR.outcome]

/-! ### LAYBY (R267 of 08_coding_layby.md) -/

def Fld.LAYBY_SHARE_EVEN : Fld := ⟨.LAYBY, 0x020, 0, 14, .ro, .layout, false⟩
def Fld.LAYBY_SHARE_ODD : Fld := ⟨.LAYBY, 0x020, 16, 14, .ro, .layout, false⟩
def Fld.LAYBY_USED_EVEN : Fld := ⟨.LAYBY, 0x024, 0, 14, .ro, .num 0, false⟩
def Fld.LAYBY_USED_ODD : Fld := ⟨.LAYBY, 0x024, 16, 14, .ro, .num 0, false⟩
def Fld.LAYBY_PEAK_EVEN : Fld := ⟨.LAYBY, 0x028, 0, 14, .ro, .num 0, false⟩
def Fld.LAYBY_PEAK_ODD : Fld := ⟨.LAYBY, 0x028, 16, 14, .ro, .num 0, false⟩
def Fld.LAYBY_PEAK_CLR : Fld := ⟨.LAYBY, 0x02C, 0, 1, .cmd, .num 0, false⟩
def Fld.LAYBY_ECC_CORR : Fld := ⟨.LAYBY, 0x040, 0, 48, .snap, .num 0, false⟩
def Fld.LAYBY_ECC_UNCORR : Fld := ⟨.LAYBY, 0x048, 0, 48, .snap, .num 0, false⟩
def Fld.LAYBY_SNAP_CLR : Fld := ⟨.LAYBY, 0x060, 0, 1, .cmd, .num 0, false⟩

/-- The fields of the LAYBY block map. -/
def map_LAYBY : List Fld :=
  [.LAYBY_SHARE_EVEN, .LAYBY_SHARE_ODD, .LAYBY_USED_EVEN, .LAYBY_USED_ODD, .LAYBY_PEAK_EVEN,
    .LAYBY_PEAK_ODD, .LAYBY_PEAK_CLR, Fld.LAYBY_PEAK_CLR.abortLate, Fld.LAYBY_PEAK_CLR.outcome,
    .LAYBY_ECC_CORR, .LAYBY_ECC_UNCORR, .LAYBY_SNAP_CLR, Fld.LAYBY_SNAP_CLR.abortLate,
    Fld.LAYBY_SNAP_CLR.outcome]

/-! ### PAV_WEAR (R405 of 13_calibration_spares.md) -/

def Fld.PAV_WEAR_AUTO_SUB : Fld := ⟨.PAV_WEAR, 0x020, 0, 1, .lrw, .num 0, false⟩
def Fld.PAV_WEAR_DRIFT : Fld := ⟨.PAV_WEAR, 0x024, 0, 8, .ro, .num 0, false⟩
def Fld.PAV_WEAR_WEAR_GRADE : Fld := ⟨.PAV_WEAR, 0x024, 8, 2, .ro, .num 0, false⟩
def Fld.PAV_WEAR_TJ : Fld := ⟨.PAV_WEAR, 0x024, 16, 8, .ro, .num 0, false⟩
def Fld.PAV_WEAR_MARKED_ENG : Fld := ⟨.PAV_WEAR, 0x028, 0, 3, .ro, .nvm 0, false⟩
def Fld.PAV_WEAR_MARKED_PIPE : Fld := ⟨.PAV_WEAR, 0x028, 4, 1, .ro, .nvm 0, false⟩
def Fld.PAV_WEAR_MARKED_DEC : Fld := ⟨.PAV_WEAR, 0x028, 5, 1, .ro, .nvm 0, false⟩
def Fld.PAV_WEAR_MARKED_ROWS : Fld := ⟨.PAV_WEAR, 0x028, 8, 7, .ro, .nvm 0, false⟩
def Fld.PAV_WEAR_SELFTESTS : Fld := ⟨.PAV_WEAR, 0x040, 0, 48, .snap, .num 0, false⟩
def Fld.PAV_WEAR_SELFTEST_FAILS : Fld := ⟨.PAV_WEAR, 0x048, 0, 48, .snap, .num 0, false⟩
def Fld.PAV_WEAR_SUBS : Fld := ⟨.PAV_WEAR, 0x050, 0, 48, .snap, .num 0, false⟩
def Fld.PAV_WEAR_SNAP_CLR : Fld := ⟨.PAV_WEAR, 0x058, 0, 1, .cmd, .num 0, false⟩

/-- The fields of the PAV_WEAR block map. -/
def map_PAV_WEAR : List Fld :=
  [.PAV_WEAR_AUTO_SUB, .PAV_WEAR_DRIFT, .PAV_WEAR_WEAR_GRADE, .PAV_WEAR_TJ, .PAV_WEAR_MARKED_ENG,
    .PAV_WEAR_MARKED_PIPE, .PAV_WEAR_MARKED_DEC, .PAV_WEAR_MARKED_ROWS, .PAV_WEAR_SELFTESTS,
    .PAV_WEAR_SELFTEST_FAILS, .PAV_WEAR_SUBS, .PAV_WEAR_SNAP_CLR, Fld.PAV_WEAR_SNAP_CLR.abortLate,
    Fld.PAV_WEAR_SNAP_CLR.outcome]

end Sys2Proof.Machine
end

