-- ==== Sys2Proof/Machine/MapPort.lean ====
section
/-! DEFINITION. The register fields of every port block, one constant per field of the block maps of spec/. -/

namespace Sys2Proof.Machine

/-! ### PORT_CTL (R199 of 06_linkup.md) -/

def Fld.PORT_CTL_STATE : Fld := ⟨.PORT_CTL, 0x020, 0, 5, .ro, .num 0, false⟩
def Fld.PORT_CTL_ROLE : Fld := ⟨.PORT_CTL, 0x020, 8, 2, .ro, .num 0, false⟩
def Fld.PORT_CTL_MODE : Fld := ⟨.PORT_CTL, 0x020, 12, 3, .ro, .num 0, false⟩
def Fld.PORT_CTL_PROFILE : Fld := ⟨.PORT_CTL, 0x020, 16, 2, .ro, .num 0, false⟩
def Fld.PORT_CTL_PROF_VALID : Fld := ⟨.PORT_CTL, 0x020, 20, 1, .ro, .num 0, false⟩
def Fld.PORT_CTL_LINE_MODE : Fld := ⟨.PORT_CTL, 0x024, 0, 3, .ro, .layout, false⟩
def Fld.PORT_CTL_PERMIT : Fld := ⟨.PORT_CTL, 0x024, 4, 4, .ro, .layout, false⟩
def Fld.PORT_CTL_INIT_PROFILE : Fld := ⟨.PORT_CTL, 0x024, 8, 2, .ro, .layout, false⟩
def Fld.PORT_CTL_COMPAT_PERMIT : Fld := ⟨.PORT_CTL, 0x024, 12, 2, .ro, .layout, false⟩
def Fld.PORT_CTL_STG_PROFILE : Fld := ⟨.PORT_CTL, 0x028, 0, 2, .lrw, .num 0, false⟩
def Fld.PORT_CTL_STG_PSD : Fld := ⟨.PORT_CTL, 0x028, 4, 2, .lrw, .num 0, false⟩
def Fld.PORT_CTL_STG_NOTCH : Fld := ⟨.PORT_CTL, 0x028, 8, 2, .lrw, .num 0, false⟩
def Fld.PORT_CTL_STG_VALID : Fld := ⟨.PORT_CTL, 0x028, 16, 1, .ro, .num 0, false⟩
def Fld.PORT_CTL_RECONF_GO : Fld := ⟨.PORT_CTL, 0x02C, 0, 1, .cmd, .num 0, false⟩
def Fld.PORT_CTL_RETRAIN : Fld := ⟨.PORT_CTL, 0x02C, 8, 1, .cmd, .num 0, false⟩
def Fld.PORT_CTL_RETRAIN_FULL : Fld := ⟨.PORT_CTL, 0x02C, 16, 1, .lrw, .num 0, false⟩
def Fld.PORT_CTL_NAK_REASON : Fld := ⟨.PORT_CTL, 0x02C, 20, 4, .ro, .num 0, false⟩
def Fld.PORT_CTL_DOWN_CAUSE : Fld := ⟨.PORT_CTL, 0x030, 0, 5, .ro, .num 0, false⟩
def Fld.PORT_CTL_LINK_UPS : Fld := ⟨.PORT_CTL, 0x040, 0, 48, .snap, .num 0, false⟩
def Fld.PORT_CTL_FAST_RETRAINS : Fld := ⟨.PORT_CTL, 0x048, 0, 48, .snap, .num 0, false⟩
def Fld.PORT_CTL_FULL_RETRAINS : Fld := ⟨.PORT_CTL, 0x050, 0, 48, .snap, .num 0, false⟩
def Fld.PORT_CTL_RECONFS : Fld := ⟨.PORT_CTL, 0x058, 0, 48, .snap, .num 0, false⟩
def Fld.PORT_CTL_SNAP_CLR : Fld := ⟨.PORT_CTL, 0x060, 0, 1, .cmd, .num 0, false⟩

/-- The fields of the PORT_CTL block map. -/
def map_PORT_CTL : List Fld :=
  [.PORT_CTL_STATE, .PORT_CTL_ROLE, .PORT_CTL_MODE, .PORT_CTL_PROFILE, .PORT_CTL_PROF_VALID,
    .PORT_CTL_LINE_MODE, .PORT_CTL_PERMIT, .PORT_CTL_INIT_PROFILE, .PORT_CTL_COMPAT_PERMIT,
    .PORT_CTL_STG_PROFILE, .PORT_CTL_STG_PSD, .PORT_CTL_STG_NOTCH, .PORT_CTL_STG_VALID,
    .PORT_CTL_RECONF_GO, Fld.PORT_CTL_RECONF_GO.abortLate, Fld.PORT_CTL_RECONF_GO.outcome,
    .PORT_CTL_RETRAIN, Fld.PORT_CTL_RETRAIN.abortLate, Fld.PORT_CTL_RETRAIN.outcome,
    .PORT_CTL_RETRAIN_FULL, .PORT_CTL_NAK_REASON, .PORT_CTL_DOWN_CAUSE, .PORT_CTL_LINK_UPS,
    .PORT_CTL_FAST_RETRAINS, .PORT_CTL_FULL_RETRAINS, .PORT_CTL_RECONFS, .PORT_CTL_SNAP_CLR,
    Fld.PORT_CTL_SNAP_CLR.abortLate, Fld.PORT_CTL_SNAP_CLR.outcome]

/-! ### AFE (R226 of 07_echo_equalisation.md) -/

def Fld.AFE_RX_GAIN : Fld := ⟨.AFE, 0x020, 0, 5, .ro, .num 0, false⟩
def Fld.AFE_RX_GAIN_FORCE : Fld := ⟨.AFE, 0x020, 8, 5, .rw, .num 0, false⟩
def Fld.AFE_FORCE_GAIN : Fld := ⟨.AFE, 0x020, 15, 1, .rw, .num 0, false⟩
def Fld.AFE_HYB_R : Fld := ⟨.AFE, 0x024, 0, 6, .ro, .num 32, false⟩
def Fld.AFE_HYB_C : Fld := ⟨.AFE, 0x024, 8, 6, .ro, .num 32, false⟩
def Fld.AFE_HYB_VALID : Fld := ⟨.AFE, 0x024, 16, 1, .ro, .num 0, false⟩
def Fld.AFE_SUBCONV_ACTIVE : Fld := ⟨.AFE, 0x028, 0, 6, .ro, .num 32, false⟩
def Fld.AFE_SUBCONV_SPARE : Fld := ⟨.AFE, 0x028, 8, 6, .ro, .num 2, false⟩
def Fld.AFE_DRV_ACTIVE : Fld := ⟨.AFE, 0x028, 16, 4, .ro, .num 8, false⟩
def Fld.AFE_DRV_SPARE : Fld := ⟨.AFE, 0x028, 20, 4, .ro, .num 1, false⟩
def Fld.AFE_RX_POWER : Fld := ⟨.AFE, 0x02C, 0, 12, .ro, .num 0, false⟩
def Fld.AFE_CLIP_LIMIT : Fld := ⟨.AFE, 0x030, 0, 8, .rw, .num 4, false⟩
def Fld.AFE_ADC_CLIP : Fld := ⟨.AFE, 0x040, 0, 48, .snap, .num 0, false⟩
def Fld.AFE_CLIP_SYMS : Fld := ⟨.AFE, 0x048, 0, 48, .snap, .num 0, false⟩
def Fld.AFE_SNAP_CLR : Fld := ⟨.AFE, 0x060, 0, 1, .cmd, .num 0, false⟩

/-- The fields of the AFE block map. -/
def map_AFE : List Fld :=
  [.AFE_RX_GAIN, .AFE_RX_GAIN_FORCE, .AFE_FORCE_GAIN, .AFE_HYB_R, .AFE_HYB_C, .AFE_HYB_VALID,
    .AFE_SUBCONV_ACTIVE, .AFE_SUBCONV_SPARE, .AFE_DRV_ACTIVE, .AFE_DRV_SPARE, .AFE_RX_POWER,
    .AFE_CLIP_LIMIT, .AFE_ADC_CLIP, .AFE_CLIP_SYMS, .AFE_SNAP_CLR, Fld.AFE_SNAP_CLR.abortLate,
    Fld.AFE_SNAP_CLR.outcome]

/-! ### TXSH (R154 of 05_line_signal.md) -/

def Fld.TXSH_TX_ALLOW : Fld := ⟨.TXSH, 0x020, 0, 1, .lrw, .num 0, true⟩
def Fld.TXSH_MUTED : Fld := ⟨.TXSH, 0x020, 1, 1, .ro, .num 1, false⟩
def Fld.TXSH_PSD_SEL : Fld := ⟨.TXSH, 0x024, 0, 2, .rw, .num 0, true⟩
def Fld.TXSH_NOTCH_SEL : Fld := ⟨.TXSH, 0x024, 4, 2, .rw, .num 0, false⟩
def Fld.TXSH_PSD_ACT : Fld := ⟨.TXSH, 0x024, 8, 2, .ro, .num 0, true⟩
def Fld.TXSH_NOTCH_ACT : Fld := ⟨.TXSH, 0x024, 12, 2, .ro, .num 0, false⟩
def Fld.TXSH_PREF : Fld := ⟨.TXSH, 0x024, 16, 8, .ro, .num 0, false⟩
def Fld.TXSH_MASKS : Fld := ⟨.TXSH, 0x028, 0, 3, .ro, .layout, false⟩
def Fld.TXSH_NOTCH_SETS : Fld := ⟨.TXSH, 0x028, 4, 3, .ro, .layout, false⟩
def Fld.TXSH_PSD_IDX : Fld := ⟨.TXSH, 0x02C, 0, 32, .idx, .num 2147483648, false⟩
def Fld.TXSH_BP_TONE : Fld := ⟨.TXSH, 0x030, 0, 14, .win, .layout, false⟩
def Fld.TXSH_BP_LEVEL : Fld := ⟨.TXSH, 0x030, 16, 12, .win, .layout, false⟩
def Fld.TXSH_BP_VALID : Fld := ⟨.TXSH, 0x030, 31, 1, .win, .layout, false⟩
def Fld.TXSH_NOTCH_IDX : Fld := ⟨.TXSH, 0x034, 0, 32, .idx, .num 2147483648, false⟩
def Fld.TXSH_N_START : Fld := ⟨.TXSH, 0x038, 0, 14, .win, .layout, false⟩
def Fld.TXSH_N_WIDTH : Fld := ⟨.TXSH, 0x038, 16, 9, .win, .layout, false⟩
def Fld.TXSH_N_VALID : Fld := ⟨.TXSH, 0x038, 31, 1, .win, .layout, false⟩
def Fld.TXSH_CE_MIN : Fld := ⟨.TXSH, 0x03C, 0, 2, .rw, .num 0, false⟩
def Fld.TXSH_CE : Fld := ⟨.TXSH, 0x03C, 4, 2, .ro, .num 0, false⟩
def Fld.TXSH_SHORT : Fld := ⟨.TXSH, 0x03C, 8, 1, .ro, .num 0, false⟩
def Fld.TXSH_SHAPE (i : Nat) : Fld := ⟨.TXSH, 0x040 + 4 * i, 0, 16, .rw,
    .num (if i = 16 then 19628 else if i = 15 then 63198 else if i = 14 then 716 else 0), false⟩
def Fld.TXSH_LAUNCH : Fld := ⟨.TXSH, 0x090, 0, 12, .ro, .num 0, false⟩
def Fld.TXSH_SPREAD : Fld := ⟨.TXSH, 0x094, 0, 13, .ro, .num 0, false⟩
def Fld.TXSH_COVER : Fld := ⟨.TXSH, 0x094, 16, 13, .ro, .num 0, false⟩

/-- The fields of the TXSH block map. -/
def map_TXSH : List Fld :=
  [.TXSH_TX_ALLOW, .TXSH_MUTED, .TXSH_PSD_SEL, .TXSH_NOTCH_SEL, .TXSH_PSD_ACT, .TXSH_NOTCH_ACT, .TXSH_PREF,
    .TXSH_MASKS, .TXSH_NOTCH_SETS, .TXSH_PSD_IDX, .TXSH_BP_TONE, .TXSH_BP_LEVEL, .TXSH_BP_VALID,
    .TXSH_NOTCH_IDX, .TXSH_N_START, .TXSH_N_WIDTH, .TXSH_N_VALID, .TXSH_CE_MIN, .TXSH_CE, .TXSH_SHORT,
    .TXSH_LAUNCH, .TXSH_SPREAD, .TXSH_COVER] ++
  (List.range 17).map Fld.TXSH_SHAPE

/-! ### LINKUP (R200 of 06_linkup.md) -/

def Fld.LINKUP_ROLE_PRI : Fld := ⟨.LINKUP, 0x020, 0, 3, .rw, .num 4, false⟩
def Fld.LINKUP_WARM_EN : Fld := ⟨.LINKUP, 0x020, 4, 1, .rw, .num 1, false⟩
def Fld.LINKUP_FAST_EN : Fld := ⟨.LINKUP, 0x020, 5, 1, .rw, .num 1, false⟩
def Fld.LINKUP_SV_MON : Fld := ⟨.LINKUP, 0x020, 6, 1, .rw, .num 1, false⟩
def Fld.LINKUP_AN_EN : Fld := ⟨.LINKUP, 0x020, 7, 1, .rw, .num 1, false⟩
def Fld.LINKUP_FORCE_MODE : Fld := ⟨.LINKUP, 0x020, 8, 2, .rw, .num 0, false⟩
def Fld.LINKUP_FORCE_MASTER : Fld := ⟨.LINKUP, 0x020, 10, 1, .rw, .num 0, false⟩
def Fld.LINKUP_EEE_EN : Fld := ⟨.LINKUP, 0x020, 11, 1, .rw, .num 0, false⟩
def Fld.LINKUP_BAND_LO : Fld := ⟨.LINKUP, 0x024, 0, 14, .rw, .num 5, false⟩
def Fld.LINKUP_BAND_HI : Fld := ⟨.LINKUP, 0x024, 16, 14, .rw, .num 16383, false⟩
def Fld.LINKUP_HS_TIMEOUT : Fld := ⟨.LINKUP, 0x028, 0, 14, .rw, .num 1000, false⟩
def Fld.LINKUP_MARGIN_MIN : Fld := ⟨.LINKUP, 0x02C, 0, 12, .rw, .num 10, false⟩
def Fld.LINKUP_MARGIN_TIME : Fld := ⟨.LINKUP, 0x02C, 16, 12, .rw, .num 100, false⟩
def Fld.LINKUP_BITSWAP_EN : Fld := ⟨.LINKUP, 0x030, 0, 1, .lrw, .num 1, false⟩
def Fld.LINKUP_SWAP_LOW : Fld := ⟨.LINKUP, 0x030, 4, 8, .lrw, .num 30, false⟩
def Fld.LINKUP_SWAP_HIGH : Fld := ⟨.LINKUP, 0x030, 12, 8, .lrw, .num 90, false⟩
def Fld.LINKUP_TA : Fld := ⟨.LINKUP, 0x034, 0, 13, .ro, .num 0, false⟩
def Fld.LINKUP_TA_VALID : Fld := ⟨.LINKUP, 0x034, 16, 1, .ro, .num 0, false⟩
def Fld.LINKUP_ALIGN_ERR : Fld := ⟨.LINKUP, 0x038, 0, 16, .ro, .num 0, false⟩
def Fld.LINKUP_START_KIND : Fld := ⟨.LINKUP, 0x03C, 0, 2, .ro, .num 0, false⟩
def Fld.LINKUP_LINK_TIME : Fld := ⟨.LINKUP, 0x03C, 8, 24, .ro, .num 0, false⟩
def Fld.LINKUP_PARTNER_UID_LO : Fld := ⟨.LINKUP, 0x040, 0, 32, .ro, .num 0, false⟩
def Fld.LINKUP_PARTNER_UID_HI : Fld := ⟨.LINKUP, 0x044, 0, 32, .ro, .num 0, false⟩
def Fld.LINKUP_PARTNER_PORT : Fld := ⟨.LINKUP, 0x048, 0, 3, .ro, .num 0, false⟩
def Fld.LINKUP_PARTNER_PERMIT : Fld := ⟨.LINKUP, 0x048, 8, 4, .ro, .num 0, false⟩
def Fld.LINKUP_STORE_ID : Fld := ⟨.LINKUP, 0x04C, 0, 32, .ro, .num 0, false⟩
def Fld.LINKUP_STORED : Fld := ⟨.LINKUP, 0x050, 0, 1, .ro, .num 0, false⟩
def Fld.LINKUP_STORE_CLR : Fld := ⟨.LINKUP, 0x050, 8, 1, .cmd, .num 0, false⟩
def Fld.LINKUP_AN_DONE : Fld := ⟨.LINKUP, 0x054, 0, 1, .ro, .num 0, false⟩
def Fld.LINKUP_T1_RES : Fld := ⟨.LINKUP, 0x054, 1, 2, .ro, .num 0, false⟩
def Fld.LINKUP_T1_LINK : Fld := ⟨.LINKUP, 0x054, 3, 1, .ro, .num 0, false⟩
def Fld.LINKUP_EEE_ACTIVE : Fld := ⟨.LINKUP, 0x054, 4, 1, .ro, .num 0, false⟩
def Fld.LINKUP_CL45_REG : Fld := ⟨.LINKUP, 0x058, 0, 16, .lrw, .num 0, false⟩
def Fld.LINKUP_CL45_MMD : Fld := ⟨.LINKUP, 0x058, 16, 5, .lrw, .num 1, false⟩
def Fld.LINKUP_CL45_DATA : Fld := ⟨.LINKUP, 0x05C, 0, 16, .lrw, .num 0, false⟩
def Fld.LINKUP_CL45_ERR : Fld := ⟨.LINKUP, 0x05C, 31, 1, .ro, .num 0, false⟩
def Fld.LINKUP_DME_SEEN : Fld := ⟨.LINKUP, 0x060, 0, 48, .snap, .num 0, false⟩
def Fld.LINKUP_HS_STARTS : Fld := ⟨.LINKUP, 0x068, 0, 48, .snap, .num 0, false⟩
def Fld.LINKUP_WARM_REJ : Fld := ⟨.LINKUP, 0x070, 0, 48, .snap, .num 0, false⟩
def Fld.LINKUP_TA_ADJS : Fld := ⟨.LINKUP, 0x078, 0, 48, .snap, .num 0, false⟩
def Fld.LINKUP_SNAP_CLR : Fld := ⟨.LINKUP, 0x080, 0, 1, .cmd, .num 0, false⟩

/-- The fields of the LINKUP block map. -/
def map_LINKUP : List Fld :=
  [.LINKUP_ROLE_PRI, .LINKUP_WARM_EN, .LINKUP_FAST_EN, .LINKUP_SV_MON, .LINKUP_AN_EN, .LINKUP_FORCE_MODE,
    .LINKUP_FORCE_MASTER, .LINKUP_EEE_EN, .LINKUP_BAND_LO, .LINKUP_BAND_HI, .LINKUP_HS_TIMEOUT,
    .LINKUP_MARGIN_MIN, .LINKUP_MARGIN_TIME, .LINKUP_BITSWAP_EN, .LINKUP_SWAP_LOW, .LINKUP_SWAP_HIGH,
    .LINKUP_TA, .LINKUP_TA_VALID, .LINKUP_ALIGN_ERR, .LINKUP_START_KIND, .LINKUP_LINK_TIME,
    .LINKUP_PARTNER_UID_LO, .LINKUP_PARTNER_UID_HI, .LINKUP_PARTNER_PORT, .LINKUP_PARTNER_PERMIT,
    .LINKUP_STORE_ID, .LINKUP_STORED, .LINKUP_STORE_CLR, Fld.LINKUP_STORE_CLR.abortLate,
    Fld.LINKUP_STORE_CLR.outcome, .LINKUP_AN_DONE, .LINKUP_T1_RES, .LINKUP_T1_LINK, .LINKUP_EEE_ACTIVE,
    .LINKUP_CL45_REG, .LINKUP_CL45_MMD, .LINKUP_CL45_DATA, .LINKUP_CL45_ERR, .LINKUP_DME_SEEN,
    .LINKUP_HS_STARTS] ++
  [.LINKUP_WARM_REJ, .LINKUP_TA_ADJS, .LINKUP_SNAP_CLR, Fld.LINKUP_SNAP_CLR.abortLate,
    Fld.LINKUP_SNAP_CLR.outcome]

/-! ### TONES (R156 of 05_line_signal.md) -/

def Fld.TONES_TONE_IDX : Fld := ⟨.TONES, 0x020, 0, 32, .idx, .num 2147483648, false⟩
def Fld.TONES_BITS : Fld := ⟨.TONES, 0x024, 0, 4, .win, .num 0, false⟩
def Fld.TONES_GAIN : Fld := ⟨.TONES, 0x024, 4, 6, .win, .num 0, false⟩
def Fld.TONES_PILOT : Fld := ⟨.TONES, 0x024, 16, 1, .win, .num 0, false⟩
def Fld.TONES_NOTCHED : Fld := ⟨.TONES, 0x024, 17, 1, .win, .num 0, false⟩
def Fld.TONES_DISABLED : Fld := ⟨.TONES, 0x024, 18, 1, .win, .num 0, false⟩
def Fld.TONES_CANCEL : Fld := ⟨.TONES, 0x024, 19, 1, .win, .num 0, false⟩
def Fld.TONES_OH : Fld := ⟨.TONES, 0x024, 20, 1, .win, .num 0, false⟩
def Fld.TONES_BITS_TX : Fld := ⟨.TONES, 0x030, 0, 18, .ro, .num 0, false⟩
def Fld.TONES_BITS_RX : Fld := ⟨.TONES, 0x034, 0, 18, .ro, .num 0, false⟩
def Fld.TONES_LOADED_TX : Fld := ⟨.TONES, 0x038, 0, 15, .ro, .num 0, false⟩
def Fld.TONES_LOADED_RX : Fld := ⟨.TONES, 0x038, 16, 15, .ro, .num 0, false⟩
def Fld.TONES_PILOTS : Fld := ⟨.TONES, 0x03C, 0, 5, .ro, .num 0, false⟩
def Fld.TONES_TX_SYM_CNT : Fld := ⟨.TONES, 0x040, 0, 24, .ro, .num 0, false⟩
def Fld.TONES_TX_SF_CNT : Fld := ⟨.TONES, 0x044, 0, 32, .ro, .num 0, false⟩
def Fld.TONES_RX_SF_CNT : Fld := ⟨.TONES, 0x048, 0, 32, .ro, .num 0, false⟩
def Fld.TONES_TX_SW_SF : Fld := ⟨.TONES, 0x050, 0, 32, .ro, .num 0, false⟩
def Fld.TONES_RX_SW_SF : Fld := ⟨.TONES, 0x054, 0, 32, .ro, .num 0, false⟩
def Fld.TONES_TX_PENDING : Fld := ⟨.TONES, 0x058, 0, 1, .ro, .num 0, false⟩
def Fld.TONES_RX_PENDING : Fld := ⟨.TONES, 0x058, 1, 1, .ro, .num 0, false⟩
def Fld.TONES_OH_ERR : Fld := ⟨.TONES, 0x060, 0, 48, .snap, .num 0, false⟩
def Fld.TONES_SYNC_FLAG_MISS : Fld := ⟨.TONES, 0x068, 0, 48, .snap, .num 0, false⟩
def Fld.TONES_SYNC_FLAG_UNEXP : Fld := ⟨.TONES, 0x070, 0, 48, .snap, .num 0, false⟩
def Fld.TONES_SWITCHES : Fld := ⟨.TONES, 0x078, 0, 48, .snap, .num 0, false⟩
def Fld.TONES_SNAP_CLR : Fld := ⟨.TONES, 0x080, 0, 1, .cmd, .num 0, false⟩

/-- The fields of the TONES block map. -/
def map_TONES : List Fld :=
  [.TONES_TONE_IDX, .TONES_BITS, .TONES_GAIN, .TONES_PILOT, .TONES_NOTCHED, .TONES_DISABLED, .TONES_CANCEL,
    .TONES_OH, .TONES_BITS_TX, .TONES_BITS_RX, .TONES_LOADED_TX, .TONES_LOADED_RX, .TONES_PILOTS,
    .TONES_TX_SYM_CNT, .TONES_TX_SF_CNT, .TONES_RX_SF_CNT, .TONES_TX_SW_SF, .TONES_RX_SW_SF,
    .TONES_TX_PENDING, .TONES_RX_PENDING, .TONES_OH_ERR, .TONES_SYNC_FLAG_MISS, .TONES_SYNC_FLAG_UNEXP,
    .TONES_SWITCHES, .TONES_SNAP_CLR, Fld.TONES_SNAP_CLR.abortLate, Fld.TONES_SNAP_CLR.outcome]

/-! ### ECHO (R227 of 07_echo_equalisation.md) -/

def Fld.ECHO_ADAPT_EN : Fld := ⟨.ECHO, 0x020, 0, 1, .lrw, .num 1, false⟩
def Fld.ECHO_TD_EN : Fld := ⟨.ECHO, 0x020, 4, 1, .rw, .num 1, false⟩
def Fld.ECHO_MU_FAST : Fld := ⟨.ECHO, 0x020, 8, 4, .rw, .num 5, false⟩
def Fld.ECHO_MU_SLOW : Fld := ⟨.ECHO, 0x020, 12, 4, .rw, .num 8, false⟩
def Fld.ECHO_MU_SHOW : Fld := ⟨.ECHO, 0x020, 16, 4, .rw, .num 10, false⟩
def Fld.ECHO_ERLE_B1 : Fld := ⟨.ECHO, 0x024, 0, 12, .ro, .num 0, false⟩
def Fld.ECHO_ERLE_B2 : Fld := ⟨.ECHO, 0x024, 16, 12, .ro, .num 0, false⟩
def Fld.ECHO_ERLE_SHOW : Fld := ⟨.ECHO, 0x028, 0, 12, .ro, .num 0, false⟩
def Fld.ECHO_ERLE_WARN : Fld := ⟨.ECHO, 0x028, 16, 12, .lrw, .num 600, false⟩
def Fld.ECHO_PARTNER_ERLE : Fld := ⟨.ECHO, 0x02C, 0, 12, .ro, .num 0, false⟩
def Fld.ECHO_PARTNER_PASS : Fld := ⟨.ECHO, 0x02C, 16, 1, .ro, .num 0, false⟩
def Fld.ECHO_ECF_IDX : Fld := ⟨.ECHO, 0x030, 0, 32, .idx, .num 2147483648, false⟩
def Fld.ECHO_ECF_RE : Fld := ⟨.ECHO, 0x034, 16, 16, .win, .num 0, false⟩
def Fld.ECHO_ECF_IM : Fld := ⟨.ECHO, 0x034, 0, 16, .win, .num 0, false⟩
def Fld.ECHO_ECT_IDX : Fld := ⟨.ECHO, 0x038, 0, 32, .idx, .num 2147483648, false⟩
def Fld.ECHO_ECT_TAP : Fld := ⟨.ECHO, 0x03C, 0, 16, .win, .num 0, false⟩
def Fld.ECHO_ADAPT_SKIPS : Fld := ⟨.ECHO, 0x040, 0, 48, .snap, .num 0, false⟩
def Fld.ECHO_ECHO_FAILS : Fld := ⟨.ECHO, 0x048, 0, 48, .snap, .num 0, false⟩
def Fld.ECHO_SNAP_CLR : Fld := ⟨.ECHO, 0x060, 0, 1, .cmd, .num 0, false⟩

/-- The fields of the ECHO block map. -/
def map_ECHO : List Fld :=
  [.ECHO_ADAPT_EN, .ECHO_TD_EN, .ECHO_MU_FAST, .ECHO_MU_SLOW, .ECHO_MU_SHOW, .ECHO_ERLE_B1, .ECHO_ERLE_B2,
    .ECHO_ERLE_SHOW, .ECHO_ERLE_WARN, .ECHO_PARTNER_ERLE, .ECHO_PARTNER_PASS, .ECHO_ECF_IDX, .ECHO_ECF_RE,
    .ECHO_ECF_IM, .ECHO_ECT_IDX, .ECHO_ECT_TAP, .ECHO_ADAPT_SKIPS, .ECHO_ECHO_FAILS, .ECHO_SNAP_CLR,
    Fld.ECHO_SNAP_CLR.abortLate, Fld.ECHO_SNAP_CLR.outcome]

/-! ### EQ (R228 of 07_echo_equalisation.md) -/

def Fld.EQ_TEQ_FORCE : Fld := ⟨.EQ, 0x020, 0, 1, .rw, .num 0, false⟩
def Fld.EQ_TEQ_OFF : Fld := ⟨.EQ, 0x020, 1, 1, .rw, .num 0, false⟩
def Fld.EQ_TEQ_ACTIVE : Fld := ⟨.EQ, 0x020, 8, 1, .ro, .num 0, false⟩
def Fld.EQ_SPREAD_TEQ : Fld := ⟨.EQ, 0x020, 16, 13, .ro, .num 0, false⟩
def Fld.EQ_IMP_THR : Fld := ⟨.EQ, 0x024, 0, 8, .lrw, .num 120, false⟩
def Fld.EQ_IMP_FD_THR : Fld := ⟨.EQ, 0x024, 8, 8, .lrw, .num 100, false⟩
def Fld.EQ_ERASE_MAX : Fld := ⟨.EQ, 0x024, 16, 8, .lrw, .num 32, false⟩
def Fld.EQ_ERASE_EN : Fld := ⟨.EQ, 0x024, 24, 1, .lrw, .num 1, false⟩
def Fld.EQ_FOFS : Fld := ⟨.EQ, 0x028, 0, 16, .ro, .num 0, false⟩
def Fld.EQ_PHASE : Fld := ⟨.EQ, 0x028, 16, 16, .ro, .num 0, false⟩
def Fld.EQ_LINK_MARGIN : Fld := ⟨.EQ, 0x02C, 0, 12, .ro, .num 0, false⟩
def Fld.EQ_MIN_MARGIN : Fld := ⟨.EQ, 0x02C, 16, 12, .ro, .num 0, false⟩
def Fld.EQ_MARGIN_VALID : Fld := ⟨.EQ, 0x02C, 31, 1, .ro, .num 0, false⟩
def Fld.EQ_WORST_TONE : Fld := ⟨.EQ, 0x030, 0, 14, .ro, .num 0, false⟩
def Fld.EQ_FEQ_IDX : Fld := ⟨.EQ, 0x038, 0, 32, .idx, .num 2147483648, false⟩
def Fld.EQ_FEQ_RE : Fld := ⟨.EQ, 0x03C, 16, 16, .win, .num 0, false⟩
def Fld.EQ_FEQ_IM : Fld := ⟨.EQ, 0x03C, 0, 16, .win, .num 0, false⟩
def Fld.EQ_SNR_IDX : Fld := ⟨.EQ, 0x040, 0, 32, .idx, .num 2147483648, false⟩
def Fld.EQ_SNR : Fld := ⟨.EQ, 0x044, 0, 12, .win, .num 0, false⟩
def Fld.EQ_MARGIN : Fld := ⟨.EQ, 0x044, 16, 12, .win, .num 0, false⟩
def Fld.EQ_MEAS : Fld := ⟨.EQ, 0x044, 31, 1, .win, .num 0, false⟩
def Fld.EQ_TEQ_IDX : Fld := ⟨.EQ, 0x048, 0, 32, .idx, .num 2147483648, false⟩
def Fld.EQ_TEQ_TAP : Fld := ⟨.EQ, 0x04C, 0, 16, .win, .num 0, false⟩
def Fld.EQ_SLIPS : Fld := ⟨.EQ, 0x060, 0, 48, .snap, .num 0, false⟩
def Fld.EQ_IMP_SYMS : Fld := ⟨.EQ, 0x068, 0, 48, .snap, .num 0, false⟩
def Fld.EQ_IMP_EVENTS : Fld := ⟨.EQ, 0x070, 0, 48, .snap, .num 0, false⟩
def Fld.EQ_ERASED_CW : Fld := ⟨.EQ, 0x078, 0, 48, .snap, .num 0, false⟩
def Fld.EQ_SKIPPED_CW : Fld := ⟨.EQ, 0x080, 0, 48, .snap, .num 0, false⟩
def Fld.EQ_SNAP_CLR : Fld := ⟨.EQ, 0x090, 0, 1, .cmd, .num 0, false⟩

/-- The fields of the EQ block map. -/
def map_EQ : List Fld :=
  [.EQ_TEQ_FORCE, .EQ_TEQ_OFF, .EQ_TEQ_ACTIVE, .EQ_SPREAD_TEQ, .EQ_IMP_THR, .EQ_IMP_FD_THR, .EQ_ERASE_MAX,
    .EQ_ERASE_EN, .EQ_FOFS, .EQ_PHASE, .EQ_LINK_MARGIN, .EQ_MIN_MARGIN, .EQ_MARGIN_VALID, .EQ_WORST_TONE,
    .EQ_FEQ_IDX, .EQ_FEQ_RE, .EQ_FEQ_IM, .EQ_SNR_IDX, .EQ_SNR, .EQ_MARGIN, .EQ_MEAS, .EQ_TEQ_IDX,
    .EQ_TEQ_TAP, .EQ_SLIPS, .EQ_IMP_SYMS, .EQ_IMP_EVENTS, .EQ_ERASED_CW, .EQ_SKIPPED_CW, .EQ_SNAP_CLR,
    Fld.EQ_SNAP_CLR.abortLate, Fld.EQ_SNAP_CLR.outcome]

/-! ### FEC (R264 of 08_coding_layby.md) -/

def Fld.FEC_CODE_RATE : Fld := ⟨.FEC, 0x020, 0, 2, .ro, .num 3, false⟩
def Fld.FEC_MAXIT : Fld := ⟨.FEC, 0x020, 8, 5, .ro, .num 0, false⟩
def Fld.FEC_MAXIT_OVR : Fld := ⟨.FEC, 0x020, 16, 5, .rw, .num 0, false⟩
def Fld.FEC_OVERLOADED : Fld := ⟨.FEC, 0x020, 24, 1, .ro, .num 0, false⟩
def Fld.FEC_DQ_HIGH : Fld := ⟨.FEC, 0x024, 0, 9, .rw, .num 64, false⟩
def Fld.FEC_DQ_LOW : Fld := ⟨.FEC, 0x024, 16, 9, .rw, .num 16, false⟩
def Fld.FEC_DQ_FILL : Fld := ⟨.FEC, 0x028, 0, 9, .ro, .num 0, false⟩
def Fld.FEC_MEAN_IT : Fld := ⟨.FEC, 0x028, 16, 8, .ro, .num 0, false⟩
def Fld.FEC_CORES : Fld := ⟨.FEC, 0x02C, 0, 4, .ro, .layout, false⟩
def Fld.FEC_CW_TX : Fld := ⟨.FEC, 0x040, 0, 48, .snap, .num 0, false⟩
def Fld.FEC_CW_RX_OK : Fld := ⟨.FEC, 0x048, 0, 48, .snap, .num 0, false⟩
def Fld.FEC_CW_FAIL : Fld := ⟨.FEC, 0x050, 0, 48, .snap, .num 0, false⟩
def Fld.FEC_CRC_FAIL : Fld := ⟨.FEC, 0x058, 0, 48, .snap, .num 0, false⟩
def Fld.FEC_CW_IDLE_RX : Fld := ⟨.FEC, 0x060, 0, 48, .snap, .num 0, false⟩
def Fld.FEC_ITERATIONS : Fld := ⟨.FEC, 0x068, 0, 48, .snap, .num 0, false⟩
def Fld.FEC_OVERLOAD_CW : Fld := ⟨.FEC, 0x070, 0, 48, .snap, .num 0, false⟩
def Fld.FEC_DQ_OVF : Fld := ⟨.FEC, 0x078, 0, 48, .snap, .num 0, false⟩
def Fld.FEC_SNAP_CLR : Fld := ⟨.FEC, 0x080, 0, 1, .cmd, .num 0, false⟩

/-- The fields of the FEC block map. -/
def map_FEC : List Fld :=
  [.FEC_CODE_RATE, .FEC_MAXIT, .FEC_MAXIT_OVR, .FEC_OVERLOADED, .FEC_DQ_HIGH, .FEC_DQ_LOW, .FEC_DQ_FILL,
    .FEC_MEAN_IT, .FEC_CORES, .FEC_CW_TX, .FEC_CW_RX_OK, .FEC_CW_FAIL, .FEC_CRC_FAIL, .FEC_CW_IDLE_RX,
    .FEC_ITERATIONS, .FEC_OVERLOAD_CW, .FEC_DQ_OVF, .FEC_SNAP_CLR, Fld.FEC_SNAP_CLR.abortLate,
    Fld.FEC_SNAP_CLR.outcome]

/-! ### LAYBY_P (R268 of 08_coding_layby.md) -/

def Fld.LAYBY_P_IMP_HOLD_EN : Fld := ⟨.LAYBY_P, 0x020, 0, 1, .lrw, .num 1, false⟩
def Fld.LAYBY_P_IMP_HOLD_MAX : Fld := ⟨.LAYBY_P, 0x020, 4, 8, .lrw, .num 40, false⟩
def Fld.LAYBY_P_IN_HOLD : Fld := ⟨.LAYBY_P, 0x020, 16, 1, .ro, .num 0, false⟩
def Fld.LAYBY_P_L : Fld := ⟨.LAYBY_P, 0x024, 0, 4, .ro, .num 0, false⟩
def Fld.LAYBY_P_RT_SYM : Fld := ⟨.LAYBY_P, 0x024, 8, 4, .ro, .num 0, false⟩
def Fld.LAYBY_P_TAIL_GAP : Fld := ⟨.LAYBY_P, 0x024, 16, 8, .lrw, .num 8, false⟩
def Fld.LAYBY_P_GAP_LIMIT : Fld := ⟨.LAYBY_P, 0x028, 0, 16, .lrw, .num 700, false⟩
def Fld.LAYBY_P_HELD_TX : Fld := ⟨.LAYBY_P, 0x02C, 0, 14, .ro, .num 0, false⟩
def Fld.LAYBY_P_HELD_RX : Fld := ⟨.LAYBY_P, 0x02C, 16, 14, .ro, .num 0, false⟩
def Fld.LAYBY_P_SHARE : Fld := ⟨.LAYBY_P, 0x030, 0, 14, .ro, .layout, false⟩
def Fld.LAYBY_P_FREE_POOL : Fld := ⟨.LAYBY_P, 0x030, 16, 14, .ro, .num 0, false⟩
def Fld.LAYBY_P_NOTICE_PEND : Fld := ⟨.LAYBY_P, 0x034, 0, 11, .ro, .num 0, false⟩
def Fld.LAYBY_P_TX_NEXT (c : Nat) : Fld := ⟨.LAYBY_P, 0x040 + 4 * c, 0, 16, .ro, .num 0, false⟩
def Fld.LAYBY_P_TX_ACK (c : Nat) : Fld := ⟨.LAYBY_P, 0x040 + 4 * c, 16, 16, .ro, .num 0, false⟩
def Fld.LAYBY_P_RX_A (c : Nat) : Fld := ⟨.LAYBY_P, 0x060 + 4 * c, 0, 16, .ro, .num 0, false⟩
def Fld.LAYBY_P_RX_HIGH (c : Nat) : Fld := ⟨.LAYBY_P, 0x060 + 4 * c, 16, 16, .ro, .num 0, false⟩
def Fld.LAYBY_P_RESENDS : Fld := ⟨.LAYBY_P, 0x080, 0, 48, .snap, .num 0, false⟩
def Fld.LAYBY_P_IMP_RESENDS : Fld := ⟨.LAYBY_P, 0x088, 0, 48, .snap, .num 0, false⟩
def Fld.LAYBY_P_TAIL_RESENDS : Fld := ⟨.LAYBY_P, 0x090, 0, 48, .snap, .num 0, false⟩
def Fld.LAYBY_P_GIVEUP_TRIES : Fld := ⟨.LAYBY_P, 0x098, 0, 48, .snap, .num 0, false⟩
def Fld.LAYBY_P_GIVEUP_DEADLINE : Fld := ⟨.LAYBY_P, 0x0A0, 0, 48, .snap, .num 0, false⟩
def Fld.LAYBY_P_NOTICES_TX : Fld := ⟨.LAYBY_P, 0x0A8, 0, 48, .snap, .num 0, false⟩
def Fld.LAYBY_P_NOTICE_RX : Fld := ⟨.LAYBY_P, 0x0B0, 0, 48, .snap, .num 0, false⟩
def Fld.LAYBY_P_RX_NOSLOT : Fld := ⟨.LAYBY_P, 0x0B8, 0, 48, .snap, .num 0, false⟩
def Fld.LAYBY_P_RX_DUP : Fld := ⟨.LAYBY_P, 0x0C0, 0, 48, .snap, .num 0, false⟩
def Fld.LAYBY_P_HOLDS : Fld := ⟨.LAYBY_P, 0x0C8, 0, 48, .snap, .num 0, false⟩
def Fld.LAYBY_P_GAP_TIMEOUTS : Fld := ⟨.LAYBY_P, 0x0D0, 0, 48, .snap, .num 0, false⟩
def Fld.LAYBY_P_NOTICE_OVF : Fld := ⟨.LAYBY_P, 0x0D8, 0, 48, .snap, .num 0, false⟩
def Fld.LAYBY_P_SNAP_CLR : Fld := ⟨.LAYBY_P, 0x0E0, 0, 1, .cmd, .num 0, false⟩

/-- The fields of the LAYBY_P block map. -/
def map_LAYBY_P : List Fld :=
  [.LAYBY_P_IMP_HOLD_EN, .LAYBY_P_IMP_HOLD_MAX, .LAYBY_P_IN_HOLD, .LAYBY_P_L, .LAYBY_P_RT_SYM,
    .LAYBY_P_TAIL_GAP, .LAYBY_P_GAP_LIMIT, .LAYBY_P_HELD_TX, .LAYBY_P_HELD_RX, .LAYBY_P_SHARE,
    .LAYBY_P_FREE_POOL, .LAYBY_P_NOTICE_PEND, .LAYBY_P_RESENDS, .LAYBY_P_IMP_RESENDS,
    .LAYBY_P_TAIL_RESENDS, .LAYBY_P_GIVEUP_TRIES, .LAYBY_P_GIVEUP_DEADLINE, .LAYBY_P_NOTICES_TX,
    .LAYBY_P_NOTICE_RX, .LAYBY_P_RX_NOSLOT, .LAYBY_P_RX_DUP, .LAYBY_P_HOLDS, .LAYBY_P_GAP_TIMEOUTS,
    .LAYBY_P_NOTICE_OVF, .LAYBY_P_SNAP_CLR, Fld.LAYBY_P_SNAP_CLR.abortLate, Fld.LAYBY_P_SNAP_CLR.outcome] ++
  (List.range 8).map Fld.LAYBY_P_TX_NEXT ++
  (List.range 8).map Fld.LAYBY_P_TX_ACK ++
  (List.range 8).map Fld.LAYBY_P_RX_A ++
  (List.range 8).map Fld.LAYBY_P_RX_HIGH

/-! ### STREAM (R269 of 08_coding_layby.md) -/

def Fld.STREAM_CLS_MODE : Fld := ⟨.STREAM, 0x020, 0, 1, .ro, .layout, false⟩
def Fld.STREAM_DEFAULT_STREAM : Fld := ⟨.STREAM, 0x020, 16, 12, .ro, .layout, false⟩
def Fld.STREAM_MISS_STREAM : Fld := ⟨.STREAM, 0x024, 0, 12, .ro, .layout, false⟩
def Fld.STREAM_TS_STREAM : Fld := ⟨.STREAM, 0x024, 16, 12, .ro, .layout, false⟩
def Fld.STREAM_SEED : Fld := ⟨.STREAM, 0x028, 0, 32, .ro, .layout, false⟩
def Fld.STREAM_XOFF_LVL : Fld := ⟨.STREAM, 0x02C, 0, 16, .lrw, .num 8192, false⟩
def Fld.STREAM_XON_LVL : Fld := ⟨.STREAM, 0x02C, 16, 16, .lrw, .num 4096, false⟩
def Fld.STREAM_PRESSURE : Fld := ⟨.STREAM, 0x030, 0, 8, .ro, .num 0, false⟩
def Fld.STREAM_STREAM_IDX : Fld := ⟨.STREAM, 0x034, 0, 32, .idx, .num 2147483648, false⟩
def Fld.STREAM_STREAM_DATA : Fld := ⟨.STREAM, 0x038, 0, 32, .win, .num 0, false⟩
def Fld.STREAM_MATCH_IDX : Fld := ⟨.STREAM, 0x03C, 0, 32, .idx, .num 2147483648, false⟩
def Fld.STREAM_MATCH_DATA : Fld := ⟨.STREAM, 0x040, 0, 32, .win, .layout, false⟩
def Fld.STREAM_GUAR_SUM : Fld := ⟨.STREAM, 0x044, 0, 14, .ro, .num 0, false⟩
def Fld.STREAM_QFILL (c : Nat) : Fld := ⟨.STREAM, 0x060 + 4 * c, 0, 16, .ro, .num 0, false⟩
def Fld.STREAM_TAILDROP : Fld := ⟨.STREAM, 0x080, 0, 48, .snap, .num 0, false⟩
def Fld.STREAM_OFF_DROP : Fld := ⟨.STREAM, 0x088, 0, 48, .snap, .num 0, false⟩
def Fld.STREAM_SIZE_DROP : Fld := ⟨.STREAM, 0x090, 0, 48, .snap, .num 0, false⟩
def Fld.STREAM_FIXED_DROP : Fld := ⟨.STREAM, 0x098, 0, 48, .snap, .num 0, false⟩
def Fld.STREAM_GUAR_REFUSALS : Fld := ⟨.STREAM, 0x0A0, 0, 48, .snap, .num 0, false⟩
def Fld.STREAM_FR_EXP_TX : Fld := ⟨.STREAM, 0x0A8, 0, 48, .snap, .num 0, false⟩
def Fld.STREAM_FR_EXP_RX : Fld := ⟨.STREAM, 0x0B0, 0, 48, .snap, .num 0, false⟩
def Fld.STREAM_LATE_NOTICE : Fld := ⟨.STREAM, 0x0B8, 0, 48, .snap, .num 0, false⟩
def Fld.STREAM_SNAP_CLR : Fld := ⟨.STREAM, 0x0C0, 0, 1, .cmd, .num 0, false⟩

/-- The fields of the STREAM block map. -/
def map_STREAM : List Fld :=
  [.STREAM_CLS_MODE, .STREAM_DEFAULT_STREAM, .STREAM_MISS_STREAM, .STREAM_TS_STREAM, .STREAM_SEED,
    .STREAM_XOFF_LVL, .STREAM_XON_LVL, .STREAM_PRESSURE, .STREAM_STREAM_IDX, .STREAM_STREAM_DATA,
    .STREAM_MATCH_IDX, .STREAM_MATCH_DATA, .STREAM_GUAR_SUM, .STREAM_TAILDROP, .STREAM_OFF_DROP,
    .STREAM_SIZE_DROP, .STREAM_FIXED_DROP, .STREAM_GUAR_REFUSALS, .STREAM_FR_EXP_TX, .STREAM_FR_EXP_RX,
    .STREAM_LATE_NOTICE, .STREAM_SNAP_CLR, Fld.STREAM_SNAP_CLR.abortLate, Fld.STREAM_SNAP_CLR.outcome] ++
  (List.range 8).map Fld.STREAM_QFILL

/-! ### BURST (R306 of 09_spur_mode.md) -/

def Fld.BURST_DET_THR : Fld := ⟨.BURST, 0x020, 0, 8, .rw, .num 196, false⟩
def Fld.BURST_QUAL : Fld := ⟨.BURST, 0x020, 8, 8, .rw, .num 154, false⟩
def Fld.BURST_CAPTURE_DB : Fld := ⟨.BURST, 0x020, 16, 5, .rw, .num 10, false⟩
def Fld.BURST_TERM : Fld := ⟨.BURST, 0x020, 24, 1, .rw, .num 0, false⟩
def Fld.BURST_FROZEN_LVL : Fld := ⟨.BURST, 0x024, 0, 12, .ro, .num 0, false⟩
def Fld.BURST_SYNC_LVL : Fld := ⟨.BURST, 0x024, 16, 12, .ro, .num 0, false⟩
def Fld.BURST_AFC : Fld := ⟨.BURST, 0x028, 0, 16, .ro, .num 0, false⟩
def Fld.BURST_LAST_SENDER : Fld := ⟨.BURST, 0x02C, 0, 4, .ro, .num 0, false⟩
def Fld.BURST_LAST_DEST : Fld := ⟨.BURST, 0x02C, 8, 5, .ro, .num 0, false⟩
def Fld.BURST_LAST_LEN : Fld := ⟨.BURST, 0x02C, 16, 5, .ro, .num 0, false⟩
def Fld.BURST_LAST_KIND : Fld := ⟨.BURST, 0x02C, 24, 3, .ro, .num 0, false⟩
def Fld.BURST_LAST_VALID : Fld := ⟨.BURST, 0x02C, 31, 1, .ro, .num 0, false⟩
def Fld.BURST_HDR_TONES : Fld := ⟨.BURST, 0x030, 0, 13, .ro, .num 0, false⟩
def Fld.BURST_HDR_COPIES : Fld := ⟨.BURST, 0x030, 16, 4, .ro, .num 0, false⟩
def Fld.BURST_SPT_IDX : Fld := ⟨.BURST, 0x034, 0, 32, .idx, .num 2147483648, false⟩
def Fld.BURST_SPT_DATA : Fld := ⟨.BURST, 0x038, 0, 32, .win, .num 0, false⟩
def Fld.BURST_BURSTS_TX : Fld := ⟨.BURST, 0x040, 0, 48, .snap, .num 0, false⟩
def Fld.BURST_BURSTS_RX : Fld := ⟨.BURST, 0x048, 0, 48, .snap, .num 0, false⟩
def Fld.BURST_DETECTS : Fld := ⟨.BURST, 0x050, 0, 48, .snap, .num 0, false⟩
def Fld.BURST_FALSE_DETECT : Fld := ⟨.BURST, 0x058, 0, 48, .snap, .num 0, false⟩
def Fld.BURST_LATE_START_LOSS : Fld := ⟨.BURST, 0x060, 0, 48, .snap, .num 0, false⟩
def Fld.BURST_CAPTURED : Fld := ⟨.BURST, 0x068, 0, 48, .snap, .num 0, false⟩
def Fld.BURST_SCHEDULE_VIOLATION : Fld := ⟨.BURST, 0x070, 0, 48, .snap, .num 0, false⟩
def Fld.BURST_HDR_ERR : Fld := ⟨.BURST, 0x078, 0, 48, .snap, .num 0, false⟩
def Fld.BURST_GEN_MISS : Fld := ⟨.BURST, 0x080, 0, 48, .snap, .num 0, false⟩
def Fld.BURST_SNAP_CLR : Fld := ⟨.BURST, 0x090, 0, 1, .cmd, .num 0, false⟩

/-- The fields of the BURST block map. -/
def map_BURST : List Fld :=
  [.BURST_DET_THR, .BURST_QUAL, .BURST_CAPTURE_DB, .BURST_TERM, .BURST_FROZEN_LVL, .BURST_SYNC_LVL,
    .BURST_AFC, .BURST_LAST_SENDER, .BURST_LAST_DEST, .BURST_LAST_LEN, .BURST_LAST_KIND, .BURST_LAST_VALID,
    .BURST_HDR_TONES, .BURST_HDR_COPIES, .BURST_SPT_IDX, .BURST_SPT_DATA, .BURST_BURSTS_TX,
    .BURST_BURSTS_RX, .BURST_DETECTS, .BURST_FALSE_DETECT, .BURST_LATE_START_LOSS, .BURST_CAPTURED,
    .BURST_SCHEDULE_VIOLATION, .BURST_HDR_ERR, .BURST_GEN_MISS, .BURST_SNAP_CLR,
    Fld.BURST_SNAP_CLR.abortLate, Fld.BURST_SNAP_CLR.outcome]

/-! ### ROUNDABOUT (R308 of 09_spur_mode.md) -/

def Fld.ROUNDABOUT_NODE_ID : Fld := ⟨.ROUNDABOUT, 0x020, 0, 4, .rw, .num 1, false⟩
def Fld.ROUNDABOUT_CYCLE : Fld := ⟨.ROUNDABOUT, 0x020, 16, 13, .rw, .num 1000, false⟩
def Fld.ROUNDABOUT_SP_RATE : Fld := ⟨.ROUNDABOUT, 0x024, 0, 2, .rw, .num 1, false⟩
def Fld.ROUNDABOUT_SP_MARGIN : Fld := ⟨.ROUNDABOUT, 0x024, 4, 8, .rw, .num 60, false⟩
def Fld.ROUNDABOUT_MISS_LIMIT : Fld := ⟨.ROUNDABOUT, 0x024, 16, 4, .rw, .num 8, false⟩
def Fld.ROUNDABOUT_KNOCK_MAX : Fld := ⟨.ROUNDABOUT, 0x024, 24, 5, .rw, .num 16, false⟩
def Fld.ROUNDABOUT_CYCLE_ACT : Fld := ⟨.ROUNDABOUT, 0x028, 0, 13, .ro, .num 0, false⟩
def Fld.ROUNDABOUT_SLOTS : Fld := ⟨.ROUNDABOUT, 0x028, 16, 9, .ro, .num 0, false⟩
def Fld.ROUNDABOUT_MEMBERS : Fld := ⟨.ROUNDABOUT, 0x02C, 0, 16, .ro, .num 0, false⟩
def Fld.ROUNDABOUT_COMMON_GEN : Fld := ⟨.ROUNDABOUT, 0x030, 0, 8, .ro, .num 0, false⟩
def Fld.ROUNDABOUT_GRANT_FIX (n : Nat) : Fld := ⟨.ROUNDABOUT, 0x040 + 4 * n, 0, 5, .lrw, .num 0, false⟩
def Fld.ROUNDABOUT_PARTNER_IDX : Fld := ⟨.ROUNDABOUT, 0x080, 0, 32, .idx, .num 2147483648, false⟩
def Fld.ROUNDABOUT_PARTNER_DATA : Fld := ⟨.ROUNDABOUT, 0x084, 0, 32, .win, .num 0, false⟩
def Fld.ROUNDABOUT_PMS_IDX : Fld := ⟨.ROUNDABOUT, 0x088, 0, 32, .idx, .num 2147483648, false⟩
def Fld.ROUNDABOUT_PMS_DATA : Fld := ⟨.ROUNDABOUT, 0x08C, 0, 32, .win, .num 0, false⟩
def Fld.ROUNDABOUT_NOISE_IDX : Fld := ⟨.ROUNDABOUT, 0x090, 0, 32, .idx, .num 2147483648, false⟩
def Fld.ROUNDABOUT_NOISE_DATA : Fld := ⟨.ROUNDABOUT, 0x094, 0, 32, .win, .num 0, false⟩
def Fld.ROUNDABOUT_SDEST_IDX : Fld := ⟨.ROUNDABOUT, 0x098, 0, 32, .idx, .num 2147483648, false⟩
def Fld.ROUNDABOUT_SDEST_DATA : Fld := ⟨.ROUNDABOUT, 0x09C, 0, 32, .win, .layout, false⟩
def Fld.ROUNDABOUT_CYCLES : Fld := ⟨.ROUNDABOUT, 0x0A0, 0, 48, .snap, .num 0, false⟩
def Fld.ROUNDABOUT_SCHED_LOST : Fld := ⟨.ROUNDABOUT, 0x0A8, 0, 48, .snap, .num 0, false⟩
def Fld.ROUNDABOUT_KNOCKS_TX : Fld := ⟨.ROUNDABOUT, 0x0B0, 0, 48, .snap, .num 0, false⟩
def Fld.ROUNDABOUT_KNOCKS_RX : Fld := ⟨.ROUNDABOUT, 0x0B8, 0, 48, .snap, .num 0, false⟩
def Fld.ROUNDABOUT_JOINS : Fld := ⟨.ROUNDABOUT, 0x0C0, 0, 48, .snap, .num 0, false⟩
def Fld.ROUNDABOUT_DROPS : Fld := ⟨.ROUNDABOUT, 0x0C8, 0, 48, .snap, .num 0, false⟩
def Fld.ROUNDABOUT_IDLE_SLOTS : Fld := ⟨.ROUNDABOUT, 0x0D0, 0, 48, .snap, .num 0, false⟩
def Fld.ROUNDABOUT_GRANT_MISSES : Fld := ⟨.ROUNDABOUT, 0x0D8, 0, 48, .snap, .num 0, false⟩
def Fld.ROUNDABOUT_SNAP_CLR : Fld := ⟨.ROUNDABOUT, 0x0E0, 0, 1, .cmd, .num 0, false⟩

/-- The fields of the ROUNDABOUT block map. -/
def map_ROUNDABOUT : List Fld :=
  [.ROUNDABOUT_NODE_ID, .ROUNDABOUT_CYCLE, .ROUNDABOUT_SP_RATE, .ROUNDABOUT_SP_MARGIN,
    .ROUNDABOUT_MISS_LIMIT, .ROUNDABOUT_KNOCK_MAX, .ROUNDABOUT_CYCLE_ACT, .ROUNDABOUT_SLOTS,
    .ROUNDABOUT_MEMBERS, .ROUNDABOUT_COMMON_GEN, .ROUNDABOUT_PARTNER_IDX, .ROUNDABOUT_PARTNER_DATA,
    .ROUNDABOUT_PMS_IDX, .ROUNDABOUT_PMS_DATA, .ROUNDABOUT_NOISE_IDX, .ROUNDABOUT_NOISE_DATA,
    .ROUNDABOUT_SDEST_IDX, .ROUNDABOUT_SDEST_DATA, .ROUNDABOUT_CYCLES, .ROUNDABOUT_SCHED_LOST,
    .ROUNDABOUT_KNOCKS_TX, .ROUNDABOUT_KNOCKS_RX, .ROUNDABOUT_JOINS, .ROUNDABOUT_DROPS,
    .ROUNDABOUT_IDLE_SLOTS, .ROUNDABOUT_GRANT_MISSES, .ROUNDABOUT_SNAP_CLR,
    Fld.ROUNDABOUT_SNAP_CLR.abortLate, Fld.ROUNDABOUT_SNAP_CLR.outcome] ++
  (List.range 16).map Fld.ROUNDABOUT_GRANT_FIX

/-! ### WATCH (R336 of 10_link_watch.md) -/

def Fld.WATCH_WATCH_INT : Fld := ⟨.WATCH, 0x020, 0, 16, .lrw, .num 1000, false⟩
def Fld.WATCH_LPI_EN : Fld := ⟨.WATCH, 0x020, 16, 1, .lrw, .num 1, false⟩
def Fld.WATCH_PRED_EN : Fld := ⟨.WATCH, 0x020, 17, 1, .lrw, .num 0, false⟩
def Fld.WATCH_PRED_RETRAIN_EN : Fld := ⟨.WATCH, 0x020, 18, 1, .lrw, .num 0, false⟩
def Fld.WATCH_GRADE : Fld := ⟨.WATCH, 0x024, 0, 3, .ro, .num 0, false⟩
def Fld.WATCH_GRADE_WARN : Fld := ⟨.WATCH, 0x024, 4, 3, .lrw, .num 3, false⟩
def Fld.WATCH_GRADE_VALID : Fld := ⟨.WATCH, 0x024, 8, 1, .ro, .num 0, false⟩
def Fld.WATCH_G_MARGIN : Fld := ⟨.WATCH, 0x024, 12, 3, .ro, .num 0, false⟩
def Fld.WATCH_G_ERR : Fld := ⟨.WATCH, 0x024, 16, 3, .ro, .num 0, false⟩
def Fld.WATCH_G_DROP : Fld := ⟨.WATCH, 0x024, 20, 3, .ro, .num 0, false⟩
def Fld.WATCH_INT_MARGIN_MIN : Fld := ⟨.WATCH, 0x028, 0, 12, .ro, .num 0, false⟩
def Fld.WATCH_INT_MARGIN_END : Fld := ⟨.WATCH, 0x028, 16, 12, .ro, .num 0, false⟩
def Fld.WATCH_INT_LONG : Fld := ⟨.WATCH, 0x028, 28, 1, .ro, .num 0, false⟩
def Fld.WATCH_INT_CW : Fld := ⟨.WATCH, 0x02C, 0, 32, .ro, .num 0, false⟩
def Fld.WATCH_INT_FAIL : Fld := ⟨.WATCH, 0x030, 0, 32, .ro, .num 0, false⟩
def Fld.WATCH_INT_SENT : Fld := ⟨.WATCH, 0x034, 0, 32, .ro, .num 0, false⟩
def Fld.WATCH_INT_RESENDS : Fld := ⟨.WATCH, 0x038, 0, 32, .ro, .num 0, false⟩
def Fld.WATCH_INT_EXP_TX : Fld := ⟨.WATCH, 0x03C, 0, 16, .ro, .num 0, false⟩
def Fld.WATCH_INT_EXP_RX : Fld := ⟨.WATCH, 0x03C, 16, 16, .ro, .num 0, false⟩
def Fld.WATCH_TREND : Fld := ⟨.WATCH, 0x040, 0, 16, .ro, .num 0, false⟩
def Fld.WATCH_TREND_VALID : Fld := ⟨.WATCH, 0x040, 16, 1, .ro, .num 0, false⟩
def Fld.WATCH_PRED_HORIZON : Fld := ⟨.WATCH, 0x040, 24, 8, .lrw, .num 10, false⟩
def Fld.WATCH_PRED_HOLDOFF : Fld := ⟨.WATCH, 0x044, 0, 8, .lrw, .num 10, false⟩
def Fld.WATCH_PROJ_MARGIN : Fld := ⟨.WATCH, 0x044, 16, 12, .ro, .num 0, false⟩
def Fld.WATCH_WAKE_THR : Fld := ⟨.WATCH, 0x048, 0, 8, .rw, .num 206, false⟩
def Fld.WATCH_WAKE_QUAL : Fld := ⟨.WATCH, 0x048, 8, 8, .rw, .num 154, false⟩
def Fld.WATCH_IMP_MAX : Fld := ⟨.WATCH, 0x04C, 0, 32, .ro, .num 0, false⟩
def Fld.WATCH_IMP_BIN0 : Fld := ⟨.WATCH, 0x060, 0, 48, .snap, .num 0, false⟩
def Fld.WATCH_IMP_BIN1 : Fld := ⟨.WATCH, 0x068, 0, 48, .snap, .num 0, false⟩
def Fld.WATCH_IMP_BIN2 : Fld := ⟨.WATCH, 0x070, 0, 48, .snap, .num 0, false⟩
def Fld.WATCH_IMP_BIN3 : Fld := ⟨.WATCH, 0x078, 0, 48, .snap, .num 0, false⟩
def Fld.WATCH_IMP_BIN4 : Fld := ⟨.WATCH, 0x080, 0, 48, .snap, .num 0, false⟩
def Fld.WATCH_LPI_ENTRIES : Fld := ⟨.WATCH, 0x088, 0, 48, .snap, .num 0, false⟩
def Fld.WATCH_WAKES_TX : Fld := ⟨.WATCH, 0x090, 0, 48, .snap, .num 0, false⟩
def Fld.WATCH_WAKES_RX : Fld := ⟨.WATCH, 0x098, 0, 48, .snap, .num 0, false⟩
def Fld.WATCH_WAKE_FALSE : Fld := ⟨.WATCH, 0x0A0, 0, 48, .snap, .num 0, false⟩
def Fld.WATCH_LPI_MISMATCH : Fld := ⟨.WATCH, 0x0A8, 0, 48, .snap, .num 0, false⟩
def Fld.WATCH_QUIET_SF : Fld := ⟨.WATCH, 0x0B0, 0, 48, .snap, .num 0, false⟩
def Fld.WATCH_PRED_RETRAINS : Fld := ⟨.WATCH, 0x0B8, 0, 48, .snap, .num 0, false⟩
def Fld.WATCH_SNAP_CLR : Fld := ⟨.WATCH, 0x0C0, 0, 1, .cmd, .num 0, false⟩

/-- The fields of the WATCH block map. -/
def map_WATCH : List Fld :=
  [.WATCH_WATCH_INT, .WATCH_LPI_EN, .WATCH_PRED_EN, .WATCH_PRED_RETRAIN_EN, .WATCH_GRADE,
    .WATCH_GRADE_WARN, .WATCH_GRADE_VALID, .WATCH_G_MARGIN, .WATCH_G_ERR, .WATCH_G_DROP,
    .WATCH_INT_MARGIN_MIN, .WATCH_INT_MARGIN_END, .WATCH_INT_LONG, .WATCH_INT_CW, .WATCH_INT_FAIL,
    .WATCH_INT_SENT, .WATCH_INT_RESENDS, .WATCH_INT_EXP_TX, .WATCH_INT_EXP_RX, .WATCH_TREND,
    .WATCH_TREND_VALID, .WATCH_PRED_HORIZON, .WATCH_PRED_HOLDOFF, .WATCH_PROJ_MARGIN, .WATCH_WAKE_THR,
    .WATCH_WAKE_QUAL, .WATCH_IMP_MAX, .WATCH_IMP_BIN0, .WATCH_IMP_BIN1, .WATCH_IMP_BIN2, .WATCH_IMP_BIN3,
    .WATCH_IMP_BIN4, .WATCH_LPI_ENTRIES, .WATCH_WAKES_TX, .WATCH_WAKES_RX, .WATCH_WAKE_FALSE,
    .WATCH_LPI_MISMATCH, .WATCH_QUIET_SF, .WATCH_PRED_RETRAINS, .WATCH_SNAP_CLR] ++
  [Fld.WATCH_SNAP_CLR.abortLate, Fld.WATCH_SNAP_CLR.outcome]

/-! ### DIAG (R337 of 10_link_watch.md) -/

def Fld.DIAG_TDR_RUN : Fld := ⟨.DIAG, 0x020, 0, 1, .cmd, .num 0, false⟩
def Fld.DIAG_TDR_SWEEPS : Fld := ⟨.DIAG, 0x020, 8, 8, .lrw, .num 64, false⟩
def Fld.DIAG_VF : Fld := ⟨.DIAG, 0x024, 0, 10, .lrw, .num 680, false⟩
def Fld.DIAG_TDR_THR : Fld := ⟨.DIAG, 0x024, 16, 10, .lrw, .num 100, false⟩
def Fld.DIAG_TDR_EVENTS : Fld := ⟨.DIAG, 0x028, 0, 4, .ro, .num 0, false⟩
def Fld.DIAG_TDR_VALID : Fld := ⟨.DIAG, 0x028, 8, 1, .ro, .num 0, false⟩
def Fld.DIAG_TDR_IDX : Fld := ⟨.DIAG, 0x030, 0, 32, .idx, .num 2147483648, false⟩
def Fld.DIAG_TDR_DATA : Fld := ⟨.DIAG, 0x034, 0, 32, .win, .num 0, false⟩
def Fld.DIAG_IL_IDX : Fld := ⟨.DIAG, 0x038, 0, 32, .idx, .num 2147483648, false⟩
def Fld.DIAG_IL_DATA : Fld := ⟨.DIAG, 0x03C, 0, 32, .win, .num 0, false⟩
def Fld.DIAG_TDR_RUNS : Fld := ⟨.DIAG, 0x060, 0, 48, .snap, .num 0, false⟩
def Fld.DIAG_TDR_UNFITS : Fld := ⟨.DIAG, 0x068, 0, 48, .snap, .num 0, false⟩
def Fld.DIAG_SNAP_CLR : Fld := ⟨.DIAG, 0x070, 0, 1, .cmd, .num 0, false⟩

/-- The fields of the DIAG block map. -/
def map_DIAG : List Fld :=
  [.DIAG_TDR_RUN, Fld.DIAG_TDR_RUN.abortLate, Fld.DIAG_TDR_RUN.outcome, .DIAG_TDR_SWEEPS, .DIAG_VF,
    .DIAG_TDR_THR, .DIAG_TDR_EVENTS, .DIAG_TDR_VALID, .DIAG_TDR_IDX, .DIAG_TDR_DATA, .DIAG_IL_IDX,
    .DIAG_IL_DATA, .DIAG_TDR_RUNS, .DIAG_TDR_UNFITS, .DIAG_SNAP_CLR, Fld.DIAG_SNAP_CLR.abortLate,
    Fld.DIAG_SNAP_CLR.outcome]

/-! ### SURVEY (R338 of 10_link_watch.md) -/

def Fld.SURVEY_SV_THR : Fld := ⟨.SURVEY, 0x020, 0, 10, .lrw, .num 20, false⟩
def Fld.SURVEY_SV_PERSIST : Fld := ⟨.SURVEY, 0x020, 16, 4, .lrw, .num 3, false⟩
def Fld.SURVEY_SV_AVG : Fld := ⟨.SURVEY, 0x020, 24, 4, .lrw, .num 8, false⟩
def Fld.SURVEY_SV_START : Fld := ⟨.SURVEY, 0x024, 0, 8, .lrw, .num 4, false⟩
def Fld.SURVEY_SV_END : Fld := ⟨.SURVEY, 0x024, 8, 8, .lrw, .num 255, false⟩
def Fld.SURVEY_SV_PERIOD : Fld := ⟨.SURVEY, 0x028, 0, 16, .lrw, .num 1000, false⟩
def Fld.SURVEY_SV_BASE_SAVE : Fld := ⟨.SURVEY, 0x02C, 0, 1, .cmd, .num 0, false⟩
def Fld.SURVEY_BASE_VALID : Fld := ⟨.SURVEY, 0x030, 0, 1, .ro, .nvm 0, false⟩
def Fld.SURVEY_BASE_VF : Fld := ⟨.SURVEY, 0x030, 4, 10, .ro, .nvm 0, false⟩
def Fld.SURVEY_BASE_GEN : Fld := ⟨.SURVEY, 0x030, 16, 16, .ro, .nvm 0, false⟩
def Fld.SURVEY_METRIC : Fld := ⟨.SURVEY, 0x034, 0, 10, .ro, .num 0, false⟩
def Fld.SURVEY_RUN : Fld := ⟨.SURVEY, 0x034, 12, 4, .ro, .num 0, false⟩
def Fld.SURVEY_LAST_BIN : Fld := ⟨.SURVEY, 0x034, 16, 8, .ro, .num 0, false⟩
def Fld.SURVEY_CUR_SRC : Fld := ⟨.SURVEY, 0x034, 24, 1, .ro, .num 0, false⟩
def Fld.SURVEY_PARTNER_MON : Fld := ⟨.SURVEY, 0x034, 28, 1, .ro, .num 0, false⟩
def Fld.SURVEY_PROF_IDX : Fld := ⟨.SURVEY, 0x038, 0, 32, .idx, .num 2147483648, false⟩
def Fld.SURVEY_PROF_DATA : Fld := ⟨.SURVEY, 0x03C, 0, 32, .win, .num 0, false⟩
def Fld.SURVEY_PROFILES : Fld := ⟨.SURVEY, 0x060, 0, 48, .snap, .num 0, false⟩
def Fld.SURVEY_SV_EVENTS : Fld := ⟨.SURVEY, 0x068, 0, 48, .snap, .num 0, false⟩
def Fld.SURVEY_SNAP_CLR : Fld := ⟨.SURVEY, 0x070, 0, 1, .cmd, .num 0, false⟩

/-- The fields of the SURVEY block map. -/
def map_SURVEY : List Fld :=
  [.SURVEY_SV_THR, .SURVEY_SV_PERSIST, .SURVEY_SV_AVG, .SURVEY_SV_START, .SURVEY_SV_END, .SURVEY_SV_PERIOD,
    .SURVEY_SV_BASE_SAVE, Fld.SURVEY_SV_BASE_SAVE.abortLate, Fld.SURVEY_SV_BASE_SAVE.outcome,
    .SURVEY_BASE_VALID, .SURVEY_BASE_VF, .SURVEY_BASE_GEN, .SURVEY_METRIC, .SURVEY_RUN, .SURVEY_LAST_BIN,
    .SURVEY_CUR_SRC, .SURVEY_PARTNER_MON, .SURVEY_PROF_IDX, .SURVEY_PROF_DATA, .SURVEY_PROFILES,
    .SURVEY_SV_EVENTS, .SURVEY_SNAP_CLR, Fld.SURVEY_SNAP_CLR.abortLate, Fld.SURVEY_SNAP_CLR.outcome]

/-! ### HOST (R351 of 11_host_side.md) -/

def Fld.HOST_HOST_RATE : Fld := ⟨.HOST, 0x020, 0, 3, .ro, .layout, false⟩
def Fld.HOST_FEC_EN : Fld := ⟨.HOST, 0x020, 4, 1, .rw, .num 0, false⟩
def Fld.HOST_POL_TX : Fld := ⟨.HOST, 0x020, 5, 1, .rw, .num 0, false⟩
def Fld.HOST_POL_RX : Fld := ⟨.HOST, 0x020, 6, 1, .rw, .num 0, false⟩
def Fld.HOST_HOST_UP : Fld := ⟨.HOST, 0x020, 8, 1, .ro, .num 0, false⟩
def Fld.HOST_PFC_EN : Fld := ⟨.HOST, 0x024, 0, 1, .rw, .num 1, false⟩
def Fld.HOST_PAUSE_EN : Fld := ⟨.HOST, 0x024, 1, 1, .rw, .num 0, false⟩
def Fld.HOST_RX_FC_EN : Fld := ⟨.HOST, 0x024, 2, 1, .rw, .num 1, false⟩
def Fld.HOST_IB_EN : Fld := ⟨.HOST, 0x024, 3, 1, .rw, .num 1, false⟩
def Fld.HOST_PAUSE_QUANTA : Fld := ⟨.HOST, 0x028, 0, 16, .rw, .num 65535, false⟩
def Fld.HOST_REFRESH : Fld := ⟨.HOST, 0x028, 16, 16, .rw, .num 200, false⟩
def Fld.HOST_SRC_MAC_HI : Fld := ⟨.HOST, 0x02C, 0, 32, .rw, .num 0, false⟩
def Fld.HOST_SRC_MAC_LO : Fld := ⟨.HOST, 0x030, 0, 16, .rw, .num 0, false⟩
def Fld.HOST_LB_MODE : Fld := ⟨.HOST, 0x034, 0, 3, .lrw, .num 0, false⟩
def Fld.HOST_LB_ACTIVE : Fld := ⟨.HOST, 0x034, 4, 3, .ro, .num 0, false⟩
def Fld.HOST_PAUSED : Fld := ⟨.HOST, 0x038, 0, 8, .ro, .num 0, false⟩
def Fld.HOST_FCS_ERR : Fld := ⟨.HOST, 0x040, 0, 48, .snap, .num 0, false⟩
def Fld.HOST_LANE_DROP : Fld := ⟨.HOST, 0x048, 0, 48, .snap, .num 0, false⟩
def Fld.HOST_CTRL_RX : Fld := ⟨.HOST, 0x050, 0, 48, .snap, .num 0, false⟩
def Fld.HOST_PFC_TX : Fld := ⟨.HOST, 0x058, 0, 48, .snap, .num 0, false⟩
def Fld.HOST_PAUSE_TX : Fld := ⟨.HOST, 0x060, 0, 48, .snap, .num 0, false⟩
def Fld.HOST_IB_RX : Fld := ⟨.HOST, 0x068, 0, 48, .snap, .num 0, false⟩
def Fld.HOST_IB_ERR : Fld := ⟨.HOST, 0x070, 0, 48, .snap, .num 0, false⟩
def Fld.HOST_LB_DROP : Fld := ⟨.HOST, 0x078, 0, 48, .snap, .num 0, false⟩
def Fld.HOST_RSFEC_CORR : Fld := ⟨.HOST, 0x080, 0, 48, .snap, .num 0, false⟩
def Fld.HOST_RSFEC_UNCORR : Fld := ⟨.HOST, 0x088, 0, 48, .snap, .num 0, false⟩
def Fld.HOST_SNAP_CLR : Fld := ⟨.HOST, 0x090, 0, 1, .cmd, .num 0, false⟩

/-- The fields of the HOST block map. (DESIGN CHOICE, log 126) -/
def map_HOST : List Fld :=
  [.HOST_HOST_RATE, .HOST_FEC_EN, .HOST_POL_TX, .HOST_POL_RX, .HOST_HOST_UP, .HOST_PFC_EN, .HOST_PAUSE_EN,
    .HOST_RX_FC_EN, .HOST_IB_EN, .HOST_PAUSE_QUANTA, .HOST_REFRESH, .HOST_SRC_MAC_HI, .HOST_SRC_MAC_LO,
    .HOST_LB_MODE, .HOST_LB_ACTIVE, .HOST_PAUSED, .HOST_FCS_ERR, .HOST_LANE_DROP, .HOST_CTRL_RX,
    .HOST_PFC_TX, .HOST_PAUSE_TX, .HOST_IB_RX, .HOST_IB_ERR, .HOST_LB_DROP, .HOST_RSFEC_CORR,
    .HOST_RSFEC_UNCORR, .HOST_SNAP_CLR, Fld.HOST_SNAP_CLR.abortLate, Fld.HOST_SNAP_CLR.outcome]

/-! ### TSU (R352 of 11_host_side.md) -/

def Fld.TSU_SEL_STREAM : Fld := ⟨.TSU, 0x020, 0, 12, .rw, .num 0, false⟩
def Fld.TSU_SEL_EN : Fld := ⟨.TSU, 0x020, 16, 1, .rw, .num 0, false⟩
def Fld.TSU_TX_FILL : Fld := ⟨.TSU, 0x024, 0, 7, .ro, .num 0, false⟩
def Fld.TSU_RX_FILL : Fld := ⟨.TSU, 0x024, 16, 7, .ro, .num 0, false⟩
def Fld.TSU_TX_TS (i : Nat) : Fld := ⟨.TSU, 0x030 + 4 * i, 0, 32, .ro, .num 0, false⟩
def Fld.TSU_TX_POP : Fld := ⟨.TSU, 0x040, 0, 1, .cmd, .num 0, false⟩
def Fld.TSU_RX_TS (i : Nat) : Fld := ⟨.TSU, 0x050 + 4 * i, 0, 32, .ro, .num 0, false⟩
def Fld.TSU_RX_POP : Fld := ⟨.TSU, 0x060, 0, 1, .cmd, .num 0, false⟩
def Fld.TSU_TX_TS_OVF : Fld := ⟨.TSU, 0x070, 0, 48, .snap, .num 0, false⟩
def Fld.TSU_RX_TS_OVF : Fld := ⟨.TSU, 0x078, 0, 48, .snap, .num 0, false⟩
def Fld.TSU_SNAP_CLR : Fld := ⟨.TSU, 0x080, 0, 1, .cmd, .num 0, false⟩

/-- The fields of the TSU block map. -/
def map_TSU : List Fld :=
  [.TSU_SEL_STREAM, .TSU_SEL_EN, .TSU_TX_FILL, .TSU_RX_FILL, .TSU_TX_POP, Fld.TSU_TX_POP.abortLate,
    Fld.TSU_TX_POP.outcome, .TSU_RX_POP, Fld.TSU_RX_POP.abortLate, Fld.TSU_RX_POP.outcome, .TSU_TX_TS_OVF,
    .TSU_RX_TS_OVF, .TSU_SNAP_CLR, Fld.TSU_SNAP_CLR.abortLate, Fld.TSU_SNAP_CLR.outcome] ++
  (List.range 4).map Fld.TSU_TX_TS ++
  (List.range 4).map Fld.TSU_RX_TS

/-! ### STATS (R353 of 11_host_side.md) -/

def Fld.STATS_TX_FRAMES : Fld := ⟨.STATS, 0x040, 0, 48, .snap, .num 0, false⟩
def Fld.STATS_TX_OCTETS : Fld := ⟨.STATS, 0x048, 0, 48, .snap, .num 0, false⟩
def Fld.STATS_RX_FRAMES : Fld := ⟨.STATS, 0x050, 0, 48, .snap, .num 0, false⟩
def Fld.STATS_RX_OCTETS : Fld := ⟨.STATS, 0x058, 0, 48, .snap, .num 0, false⟩
def Fld.STATS_RX_64 : Fld := ⟨.STATS, 0x060, 0, 48, .snap, .num 0, false⟩
def Fld.STATS_RX_65_255 : Fld := ⟨.STATS, 0x068, 0, 48, .snap, .num 0, false⟩
def Fld.STATS_RX_256_1023 : Fld := ⟨.STATS, 0x070, 0, 48, .snap, .num 0, false⟩
def Fld.STATS_RX_1024_1518 : Fld := ⟨.STATS, 0x078, 0, 48, .snap, .num 0, false⟩
def Fld.STATS_RX_1519_16000 : Fld := ⟨.STATS, 0x080, 0, 48, .snap, .num 0, false⟩
def Fld.STATS_SNAP_CLR : Fld := ⟨.STATS, 0x090, 0, 1, .cmd, .num 0, false⟩

/-- The fields of the STATS block map. -/
def map_STATS : List Fld :=
  [.STATS_TX_FRAMES, .STATS_TX_OCTETS, .STATS_RX_FRAMES, .STATS_RX_OCTETS, .STATS_RX_64, .STATS_RX_65_255,
    .STATS_RX_256_1023, .STATS_RX_1024_1518, .STATS_RX_1519_16000, .STATS_SNAP_CLR,
    Fld.STATS_SNAP_CLR.abortLate, Fld.STATS_SNAP_CLR.outcome]

/-! ### OAM (R201 of 06_linkup.md) -/

def Fld.OAM_OAMTX_IDX : Fld := ⟨.OAM, 0x020, 0, 32, .idx, .num 2147483648, false⟩
def Fld.OAM_OAMTX_DATA : Fld := ⟨.OAM, 0x024, 0, 32, .win, .num 0, false⟩
def Fld.OAM_OAMRX_IDX : Fld := ⟨.OAM, 0x028, 0, 32, .idx, .num 2147483648, false⟩
def Fld.OAM_OAMRX_DATA : Fld := ⟨.OAM, 0x02C, 0, 32, .win, .num 0, false⟩
def Fld.OAM_SEND : Fld := ⟨.OAM, 0x030, 0, 1, .cmd, .num 0, false⟩
def Fld.OAM_SEND_TYPE : Fld := ⟨.OAM, 0x030, 8, 4, .lrw, .num 0, false⟩
def Fld.OAM_SEND_LEN : Fld := ⟨.OAM, 0x030, 16, 9, .lrw, .num 0, false⟩
def Fld.OAM_RX_RELEASE : Fld := ⟨.OAM, 0x034, 0, 1, .cmd, .num 0, false⟩
def Fld.OAM_RX_TYPE : Fld := ⟨.OAM, 0x034, 8, 4, .ro, .num 0, false⟩
def Fld.OAM_RX_LEN : Fld := ⟨.OAM, 0x034, 16, 9, .ro, .num 0, false⟩
def Fld.OAM_RX_FULL : Fld := ⟨.OAM, 0x034, 31, 1, .ro, .num 0, false⟩
def Fld.OAM_ACK_TO : Fld := ⟨.OAM, 0x038, 0, 8, .lrw, .num 2, false⟩
def Fld.OAM_TRIES : Fld := ⟨.OAM, 0x038, 8, 4, .lrw, .num 8, false⟩
def Fld.OAM_MSG_TX : Fld := ⟨.OAM, 0x040, 0, 48, .snap, .num 0, false⟩
def Fld.OAM_MSG_RX : Fld := ⟨.OAM, 0x048, 0, 48, .snap, .num 0, false⟩
def Fld.OAM_RESENDS : Fld := ⟨.OAM, 0x050, 0, 48, .snap, .num 0, false⟩
def Fld.OAM_UNDELIVERED : Fld := ⟨.OAM, 0x058, 0, 48, .snap, .num 0, false⟩
def Fld.OAM_RX_BUSY : Fld := ⟨.OAM, 0x060, 0, 48, .snap, .num 0, false⟩
def Fld.OAM_RC_NAK_RX : Fld := ⟨.OAM, 0x068, 0, 48, .snap, .num 0, false⟩
def Fld.OAM_SNAP_CLR : Fld := ⟨.OAM, 0x070, 0, 1, .cmd, .num 0, false⟩

/-- The fields of the OAM block map. -/
def map_OAM : List Fld :=
  [.OAM_OAMTX_IDX, .OAM_OAMTX_DATA, .OAM_OAMRX_IDX, .OAM_OAMRX_DATA, .OAM_SEND, Fld.OAM_SEND.abortLate,
    Fld.OAM_SEND.outcome, .OAM_SEND_TYPE, .OAM_SEND_LEN, .OAM_RX_RELEASE, Fld.OAM_RX_RELEASE.abortLate,
    Fld.OAM_RX_RELEASE.outcome, .OAM_RX_TYPE, .OAM_RX_LEN, .OAM_RX_FULL, .OAM_ACK_TO, .OAM_TRIES,
    .OAM_MSG_TX, .OAM_MSG_RX, .OAM_RESENDS, .OAM_UNDELIVERED, .OAM_RX_BUSY, .OAM_RC_NAK_RX, .OAM_SNAP_CLR,
    Fld.OAM_SNAP_CLR.abortLate, Fld.OAM_SNAP_CLR.outcome]

/-! ### CAL (R402 of 13_calibration_spares.md) -/

def Fld.CAL_BG_EN : Fld := ⟨.CAL, 0x020, 0, 1, .lrw, .num 1, false⟩
def Fld.CAL_HYB_AUTO : Fld := ⟨.CAL, 0x020, 1, 1, .lrw, .num 0, false⟩
def Fld.CAL_BG_PERIOD : Fld := ⟨.CAL, 0x020, 8, 8, .lrw, .num 100, false⟩
def Fld.CAL_HYB_RECAL : Fld := ⟨.CAL, 0x024, 0, 1, .cmd, .num 0, false⟩
def Fld.CAL_LAST_KIND : Fld := ⟨.CAL, 0x028, 0, 2, .ro, .num 0, false⟩
def Fld.CAL_LAST_OUTCOME : Fld := ⟨.CAL, 0x028, 4, 4, .ro, .num 0, false⟩
def Fld.CAL_LAST_REASON : Fld := ⟨.CAL, 0x028, 8, 4, .ro, .num 0, false⟩
def Fld.CAL_KURT : Fld := ⟨.CAL, 0x02C, 0, 12, .ro, .num 0, false⟩
def Fld.CAL_VAR_RATIO : Fld := ⟨.CAL, 0x02C, 16, 12, .ro, .num 0, false⟩
def Fld.CAL_STAT_DEV : Fld := ⟨.CAL, 0x030, 0, 8, .ro, .num 0, false⟩
def Fld.CAL_TRIM_IDX : Fld := ⟨.CAL, 0x034, 0, 32, .idx, .num 2147483648, false⟩
def Fld.CAL_T_OFS : Fld := ⟨.CAL, 0x038, 0, 8, .win, .num 0, false⟩
def Fld.CAL_T_GAIN : Fld := ⟨.CAL, 0x038, 8, 8, .win, .num 0, false⟩
def Fld.CAL_T_SKEW : Fld := ⟨.CAL, 0x038, 16, 7, .win, .num 0, false⟩
def Fld.CAL_T_SPARE : Fld := ⟨.CAL, 0x038, 30, 1, .win, .num 0, false⟩
def Fld.CAL_T_ACTIVE : Fld := ⟨.CAL, 0x038, 31, 1, .win, .num 0, false⟩
def Fld.CAL_BG_RUNS : Fld := ⟨.CAL, 0x040, 0, 48, .snap, .num 0, false⟩
def Fld.CAL_RUNS_UNFIT : Fld := ⟨.CAL, 0x048, 0, 48, .snap, .num 0, false⟩
def Fld.CAL_RUNS_IMPLAUSIBLE : Fld := ⟨.CAL, 0x050, 0, 48, .snap, .num 0, false⟩
def Fld.CAL_HYB_RECALS : Fld := ⟨.CAL, 0x058, 0, 48, .snap, .num 0, false⟩
def Fld.CAL_SNAP_CLR : Fld := ⟨.CAL, 0x060, 0, 1, .cmd, .num 0, false⟩

/-- The fields of the CAL block map. -/
def map_CAL : List Fld :=
  [.CAL_BG_EN, .CAL_HYB_AUTO, .CAL_BG_PERIOD, .CAL_HYB_RECAL, Fld.CAL_HYB_RECAL.abortLate,
    Fld.CAL_HYB_RECAL.outcome, .CAL_LAST_KIND, .CAL_LAST_OUTCOME, .CAL_LAST_REASON, .CAL_KURT,
    .CAL_VAR_RATIO, .CAL_STAT_DEV, .CAL_TRIM_IDX, .CAL_T_OFS, .CAL_T_GAIN, .CAL_T_SKEW, .CAL_T_SPARE,
    .CAL_T_ACTIVE, .CAL_BG_RUNS, .CAL_RUNS_UNFIT, .CAL_RUNS_IMPLAUSIBLE, .CAL_HYB_RECALS, .CAL_SNAP_CLR,
    Fld.CAL_SNAP_CLR.abortLate, Fld.CAL_SNAP_CLR.outcome]

end Sys2Proof.Machine
end

