-- ==== Sys2Proof/Machine/Maps.lean ====
section
/-! DEFINITION. The register maps of all blocks, and which field lies at which address (R8, R76, R77). -/

namespace Sys2Proof.Machine

/-- The block's own fields, from offset 0x020. -/
def ownFlds : Blk → List Fld
  | .DEV_ID => map_DEV_ID | .KEEPER => map_KEEPER | .CHAIN => map_CHAIN | .RSTC => map_RSTC | .CLKC => map_CLKC
  | .PWRC => map_PWRC | .LAYOUT => map_LAYOUT | .NVMC => map_NVMC | .POST => map_POST | .TIME => map_TIME
  | .SPARE => map_SPARE | .INJ => map_INJ | .BOOTF => map_BOOTF | .TMRS => map_TMRS | .DEBUG => map_DEBUG
  | .LODGE => map_LODGE
  | .PAV_CTL => map_PAV_CTL | .DECPOOL => map_DECPOOL | .ENGPOOL => map_ENGPOOL | .LAYBY => map_LAYBY
  | .PAV_WEAR => map_PAV_WEAR
  | .PORT_CTL => map_PORT_CTL | .AFE => map_AFE | .TXSH => map_TXSH | .LINKUP => map_LINKUP | .TONES => map_TONES
  | .ECHO => map_ECHO | .EQ => map_EQ | .FEC => map_FEC | .LAYBY_P => map_LAYBY_P | .STREAM => map_STREAM
  | .BURST => map_BURST | .ROUNDABOUT => map_ROUNDABOUT | .WATCH => map_WATCH | .DIAG => map_DIAG
  | .SURVEY => map_SURVEY | .HOST => map_HOST | .TSU => map_TSU | .STATS => map_STATS | .OAM => map_OAM
  | .CAL => map_CAL

/-- Every field of a block. -/
def blkFlds (b : Blk) : List Fld := headerFlds b ++ ownFlds b

/-- The counters of a block (R93). -/
def counterFlds (b : Blk) : List Fld := (ownFlds b).filter fun f => f.ty == .snap

/-- The command fields of a block (R90). -/
def cmdFlds (b : Blk) : List Fld := (blkFlds b).filter fun f => f.ty == .cmd

/-- The fields whose word lies at an offset of a block; a counter lies at two (R93). -/
def fldsAt (b : Blk) (off : Nat) : List Fld :=
  (blkFlds b).filter fun f => f.off == off || (f.ty == .snap && f.off + 4 == off)

/-- What an address names. -/
inductive Target where
  | reg (b : Blk) (u : Nat) (off : Nat)
  | ring (r : Nat) (off : Nat)
  | nothing
deriving DecidableEq, Repr

/-- The block of a list with a block number. -/
def blkNumbered (l : List Blk) (n : Nat) : Option Blk := l.find? fun b => (blkPlace b).2 == n

/-- The register or ring word at an address (R8, R76, R77). -/
def target (a : Nat) : Target :=
  let region := bitsOf a 20 4
  let n := bitsOf a 12 8
  let off := bitsOf a 0 12
  let reg := fun (l : List Blk) (u : Nat) =>
    match blkNumbered l n with
    | some b => if (fldsAt b off).isEmpty then .nothing else .reg b u off
    | none => .nothing
  if off % 4 ≠ 0 then .nothing
  else if region = 0 then reg deviceBlks 0
  else if region = 1 then reg [.LODGE] 0
  else if region < 6 then reg pavBlks (region - 2)
  else if region = 6 then (if n < 32 then .ring n off else .nothing)
  else if region = 7 then .nothing
  else reg portBlks (region - 8)

/-- Every register block with its unit. -/
def allBlks : List (Blk × Nat) :=
  ((deviceBlks ++ [Blk.LODGE]).map fun b => (b, 0)) ++ (List.range 4).flatMap (fun n => pavBlks.map fun b => (b, n)) ++
    (List.range 8).flatMap fun p => portBlks.map fun b => (b, p)

/-- The keys of the fields that system reset leaves (R354). -/
def keptKeys : List Nat :=
  allBlks.flatMap fun x => ((blkFlds x.1).filter Fld.keepsOnReset).map fun f => f.key x.2

end Sys2Proof.Machine
end

