-- ==== Sys2Proof/Machine/Sticky.lean ====
section
/-! DEFINITION. The named sticky bits of every block (the BLK_STS lists of the block maps). -/

namespace Sys2Proof.Machine

/-! CHAIN (R73, 02_chain_keeper.md) -/

def Sticky.CHAIN_CRC_SEEN : Sticky := ⟨.CHAIN, 0⟩
def Sticky.CHAIN_LINK_A_LOST : Sticky := ⟨.CHAIN, 1⟩
def Sticky.CHAIN_LINK_B_LOST : Sticky := ⟨.CHAIN, 2⟩
def Sticky.CHAIN_ROOT_ON_B : Sticky := ⟨.CHAIN, 3⟩
def Sticky.CHAIN_ENUM_FULL : Sticky := ⟨.CHAIN, 4⟩
def Sticky.CHAIN_EVENT_DROP : Sticky := ⟨.CHAIN, 5⟩
def Sticky.CHAIN_MODE_MISSED : Sticky := ⟨.CHAIN, 6⟩
def Sticky.CHAIN_TO_RESOLVED : Sticky := ⟨.CHAIN, 7⟩

/-! KEEPER (R74, 02_chain_keeper.md) -/

def Sticky.KEEPER_KEEPER_LOST : Sticky := ⟨.KEEPER, 0⟩
def Sticky.KEEPER_KEEPER_CHANGED : Sticky := ⟨.KEEPER, 1⟩
def Sticky.KEEPER_SEAL_FAILED : Sticky := ⟨.KEEPER, 2⟩

/-! TIME (R100, 03_register_model.md) -/

def Sticky.TIME_TIME_SET : Sticky := ⟨.TIME, 0⟩
def Sticky.TIME_TIME_INVALID : Sticky := ⟨.TIME, 1⟩

/-! TMRS (R102, 03_register_model.md) -/

def Sticky.TMRS_TMR_CORRECTED : Sticky := ⟨.TMRS, 0⟩

/-! PAV_CTL (R30, 01_architecture.md) -/

def Sticky.PAV_CTL_ENABLED_EVT : Sticky := ⟨.PAV_CTL, 0⟩
def Sticky.PAV_CTL_FAULT_DISABLE : Sticky := ⟨.PAV_CTL, 1⟩
def Sticky.PAV_CTL_ENGINE_FAULT : Sticky := ⟨.PAV_CTL, 2⟩
def Sticky.PAV_CTL_PIPE_FAULT : Sticky := ⟨.PAV_CTL, 3⟩
def Sticky.PAV_CTL_DECODER_FAULT : Sticky := ⟨.PAV_CTL, 4⟩

/-! ENGPOOL (R32, 01_architecture.md) -/

def Sticky.ENGPOOL_TRAIN_SLOW : Sticky := ⟨.ENGPOOL, 0⟩

/-! LAYOUT (R125, 04_layout.md) -/

def Sticky.LAYOUT_VERIFY_FAIL : Sticky := ⟨.LAYOUT, 0⟩
def Sticky.LAYOUT_LEDGER_NOMATCH : Sticky := ⟨.LAYOUT, 1⟩
def Sticky.LAYOUT_BUF_WRITE_LOST : Sticky := ⟨.LAYOUT, 2⟩
def Sticky.LAYOUT_FW_REVERTED : Sticky := ⟨.LAYOUT, 3⟩
def Sticky.LAYOUT_RB_RAISED : Sticky := ⟨.LAYOUT, 4⟩

/-! BOOTF (R126, 04_layout.md) -/

def Sticky.BOOTF_SLOT_FALLBACK : Sticky := ⟨.BOOTF, 0⟩
def Sticky.BOOTF_CHAIN_FALLBACK : Sticky := ⟨.BOOTF, 1⟩
def Sticky.BOOTF_FLASH_ERR : Sticky := ⟨.BOOTF, 2⟩

/-! TXSH (R153, 05_line_signal.md) -/

def Sticky.TXSH_MUTE_EVENT : Sticky := ⟨.TXSH, 0⟩
def Sticky.TXSH_CE_UNCOVERED : Sticky := ⟨.TXSH, 1⟩

/-! TONES (R155, 05_line_signal.md) -/

def Sticky.TONES_PILOT_SHORT : Sticky := ⟨.TONES, 0⟩
def Sticky.TONES_OH_ERR : Sticky := ⟨.TONES, 1⟩
def Sticky.TONES_SYNC_FLAG_MISS : Sticky := ⟨.TONES, 2⟩
def Sticky.TONES_SYNC_FLAG_UNEXP : Sticky := ⟨.TONES, 3⟩
def Sticky.TONES_SWITCHED : Sticky := ⟨.TONES, 4⟩

/-! PORT_CTL (R199, 06_linkup.md) -/

def Sticky.PORT_CTL_LINK_UP : Sticky := ⟨.PORT_CTL, 0⟩
def Sticky.PORT_CTL_LINK_DOWN : Sticky := ⟨.PORT_CTL, 1⟩
def Sticky.PORT_CTL_RETRAIN : Sticky := ⟨.PORT_CTL, 2⟩
def Sticky.PORT_CTL_RECONF_DONE : Sticky := ⟨.PORT_CTL, 3⟩
def Sticky.PORT_CTL_RECONF_FAIL : Sticky := ⟨.PORT_CTL, 4⟩
def Sticky.PORT_CTL_PARTNER_RECONF : Sticky := ⟨.PORT_CTL, 5⟩

/-! LINKUP (R200, 06_linkup.md) -/

def Sticky.LINKUP_DME_SEEN : Sticky := ⟨.LINKUP, 0⟩
def Sticky.LINKUP_WARM_REJECTED : Sticky := ⟨.LINKUP, 1⟩
def Sticky.LINKUP_HS_TIMEOUT : Sticky := ⟨.LINKUP, 2⟩
def Sticky.LINKUP_TA_ADJUSTED : Sticky := ⟨.LINKUP, 3⟩
def Sticky.LINKUP_ALIGN_LOST : Sticky := ⟨.LINKUP, 4⟩

/-! OAM (R201, 06_linkup.md) -/

def Sticky.OAM_RX_READY : Sticky := ⟨.OAM, 0⟩
def Sticky.OAM_UNDELIVERED : Sticky := ⟨.OAM, 1⟩
def Sticky.OAM_RX_DROPPED : Sticky := ⟨.OAM, 2⟩
def Sticky.OAM_RC_LATE : Sticky := ⟨.OAM, 3⟩

/-! AFE (R226, 07_echo_equalisation.md) -/

def Sticky.AFE_ADC_CLIPPED : Sticky := ⟨.AFE, 0⟩
def Sticky.AFE_HYB_CHANGED : Sticky := ⟨.AFE, 1⟩

/-! ECHO (R227, 07_echo_equalisation.md) -/

def Sticky.ECHO_ECHO_FAIL : Sticky := ⟨.ECHO, 0⟩
def Sticky.ECHO_ECHO_LOW : Sticky := ⟨.ECHO, 1⟩

/-! EQ (R228, 07_echo_equalisation.md) -/

def Sticky.EQ_TEQ_ON : Sticky := ⟨.EQ, 0⟩
def Sticky.EQ_FREQ_RANGE : Sticky := ⟨.EQ, 1⟩
def Sticky.EQ_IMPULSE : Sticky := ⟨.EQ, 2⟩
def Sticky.EQ_MARGIN_LOW : Sticky := ⟨.EQ, 3⟩
def Sticky.EQ_CW_SKIPPED : Sticky := ⟨.EQ, 4⟩

/-! FEC (R264, 08_coding_layby.md) -/

def Sticky.FEC_CW_FAIL : Sticky := ⟨.FEC, 0⟩
def Sticky.FEC_CRC_FAIL : Sticky := ⟨.FEC, 1⟩
def Sticky.FEC_OVERLOAD : Sticky := ⟨.FEC, 2⟩
def Sticky.FEC_DQ_OVF : Sticky := ⟨.FEC, 3⟩

/-! DECPOOL (R265, 08_coding_layby.md) -/

def Sticky.DECPOOL_SELFTEST_FAIL : Sticky := ⟨.DECPOOL, 0⟩

/-! LAYBY (R266, 08_coding_layby.md) -/

def Sticky.LAYBY_ECC_CORRECTED : Sticky := ⟨.LAYBY, 0⟩
def Sticky.LAYBY_ECC_UNCORRECTED : Sticky := ⟨.LAYBY, 1⟩

/-! LAYBY_P (R268, 08_coding_layby.md) -/

def Sticky.LAYBY_P_HOLD : Sticky := ⟨.LAYBY_P, 0⟩
def Sticky.LAYBY_P_HOLD_MAX : Sticky := ⟨.LAYBY_P, 1⟩
def Sticky.LAYBY_P_GIVEUP : Sticky := ⟨.LAYBY_P, 2⟩
def Sticky.LAYBY_P_RX_NOSLOT : Sticky := ⟨.LAYBY_P, 3⟩
def Sticky.LAYBY_P_GAP_TIMEOUT : Sticky := ⟨.LAYBY_P, 4⟩
def Sticky.LAYBY_P_NOTICE_OVF : Sticky := ⟨.LAYBY_P, 5⟩

/-! STREAM (R269, 08_coding_layby.md) -/

def Sticky.STREAM_TAILDROP : Sticky := ⟨.STREAM, 0⟩
def Sticky.STREAM_GUAR_REFUSED : Sticky := ⟨.STREAM, 1⟩
def Sticky.STREAM_EXPIRED : Sticky := ⟨.STREAM, 2⟩
def Sticky.STREAM_LATE_NOTICE : Sticky := ⟨.STREAM, 3⟩
def Sticky.STREAM_SIZE_DROP : Sticky := ⟨.STREAM, 4⟩

/-! BURST (R306, 09_spur_mode.md) -/

def Sticky.BURST_FALSE_DETECT : Sticky := ⟨.BURST, 0⟩
def Sticky.BURST_LATE_START_LOSS : Sticky := ⟨.BURST, 1⟩
def Sticky.BURST_CAPTURED : Sticky := ⟨.BURST, 2⟩
def Sticky.BURST_SCHEDULE_VIOLATION : Sticky := ⟨.BURST, 3⟩
def Sticky.BURST_HDR_ERR : Sticky := ⟨.BURST, 4⟩
def Sticky.BURST_GEN_MISS : Sticky := ⟨.BURST, 5⟩

/-! ROUNDABOUT (R308, 09_spur_mode.md) -/

def Sticky.ROUNDABOUT_JOINED : Sticky := ⟨.ROUNDABOUT, 0⟩
def Sticky.ROUNDABOUT_MEMBER_DROPPED : Sticky := ⟨.ROUNDABOUT, 1⟩
def Sticky.ROUNDABOUT_KNOCK_REFUSED : Sticky := ⟨.ROUNDABOUT, 2⟩
def Sticky.ROUNDABOUT_GATEHOUSE_CLASH : Sticky := ⟨.ROUNDABOUT, 3⟩
def Sticky.ROUNDABOUT_NOISE_STALE : Sticky := ⟨.ROUNDABOUT, 4⟩
def Sticky.ROUNDABOUT_SCHED_LOST : Sticky := ⟨.ROUNDABOUT, 5⟩

/-! WATCH (R336, 10_link_watch.md) -/

def Sticky.WATCH_IMPULSE_LONG : Sticky := ⟨.WATCH, 0⟩
def Sticky.WATCH_GRADE_LOW : Sticky := ⟨.WATCH, 1⟩
def Sticky.WATCH_PRED_LOW : Sticky := ⟨.WATCH, 2⟩
def Sticky.WATCH_PRED_RETRAIN : Sticky := ⟨.WATCH, 3⟩
def Sticky.WATCH_LPI_MISMATCH : Sticky := ⟨.WATCH, 4⟩
def Sticky.WATCH_WAKE_FALSE : Sticky := ⟨.WATCH, 5⟩

/-! DIAG (R337, 10_link_watch.md) -/

def Sticky.DIAG_TDR_DONE : Sticky := ⟨.DIAG, 0⟩
def Sticky.DIAG_TDR_FAULT : Sticky := ⟨.DIAG, 1⟩
def Sticky.DIAG_TDR_UNFIT : Sticky := ⟨.DIAG, 2⟩

/-! SURVEY (R338, 10_link_watch.md) -/

def Sticky.SURVEY_SV_EVENT : Sticky := ⟨.SURVEY, 0⟩
def Sticky.SURVEY_SV_BASE_SAVED : Sticky := ⟨.SURVEY, 1⟩
def Sticky.SURVEY_SV_VF_MISMATCH : Sticky := ⟨.SURVEY, 2⟩
def Sticky.SURVEY_SV_LOG_FULL : Sticky := ⟨.SURVEY, 3⟩

/-! HOST (R351, 11_host_side.md) -/

def Sticky.HOST_LANE_DOWN : Sticky := ⟨.HOST, 0⟩
def Sticky.HOST_FCS_ERR : Sticky := ⟨.HOST, 1⟩
def Sticky.HOST_IB_ERR : Sticky := ⟨.HOST, 2⟩
def Sticky.HOST_LB_REFUSED : Sticky := ⟨.HOST, 3⟩

/-! TSU (R352, 11_host_side.md) -/

def Sticky.TSU_TX_TS_READY : Sticky := ⟨.TSU, 0⟩
def Sticky.TSU_RX_TS_READY : Sticky := ⟨.TSU, 1⟩
def Sticky.TSU_TS_OVF : Sticky := ⟨.TSU, 2⟩

/-! RSTC (R378, 12_reset_clock_power.md) -/

def Sticky.RSTC_RESET_SEEN : Sticky := ⟨.RSTC, 0⟩
def Sticky.RSTC_STRAP_MARGINAL : Sticky := ⟨.RSTC, 1⟩

/-! CLKC (R379, 12_reset_clock_power.md) -/

def Sticky.CLKC_CLK_LOSS : Sticky := ⟨.CLKC, 0⟩
def Sticky.CLKC_CLK_FORCED : Sticky := ⟨.CLKC, 1⟩
def Sticky.CLKC_BOSC_SWAP : Sticky := ⟨.CLKC, 2⟩
def Sticky.CLKC_PLL_SWAP : Sticky := ⟨.CLKC, 3⟩
def Sticky.CLKC_ROOT_RETURNED : Sticky := ⟨.CLKC, 4⟩

/-! PWRC (R380, 12_reset_clock_power.md) -/

def Sticky.PWRC_STATE_CHANGED : Sticky := ⟨.PWRC, 0⟩
def Sticky.PWRC_WAKE : Sticky := ⟨.PWRC, 1⟩

/-! LODGE (R381, 12_reset_clock_power.md) -/

def Sticky.LODGE_VBAK_LOST : Sticky := ⟨.LODGE, 0⟩
def Sticky.LODGE_COUNT_SAT : Sticky := ⟨.LODGE, 1⟩

/-! DEBUG (R382, 12_reset_clock_power.md) -/

def Sticky.DEBUG_TAP_ACTIVE : Sticky := ⟨.DEBUG, 0⟩
def Sticky.DEBUG_DBG_RESET_USED : Sticky := ⟨.DEBUG, 1⟩

/-! CAL (R402, 13_calibration_spares.md) -/

def Sticky.CAL_CAL_UNFIT : Sticky := ⟨.CAL, 0⟩
def Sticky.CAL_CAL_IMPLAUSIBLE : Sticky := ⟨.CAL, 1⟩
def Sticky.CAL_SUBCONV_SWAPPED : Sticky := ⟨.CAL, 2⟩
def Sticky.CAL_SUBCONV_EXHAUSTED : Sticky := ⟨.CAL, 3⟩
def Sticky.CAL_SUB_PENDING : Sticky := ⟨.CAL, 4⟩
def Sticky.CAL_NO_SPARE : Sticky := ⟨.CAL, 5⟩

/-! NVMC (R403, 13_calibration_spares.md) -/

def Sticky.NVMC_CAL_DEFAULTS : Sticky := ⟨.NVMC, 0⟩
def Sticky.NVMC_CAL_OLD_KEPT : Sticky := ⟨.NVMC, 1⟩
def Sticky.NVMC_CAL_LOST : Sticky := ⟨.NVMC, 2⟩
def Sticky.NVMC_ECC_UNCORR : Sticky := ⟨.NVMC, 3⟩
def Sticky.NVMC_SECT_REMAPPED : Sticky := ⟨.NVMC, 4⟩

/-! SPARE (R404, 13_calibration_spares.md) -/

def Sticky.SPARE_SPARE_USED : Sticky := ⟨.SPARE, 0⟩
def Sticky.SPARE_END_OF_LIFE_WARN : Sticky := ⟨.SPARE, 1⟩

/-! PAV_WEAR (R405, 13_calibration_spares.md) -/

def Sticky.PAV_WEAR_SUB_PENDING : Sticky := ⟨.PAV_WEAR, 0⟩
def Sticky.PAV_WEAR_SUB_DONE : Sticky := ⟨.PAV_WEAR, 1⟩
def Sticky.PAV_WEAR_WEAR_UP : Sticky := ⟨.PAV_WEAR, 2⟩
def Sticky.PAV_WEAR_NO_SPARE : Sticky := ⟨.PAV_WEAR, 3⟩

/-! INJ (R419, 14_faults.md) -/

def Sticky.INJ_INJ_FIRED : Sticky := ⟨.INJ, 0⟩
def Sticky.INJ_DISARMED : Sticky := ⟨.INJ, 1⟩

end Sys2Proof.Machine
end

