-- ==== Sys2Proof/Machine/Ops.lean ====
section
/-! DEFINITION. Named operations over the state: register fields, ports, pavilions, chain frames, responses. -/

namespace Sys2Proof.Machine

/-! ### Register fields -/

/-- The value of a field; a triplicated field reads the per-bit majority of its copies (R88). -/
def getF (u : Nat) (f : Fld) (s : State) : Nat :=
  match (if f.tmr then mapGet s.tmr (f.key u) else none) with
  | some c => majority c.1 c.2.1 c.2.2
  | none => mapGetD s.fields (f.key u) f.base

/-- A field set by hardware or by an accepted write; all copies of a triplicated field at once (R88). -/
def setF (u : Nat) (f : Fld) (v : Nat) (s : State) : State :=
  { s with
    fields := if v % 2 ^ f.width = f.base then mapDel s.fields (f.key u)
      else mapPut s.fields (f.key u) (v % 2 ^ f.width)
    tmr := if f.tmr then mapDel s.tmr (f.key u) else s.tmr }

/-- A one-bit field as a truth value. -/
def isSet (u : Nat) (f : Fld) (s : State) : Bool := getF u f s == 1

/-- Several fields of one unit set in turn. -/
def setAll (u : Nat) (fvs : List (Fld × Nat)) (s : State) : State :=
  fvs.foldl (fun a fv => setF u fv.1 fv.2 a) s

/-- A master's own copy of a banked field (R74, R97). -/
def getB (m u : Nat) (f : Fld) (s : State) : Nat := mapGetD s.banked (f.key u * 16 + m) f.base

/-- A master's own copy of a banked field set. -/
def setB (m u : Nat) (f : Fld) (v : Nat) (s : State) : State :=
  { s with banked :=
      if v % 2 ^ f.width = f.base then mapDel s.banked (f.key u * 16 + m)
      else mapPut s.banked (f.key u * 16 + m) (v % 2 ^ f.width) }

/-- EN of a block as it reads (R81). -/
def enOf (b : Blk) (u : Nat) (s : State) : Nat :=
  match enKind b with
  | .own => getF u (.en b) s
  | .one => 1
  | .pavilion => getF u (.en .PAV_CTL) s
  | .port => getF u (.en .PORT_CTL) s

/-- A power domain is on (R375). -/
def domainOn (d : Nat) (s : State) : Bool := isSet 0 (.PWRC_ON d) s

/-! ### Pavilions and ports -/

/-- A port. -/
def State.port (s : State) (p : Nat) : Port := mapGetD s.ports p {}

/-- A port replaced by its image. -/
def modPort (p : Nat) (f : Port → Port) (s : State) : State := { s with ports := mapPut s.ports p (f (s.port p)) }

/-- A pavilion. -/
def State.pav (s : State) (n : Nat) : Pav := mapGetD s.pavs n {}

/-- A pavilion replaced by its image. -/
def modPav (n : Nat) (f : Pav → Pav) (s : State) : State := { s with pavs := mapPut s.pavs n (f (s.pav n)) }

/-- The link of a port replaced. -/
def modLink (p : Nat) (f : Link → Link) : State → State := modPort p fun x => { x with link := f x.link }

/-- The line signal of a port replaced. -/
def modSig (p : Nat) (f : Signal → Signal) : State → State := modPort p fun x => { x with sig := f x.sig }

/-- The reconfiguration handshake of a port replaced. -/
def modRc (p : Nat) (f : Rc → Rc) : State → State := modPort p fun x => { x with rc := f x.rc }

/-- The OAM channel of a port replaced. -/
def modOam (p : Nat) (f : Oam → Oam) : State → State := modPort p fun x => { x with oam := f x.oam }

/-- Watch, LPI, diagnostics and survey of a port replaced. -/
def modWatch (p : Nat) (f : Watch → Watch) : State → State := modPort p fun x => { x with watch := f x.watch }

/-- Spur mode of a port replaced. -/
def modSpur (p : Nat) (f : Spur → Spur) : State → State := modPort p fun x => { x with spur := f x.spur }

/-- The host lane of a port replaced. -/
def modLane (p : Nat) (f : Lane → Lane) : State → State := modPort p fun x => { x with lane := f x.lane }

/-- Calibration of a port replaced. -/
def modCal (p : Nat) (f : Cal → Cal) : State → State := modPort p fun x => { x with cal := f x.cal }

/-- The loader replaced. -/
def modLoader (f : Loader → Loader) (s : State) : State := { s with loader := f s.loader }

/-- Reset and clock state replaced. -/
def modClk (f : Clk → Clk) (s : State) : State := { s with clk := f s.clk }

/-- NVM contents replaced. -/
def modNvm (f : Nvm → Nvm) (s : State) : State := { s with nvm := f s.nvm }

/-- `f` for each element of a list in turn. -/
def forAll {α : Type} (l : List α) (f : α → State → State) (s : State) : State := l.foldl (fun a x => f x a) s

/-- `f` when the condition holds. -/
def when (c : Bool) (f : State → State) (s : State) : State := if c then f s else s

/-! ### What leaves the device -/

/-- One more frame, symbol or level sent. (DESIGN CHOICE, log 19) -/
def emit (e : Emission) (s : State) : State := { s with sent := e :: s.sent }

/-- A value that the spec does not state, and the state in which the next one is another. (DESIGN CHOICE, log 12) -/
def free (s : State) : Nat := Config.freeValue s.fresh

/-- The free values advanced by one. -/
def spend (s : State) : State := { s with fresh := s.fresh + 1 }

/-! ### Device time -/

/-- Device time in nanoseconds. -/
def nowNs (s : State) : Nat := s.secs * 1000000000 + s.nanos

/-- Device time set to a number of nanoseconds and a fraction (R96, R100). -/
def setNow (ns fr : Nat) (s : State) : State :=
  { s with secs := ns / 1000000000 % 2 ^ 48, nanos := ns % 1000000000, frac := fr % 2 ^ 16 }

/-- Device time as the four words of a capture: nanoseconds, seconds low, seconds high, fraction (R101). -/
def nowWords (s : State) : List Nat := [s.nanos, s.secs % 2 ^ 32, s.secs / 2 ^ 32 % 2 ^ 16, s.frac]

/-! ### Chain frames (R36, R37, R42) -/

/-- Bytes 0 to 8 of a frame (R36). -/
def frameBytes (dest mtag op tag addr data : Nat) : List Byte :=
  beBytes 2 (dest * 2048 + mtag * 128 + op * 8 + tag) ++ beBytes 3 addr ++ beBytes 4 data

/-- A frame with its CRC (R37). -/
def mkFrame (dest mtag op tag addr data : Nat) : Frame :=
  { dest := BitVec.ofNat 5 dest, mtag := BitVec.ofNat 4 mtag, op := BitVec.ofNat 4 op, tag := BitVec.ofNat 3 tag,
    addr := BitVec.ofNat 24 addr, data := BitVec.ofNat 32 data,
    crc := BitVec.ofNat 16 (crc16 (frameBytes (dest % 32) (mtag % 16) (op % 16) (tag % 8) (addr % 2 ^ 24)
      (data % 2 ^ 32))) }

/-- A frame with its CRC computed again (R37). -/
def reFrame (f : Frame) : Frame :=
  mkFrame f.dest.toNat f.mtag.toNat f.op.toNat f.tag.toNat f.addr.toNat f.data.toNat

/-- The IDLE frame (R36, R38). The spec gives its OP alone; DEST, MTAG, TAG, ADDR and DATA are sent as 0.
(DESIGN CHOICE, log 131) -/
def idleFrame : Frame := mkFrame 0 0 0 0 0 0

/-- The other chain port. -/
def Side.other : Side → Side
  | .A => .B
  | .B => .A

/-- The device's chain address. -/
def chainAddr (s : State) : Nat := getF 0 .CHAIN_ADDR s

/-- The RESP frame of an access (R42). -/
def respFrame (s : State) (mtag tag op addr code data : Nat) : Frame :=
  mkFrame (chainAddr s) mtag 15 tag (code * 2 ^ 20 + op * 2 ^ 16 + addr % 2 ^ 16) data

/-- One record of an in-band response: OP 15 and the TAG, then ADDR and DATA as in R42 (R349). -/
def respRecord (tag op addr code data : Nat) : List Byte :=
  beBytes 1 (15 * 16 + tag) ++ beBytes 3 (code * 2 ^ 20 + op * 2 ^ 16 + addr % 2 ^ 16) ++ beBytes 4 data

/-- The device is the tail (R35): it acts (R441) and port B has no lock. (DEDUCED, log 27) -/
def isTail (s : State) : Bool := s.acting && getF 0 .CHAIN_LINK_B s == 0

/-- The answer to an access: a RESP on the output of the port on which the request arrived (R34), while the device
acts on chain frames (R441), or the record of an in-band response (R349). -/
def respond (src : Src) (mtag tag op addr code data : Nat) (s : State) : State :=
  match src with
  | .chain side => when s.acting (emit (.chain side (respFrame s mtag tag op addr code data))) s
  | .inband lane =>
    modLane lane.val (fun l =>
      { l with ib := match l.ib with
          | q :: rest => { q with done := q.done ++ [respRecord tag op addr code data] } :: rest
          | [] => [] }) s

/-! ### Cycles and clocks -/

/-- The next command in the queue is one that meets this one in the same cycle, when it is of a kind that the rules on
coinciding events name together with it. (DESIGN CHOICE, log 132) -/
def meets (q : Instr → Bool) (s : State) : Bool :=
  match s.pending with
  | c :: _ => q c
  | [] => false

/-- The clocks derived from ROOT run: they are gated, with their state held, while ROOT is lost (R45, R366, R369). -/
def clocked (s : State) : Bool := s.clk.rootPresent

/-! ### The Keeper -/

/-- The Keeper's master tag, when there is a Keeper. -/
def keeper (s : State) : Option Nat :=
  if isSet 0 .KEEPER_KVALID s then some (getF 0 .KEEPER_KTAG s) else none

/-- A master is the Keeper. -/
def isKeeper (m : Nat) (s : State) : Bool := keeper s == some m

end Sys2Proof.Machine
end

