-- ==== Sys2Proof/Machine/Flags.lean ====
section
/-! DEFINITION. Sticky status, interrupt outputs, EVENTs, fault latches, counters and command fields
(R64, R84 to R96, R411 to R417). -/

namespace Sys2Proof.Machine

/-! ### Interrupt outputs and EVENTs -/

/-- Sticky bits set by hardware; SEQ advances (R85). -/
def setStsBits (b : Blk) (u mask : Nat) (s : State) : State :=
  setF u (.seq b) (getF u (.seq b) s + 1) (setF u (.sts b) (getF u (.sts b) s ||| mask) s)

/-- The interrupt output of a block (R87). -/
def irqLevel (b : Blk) (u : Nat) (s : State) : Bool :=
  (getF u (.sts b) s &&& getF u (.ien b) s) != 0 || (isSet u (.firstValid b) s && getF u (.firstClass b) s == 2)

/-- IRQ_N is low: some block's output is 1, or SAFE state holds it low (R414). -/
def irqLow (s : State) : Bool := !s.irqOut.isEmpty || isSet 0 .CLKC_SAFE s

/-- An EVENT for master `m`, dropped when 16 are queued, which sets EVENT_DROP (R64). On the chain it needs an
address (R48) and a device that acts (R441). A rise of the CHAIN output that EVENT_DROP makes is itself dropped. Master tag
and DATA are those of the moment it is queued. (DEDUCED, log 33; DESIGN CHOICE, log 138) -/
def queueEvent (m : Nat) (b : Blk) (u : Nat) (s : State) : State :=
  if m < 8 && (chainAddr s == 0 || !s.acting) then s
  else if s.events.length < 16 then
    { s with events := s.events ++
        [⟨m, blkBase b u, getF u (.seq b) s * 2 ^ 24 + getF u (.sts b) s⟩] }
  else
    let s := setStsBits .CHAIN 0 32 s
    if irqLevel .CHAIN 0 s && !s.irqOut.contains (blkBase .CHAIN 0) then
      setStsBits .CHAIN 0 32 { s with irqOut := blkBase .CHAIN 0 :: s.irqOut }
    else s

/-- The block's interrupt output follows its level; a rise queues one EVENT for the Keeper (R64, R87, R414). -/
def irqUpdate (b : Blk) (u : Nat) (s : State) : State :=
  if irqLevel b u s then
    if s.irqOut.contains (blkBase b u) then s
    else
      let s := { s with irqOut := blkBase b u :: s.irqOut }
      match keeper s with
      | some m => queueEvent m b u s
      | none => s
  else { s with irqOut := dropNat s.irqOut (blkBase b u) }

/-- A named sticky bit set by hardware. -/
def sticky (k : Sticky) (u : Nat) (s : State) : State := irqUpdate k.blk u (setStsBits k.blk u (2 ^ k.bit) s)

/-! ### Fault sources and latches -/

/-- The class of a fault source of R411, none where the block has no such source. -/
def faultClass (b : Blk) (src : Nat) : Option Nat :=
  if src = 1 then (if (counterFlds b).isEmpty then none else some 0)
  else
    match b with
    | .TMRS => if src = 0x10 then some 0 else none
    | .CLKC =>
      if src = 0x10 ∨ src = 0x11 then some 2 else if src = 0x12 ∨ src = 0x13 then some 0 else none
    | .PWRC => if 0x10 ≤ src ∧ src ≤ 0x13 then some 2 else none
    | .NVMC => if src = 0x10 then some 2 else if src = 0x11 ∨ src = 0x12 then some 0 else none
    | .SPARE => if src = 0x10 then some 0 else none
    | .LAYBY => if src = 0x10 ∨ src = 0x11 then some 0 else none
    | .DECPOOL => if src = 0x10 then some 0 else none
    | .PAV_CTL => if 0x10 ≤ src ∧ src ≤ 0x12 then some 1 else none
    | .PAV_WEAR => if src = 0x10 ∨ src = 0x11 then some 0 else none
    | .CAL => if 0x10 ≤ src ∧ src ≤ 0x12 then some 0 else if src = 0x13 then some 1 else none
    | _ => none

/-- The sticky bit of a fault source: its own where the block map names one, else bit 21 FAULT (R412). -/
def faultBit (b : Blk) (src : Nat) : Nat :=
  if src = 1 then 23
  else
    match b with
    | .TMRS => 0
    | .CLKC => if src = 0x12 then 3 else if src = 0x13 then 2 else 21
    | .NVMC => if src = 0x10 then 2 else if src = 0x11 then 3 else 4
    | .SPARE => 1
    | .LAYBY => if src = 0x10 then 0 else 1
    | .DECPOOL => 0
    | .PAV_CTL => if src = 0x10 then 2 else if src = 0x11 then 3 else 4
    | .PAV_WEAR => if src = 0x10 then 0 else 3
    | .CAL => src - 0x10
    | _ => 21

/-- A fault goes before the one latched in the same cycle: the higher class, then the lower SRC (R412).
(DESIGN CHOICE, log 132) -/
def latchBefore (b : Blk) (u cls src : Nat) (s : State) : Bool :=
  mapGet s.latchAt (blkBase b u) == some s.cycles &&
    (getF u (.firstClass b) s < cls || (getF u (.firstClass b) s == cls && src < getF u (.firstSrc b) s))

/-- The BLK_FIRST latch after the sticky set: every field when nothing is latched, else OVF; of two faults of one cycle the
one that goes before stands (R79, R412). -/
def latchFirst (b : Blk) (u cls src detail inj : Nat) (s : State) : State :=
  let held := isSet u (.firstValid b) s
  if held && !latchBefore b u cls src s then setF u (.firstOvf b) 1 s
  else
    setAll u [(.firstDetail b, detail), (.firstSeq b, getF u (.seq b) s), (.firstSrc b, src), (.firstInj b, inj),
      (.firstClass b, cls), (.firstOvf b, ofBool held), (.firstValid b, 1)]
      { s with latchAt := mapPut s.latchAt (blkBase b u) s.cycles }

/-- A fault recorded: sticky bit, latch, interrupt output (R412). -/
def recordFault (b : Blk) (u cls src detail inj : Nat) (s : State) : State :=
  irqUpdate b u (latchFirst b u cls src detail inj (setStsBits b u (2 ^ faultBit b src) s))

/-- A real fault marks an injection window that is open in its block, and its cycle for a FIRE that follows in it (R417).
(DEDUCED, log 121) -/
def displaceWindow (b : Blk) (u : Nat) (s : State) : State :=
  { s with
    faultAt := mapPut s.faultAt (blkBase b u) s.cycles
    injOpen := s.injOpen.map fun w => if w.1 = blkBase b u then (w.1, w.2.1, w.2.2.1, w.2.2.2.1, true) else w }

/-- A real corrected-class fault: recorded, and no state changes (R406). -/
def correctedFault (b : Blk) (u src detail : Nat) (s : State) : State :=
  displaceWindow b u (recordFault b u 0 src detail 0 s)

/-! ### Counters -/

/-- A 48-bit counter advanced; it saturates, and its saturation sets SAT as a corrected-class event with the
counter's offset ÷ 4 as detail (R93, R411). -/
def countBy (u : Nat) (f : Fld) (k : Nat) (s : State) : State :=
  let old := getF u f s
  let s := setF u f (satAdd f.width old k) s
  if old < 2 ^ f.width - 1 ∧ 2 ^ f.width - 1 ≤ old + k then correctedFault f.blk u 1 (f.off / 4) s else s

/-- A counter advanced by one. -/
def count (u : Nat) (f : Fld) : State → State := countBy u f 1

/-- An 8-bit count that saturates without an event: COUNT of BLK_IGN and CLR_MISS (R78). -/
def bump8 (u : Nat) (f : Fld) (s : State) : State := setF u f (satAdd 8 (getF u f s) 1) s

/-! ### Command fields (R90) -/

/-- A command started: the field reads 1, OUTCOME RUNNING, ABORT_LATE clear. -/
def cmdStart (u : Nat) (f : Fld) (s : State) : State :=
  setF u f 1 (setF u f.outcome 1 (setF u f.abortLate 0 s))

/-- A command ended with an OUTCOME (R91); the field reads 0. -/
def cmdEnd (u : Nat) (f : Fld) (oc : Nat) (s : State) : State := setF u f 0 (setF u f.outcome oc s)

/-- A start whose preconditions fail: OUTCOME REJECTED at once (R90). -/
def cmdReject (u : Nat) (f : Fld) (s : State) : State := setF u f 0 (setF u f.outcome 4 s)

/-- A command that starts and completes at once. -/
def cmdDone (u : Nat) (f : Fld) (s : State) : State := cmdEnd u f 2 (cmdStart u f s)

/-- A command is running. -/
def cmdRuns (u : Nat) (f : Fld) (s : State) : Bool := isSet u f s

/-- The register a row names and the word it writes, for the rows of the commands that can be aborted. -/
def abortRow (c : Instr) : Option (Fld × Nat × Acc) :=
  match c with
  | .stage w => some (.LAYOUT_STAGE, 0, w)
  | .flashProg w => some (.BOOTF_FLASH_PROG, 0, w)
  | .reconfGo p w => some (.PORT_CTL_RECONF_GO, p.val, w)
  | .tdrRun p w _ => some (.DIAG_TDR_RUN, p.val, w)
  | .svBaseSave p w => some (.SURVEY_SV_BASE_SAVE, p.val, w)
  | .send p w => some (.OAM_SEND, p.val, w)
  | .hybRecal p w => some (.CAL_HYB_RECAL, p.val, w)
  | _ => none

/-- A command of the queue asks for the abort of this one: a write of 0 by the Keeper. -/
def asksAbort (u : Nat) (f : Fld) (c : Instr) (s : State) : Bool :=
  let zero := fun (m d : Nat) => isKeeper m s && d / 2 ^ f.lo % 2 == 0
  match c with
  | .write r => r.addr.toNat == blkBase f.blk u + f.off && zero r.mtag.toNat r.data.toNat
  | c => match abortRow c with
    | some (g, v, w) => g == f && v == u && zero w.mtag.toNat w.data.toNat
    | none => false

/-- An abort of a running command is requested in this cycle (R90). -/
def abortMeets (u : Nat) (f : Fld) (s : State) : Bool :=
  mapGet s.abortAt (f.key u) == some s.cycles || meets (asksAbort u f · s) s

/-- A command that completes: DONE, with ABORT_LATE where an abort is requested in the same cycle (R90), or `late` where the
command's own chapter says so. (DESIGN CHOICE, log 132) -/
def cmdDoneLate (u : Nat) (f : Fld) (late : Bool) (s : State) : State :=
  when (late || abortMeets u f s) (setF u f.abortLate 1) (cmdEnd u f 2 s)

/-- A running command ended with an OUTCOME; nothing where it does not run. -/
def cmdStop (u : Nat) (f : Fld) (oc : Nat) (s : State) : State :=
  if !cmdRuns u f s then s else if oc = 2 then cmdDoneLate u f false s else cmdEnd u f oc s

/-- OUTCOME codes (R91). -/
def ocDone : Nat := 2

/-- ABORTED. -/
def ocAborted : Nat := 3

/-- REJECTED. -/
def ocRejected : Nat := 4

/-- FAILED_PLAUSIBILITY. -/
def ocImplausible : Nat := 5

/-- INPUT_UNFIT. -/
def ocUnfit : Nat := 6

/-- TIMEOUT. -/
def ocTimeout : Nat := 7

/-- INTERRUPTED_BY_RESET. -/
def ocInterrupted : Nat := 8

/-- SNAP_CLR: every counter of the block and CLR_MISS cleared (R95). (DESIGN CHOICE, log 36) -/
def clearCounters (b : Blk) (u : Nat) (s : State) : State :=
  setF u (.clrMiss b) 0 (forAll (counterFlds b) (fun f => setF u f 0) s)

/-- A block's fields returned to their reset values when its power domain is off (R375). (DEDUCED, log 34) -/
def resetBlk (b : Blk) (u : Nat) (s : State) : State :=
  let keys := ((blkFlds b).filter fun f => !f.keepsOnDomain).map fun f => f.key u
  { s with
    fields := s.fields.filter fun e => !keys.contains e.1
    tmr := s.tmr.filter fun e => !keys.contains e.1
    irqOut := dropNat s.irqOut (blkBase b u) }

end Sys2Proof.Machine
end

