-- ==== Sys2Proof/Machine/PortBase.lean ====
section
/-! DEFINITION. What the operations of a port share: states, roles, profile parameters, symbol sizes, the link margin
fields (R122, R127, R129, R157). -/

namespace Sys2Proof.Machine

/-- Port states (R157, R295, R320, R347). -/
def stDisabled : Nat := 0
/-- LINK_DOWN. -/
def stLinkDown : Nat := 1
/-- HS_LISTEN. -/
def stListen : Nat := 2
/-- HS_SEEK. -/
def stSeek : Nat := 3
/-- HS_CAP. -/
def stCap : Nat := 4
/-- T1. -/
def stT1 : Nat := 5
/-- T2. -/
def stT2 : Nat := 6
/-- T3. -/
def stT3 : Nat := 7
/-- T4. -/
def stT4 : Nat := 8
/-- T5. -/
def stT5 : Nat := 9
/-- SHOWTIME. -/
def stShow : Nat := 10
/-- FAST_RETRAIN. -/
def stFast : Nat := 11
/-- AN. -/
def stAn : Nat := 12
/-- COMPAT. -/
def stCompat : Nat := 13
/-- LINK_FAIL. -/
def stFail : Nat := 14
/-- LPI_QUIET. -/
def stQuiet : Nat := 15
/-- DIAG. -/
def stDiag : Nat := 16
/-- LOOPBACK. -/
def stLoop : Nat := 17
/-- SP_LISTEN. -/
def stSpListen : Nat := 24
/-- SP_KNOCK. -/
def stSpKnock : Nat := 25
/-- SP_MEMBER. -/
def stSpMember : Nat := 26
/-- SP_GATEHOUSE. -/
def stSpGate : Nat := 27

/-- PORT_CTL STATE. -/
def stOf (p : Nat) (s : State) : Nat := getF p .PORT_CTL_STATE s

/-- PORT_CTL STATE set. -/
def setSt (p st : Nat) : State → State := setF p .PORT_CTL_STATE st

/-- LINE_MODE (R104): 0 UNUSED, 1 TRUNK, 2 SPUR_GATEHOUSE, 3 SPUR_MEMBER, 4 T1_ONLY. -/
def lineMode (p : Nat) (s : State) : Nat := getF p .PORT_CTL_LINE_MODE s

/-- The port's line mode is a spur mode. -/
def isSpur (p : Nat) (s : State) : Bool := lineMode p s == 2 || lineMode p s == 3

/-- The pavilion of a port (R16). -/
def pavOf (p : Nat) : Nat := p / 2

/-- The pavilion of a port is enabled: EN is 1 and no disable is under way (R25, R30). -/
def pavEnabled (p : Nat) (s : State) : Bool :=
  isSet (pavOf p) .PAV_CTL_ENABLED s && getF (pavOf p) (.en .PAV_CTL) s == 1 && !(s.pav (pavOf p)).disabling

/-- PAV_CTL EN of a pavilion falls in this cycle: it has fallen in it, or the command that meets this one clears it (R28).
(DESIGN CHOICE, log 132) -/
def disableMeets (n : Nat) (s : State) : Bool :=
  let clears := fun (m d : Nat) => isKeeper m s && d % 2 == 0 && getF n (.en .PAV_CTL) s == 1
  (s.pav n).offCycle == some s.cycles || meets (fun c => match c with
    | .pavDisable k w => k.val == n && clears w.mtag.toNat w.data.toNat
    | .write r => r.addr.toNat == blkBase .PAV_CTL n && clears r.mtag.toNat r.data.toNat
    | _ => false) s

/-- An event of a port: the clocks it runs on are gated with their state held while ROOT is lost (R27, R369), and it is
abandoned where a disable of its pavilion falls in the same cycle (R28). -/
def portEvent (p : Nat) (f : State → State) (s : State) : State :=
  if !clocked s || disableMeets (pavOf p) s then s else f s

/-- An event of a pavilion or another block that runs on clocks derived from ROOT (R27, R369). -/
def clockEvent (f : State → State) (s : State) : State := if clocked s then f s else s

/-- The management core acts: its clock is gated while ROOT is lost, and in DEEP it is in retention unless its domain stays on
(R369, R374, R375). (DEDUCED, log 163) -/
def coreRuns (s : State) : Bool := clocked s && domainOn 1 s

/-- An action of the management core. -/
def coreEvent (f : State → State) (s : State) : State := if coreRuns s then f s else s

/-- A symbol, frame or pulse put on the line, unless it is muted (R24, R25, R27). -/
def emitLine (p : Nat) (e : Emission) (s : State) : State := when (!isSet p .TXSH_MUTED s) (emit e) s

/-- The port is the master of its link. -/
def isMaster (p : Nat) (s : State) : Bool := getF p .PORT_CTL_ROLE s == 1

/-- The port is the slave of its link. -/
def isSlave (p : Nat) (s : State) : Bool := getF p .PORT_CTL_ROLE s == 2

/-- The port carries data of chapter 8: showtime of trunk or spur mode, or the LOOPBACK of R347. -/
def inShow (p : Nat) (s : State) : Bool := [stShow, stQuiet, stLoop, stSpMember, stSpGate].contains (stOf p s)

/-- Trunk showtime in the sense of R193: SHOWTIME or LPI_QUIET (R320). -/
def trunkShow (p : Nat) (s : State) : Bool := stOf p s == stShow || stOf p s == stQuiet

/-! ### Profiles (R122) -/

/-- The code rate of a profile: 0 3/4, 1 5/6, 2 8/9. -/
def profRate (q : Nat) : Nat := if q = 0 then 2 else if q = 1 then 0 else 1

/-- Maximum iterations of a profile. -/
def profIter (q : Nat) : Nat := if q = 0 then 12 else if q = 1 then 24 else if q = 2 then 8 else 6

/-- Bit-loading margin target of a profile, 0.1 dB. -/
def profMargin (q : Nat) : Int := if q = 1 then 90 else 60

/-- PSD preference of a profile, 0.1 dB. -/
def profPref (q : Nat) : Nat := if q = 3 then 60 else 0

/-- Default stream DEADLINE of a profile, µs. -/
def profDeadline (q : Nat) : Nat := if q = 0 then 2000 else if q = 1 then 8000 else if q = 2 then 100 else 4000

/-- LPI entry time of a profile, µs; none: never. -/
def profLpi (q : Nat) : Option Nat :=
  if q = 0 then some 1000 else if q = 1 then some 10000 else if q = 2 then none else some 100

/-- Γ of a code rate, 0.1 dB (R152). -/
def gammaOf (cr : Nat) : Int := if cr = 0 then 20 else if cr = 1 then 30 else 40

/-- Frame-data bytes of a codeword (R231); 0 while no code rate is in force. -/
def frameData (cr : Nat) : Nat := if cr = 0 then 208 else if cr = 1 then 232 else if cr = 2 then 248 else 0

/-- The code rate in force, 3 for none (R243). -/
def codeRate (p : Nat) (s : State) : Nat := getF p .FEC_CODE_RATE s

/-- The profile in force. -/
def profileOf (p : Nat) (s : State) : Nat := getF p .PORT_CTL_PROFILE s

/-- Tones of a symbol (R127). -/
def tonesOf (short : Bool) : Nat := if short then 4096 else 16384

/-- Samples of a symbol body (R127). -/
def bodyOf (short : Bool) : Nat := if short then 8192 else 32768

/-- Samples of a CE code (R129). -/
def ceSamples (code : Nat) : Nat := 512 * 2 ^ code

/-- Short symbols are in use. -/
def isShort (p : Nat) (s : State) : Bool := isSet p .TXSH_SHORT s

/-- The symbol period in samples (R129). -/
def symPeriod (p : Nat) (s : State) : Nat := bodyOf (isShort p s) + ceSamples (getF p .TXSH_CE s)

/-- A block's RW field: its configured value while the block's EN is 1, its reset value while it is 0 (R226, R264).
(DEDUCED, log 40) -/
def rwF (u : Nat) (f : Fld) (s : State) : Nat := if enOf f.blk u s = 1 then getF u f s else f.base

/-- A signed field. -/
def getS (u : Nat) (f : Fld) (s : State) : Int := signedOf f.width (getF u f s)

/-- A signed field set, held to its range. -/
def setS (u : Nat) (f : Fld) (v : Int) : State → State := setF u f (codeOf f.width (satSigned f.width v))

/-- A rational value in the units of its register: itself where it is whole, else rounded in a way the spec leaves
open. (DESIGN CHOICE, log 13) -/
def roundQ (s : State) (q : Rat) : Int := if q.den = 1 then q.num else Config.freeRound s.fresh q

/-! ### Flow-control and other frames on the host lane -/

/-- The lane is up (R340). -/
def laneUp (p : Nat) (s : State) : Bool := isSet p .HOST_HOST_UP s

/-- SRC_MAC of the HOST block. -/
def srcMac (p : Nat) (s : State) : Nat := getF p .HOST_SRC_MAC_HI s * 2 ^ 16 + getF p .HOST_SRC_MAC_LO s

/-- A frame with its FCS (R341), the least significant byte first. -/
def withFcs (bs : List Byte) : List Byte := bs ++ leBytes 4 (crc32 0xFFFFFFFF bs)

/-- A frame ends in the FCS of its other bytes (R341). -/
def fcsRight (bs : List Byte) : Bool := bs.drop (bs.length - 4) == leBytes 4 (crc32 0xFFFFFFFF (bs.take (bs.length - 4)))

/-- A frame of the device's own: destination, source, EtherType, payload padded to 64 bytes with its FCS (R344). -/
def ownFrame (dst src etype : Nat) (payload : List Byte) : List Byte :=
  withFcs (beBytes 6 dst ++ beBytes 6 src ++ beBytes 2 etype ++ payload ++ List.replicate (46 - payload.length) 0)

/-- The flow-control frame of R344 for classes under pressure and classes whose pressure has just ended. -/
def flowFrame (p : Nat) (ended : Nat) (s : State) : List Byte :=
  let pr := getF p .STREAM_PRESSURE s
  let q := rwF p .HOST_PAUSE_QUANTA s
  if rwF p .HOST_PFC_EN s = 1 then
    ownFrame 0x0180C2000001 (srcMac p s) 0x8808
      (beBytes 2 0x0101 ++ beBytes 2 (pr ||| ended) ++
        (List.range 8).flatMap fun c => beBytes 2 (if bitOf pr c then q else 0))
  else
    ownFrame 0x0180C2000001 (srcMac p s) 0x8808 (beBytes 2 0x0001 ++ beBytes 2 (if pr = 0 then 0 else q))

/-- A flow-control frame sent on HSOn while the lane is up, when PFC or PAUSE is enabled (R340, R344); a PAUSE frame
only where the port's pressure as a whole begins, ends or is refreshed. Kind 1 of the host emissions. -/
def sendFlow (p : Nat) (ended : Nat) (pause : Bool) (s : State) : State :=
  if !laneUp p s then s
  else if rwF p .HOST_PFC_EN s = 1 then count p .HOST_PFC_TX (emit (.host p 1 (flowFrame p ended s)) s)
  else if pause && rwF p .HOST_PAUSE_EN s == 1 then count p .HOST_PAUSE_TX (emit (.host p 1 (flowFrame p ended s)) s)
  else s

end Sys2Proof.Machine
end

