-- ==== Sys2Proof/Machine/Layby.lean ====
section
/-! DEFINITION. The lay-by, streams and frames of a port: slots, admission, pressure, mileposts, give-up, receive
assembly and their accounting (R238 to R263, R443). -/

namespace Sys2Proof.Machine

/-! ### Streams and slots -/

/-- A stream entry. -/
def streamOf (p i : Nat) (s : State) : StreamEnt := mapGetD (s.port p).streams i {}

/-- A stream entry replaced. -/
def modStream (p i : Nat) (f : StreamEnt → StreamEnt) : State → State :=
  modPort p fun x => { x with streams := mapPut x.streams i (f (mapGetD x.streams i {})) }

/-- The counters of a stream entry: 0 FR_ADM, 1 FR_DELIV, 2 FR_EXP_TX, 3 FR_EXP_RX, 4 FR_TAILDROP (R270). -/
def streamCounts (e : StreamEnt) : List Nat := [e.frAdm, e.frDeliv, e.frExpTx, e.frExpRx, e.frTail]

/-- A counter of a stream entry advanced. -/
def addStream (k n : Nat) (e : StreamEnt) : StreamEnt :=
  match k with
  | 0 => { e with frAdm := satAdd 48 e.frAdm n }
  | 1 => { e with frDeliv := satAdd 48 e.frDeliv n }
  | 2 => { e with frExpTx := satAdd 48 e.frExpTx n }
  | 3 => { e with frExpRx := satAdd 48 e.frExpRx n }
  | _ => { e with frTail := satAdd 48 e.frTail n }

/-- A counter of a stream entry counts on; its saturation sets SAT of the STREAM block as a corrected-class event with the
offset ÷ 4 of the entry window as detail (R93, R411). (DEDUCED, log 147) -/
def countStream (p i k n : Nat) (s : State) : State :=
  let old := (streamCounts (streamOf p i s)).getD k 0
  let s := modStream p i (addStream k n) s
  if old < 2 ^ 48 - 1 ∧ 2 ^ 48 - 1 ≤ old + n then correctedFault .STREAM p 1 (0x038 / 4) s else s

/-- The destination node of a stream: its SDEST entry in spur mode, node 0 in trunk mode (R302). -/
def destOf (p i : Nat) (s : State) : Nat :=
  if isSpur p s then (((s.port p).layout.sdest.find? fun e => e.1 == i).map (·.2)).getD 0 else 0

/-- Transmit codewords of a stream that hold slots; broadcast codewords hold none (R302). -/
def heldTx (x : Port) (i : Nat) : Nat := (x.cws.filter fun c => c.stream == i && c.node != 31).length

/-- Slots held by transmit codewords (HELD_TX). -/
def heldTxAll (x : Port) : Nat := (x.cws.filter fun c => c.node != 31).length

/-- Slots held by received codewords (HELD_RX). -/
def heldRx (x : Port) : Nat := x.rxCws.length

/-- The port's lay-by share. -/
def shareOf (p : Nat) (s : State) : Nat := getF p .LAYBY_P_SHARE s

/-- The guaranteed slots of an entry: none for a FIXED one (R240). -/
def guarOf (e : StreamEnt) : Nat := if e.cfg.fixed then 0 else e.cfg.guar

/-- GUAR_SUM: the GUAR of entries in STATE ON. (DEDUCED, log 86) -/
def guarSum (x : Port) : Nat := x.streams.foldl (fun a e => if e.2.st = 1 then a + guarOf e.2 else a) 0

/-- The free pool (R241). -/
def freePool (p : Nat) (s : State) : Nat :=
  let x := s.port p
  let used := x.streams.foldl
    (fun a e => a + if e.2.st = 1 then max (guarOf e.2) (heldTx x e.1) else heldTx x e.1) 0
  let stray := (x.cws.filter fun c => c.node != 31 && (mapGet x.streams c.stream).isNone).length
  shareOf p s - used - stray - heldRx x

/-- A stream can take a slot (R241). -/
def canTake (p i : Nat) (s : State) : Bool :=
  let e := streamOf p i s
  let held := heldTx (s.port p) i
  held < e.cfg.guar || (held < e.cfg.cap && 0 < freePool p s)

/-- PEAK_EVEN or PEAK_ODD raised to the present use of the port (R267). -/
def notePeak (p : Nat) (s : State) : State :=
  let f : Fld := if p % 2 = 0 then .LAYBY_PEAK_EVEN else .LAYBY_PEAK_ODD
  setF (pavOf p) f (max (getF (pavOf p) f s) (heldTxAll (s.port p) + heldRx (s.port p))) s

/-- A stream's deadline in µs: its DEADLINE, or the default of the profile (R122, R247), 4 ms in spur mode (R302). -/
def deadlineOf (p i : Nat) (s : State) : Nat :=
  let d := (streamOf p i s).cfg.deadline
  if d ≠ 0 then d else if isSpur p s then 4000 else profDeadline (profileOf p s)

/-- Sends of a stream's codewords: MAX_TRIES, 1 with RETX = 0 (R247). -/
def triesOf (e : StreamEnt) : Nat := if e.cfg.retx then e.cfg.maxTries else 1

/-- Enabling a stream: its STATE, 1 ON, 2 REFUSED_GUAR, 3 REFUSED_ENTRY (R239). (DEDUCED, log 86) -/
def enableVerdict (p i : Nat) (s : State) : Nat :=
  let x := s.port p
  let e := streamOf p i s
  let fixed := e.cfg.fixed
  if !fixed && (heldTx x i ≠ 0 || e.cfg.cap < 1 || e.cfg.cap < e.cfg.guar || e.cfg.maxTries < 1) then 3
  else if !fixed && shareOf p s < guarSum x + e.cfg.guar then 2
  else 1

/-! ### Ingress queues and pressure -/

/-- The ingress queue of a class. -/
def classQ (x : Port) (c : Nat) : List QFrame := x.inq.getD c []

/-- The ingress queue of a class replaced. -/
def setClassQ (p c : Nat) (q : List QFrame) : State → State := modPort p fun x => { x with inq := x.inq.set c q }

/-- Bytes in a queue (QFILL). -/
def queueBytes (q : List QFrame) : Nat := q.foldl (fun a f => a + (f.bytes.length - f.pad)) 0

/-- The open codeword of a stream. -/
def hasOpen (x : Port) (i : Nat) : Bool := x.cws.any fun c => c.stream == i && c.opened

/-- The head frame of a class waits for a slot of a stream that is at CAP (R244). -/
def waitsOnCap (p c : Nat) (s : State) : Bool :=
  let x := s.port p
  match (classQ x c).head? with
  | some f =>
    codeRate p s != 3 && !hasOpen x f.stream && (streamOf p f.stream s).cfg.cap ≤ heldTx x f.stream &&
      destOf p f.stream s != 31
  | none => false

/-- Pressure of a class after a change of its queue or its stream, with the flow-control frame of a change (R244,
R344). -/
def updPressure (p c : Nat) (s : State) : State :=
  let b := queueBytes (classQ (s.port p) c)
  let pr := getF p .STREAM_PRESSURE s
  let on := bitOf pr c
  if !on && (getF p .STREAM_XOFF_LVL s ≤ b || waitsOnCap p c s) then
    sendFlow p 0 (pr == 0) (setF p .STREAM_PRESSURE (pr + 2 ^ c) s)
  else if on && b ≤ getF p .STREAM_XON_LVL s && !waitsOnCap p c s then
    sendFlow p (2 ^ c) (pr == 2 ^ c) (setF p .STREAM_PRESSURE (pr - 2 ^ c) s)
  else s

/-- Pressure of every class. -/
def updPressures (p : Nat) : State → State := forAll (List.range 8) (updPressure p)

/-! ### Frames into codewords (R233, R243) -/

/-- The words of a frame: delimiter with its HEC, bytes, pad (R233). -/
def frameWords (bs : List Byte) : List Byte :=
  let head := beBytes 2 (bs.length * 4 + 2)
  head ++ beBytes 2 (crc16 head) ++ bs ++ List.replicate ((4 - bs.length % 4) % 4) 0

/-- EtherType of a frame after at most one IEEE 802.1Q tag (R238). -/
def etherType (bs : List Byte) : Nat :=
  let t := beNat ((bs.drop 12).take 2)
  if t = 0x8100 then beNat ((bs.drop 16).take 2) else t

/-- KIND of a frame's time stamp (R346): 0 for EtherType 0x88F7, else 1. -/
def stampKind (bs : List Byte) : Nat := if etherType bs = 0x88F7 then 0 else 1

/-- The key of a frame's time stamp (R346): messageType, domainNumber and sequenceId of the IEEE 1588 header, or the
FCS. -/
def stampKey (bs : List Byte) : Nat :=
  if stampKind bs = 0 then
    let h := bs.drop (if beNat ((bs.drop 12).take 2) = 0x8100 then 18 else 14)
    bitsOf (beNat (h.take 1)) 0 4 * 2 ^ 28 + beNat ((h.drop 4).take 1) * 2 ^ 20 + beNat ((h.drop 30).take 2)
  else beNat (bs.drop (bs.length - 4))

/-- A frame of the stream is time-stamped: FIXED, or SEL_STREAM while SEL_EN and TSU EN are 1 (R345). -/
def stamped (p i : Nat) (s : State) : Bool :=
  enOf .TSU p s == 1 &&
    ((streamOf p i s).cfg.fixed || (getF p .TSU_SEL_EN s == 1 && getF p .TSU_SEL_STREAM s == i))

/-- A POP of a FIFO meets a time stamp in the same cycle: it removes the old head, which makes room (R350).
(DESIGN CHOICE, log 132) -/
def popMeets (p : Nat) (rx : Bool) (s : State) : Bool :=
  meets (fun c => match c with
    | .txPop q w => !rx && q.val == p && isKeeper w.mtag.toNat s && w.data.toNat % 2 == 1
    | .rxPop q w => rx && q.val == p && isKeeper w.mtag.toNat s && w.data.toNat % 2 == 1
    | _ => false) s

/-- A time-stamp entry appended to a FIFO of 64, or counted when it is full (R346). `t8` is device time in ⅛ ns. -/
def appendStamp (p : Nat) (rx : Bool) (stream kind key t8 : Nat) (s : State) : State :=
  let ns := t8 / 8
  let sec := ns / 1000000000
  let e := [sec % 2 ^ 32, kind * 2 ^ 31 + ns % 1000000000,
    getF 0 .TIME_TIME_VALID s * 2 ^ 31 + t8 % 8 * 2 ^ 28 + stream * 2 ^ 16 + sec / 2 ^ 32 % 2 ^ 16, key]
  let l := (s.port p).lane
  if enOf .TSU p s ≠ 1 then s
  else if rx then
    if l.tsRx.length < 64 || popMeets p rx s then sticky .TSU_RX_TS_READY p (modLane p (fun l => { l with tsRx := l.tsRx ++ [e] }) s)
    else sticky .TSU_TS_OVF p (count p .TSU_RX_TS_OVF s)
  else
    if l.tsTx.length < 64 || popMeets p rx s then sticky .TSU_TX_TS_READY p (modLane p (fun l => { l with tsTx := l.tsTx ++ [e] }) s)
    else sticky .TSU_TS_OVF p (count p .TSU_TX_TS_OVF s)

/-- Device time in ⅛ ns (R346). -/
def nowEighths (s : State) : Nat := nowNs s * 8 + s.frac / 2 ^ 13

/-- The milestone counters of a node and class. -/
def pmsOf (p node c : Nat) (s : State) : Pms := mapGetD (s.port p).pms (node * 8 + c) {}

/-- The milestone counters of a node and class replaced. -/
def modPms (p node c : Nat) (f : Pms → Pms) : State → State :=
  modPort p fun x => { x with pms := mapPut x.pms (node * 8 + c) (f (mapGetD x.pms (node * 8 + c) {})) }

/-- A milestone less another as a signed 16-bit difference (R246). -/
def msDiff (a b : Nat) : Int := signedOf 16 (a % 65536 + 65536 - b % 65536)

/-- A milestone lies below another. -/
def msBelow (a b : Nat) : Bool := decide (msDiff a b < 0)

/-- A stream's open codeword opened: it takes a slot and the next milestone of its class, and TX_NEXT increments;
a broadcast codeword takes neither (R243, R246, R302). -/
def openCw (p i : Nat) (s : State) : State :=
  let c := (streamOf p i s).cfg.cls
  let node := destOf p i s
  let m := (pmsOf p node c s).txNext
  let cw : TxCw :=
    { node := node, cls := c, ms := if node = 31 then 0 else m, stream := i, st := .queued, opened := true, sends := 0,
      data := [], firstDelim := 127, frames := [], firstSym := 0, lastSym := 0, cycle := 0 }
  let s := modPort p (fun x => { x with cws := x.cws ++ [cw] }) s
  if node = 31 then s else notePeak p (modPms p node c (fun q => { q with txNext := (m + 1) % 65536 }) s)

/-- The head frame of a class started: its first byte is admitted, and it counts in FR_ADM (R243). -/
def startFrame (p c : Nat) (s : State) : State :=
  match classQ (s.port p) c with
  | f :: q =>
    if f.started then s
    else
      let t : TxFrame :=
        { ident := f.ident, stream := f.stream, whole := false, parts := 0, lost := false, lastMs := 0,
          kind := stampKind f.bytes, key := stampKey f.bytes, stamp := stamped p f.stream s }
      countStream p f.stream 0 1
        (modPort p (fun x =>
          { x with inq := x.inq.set c ({ f with bytes := frameWords f.bytes, started := true, pad := (4 - f.bytes.length % 4) % 4 } :: q),
                   txFrames := x.txFrames ++ [t] }) s)
  | [] => s

/-- Bytes of the head frame of a class mapped into its stream's open codeword of `n` bytes. -/
def mapBytes (p c n : Nat) (s : State) : State :=
  let first := (classQ (s.port p) c).head?.any fun f => !f.started
  let s := startFrame p c s
  let x := s.port p
  match classQ x c with
  | f :: q =>
    match x.cws.find? fun w => w.stream == f.stream && w.opened with
    | some w =>
      let begins := first && w.firstDelim == 127
      let took := f.bytes.take (n - w.data.length)
      let left := f.bytes.drop (n - w.data.length)
      let full := w.data.length + took.length == n
      let w' : TxCw :=
        { w with data := w.data ++ took, opened := !full, frames := w.frames ++ [f.ident],
                 firstDelim := if begins then w.data.length / 4
                   else if w.firstDelim == 127 && left.isEmpty && !full then (w.data.length + took.length) / 4
                   else w.firstDelim }
      let t' := fun (t : TxFrame) =>
        if t.ident == f.ident then { t with parts := t.parts + 1, whole := left.isEmpty, lastMs := w.ms } else t
      modPort p (fun x =>
        { x with cws := modifyFirst (fun v => v.stream == f.stream && v.opened) (fun _ => w') x.cws
                 inq := x.inq.set c (if left.isEmpty then q else { f with bytes := left } :: q)
                 txFrames := x.txFrames.map t' }) s
    | none => s
  | [] => s

/-- The head frames of a class mapped while their streams have an open codeword (R243): no slot is taken. -/
def mapClass (p c : Nat) : Nat → State → State
  | 0, s => s
  | k + 1, s =>
    match (classQ (s.port p) c).head? with
    | some f => if hasOpen (s.port p) f.stream then mapClass p c k (mapBytes p c (frameData (codeRate p s)) s) else s
    | none => s

/-- Frames may be admitted: the pavilion is enabled, a code rate is in force, STREAM EN is 1, admission is not held by a
reconfiguration (R188, R243), no HOST_NEAR loopback takes the frames (R347). -/
def mayAdmit (p : Nat) (s : State) : Bool :=
  pavEnabled p s && codeRate p s != 3 && enOf .STREAM p s == 1 && !(s.port p).rc.admHeld && getF p .HOST_LB_ACTIVE s != 1

/-- The rest of a class's frames mapped into open codewords, and its pressure. -/
def settleClass (p c : Nat) (s : State) : State :=
  updPressure p c (if mayAdmit p s then mapClass p c ((classQ (s.port p) c).length + 1) s else s)

/-- The frames of every class mapped as far as they go, after a change that may let them (R243). -/
def settleClasses (p : Nat) : State → State := forAll (List.range 8) (settleClass p)

/-! ### Settling transmit codewords -/

/-- LD_TX of a stream advanced over the frames at the front of its accounting that are settled (R261). -/
def sweepFrames (p i : Nat) : Nat → State → State
  | 0, s => s
  | k + 1, s =>
    match (s.port p).txFrames.find? fun t => t.stream == i with
    | some t =>
      if t.whole && t.parts == 0 then
        let s := modPort p (fun x => { x with txFrames := x.txFrames.filter fun v => v.ident != t.ident }) s
        let s := if t.lost then s else modStream p i (fun e => { e with ldTx := some t.lastMs }) s
        sweepFrames p i k s
      else s
    | none => s

/-- A codeword's frames have one codeword less to settle. -/
def settleCw (p : Nat) (w : TxCw) (s : State) : State :=
  let s := modPort p (fun x =>
    { x with txFrames := x.txFrames.map fun t =>
        if w.frames.contains t.ident then { t with parts := t.parts - w.frames.count t.ident } else t }) s
  sweepFrames p w.stream ((s.port p).txFrames.length + 1) s

/-- A codeword removed from its slot. -/
def dropCw (p : Nat) (w : TxCw) : State → State :=
  modPort p fun x => { x with cws := x.cws.filter fun v => !(v.node == w.node && v.cls == w.cls && v.ms == w.ms) }

/-- A codeword acknowledged: its slot is freed (R247, R250). -/
def ackCw (p : Nat) (w : TxCw) (s : State) : State := settleCw p w (dropCw p w s)

/-- Frames of a stream lost at the sender: FR_EXP_TX of the stream and of the block, EXPIRED (R256). -/
def expireTx (p i n : Nat) (s : State) : State :=
  if n = 0 then s
  else
    sticky .STREAM_EXPIRED p (countBy p .STREAM_FR_EXP_TX n
      (modWatch p (fun w => { w with expTx := w.expTx + n }) <| countStream p i 2 n s))

/-- A notice entry queued, or dropped and counted when 1,024 are held (R254). -/
def queueNotice (p : Nat) (w : TxCw) (s : State) : State :=
  if (s.port p).notices.length < 1024 then
    modPort p (fun x => { x with notices := x.notices ++ [⟨w.node, w.cls, w.stream, w.ms, none⟩] }) s
  else sticky .LAYBY_P_NOTICE_OVF p (count p .LAYBY_P_NOTICE_OVF s)

/-- A codeword given up: slot freed, a notice entry queued, its frames lost (R247, R254, R256). `ctr` is
GIVEUP_DEADLINE or GIVEUP_TRIES. -/
def giveUp (p : Nat) (ctr : Option Fld) (w : TxCw) (s : State) : State :=
  let lostNow := ((s.port p).txFrames.filter fun t => w.frames.contains t.ident && !t.lost).length
  let s := modPort p (fun x =>
    { x with txFrames := x.txFrames.map fun t => if w.frames.contains t.ident then { t with lost := true } else t })
    (dropCw p w s)
  let s := sticky .LAYBY_P_GIVEUP p (match ctr with | some f => count p f s | none => s)
  queueNotice p w (settleCw p w (expireTx p w.stream lostNow s))

/-- The deadline of a codeword falls in this cycle: it wins over a resend (R263). (DESIGN CHOICE, log 132) -/
def deadlineMeets (p : Nat) (w : TxCw) (s : State) : Bool :=
  meets (fun c => match c with
    | .deadlineExpiry q node cls ms => q.val == p && node.val == w.node && cls.val == w.cls && ms.toNat == w.ms
    | _ => false) s

/-- A SENT codeword scheduled for resend, or given up when its tries are used (R247). -/
def schedule (p : Nat) (w : TxCw) (s : State) : State :=
  if deadlineMeets p w s then s
  else if w.sends < triesOf (streamOf p w.stream s) then
    modPort p (fun x =>
      { x with cws := x.cws.map fun v =>
                  if v.node == w.node && v.cls == w.cls && v.ms == w.ms then { v with st := .resend } else v }) s
  else giveUp p (some .LAYBY_P_GIVEUP_TRIES) w s

/-- The codewords of a port that satisfy `q`, scheduled for resend in turn. -/
def scheduleAll (p : Nat) (q : TxCw → Bool) (s : State) : State :=
  forAll ((s.port p).cws.filter fun w => w.st == .sent && w.node != 31 && q w) (schedule p) s

/-- A milepost of a class: codewords below its cumulative milestone are freed, TX_ACK and the notices follow, and the
NACKed codewords that `ripe` admits are scheduled (R250, R254). -/
def onMilepost (p node c cum nack : Nat) (ripe : TxCw → Bool) (s : State) : State :=
  let acked := (s.port p).cws.filter fun w => w.node == node && w.cls == c && msBelow w.ms cum
  let s := forAll acked (ackCw p) s
  let s := modPms p node c (fun q => { q with
    txAck := cum, tailRun := if q.txAck == cum && nack == 0 then q.tailRun + 1 else 0 }) s
  let s := modPort p (fun x =>
    { x with notices := x.notices.filter fun n => !(n.node == node && n.cls == c && msBelow n.ms cum) }) s
  scheduleAll p (fun w =>
    w.node == node && w.cls == c && ripe w &&
      (let d := msDiff w.ms cum; decide (0 ≤ d) && decide (d < 64) && bitOf nack (63 - d.toNat))) s

/-! ### The receiver's milestones -/

/-- A milestone is resolved (R248). -/
def resolved (x : Port) (node c rxA ms : Nat) : Bool :=
  msBelow ms rxA || (x.rxCws.any fun w => w.node == node && w.cls == c && w.ms == ms) ||
    ((x.rxGiven ++ x.rxDone).any fun g => g.node == node && g.cls == c && g.ms == ms)

/-- RX_A moved up to the lowest unresolved milestone, at most `k` steps. -/
def lowestOpen (x : Port) (node c : Nat) : Nat → Nat → Nat
  | 0, a => a
  | k + 1, a => if resolved x node c a a then lowestOpen x node c k ((a + 1) % 65536) else a

/-- RX_A of a node and class brought up to date; resolved milestones below it that no frame needs are dropped. -/
def advanceRx (p node c : Nat) (s : State) : State :=
  let x := s.port p
  let q := pmsOf p node c s
  let a := lowestOpen x node c (x.rxCws.length + x.rxGiven.length + x.rxDone.length + 1) q.rxA
  let mine := fun (g : RxGiven) => g.node == node && g.cls == c
  let heldBelow := fun (g : RxGiven) =>
    x.rxCws.any fun w => w.node == node && w.cls == c && msBelow w.ms g.ms
  modPms p node c (fun q => { q with rxA := a })
    (modPort p (fun x =>
      { x with rxGiven := x.rxGiven.filter fun g => !mine g || !msBelow g.ms a || heldBelow g
               rxDone := x.rxDone.filter fun g => !mine g || !msBelow g.ms a }) s)

/-- The NACK bitmap of a milepost: bit 63 − i for milestone RX_A + i (R248). -/
def nackBits (p node c : Nat) (s : State) : Nat :=
  let q := pmsOf p node c s
  let x := s.port p
  (List.range 64).foldl (fun a i =>
    let ms := (q.rxA + i) % 65536
    2 * a + ofBool (q.rxAny && msBelow ms q.rxHigh && !resolved x node c q.rxA ms)) 0

/-! ### Assembly of received frames (R258, R259) -/

/-- The held codewords of a stream, in milestone order. -/
def streamCws (x : Port) (node i : Nat) (base : Nat) : List RxCw :=
  (x.rxCws.filter fun w => w.node == node && w.stream == i).mergeSort fun a b => decide (msDiff a.ms base ≤ msDiff b.ms base)

/-- Whether a codeword holds another frame to read at its position: not at its end and no fill word there. -/
def moreIn (w : RxCw) : Bool := w.firstDelim != 127 && w.pos < w.data.length && beNat ((w.data.drop w.pos).take 4) != 0

/-- A codeword in which nothing is left. -/
def spent (w : RxCw) : Bool := w.headDone && !moreIn w

/-- What reading a frame finds: nothing yet, a whole frame, or a frame that must be discarded; with the milestones of
the codewords that hold its bytes, the first one holding its delimiter. A discarded frame has `left` bytes that may still
come. -/
inductive Found where
  | notYet
  | whole (bytes : List Byte) (ms : List Nat) (last : Nat)
  | broken (ms : List Nat) (left : Nat)
deriving DecidableEq, Repr

/-- Bytes left of a lost frame whose length is not known: more than any frame has. -/
def lenUnknown : Nat := 2 ^ 20

/-- Milestones strictly between two are all resolved, and which of them are given up for a stream. -/
def between (a b : Nat) : List Nat := (List.range ((b + 65536 - a) % 65536 - 1)).map fun i => (a + 1 + i) % 65536

/-- A given-up milestone of a stream, or of an unknown stream, in a list of milestones (R258). -/
def givenIn (x : Port) (node c i : Nat) (l : List Nat) : Bool :=
  x.rxGiven.any fun g => g.node == node && g.cls == c && (g.stream == some i || g.stream == none) && l.contains g.ms

/-- The given-up milestones of a stream, or of an unknown one, that follow a milestone with all between them resolved. -/
def givenAfter (x : Port) (node c i rxA prev : Nat) : List RxGiven :=
  x.rxGiven.filter fun g => g.node == node && g.cls == c && (g.stream == some i || g.stream == none) && msBelow prev g.ms &&
    ((between prev g.ms).all fun m => resolved x node c rxA m)

/-- The rest of a frame gathered from the following codewords of its stream (R258): `need` bytes after `acc`. A given-up
codeword takes as many of the bytes still to come as the codeword before it holds. (DEDUCED, log 83) -/
def gather (x : Port) (node c i rxA n : Nat) (need : Nat) (acc : List Byte) (used : List Nat) (prev : Nat) :
    List RxCw → Found
  | [] =>
    let l := givenAfter x node c i rxA prev
    if l.any fun g => g.stream == some i then .broken used (need - n * l.length) else .notYet
  | w :: rest =>
    let gap := between prev w.ms
    if !(gap.all fun m => resolved x node c rxA m) then .notYet
    else if givenIn x node c i gap then .broken used (need - n * (gap.filter fun m => givenIn x node c i [m]).length)
    else
      let padded := (need + 3) / 4
      let words := w.data.length / 4
      if padded < words then
        if w.firstDelim < padded then .broken (used ++ [w.ms]) 0
        else .whole (acc ++ w.data.take need) (used ++ [w.ms]) w.ms
      else if padded = words then
        if w.firstDelim != 127 then .broken (used ++ [w.ms]) 0
        else .whole (acc ++ w.data.take need) (used ++ [w.ms]) w.ms
      else if w.firstDelim != 127 then .broken (used ++ [w.ms]) 0
      else gather x node c i rxA n (need - w.data.length) (acc ++ w.data) (used ++ [w.ms]) w.ms rest

/-- The frame that begins at a codeword's position (R233, R258). -/
def frameAt (x : Port) (node i rxA : Nat) (w : RxCw) (rest : List RxCw) : Found :=
  let d := (w.data.drop w.pos).take 4
  let len := bitsOf (beNat d) 18 14
  let body := w.data.drop (w.pos + 4)
  if bitsOf (beNat d) 16 2 ≠ 2 ∨ crc16 (d.take 2) ≠ bitsOf (beNat d) 0 16 then .broken [w.ms] lenUnknown
  else if len ≤ body.length then .whole (body.take len) [w.ms] w.ms
  else gather x node w.cls i rxA w.data.length (len - body.length) body [w.ms] w.ms rest

/-- The position after a frame that begins in a codeword: behind it, or the codeword's end. -/
def nextPos (w : RxCw) : Nat :=
  let d := (w.data.drop w.pos).take 4
  let len := bitsOf (beNat d) 18 14
  if bitsOf (beNat d) 16 2 ≠ 2 ∨ crc16 (d.take 2) ≠ bitsOf (beNat d) 0 16 then w.data.length
  else min w.data.length (w.pos + 4 + (len + 3) / 4 * 4)

/-- Bytes of the frame at a codeword's position that lie beyond the codeword. -/
def beyond (w : RxCw) : Nat :=
  let d := (w.data.drop w.pos).take 4
  if bitsOf (beNat d) 16 2 ≠ 2 ∨ crc16 (d.take 2) ≠ bitsOf (beNat d) 0 16 then lenUnknown
  else w.pos + 4 + bitsOf (beNat d) 18 14 - w.data.length

/-- The frames that begin in a codeword from its position on: how many, and how many bytes of the last lie beyond it. -/
def framesIn (w : RxCw) : Nat × Nat :=
  ((List.range 62).foldl (fun (a : RxCw × Nat × Nat) _ =>
    if moreIn a.1 then ({ a.1 with pos := nextPos a.1 }, a.2.1 + 1, beyond a.1) else a) (w, 0, 0)).2

/-- A codeword lies where a frame of its stream is in progress that began in an earlier codeword held. -/
def inProgress (l : List RxCw) (w : RxCw) : Bool := l.any fun v => msBelow v.ms w.ms && 0 < (framesIn v).2

/-- A held codeword replaced. -/
def modRx (p node c ms : Nat) (f : RxCw → RxCw) : State → State :=
  modPort p fun x => { x with rxCws := x.rxCws.map fun w => if w.node == node && w.cls == c && w.ms == ms then f w else w }

/-- Spent codewords of a node and class leave their slots; their milestones stay received (R259). -/
def freeSpent (p node c : Nat) (s : State) : State :=
  let x := s.port p
  let gone := x.rxCws.filter fun w => w.node == node && w.cls == c && spent w
  advanceRx p node c (modPort p (fun x =>
    { x with rxCws := x.rxCws.filter fun w => !(w.node == node && w.cls == c && spent w)
             rxDone := x.rxDone ++ gone.map fun w => ⟨w.node, w.cls, w.ms, some w.stream⟩
             rxHist := mapPutAll x.rxHist (gone.map fun w => ((w.node * 8 + w.cls) * 65536 + w.ms, w.out)) }) s)

/-- The bytes of a frame consumed from its codewords: the first is read on behind it, in the others the bytes before
the first delimiter are done. `k` more frames with bytes in them are released. (DEDUCED, log 129) -/
def consume (p node c : Nat) (ms : List Nat) (k : Nat) (s : State) : State :=
  match ms with
  | [] => s
  | m :: rest =>
    freeSpent p node c
      (forAll rest (fun m => modRx p node c m fun w => { w with headDone := true, out := w.out + k })
        (modRx p node c m (fun w => { w with pos := nextPos w, out := w.out + k }) s))

/-- Frames of a stream lost at the receiver (R256). -/
def expireRx (p i n : Nat) (s : State) : State :=
  if n = 0 then s
  else
    sticky .STREAM_EXPIRED p (countBy p .STREAM_FR_EXP_RX n
      (modWatch p (fun w => { w with expRx := w.expRx + n }) <| countStream p i 3 n s))

/-- The first frame of a stream, in milestone order, that `good` accepts, with the codeword it begins in.
(DEDUCED, log 83) -/
def findFrame (x : Port) (node i rxA : Nat) (good : Found → Bool) : List RxCw → Option (RxCw × Found)
  | [] => none
  | w :: rest =>
    if moreIn w && good (frameAt x node i rxA w rest) then some (w, frameAt x node i rxA w rest)
    else findFrame x node i rxA good rest

/-- How many bytes of the latest lost frame of a stream may still come after a milestone. -/
def setCut (p node i ms left : Nat) : State → State :=
  modPort p fun x =>
    { x with rxCut := if left = 0 then mapDel x.rxCut (node * 4096 + i) else mapPut x.rxCut (node * 4096 + i) (ms, left) }

/-- The bytes before a codeword's first delimiter discarded where no frame is in progress (R258). They count as one lost frame,
unless they go on with one that is counted (R256). (DEDUCED, log 83) -/
def dropHead (p node i : Nat) (w : RxCw) (s : State) : State :=
  let left := (mapGetD (s.port p).rxCut (node * 4096 + i) (0, 0)).2
  let rest := if w.firstDelim ≠ 127 then 0 else if left = 0 ∨ lenUnknown ≤ left then lenUnknown else left - w.data.length
  let s := setCut p node i w.ms rest (modRx p node w.cls w.ms (fun v => { v with headDone := true }) s)
  freeSpent p node w.cls (expireRx p i (ofBool (left == 0)) s)

/-- Frames of a stream that must be discarded are discarded, and bytes before a first delimiter with no frame in
progress once nothing below is unresolved (R258). (DEDUCED, log 83) -/
def discardBroken (p node i : Nat) : Nat → State → State
  | 0, s => s
  | k + 1, s =>
    let c := (streamOf p i s).cfg.cls
    let x := s.port p
    let rxA := (pmsOf p node c s).rxA
    let l := streamCws x node i rxA
    match findFrame x node i rxA (fun r => match r with | .broken _ _ => true | _ => false) l with
    | some (w, .broken ms left) =>
      let s := expireRx p i 1 (consume p node w.cls ms 0 s)
      discardBroken p node i k (setCut p node i (ms.getLastD w.ms) left s)
    | _ =>
      match l.find? fun w => !w.headDone && !msBelow rxA w.ms && !inProgress l w with
      | some w => discardBroken p node i k (dropHead p node i w s)
      | none => s

/-- All that a resolved milestone of a node and class lets go: RX_A, then the broken frames of its streams. -/
def settleRx (p node c : Nat) (s : State) : State :=
  let s := advanceRx p node c s
  let ids := ((s.port p).rxCws.filter fun w => w.node == node && w.cls == c).map (·.stream)
  forAll ids.dedup (fun i s => discardBroken p node i (2 * (s.port p).rxCws.length + 2) s) s

/-- A given-up codeword takes its share of the bytes still to come of lost frames of its stream, or of any stream of its class
where it is unknown. (DEDUCED, log 83) -/
def cutGiven (p node c ms : Nat) (stream : Option Nat) (s : State) : State :=
  let n := frameData (codeRate p s)
  let hit := fun (k : Nat) => k / 4096 == node && (match stream with
    | some i => k % 4096 == i
    | none => (streamOf p (k % 4096) s).cfg.cls == c)
  let l := (s.port p).rxCut.filter fun e => hit e.1 && msBelow e.2.1 ms
  forAll l (fun e => setCut p node (e.1 % 4096) e.2.1 (if lenUnknown ≤ e.2.2 then 0 else e.2.2 - n)) s

/-- A milestone resolved as given up (R255). -/
def resolveGiven (p node c ms : Nat) (stream : Option Nat) (s : State) : State :=
  let s := cutGiven p node c ms stream s
  settleRx p node c (modPort p (fun x =>
    { x with rxGiven := x.rxGiven ++ [⟨node, c, ms, stream⟩], rxHist := mapDel x.rxHist ((node * 8 + c) * 65536 + ms) }) s)

/-- A notice entry: an unresolved milestone is resolved as given up; of a codeword still held every undelivered frame
is discarded; a notice for frames that are all delivered is ignored and counts them (R255). (DEDUCED, log 84) -/
def onNotice (p node c stream ms : Nat) (s : State) : State :=
  let s := count p .LAYBY_P_NOTICE_RX s
  let x := s.port p
  let rxA := (pmsOf p node c s).rxA
  match x.rxCws.find? fun w => w.node == node && w.cls == c && w.ms == ms with
  | some w =>
    let l := streamCws x node w.stream rxA
    let begun := framesIn w
    let head := !w.headDone && !msBelow rxA ms && !inProgress l w
    let s := when head (dropHead p node w.stream w) s
    let s := modPort p (fun x => { x with rxCws := x.rxCws.filter fun v => !(v.node == node && v.cls == c && v.ms == ms) }) s
    let s := when (begun.1 != 0) (setCut p node w.stream ms begun.2) (expireRx p w.stream begun.1 s)
    resolveGiven p node c ms (some stream) s
  | none =>
    if resolved x node c rxA ms then
      countBy p .STREAM_LATE_NOTICE (mapGetD x.rxHist ((node * 8 + c) * 65536 + ms) 0)
        (when (mapGetD x.rxHist ((node * 8 + c) * 65536 + ms) 0 != 0) (sticky .STREAM_LATE_NOTICE p) s)
    else resolveGiven p node c ms (some stream) s

/-- The highest milestone received of a node and class. -/
def noteHigh (p node c ms : Nat) : State → State :=
  modPms p node c fun q => { q with rxHigh := if q.rxAny && !msBelow q.rxHigh ms then q.rxHigh else ms, rxAny := true }

/-- A received DATA codeword stored in a slot (R257). -/
def putRx (p : Nat) (w : RxCw) (s : State) : State :=
  notePeak p (settleRx p w.node w.cls (noteHigh p w.node w.cls w.ms
    (modPort p (fun x => { x with rxCws := x.rxCws ++ [w] }) s)))

/-- A DATA codeword as it is received: before a first delimiter at word 0 there are no bytes (R231). -/
def rxCwOf (node cls ms stream first : Nat) (data : List Byte) (at_ : Nat) : RxCw :=
  { node := node, cls := cls, ms := ms, stream := stream, firstDelim := first, data := data, headDone := first == 0
    pos := if first = 127 then 0 else 4 * first, out := 0, at_ := at_ }

/-- A received DATA codeword: a duplicate, stored, taking the highest slot of its class when it is RX_A and no slot is
free, or refused for lack of a slot (R257). -/
def storeRx (p : Nat) (w : RxCw) (s : State) : State :=
  let x := s.port p
  let rxA := (pmsOf p w.node w.cls s).rxA
  if resolved x w.node w.cls rxA w.ms then count p .LAYBY_P_RX_DUP s
  else if 0 < freePool p s then putRx p w s
  else if w.ms = rxA then
    let mine := (x.rxCws.filter fun v => v.node == w.node && v.cls == w.cls && msBelow rxA v.ms).mergeSort
      fun a b => decide (msDiff b.ms rxA ≤ msDiff a.ms rxA)
    match mine with
    | v :: _ =>
      putRx p w (modPort p (fun x =>
        { x with rxCws := x.rxCws.filter fun u => !(u.node == v.node && u.cls == v.cls && u.ms == v.ms) }) s)
    | [] => sticky .LAYBY_P_RX_NOSLOT p (count p .LAYBY_P_RX_NOSLOT s)
  else sticky .LAYBY_P_RX_NOSLOT p (count p .LAYBY_P_RX_NOSLOT s)

/-- Receive time stamps of the selected stream's frames that a codeword completes (R345). -/
def stampRx (p : Nat) (w : RxCw) (s : State) : State :=
  if !stamped p w.stream s then s
  else
    let x := s.port p
    let rxA := (pmsOf p w.node w.cls s).rxA
    let rec go : List RxCw → State → State
      | [], s => s
      | v :: rest, s =>
        let s := match frameAt x w.node w.stream rxA v rest with
          | .whole bytes ms last =>
            if moreIn v && ms.contains w.ms then
              let at_ := (((v :: rest).find? fun u => u.ms == last).map (·.at_)).getD w.at_
              appendStamp p true w.stream (stampKind bytes) (stampKey bytes) at_ s
            else s
          | _ => s
        go rest s
    go (streamCws x w.node w.stream rxA) s

/-! ### Retrain and disable -/

/-- FIXED frames that wait in the fixed-latency queue are discarded and counted (R260, R443). (DEDUCED, log 88) -/
def dropFixed (p : Nat) (s : State) : State :=
  modPort p (fun x => { x with fixedQ := [] }) (countBy p .STREAM_FIXED_DROP (s.port p).fixedQ.length s)

/-- At showtime entry every SENT codeword is scheduled for resend (R260). -/
def resendAll (p : Nat) : State → State := scheduleAll p fun _ => true

/-- The frames with held bytes that a receiver has not released, one list entry of its stream for each (R443). -/
def heldFrames (x : Port) : List Nat :=
  x.rxCws.flatMap fun w =>
    let orphan := !w.headDone && !(x.rxCws.any fun v => v.node == w.node && v.stream == w.stream && msBelow v.ms w.ms) &&
      (mapGet x.rxCut (w.node * 4096 + w.stream)).isNone
    List.replicate ((framesIn w).1 + ofBool orphan) w.stream

/-- The lay-by of a port discarded, with the accounting of R443. -/
def discardLayby (p : Nat) (s : State) : State :=
  let x := s.port p
  let lostTx := x.txFrames.filter fun t => !t.lost
  let s := forAll lostTx (fun t s => countBy p .STREAM_FR_EXP_TX 1
    (countStream p t.stream 2 1 s)) s
  let s := forAll (heldFrames x) (fun i s => countBy p .STREAM_FR_EXP_RX 1
    (countStream p i 3 1 s)) s
  let s := dropFixed p s
  updPressures p (modPort p (fun x =>
    { x with sig := { x.sig with dq := [], noticeHeld := [] }, cws := [], txFrames := [], rxCws := [], rxGiven := [], rxDone := [], rxHist := [], rxCut := []
             notices := []
             inq := x.inq.map fun q => q.filter fun f => !f.started }) s)

/-- What a pavilion's enable does to a port's lay-by: milestones start at 0 and no code rate is in force (R243, R246);
LD_TX and LD_RX are read until now (R261). -/
def startLayby (p : Nat) (s : State) : State :=
  setF p .FEC_CODE_RATE 3 (modPort p (fun x =>
    { x with pms := [], streams := mapVals (fun _ e => { e with ldTx := none, ldRx := none }) x.streams }) s)

end Sys2Proof.Machine
end

