-- ==== Sys2Proof/Machine/Tables.lean ====
section
/-! DEFINITION. Tone tables: masks, notches, flags, pilots, bit loading and the rules a table must meet (R128, R135 to
R142, R146 to R149, R152, R155, R178). -/

namespace Sys2Proof.Machine

/-! ### Table access (R138, R155): 0 transmit active, 1 transmit shadow, 2 receive active, 3 receive shadow -/

/-- A tone table of a port. -/
def tableOf (p t : Nat) (s : State) : NMap ToneEntry := mapGetD (s.port p).sig.tables t []

/-- An entry of a table. -/
def entryOf (m : NMap ToneEntry) (k : Nat) : ToneEntry := mapGetD m k {}

/-- A tone with any of the four flags (R137). -/
def ToneEntry.flagged (e : ToneEntry) : Bool := e.pilot || e.notched || e.disabled || e.cancel

/-- A data tone (R137). -/
def ToneEntry.isData (e : ToneEntry) : Bool := 1 ≤ e.bits && !e.flagged

/-- The data tones of a table with their entries, in ascending tone index. -/
def dataTones (m : NMap ToneEntry) : NMap ToneEntry := m.filter fun e => e.2.isData

/-- Bits per data symbol of a table. -/
def tableBits (m : NMap ToneEntry) : Nat := (dataTones m).foldl (fun a e => a + e.2.bits) 0

/-- Quadrant bits that the data tones offer, at most 2 each (R141). -/
def quadrantBits (m : NMap ToneEntry) : Nat := (dataTones m).foldl (fun a e => a + min e.2.bits 2) 0

/-- Codeword bits of a data symbol (R141). -/
def codewordBits (m : NMap ToneEntry) : Nat := tableBits m - 512

/-- Pilots of a table. -/
def pilotTones (m : NMap ToneEntry) : List Nat := (m.filter fun e => e.2.pilot).map (·.1)

/-- The number fields of the tables as the TONES block reports them (R156). -/
def noteTables (p : Nat) (s : State) : State :=
  let tx := tableOf p 0 s
  let rx := tableOf p 2 s
  setAll p [(.TONES_BITS_TX, tableBits tx), (.TONES_BITS_RX, tableBits rx), (.TONES_LOADED_TX, (dataTones tx).length),
    (.TONES_LOADED_RX, (dataTones rx).length), (.TONES_PILOTS, (pilotTones tx).length)] s

/-- A tone table replaced; the number fields follow the active tables. -/
def setTable (p t : Nat) (m : NMap ToneEntry) (s : State) : State :=
  let s := modSig p (fun g => { g with tables := mapPut g.tables t m }) s
  if t = 0 ∨ t = 2 then noteTables p s else s

/-- OH marked on the tones that give bits in the overhead pass (R141). -/
def markOverhead (m : NMap ToneEntry) : NMap ToneEntry :=
  (m.foldl (fun (a : List (Nat × ToneEntry) × Nat) e =>
    if e.2.isData && a.2 < 512 then ((e.1, { e.2 with oh := true }) :: a.1, a.2 + min e.2.bits 2)
    else ((e.1, { e.2 with oh := false }) :: a.1, a.2)) ([], 0)).1.reverse

/-! ### Masks and notches -/

/-- L(k) of a mask in 0.1 dBm/Hz: linear between breakpoints, rounded down; the first and last levels outside (R146). -/
def maskLevel (bps : List (Nat × Int)) (k : Nat) : Int :=
  match bps with
  | [] => 0
  | [b] => b.2
  | b :: c :: rest =>
    if k ≤ b.1 then b.2
    else if k ≤ c.1 then b.2 + ((k - b.1 : Nat) : Int) * (c.2 - b.2) / ((c.1 - b.1 : Nat) : Int)
    else maskLevel (c :: rest) k

/-- Whether a normal tone lies in any notch of a set: start and width − 1 (R149, R154). -/
def inNotches (ns : List (Nat × Nat)) (k : Nat) : Bool := ns.any fun n => n.1 ≤ k && k ≤ n.1 + n.2

/-- Whether a tone lies in any run: start and length − 1 (R166). -/
def inRuns (rs : List (Nat × Nat)) (k : Nat) : Bool := rs.any fun r => r.1 ≤ k && k ≤ r.1 + r.2

/-- The normal tones that short tone `j` contains: 4j − 2 to 4j + 1 (R128). -/
def shortSpan (j : Nat) : List Nat := [4 * j - 2, 4 * j - 1, 4 * j, 4 * j + 1]

/-- A property of normal tones read at a tone of the symbol size in use: any contained tone (R128). -/
def anyTone (short : Bool) (f : Nat → Bool) (k : Nat) : Bool := if short then (shortSpan k).any f else f k

/-- The mask level of a tone of the symbol size in use (R128). -/
def levelAt (short : Bool) (bps : List (Nat × Int)) (k : Nat) : Int := maskLevel bps (if short then 4 * k else k)

/-- The mask of an index; the last one for an index beyond MASKS. -/
def maskOf (l : PortLayout) (i : Nat) : List (Nat × Int) := (l.masks[i]?).getD (l.masks.getLastD [])

/-- A mask of the port's layout, lowered for driver segments out of service (R398). -/
def portMask (p i : Nat) (s : State) : List (Nat × Int) :=
  let lost := (s.nvm.portOos.filter fun e => e.1 == p && 34 ≤ e.2).length
  let m := maskOf (s.port p).layout i
  if lost = 0 then m else m.map fun b => (b.1, b.2 + Config.driverDrop (8 - lost))

/-- The notch set of an index, empty where the layout holds none (R149). -/
def notchOf (l : PortLayout) (i : Nat) : List (Nat × Nat) := (l.notchSets[i]?).getD []

/-- A tone is always off (R127). -/
def TonePlan.off (q : TonePlan) (k : Nat) : Bool := if q.short then k ≤ 1 else k ≤ 4

/-- A tone is NOTCHED (R128, R149). -/
def TonePlan.notched (q : TonePlan) (k : Nat) : Bool := anyTone q.short (inNotches q.notches) k

/-- A tone is DISABLED (R128, R155). -/
def TonePlan.isDisabled (q : TonePlan) (k : Nat) : Bool := anyTone q.short (inRuns q.disabled) k

/-- A tone lies inside the agreed band (R128, R169). -/
def TonePlan.inBand (q : TonePlan) (k : Nat) : Bool :=
  if q.short then (shortSpan k).all fun n => q.lo ≤ n && n ≤ q.hi else q.lo ≤ k && k ≤ q.hi

/-- A tone is a cancellation tone: one of the two next to a notched run, itself neither notched nor always off
(R149). -/
def TonePlan.isCancel (q : TonePlan) (k : Nat) : Bool :=
  let hit := fun (n : Nat) => n < tonesOf q.short && q.notched n
  !q.notched k && !q.off k && k < tonesOf q.short &&
    (hit (k + 1) || hit (k + 2) || (1 ≤ k && hit (k - 1)) || (2 ≤ k && hit (k - 2)))

/-- A tone that training symbols and data may load (R149, R169). -/
def TonePlan.usable (q : TonePlan) (k : Nat) : Bool :=
  k < tonesOf q.short && !q.off k && !q.notched k && !q.isDisabled k && !q.isCancel k && q.inBand k

/-- A tone a pilot may take (R135). -/
def TonePlan.mayPilot (q : TonePlan) (k : Nat) : Bool :=
  k < tonesOf q.short && !q.off k && !q.notched k && !q.isDisabled k && !q.isCancel k

/-- The first permitted tone at distance `d` or more from a pilot's default, upward before downward (R135). -/
def seekPilot (q : TonePlan) (taken : List Nat) (at_ lim : Nat) : Nat → Option Nat
  | 0 => none
  | n + 1 =>
    let d := lim - n
    if q.mayPilot (at_ + d) && !taken.contains (at_ + d) then some (at_ + d)
    else if d ≤ at_ && q.mayPilot (at_ - d) && !taken.contains (at_ - d) then some (at_ - d)
    else seekPilot q taken at_ lim n

/-- The pilot tones, in the order of their indices; an absent pilot has none (R135). -/
def placePilots (q : TonePlan) : List (Option Nat) :=
  let lim := if q.short then 64 else 256
  (List.range 16).foldl (fun a i =>
    let d := if q.short then 128 + 256 * i else 512 + 1024 * i
    let taken := a.filterMap id
    a ++ [if q.mayPilot d && !taken.contains d then some d else seekPilot q taken d lim lim]) []

/-- The entry of a tone before loading: its flags, and none of BITS and GAIN (R137). -/
def TonePlan.entry (q : TonePlan) (pilots : List Nat) (k : Nat) : ToneEntry :=
  { pilot := pilots.contains k, notched := q.notched k, disabled := q.isDisabled k, cancel := q.isCancel k }

/-! ### Spur tones (R274, R275, R282) -/

/-- A property of normal tones read at a spur tone: normal tone ⌊j/2⌋ or ⌈j/2⌉ (R275). (DEDUCED, log 99) -/
def eitherTone (f : Nat → Bool) (j : Nat) : Bool := f (j / 2) || f ((j + 1) / 2)

/-- A spur tone is notched (R275). -/
def TonePlan.spNotched (q : TonePlan) (j : Nat) : Bool := eitherTone (inNotches q.notches) j

/-- A spur tone is a cancellation tone (R149, R275). -/
def TonePlan.spCancel (q : TonePlan) (j : Nat) : Bool :=
  !q.spNotched j && 10 ≤ j && j < 4096 &&
    (q.spNotched (j + 1) || q.spNotched (j + 2) || q.spNotched (j - 1) || q.spNotched (j - 2))

/-- A spur tone is a header tone (R282): the spur band is that of BAND_LO and BAND_HI. -/
def TonePlan.spHeader (q : TonePlan) (j : Nat) : Bool :=
  10 ≤ j && j < 4096 && !q.spNotched j && !q.spCancel j && !eitherTone (inRuns q.disabled) j &&
    !eitherTone (fun k => k < q.lo || q.hi < k) j

/-- The header tones, ascending. -/
def TonePlan.spHeaders (q : TonePlan) : List Nat := (List.range 4096).filter q.spHeader

/-! ### Bit loading (R152) -/

/-- The least whole 0.1 dB at or above 10 log10(2^b − 1). -/
def loadNeed (b : Nat) : Int :=
  ([0, 0, 48, 85, 118, 150, 180, 211, 241, 271, 301, 332, 362] : List Int).getD b 0

/-- BITS for an SNR plus gain less Γ and margin target, in 0.1 dB: the largest b whose need it meets, 0 for none. -/
def bitsFor (x : Int) : Nat := ((List.range 12).filter fun i => decide (loadNeed (i + 1) ≤ x)).length

/-- 10^(g/100) in units of 2^−20, rounded up, for a fine gain of −2.5 to +2.5 dB in 0.1 dB. -/
def gainPower (g : Int) : Nat :=
  ([589658, 603393, 617448, 631830, 646547, 661607, 677018, 692788, 708925, 725438] ++
    [742335, 759627, 777321, 795427, 813955, 832914, 852315, 872168, 892483, 913272] ++
    [934545, 956313, 978589, 1001383, 1024708, 1048576, 1073001, 1097994, 1123570, 1149741] ++
    [1176522, 1203927, 1231970, 1260666, 1290031, 1320079, 1350828, 1382293, 1414491, 1447438] ++
    [1481153, 1515654, 1550958, 1587084, 1624052, 1661881, 1700592, 1740204, 1780738, 1822217] ++
    [1864662] : List Nat).getD (g + 25).toNat 0

/-- What a tone counts in the group rule, in units of 2^−20: a data tone its gain, a cancellation tone its mean power
relative to L(k), which the spec bounds by 1 and does not give, any other tone 1 (R147, R149). (DESIGN CHOICE, log 16) -/
def groupShare (e : Nat × ToneEntry) : Nat :=
  if e.2.cancel then min (2 ^ 20) (Config.cancelPower e.1) else if e.2.isData then gainPower e.2.gain else 2 ^ 20

/-- The group rule of R147 on a table: no aligned group's mean linear gain exceeds 1. -/
def groupsHold (short : Bool) (m : NMap ToneEntry) : Bool :=
  let n := if short then 16 else 64
  (List.range (tonesOf short / n)).all fun g =>
    let l := m.filter fun e => e.1 / n == g
    (l.map groupShare).sum ≤ l.length * 2 ^ 20

/-- 10^(i/100) in units of 2^−20, rounded up, for i of 0 to 99. -/
def decade : List Nat :=
  [1048576, 1073001, 1097994, 1123570, 1149741, 1176522, 1203927, 1231970, 1260666, 1290031] ++
    [1320079, 1350828, 1382293, 1414491, 1447438, 1481153, 1515654, 1550958, 1587084, 1624052] ++
    [1661881, 1700592, 1740204, 1780738, 1822217, 1864662, 1908095, 1952540, 1998021, 2044561] ++
    [2092185, 2140918, 2190786, 2241816, 2294035, 2347470, 2402149, 2458103, 2515359, 2573949] ++
    [2633904, 2695256, 2758036, 2822279, 2888019, 2955289, 3024127, 3094568, 3166649, 3240410] ++
    [3315889, 3393126, 3472162, 3553039, 3635800, 3720489, 3807150, 3895830, 3986575, 4079435] ++
    [4174457, 4271692, 4371193, 4473011, 4577201, 4683817, 4792918, 4904559, 5018801, 5135704] ++
    [5255330, 5377742, 5503006, 5631187, 5762354, 5896577, 6033926, 6174474, 6318296, 6465468] ++
    [6616068, 6770176, 6927873, 7089244, 7254374, 7423350, 7596262, 7773202, 7954263, 8139541] ++
    [8329136, 8523146, 8721676, 8924830, 9132716, 9345444, 9563127, 9785881, 10013824, 10247075]

/-- 10^(x/100) for a level of `x` in 0.1 dB, in units of 2^−20, rounded up to the table's digits. (DEDUCED, log 153) -/
def powerOf (x : Int) : Rat :=
  let n := x.fdiv 100
  let d : Nat := decade.getD (x.fmod 100).toNat 0
  if 0 ≤ n then (d * 10 ^ n.toNat : Nat) else mkRat d (10 ^ (-n).toNat)

/-- P(k) of a tone, in 0.1 dBm/Hz, from its level L(k) − PREF (R146): a loaded tone at its fine gain, pilots and other
loaded tones at 0 dB. -/
def psdOf (lev : Nat → Int) (e : Nat × ToneEntry) : Int := lev e.1 + (if e.2.isData then e.2.gain else 0)

/-- The launch power of a table in 10^−18 W: the tones that carry a point (R146, R147). -/
def launchPower (short : Bool) (lev : Nat → Int) (m : NMap ToneEntry) : Rat :=
  let on := m.filter fun e => e.2.isData || e.2.pilot || e.2.cancel
  let hz : Rat := if short then 976562500 / 1000 else 244140625 / 1000
  (on.map fun e => powerOf (psdOf lev e)).foldl (· + ·) 0 * hz * 10 ^ 15 / 2 ^ 20

/-- The total launch power is at most +4 dBm (R147). -/
def launchHolds (short : Bool) (lev : Nat → Int) (m : NMap ToneEntry) : Bool :=
  decide (launchPower short lev m ≤ powerOf 40 * 10 ^ 15 / 2 ^ 20)

/-- Fine gains lie within ±2.5 dB (R147), pilots at 0 (R152). -/
def gainsHold (m : NMap ToneEntry) : Bool :=
  m.all fun e => decide (-25 ≤ e.2.gain) && decide (e.2.gain ≤ 25) && (!e.2.pilot || e.2.gain == 0)

/-- The most codeword bits of a data symbol that the decoder cores of a port carry at 8 iterations (R20).
(DEDUCED, log 70) -/
def capacityBits (cores period : Nat) : Nat := ((cores * 257 * period / 4608 + 1) * 2304 - 1) / 256

/-- The rules of R20, R135, R141, R146 and R147 on a table: `cores` are the receiving port's, `lev` the levels L(k) − PREF of
the direction. -/
def tableHolds (short : Bool) (cores period : Nat) (lev : Nat → Int) (m : NMap ToneEntry) : Bool :=
  8 ≤ (pilotTones m).length && 512 ≤ quadrantBits m && gainsHold m && groupsHold short m && launchHolds short lev m &&
    codewordBits m ≤ capacityBits cores period && m.all fun e => e.2.bits ≤ 12 && (!e.2.flagged || e.2.bits == 0)

/-- The gain a receiver chooses for a tone (R152: the choice is its own): a free value within ±2.5 dB.
(DESIGN CHOICE, log 15) -/
def chosenGain (tag k : Nat) : Int := max (-25) (min 25 (Config.gainChoice tag k))

/-- Bits beyond a budget taken off, from the highest tone down (R20). (DEDUCED, log 70) -/
def trimBits (m : NMap ToneEntry) (budget : Nat) : NMap ToneEntry :=
  (m.foldl (fun (a : List (Nat × ToneEntry) × Nat) e =>
    let b := min e.2.bits a.2
    ((e.1, { e.2 with bits := b, gain := if b = 0 then 0 else e.2.gain }) :: a.1, a.2 - b)) ([], budget)).1.reverse

/-- A table loaded from measured SNR in 0.1 dB (R152, R178): flags and pilots by the plan, BITS by SNR, gain, Γ and
margin target, within R20 and R147. Where the chosen gains break R147, they are 0. -/
def loadTable (q : TonePlan) (snr : NMap Int) (gamma target : Int) (cores period tag : Nat) (lev : Nat → Int) :
    NMap ToneEntry :=
  let pilots := (placePilots q).filterMap id
  let tones := (List.range (tonesOf q.short)).map fun k => (k, q.entry pilots k)
  let loaded := fun (withGain : Bool) => tones.map fun e =>
    match mapGet snr e.1 with
    | some x =>
      if q.usable e.1 && !e.2.pilot then
        let g := if withGain then chosenGain tag e.1 else 0
        let b := bitsFor (x + g - gamma - target)
        (e.1, { e.2 with bits := b, gain := if b = 0 then 0 else g })
      else e
    | none => e
  let trimmed := fun (withGain : Bool) => trimBits (loaded withGain) (capacityBits cores period + 512)
  let m := if groupsHold q.short (trimmed true) && launchHolds q.short lev (trimmed true) then trimmed true else trimmed false
  markOverhead (m.filter fun e => e.2 != ({} : ToneEntry))

/-- A table under the flags and pilots of another plan, as after a change of the notch set: tones that a flag now takes
lose their loading (R137, R149, R188). -/
def replan (q : TonePlan) (m : NMap ToneEntry) : NMap ToneEntry :=
  let pilots := (placePilots q).filterMap id
  let l := (List.range (tonesOf q.short)).map fun k =>
    let e := q.entry pilots k
    let old := entryOf m k
    (k, if e.flagged || !q.usable k then e else { e with bits := old.bits, gain := old.gain })
  markOverhead (l.filter fun e => e.2 != ({} : ToneEntry))

/-- A table whose loaded tones carry `b` bits at 0 dB (R347). -/
def flatTable (q : TonePlan) (b : Nat) : NMap ToneEntry :=
  let pilots := (placePilots q).filterMap id
  let m := (List.range (tonesOf q.short)).map fun k =>
    let e := q.entry pilots k
    (k, if q.usable k && !e.pilot then { e with bits := b } else e)
  markOverhead (m.filter fun e => e.2 != ({} : ToneEntry))

/-! ### TONES entries (R190) -/

/-- A TONES entry of 3 bytes: [23:10] tone, [9:6] BITS, [5:0] GAIN. -/
def toneRecord (e : Nat × ToneEntry) : List Byte :=
  beBytes 3 (e.1 % 2 ^ 14 * 2 ^ 10 + e.2.bits % 16 * 2 ^ 6 + codeOf 6 e.2.gain)

/-- TONES payloads of at most 340 entries, the last flagged LAST. -/
def tonesPayloads : Nat → List (Nat × ToneEntry) → List (List Byte)
  | 0, _ => []
  | n + 1, l =>
    let rest := l.drop 340
    (beBytes 1 (ofBool rest.isEmpty) ++ [0] ++ (l.take 340).flatMap toneRecord) ::
      (if rest.isEmpty then [] else tonesPayloads n rest)

/-- A delivered entry loads a tone within R137: BITS of at most 12, GAIN within ±2.5 dB, on a tone without a flag. -/
def validTone (m : NMap ToneEntry) (e : Nat × Nat × Int) : Bool :=
  e.2.1 ≤ 12 && decide (-25 ≤ e.2.2) && decide (e.2.2 ≤ 25) && !(entryOf m e.1).flagged

/-- Delivered entries written into a table; flags stay, and an entry outside R137 changes nothing. (DEDUCED, log 152) -/
def applyTones (m : NMap ToneEntry) (l : List (Nat × Nat × Int)) : NMap ToneEntry :=
  markOverhead ((l.filter (validTone m)).foldl (fun a e =>
    mapPut a e.1 { entryOf a e.1 with bits := e.2.1, gain := e.2.2 }) m)

/-! ### Points (R140) -/

/-- 3E of the constellation of `b` bits, whose points (i, q) have mean energy E before scaling (R140). -/
def energy3 (b : Nat) : Nat := (2 ^ (2 * ((b + 1) / 2)) - 1) + (2 ^ (2 * (b / 2)) - 1)

/-- Level L(k) − PREF of a tone of the symbol size in use: the lower of the port's own mask and the partner's (R146). -/
def lowerLevel (short : Bool) (mine his : List (Nat × Int)) (pref : Nat) (k : Nat) : Int :=
  let own := levelAt short mine k
  (if his.isEmpty then own else min own (levelAt short his k)) - pref

/-- Tones whose loading differs between two tables. -/
def changedTones (old new : NMap ToneEntry) : List (Nat × ToneEntry) :=
  (new.filter fun e => (entryOf old e.1).bits != e.2.bits || (entryOf old e.1).gain != e.2.gain) ++
    (old.filter fun e => e.2.bits != 0 && (mapGet new e.1).isNone).map fun e => (e.1, { e.2 with bits := 0, gain := 0 })

end Sys2Proof.Machine
end

