-- ==== Sys2Proof/Machine/Link.lean ====
section
/-! DEFINITION. Changes of a port's state and what each carries with it: causes, muting, discards, retrains, link
failures and showtime entry (R153, R157 to R159, R179, R190 to R195, R310, R320). -/

namespace Sys2Proof.Machine

/-! ### OAM messages (R190 to R192) -/

/-- A message from the queue becomes the one being sent, with the next MID. -/
def oamNext (p : Nat) (s : State) : State :=
  match (s.port p).oam.cur, (s.port p).oam.queue with
  | none, m :: rest =>
    modOam p (fun o =>
      { o with cur := some { mid := o.nextMid, type := m.1, payload := m.2, sends := 1, segs := 0 }
               queue := rest, nextMid := o.nextMid % 15 + 1 }) s
  | _, _ => s

/-- A message given to the OAM channel; engine messages go before SOFTWARE messages (R191). -/
def oamPost (p type : Nat) (payload : List Byte) (s : State) : State :=
  oamNext p (modOam p (fun o =>
    { o with queue :=
        if type < 0x10 then
          o.queue.filter (fun m => m.1 < 0x10) ++ [(type, payload)] ++ o.queue.filter (fun m => 0x10 ≤ m.1)
        else o.queue ++ [(type, payload)] }) s)

/-- The mailbox message is reported UNDELIVERED: SEND ends TIMEOUT (R192). -/
def sendLost (p : Nat) (s : State) : State := sticky .OAM_UNDELIVERED p (cmdStop p .OAM_SEND 7 s)

/-- OAM messages discarded at a retrain or by R158: a message of showtime being sent is sent no more and is reported at the
ack timeout already running; queued ones go, a mailbox message among them reported at once; a message being received goes
(R191, R192). -/
def oamDiscard (p : Nat) (s : State) : State :=
  let lost := (s.port p).oam.queue.length
  let mail := (s.port p).oam.queue.any fun m => 0x10 ≤ m.1
  let show_ := inShow p s
  let s := modOam p (fun o =>
    { o with stale := if show_ then o.cur else o.stale, cur := none, queue := [], asm := none, acks := [] }) s
  when mail (sendLost p) (countBy p .OAM_UNDELIVERED lost s)

/-! ### Table switches and reconfigurations -/

/-- Pending switches discarded (R139). -/
def dropSwitches (p : Nat) : State → State := setAll p [(.TONES_TX_PENDING, 0), (.TONES_RX_PENDING, 0)]

/-- A running reconfiguration, bit swap or other handshake of the port given up without a switch: the shadow tables
take the active ones, admission resumes (R188). -/
def rcDrop (p : Nat) (s : State) : State :=
  let held := (s.port p).rc.admHeld
  let s := setTable p 1 (tableOf p 0 s) (setTable p 3 (tableOf p 2 s) s)
  when held (settleClasses p) (modRc p (fun r => { seq := r.seq }) s)

/-- The change abandoned with an OUTCOME for RECONF_GO (R188). -/
def rcAbandon (p oc : Nat) (s : State) : State :=
  let on := (s.port p).rc.running
  cmdStop p .PORT_CTL_RECONF_GO oc (when on (sticky .PORT_CTL_RECONF_FAIL p) (rcDrop p s))

/-! ### Entering states -/

/-- DOWN_CAUSE recorded (R159). (DEDUCED, log 71) -/
def setCause (p c : Nat) : State → State := setF p .PORT_CTL_DOWN_CAUSE c

/-- The states in which a port sends nothing on its line: it is muted, in LOOPBACK as well (R347). -/
def quietState (st : Nat) : Bool := [stDisabled, stLinkDown, stListen, stFail, stLoop].contains st

/-- MUTED as the state, a lost ROOT, a routed fatal fault or a substitution demands. (DEDUCED, log 72) -/
def noteMuted (p : Nat) (s : State) : State :=
  setF p .TXSH_MUTED (ofBool (quietState (stOf p s) || s.clk.muted || (s.port p).link.waitSub)) s

/-- A state entered. -/
def enterSt (p st : Nat) (s : State) : State := noteMuted p (setSt p st s)

/-- What leaving showtime carries with it: the watch interval goes and GRADE_VALID clears (R310), pending switches, OAM
messages and the handshake go (R139, R158, R195), φ restarts at 0 (R225), a hybrid recalibration ends ABORTED (R401),
a loopback of the line ends (R347). (DEDUCED, log 72) -/
def leaveShow (p : Nat) (s : State) : State :=
  if !inShow p s then s
  else
    let s := setAll p [(.WATCH_GRADE_VALID, 0), (.WATCH_GRADE, 0), (.WATCH_TREND_VALID, 0), (.EQ_MARGIN_VALID, 0), (.EQ_PHASE, 0)]
      (when (stOf p s != stLoop) (sticky .PORT_CTL_LINK_DOWN p) s)
    let s := modWatch p (fun w =>
      { idleRun := 0, predHold := w.predHold, sweeps := w.sweeps, tdrVf := w.tdrVf
        tdr := w.tdr, ilPre := w.ilPre, ilShow := w.ilShow, prof := w.prof, below := w.below, eventOpen := w.eventOpen
        acc := w.acc, baseAbort := w.baseAbort }) s
    let s := modSig p (fun g => { g with phi := 0, slipDue := 0, cleanRun := 0, paused := false, failRun := 0, sfMiss := 0
                                         ohLost := false, noise := [], noiseN := 0, pilotBad := 0, oldTx := none }) s
    let s := modCal p (fun c => { c with hybWait := false, hybAbort := false }) (cmdStop p .CAL_HYB_RECAL 3 s)
    when (getF p .HOST_LB_ACTIVE s != 1) (setF p .HOST_LB_ACTIVE 0) s

/-- Handshake and training state as at the start of a link-up; CAP sequence and the partner's last CAP stay. -/
def newLink (p : Nat) : State → State := modLink p fun l => { capSeq := l.capSeq, partner := l.partner }

/-- A port that leaves AN or COMPAT has no standard link, no result of Clause 98 and no EEE (R196, R200). (DEDUCED, log 146) -/
def leaveCompat (p : Nat) (s : State) : State :=
  if stOf p s = stAn ∨ stOf p s = stCompat then
    setAll p [(.LINKUP_T1_LINK, 0), (.LINKUP_AN_DONE, 0), (.LINKUP_EEE_ACTIVE, 0), (.LINKUP_T1_RES, 0)] s
  else s

/-- What every departure from the link's present state discards; a reflectometry run ends ABORTED (R158, R335). -/
def dropLink (p : Nat) (s : State) : State :=
  let s := when (stOf p s == stDiag) (cmdStop p .DIAG_TDR_RUN 3) s
  newLink p (rcDrop p (oamDiscard p (dropSwitches p (leaveCompat p (leaveShow p s)))))

/-- RECONF_GO and RETRAIN end ABORTED (R158). (DEDUCED, log 125) -/
def abortLinkCmds (p : Nat) (s : State) : State := cmdStop p .PORT_CTL_RETRAIN 3 (cmdStop p .PORT_CTL_RECONF_GO 3 s)

/-- The port goes to DISABLED (R158); with its pavilion's or port's domain off nothing is lost that R375 does not
name. DOWN_CAUSE records DISABLED where the port leaves showtime. -/
def toDisabled (p : Nat) (s : State) : State :=
  let show_ := inShow p s
  let s := when show_ (setCause p 1) (abortLinkCmds p (dropLink p s))
  enterSt p stDisabled (setAll p [(.PORT_CTL_ROLE, 0), (.PORT_CTL_MODE, 0), (.PORT_CTL_PROF_VALID, 0)] s)

/-- The port goes to LINK_DOWN with a cause, or with DOWN_CAUSE as it is (R153, R157 to R159). -/
def toLinkDown (p : Nat) (cause : Option Nat) (s : State) : State :=
  let s := dropLink p s
  let s := match cause with | some c => setCause p c s | none => s
  enterSt p stLinkDown (setAll p [(.PORT_CTL_ROLE, 0), (.PORT_CTL_MODE, 0)] s)

/-- The port goes to LINK_FAIL with a cause; a running RETRAIN ends TIMEOUT (R157, R159, R195). -/
def toLinkFail (p cause : Nat) (s : State) : State :=
  enterSt p stFail (setCause p cause (cmdStop p .PORT_CTL_RETRAIN 7 (dropLink p s)))

/-- Runs of tones of ascending indices, start and length − 1 (R166). -/
def runsOf (l : List Nat) : List (Nat × Nat) :=
  l.foldl (fun a k =>
    match a.getLast? with
    | some r => if r.1 + r.2 + 1 = k then a.dropLast ++ [(r.1, r.2 + 1)] else a ++ [(k, 0)]
    | none => [(k, 0)]) []

/-- The runs of tones that software disabled (R155, R166). -/
def ownDisabled (p : Nat) (s : State) : List (Nat × Nat) :=
  runsOf (((tableOf p 4 s).filter fun e => e.2.disabled).map (·.1))

/-- The disabled tones of a link-up latched at its start (R155). -/
def latchDisabled (p : Nat) (s : State) : State := modSig p (fun g => { g with disabled := ownDisabled p s }) s

/-- The port enters HS_LISTEN without a role: the masks and notch sets selected for the link-up become active (R154, R157,
R168). -/
def toListen (p : Nat) (s : State) : State :=
  let s := setF p .PORT_CTL_ROLE 0 (dropLink p s)
  let s := count p .LINKUP_HS_STARTS s
  let s := setAll p [(.TXSH_PSD_ACT, rwF p .TXSH_PSD_SEL s), (.TXSH_NOTCH_ACT, rwF p .TXSH_NOTCH_SEL s)] s
  enterSt p stListen (latchDisabled p s)

/-- The training phase: 1 to 5 for T1 to T5, in FAST_RETRAIN the phase reached there (R171, R194), else 0. -/
def phaseOf (p : Nat) (s : State) : Nat :=
  if stOf p s = stFast then (s.port p).link.window
  else if stT1 ≤ stOf p s && stOf p s ≤ stT5 then stOf p s - 4 else 0

/-- A training phase entered. -/
def setPhase (p n : Nat) (s : State) : State :=
  if stOf p s = stFast then modLink p (fun l => { l with window := n }) s else enterSt p (n + 4) s

/-- The port enters FAST_RETRAIN with its echo and equaliser coefficients, trims, CE, profile and roles (R194). -/
def toFast (p : Nat) (s : State) : State :=
  let s := dropFixed p (dropLink p s)
  let s := modSig p (fun g => { g with gen := 2047, rxGen := 2047 }) s
  enterSt p stFast (modLink p (fun l =>
    { l with startCycle := s.cycles, warm := true, markDue := true, storeId := getF p .LINKUP_STORE_ID s }) s)

/-- A failed step of a fast retrain starts a full retrain at HS_LISTEN (R194). -/
def fastFails (p : Nat) (s : State) : State := toListen p (count p .PORT_CTL_FULL_RETRAINS s)

/-- A retrain trigger in showtime: the cause recorded, RETRAIN set, lay-by kept, the retrain fast or full (R193 to
R195, R260). `fast` is the trigger's kind, `req` whether the port announces it in RETRAIN_REQ. (DEDUCED, log 74) -/
def retrainBy (p cause : Nat) (fast req : Bool) (s : State) : State :=
  if !trunkShow p s || s.clk.muted then s
  else
    let full := !fast || rwF p .LINKUP_FAST_EN s != 1 || getF p .PORT_CTL_RETRAIN_FULL s == 1
    let s := cmdStop p .PORT_CTL_RECONF_GO 3 (sticky .PORT_CTL_RETRAIN p (setCause p cause s))
    if full then toListen p (dropFixed p (count p .PORT_CTL_FULL_RETRAINS s))
    else
      modSig p (fun g => { g with retrainReq := if req then 8 else 0 })
        (toFast p (count p .PORT_CTL_FAST_RETRAINS s))

/-! ### Showtime entry (R179, R132, R192, R243, R260) -/

/-- The stored channel profile of the present link (R179). -/
def storedNow (p : Nat) (s : State) : Stored :=
  let x := s.port p
  let c := x.link.partner
  { ta := getF p .LINKUP_TA s, ce := getF p .TXSH_CE s, short := getF p .TXSH_SHORT s, profile := profileOf p s
    role := getF p .PORT_CTL_ROLE s, txTab := tableOf p 0 s, rxTab := tableOf p 2 s, ecf := x.sig.ecf, ect := x.sig.ect
    feq := x.sig.feq, teq := x.sig.teq, hybR := getF p .AFE_HYB_R s, hybC := getF p .AFE_HYB_C s
    gain := getF p .AFE_RX_GAIN s, cfgHash := (c.map (·.cfgHash)).getD 0, partnerUid := (c.map (·.uid)).getD 0
    partnerPort := (c.map (·.port)).getD 0, survey := x.watch.prof.getD [], storeId := x.link.storeId }

/-- The engines, FFT pipes and decoder cores a port holds, in that order: those of the applied layout less the elements
taken out of service (R17, R398). -/
def resourcesOf (p : Nat) (s : State) : Nat × Nat × Nat :=
  let n := pavOf p
  if p % 2 = 0 then (getF n .ENGPOOL_ENG_EVEN s, getF n .ENGPOOL_PIPES_EVEN s, getF n .DECPOOL_CORES_EVEN s)
  else (getF n .ENGPOOL_ENG_ODD s, getF n .ENGPOOL_PIPES_ODD s, getF n .DECPOOL_CORES_ODD s)

/-- The limit of R172 on a link-up, in µs: fast, warm, cold. -/
def linkLimit (fast warm : Bool) (profile : Nat) : Nat :=
  if fast then 8000 else if warm then 20000 else if profile = 1 then 400000 else 150000

/-- L of R249: 2 + ⌈TA ÷ symbol period⌉. -/
def lagOf (p : Nat) (s : State) : Nat := 2 + (getF p .LINKUP_TA s + symPeriod p s - 1) / symPeriod p s

/-- The profile's parameters in force: code rate, iteration limit, PSD preference (R122, R237, R264). -/
def forceProfile (p : Nat) (s : State) : State :=
  let q := profileOf p s
  let ovr := rwF p .FEC_MAXIT_OVR s
  setAll p [(.FEC_CODE_RATE, profRate q), (.FEC_MAXIT, if ovr = 0 then profIter q else ovr),
    (.TXSH_PREF, profPref q)] s

/-- The port enters SHOWTIME: counters restart, the stored channel profile is saved, the parameters of the profile come
into force, SENT codewords are scheduled for resend, a running RETRAIN ends DONE. -/
def toShowtime (p : Nat) (s : State) : State :=
  let fast := stOf p s == stFast
  let warm := (s.port p).link.warm
  let us := (s.cycles - (s.port p).link.startCycle) * 8 / 1000
  let s := setAll p [(.LINKUP_START_KIND, if fast then 3 else if warm then 2 else 1),
    (.LINKUP_LINK_TIME, min us (2 ^ 24 - 1)), (.TONES_TX_SYM_CNT, 0), (.TONES_TX_SF_CNT, 0), (.TONES_RX_SF_CNT, 0),
    (.LINKUP_STORED, 1), (.LINKUP_STORE_ID, (s.port p).link.storeId)] s
  let s := forceProfile p s
  let s := setAll p [(.LAYBY_P_L, lagOf p s), (.LAYBY_P_RT_SYM, lagOf p s + 2)] s
  let st := storedNow p s
  let s := modPort p (fun x =>
    { x with stored := some st
             sig := { x.sig with
               txFirst := true, txPos := 0, rxPos := 0, rxSym := 2 ^ 24 - 1, carry := [], cwBits := 0, marks := [], dq := [], rxErased := 0, rxFirst := true, invert := false
               rxBits := 0, doneCw := 0, failCw := 0, itSum := 0, failRun := 0, sfMiss := 0, retrainReq := 0, phi := 0
               slipDue := 0, noise := [], noiseN := 0, margins := [], pilotBad := 0, oldTx := none }
             oam := { x.oam with nextMid := 1, lastRx := none, asm := none, acks := [], queue := [], cur := none }
             watch := { x.watch with running := getF p (.en .WATCH) s == 1 } }) s
  let s := setF p .FEC_OVERLOADED 0 (enterSt p stShow s)
  let s := sticky .PORT_CTL_LINK_UP p (count p .PORT_CTL_LINK_UPS s)
  let eng := (resourcesOf p s).1
  let s := when (eng < 16 && linkLimit fast warm (profileOf p s) < us) (fun s =>
    sticky .ENGPOOL_TRAIN_SLOW (pavOf p) (count (pavOf p) .ENGPOOL_TRAIN_SLOWS s)) s
  settleClasses p (cmdStop p .PORT_CTL_RETRAIN 2 (resendAll p s))

/-! ### Leaving DISABLED and LINK_DOWN -/

/-- The domains of a port's line are on (R25). -/
def portPowered (p : Nat) (s : State) : Bool :=
  domainOn (6 + pavOf p) s && domainOn (10 + pavOf p) s && domainOn (14 + p) s && domainOn (22 + p) s

/-- A trunk port holds the least resources of R18; spur and compatibility ports theirs (R18, R398). -/
def resourcesEnough (p : Nat) (s : State) : Bool :=
  let r := resourcesOf p s
  if lineMode p s = 1 then 12 ≤ r.1 && 2 ≤ r.2.1 && 2 ≤ r.2.2
  else if isSpur p s then 8 ≤ r.1 && 1 ≤ r.2.1 && 1 ≤ r.2.2
  else 2 ≤ r.1

/-- The port may leave DISABLED (R25, R157, R374, R398). -/
def mayLeaveDisabled (p : Nat) (s : State) : Bool :=
  getF p (.en .PORT_CTL) s == 1 && pavEnabled p s && lineMode p s != 0 && portPowered p s && resourcesEnough p s &&
    getF 0 .PWRC_DEV_STATE s != 3 && !(s.port p).cal.held && !s.nvm.portOos.any fun e => e.1 == p && e.2 < 34

/-- A DISABLED port that may leave goes to LINK_DOWN, with DISABLED as the cause (R159). (DEDUCED, log 71) -/
def leaveDisabled (p : Nat) (s : State) : State :=
  if stOf p s = stDisabled && mayLeaveDisabled p s then enterSt p stLinkDown (setCause p 1 s) else s

/-- The three transmit enables of R153 are 1. -/
def txEnabled (p : Nat) (s : State) : Bool :=
  getF p (.en .TXSH) s == 1 && getF p (.en .TONES) s == 1 && getF p .TXSH_TX_ALLOW s == 1

/-- The key of a Clause 45 register. -/
def cl45Key (mmd reg : Nat) : Nat := mmd * 65536 + reg

/-- Auto-negotiation control 7.512: bit 12 enables Clause 98. (PRESUMED, log 164) -/
def regAnCtl : Nat := cl45Key 7 512

/-- BASE-T1 PMA/PMD control 1.2100: bit 14 forces master, bits [3:0] hold the type, 1 for 1000BASE-T1. (PRESUMED, log 164) -/
def regPmaCtl : Nat := cl45Key 1 2100

/-- Advertisement 7.514: abilities in [1:0], EEE in 3, the request for master in 4. (PRESUMED, log 164;
DESIGN CHOICE, log 18) -/
def regAnAdv : Nat := cl45Key 7 514

/-- A Clause 45 register as last written. -/
def cl45Of (p k : Nat) (s : State) : Nat := mapGetD (s.port p).cl45 k 0

/-- A Clause 98 page put on the line: abilities, EEE and the request for master as advertised, or a null message (R197). -/
def sendPage (p : Nat) (null : Bool) (s : State) : State :=
  let a := cl45Of p regAnAdv s
  emitLine p (.anPage p (if null then 0 else bitsOf a 0 2) (!null && bitOf a 3) (!null && bitOf a 4) null) s

/-- AN or COMPAT entered: the LINKUP options go to the standard's control registers, and in AN the base page goes out
(R197). -/
def compatEntry (p st : Nat) (s : State) : State :=
  let master := rwF p .LINKUP_FORCE_MASTER s == 1
  let eee := rwF p .LINKUP_EEE_EN s == 1
  let ctl := ofBool master * 2 ^ 14 + (if rwF p .LINKUP_FORCE_MODE s = 0 then 1 else 0)
  let adv := ofBool (4 ≤ rwF p .LINKUP_ROLE_PRI s) * 2 ^ 4 + ofBool eee * 2 ^ 3 + getF p .PORT_CTL_COMPAT_PERMIT s
  let s := setAll p [(.PORT_CTL_ROLE, 0), (.PORT_CTL_MODE, 0)] (dropLink p s)
  let s := modPort p (fun x =>
    { x with cl45 := mapPutAll x.cl45 [(regAnCtl, rwF p .LINKUP_AN_EN s * 2 ^ 12), (regPmaCtl, ctl), (regAnAdv, adv)] }) s
  when (st == stAn) (sendPage p false) (enterSt p st s)

/-- What the spur tones of a port follow from (R275, R282). (DEDUCED, log 99) -/
def spurPlan (p : Nat) (s : State) : TonePlan :=
  { short := false, lo := rwF p .LINKUP_BAND_LO s, hi := rwF p .LINKUP_BAND_HI s
    notches := notchOf (s.port p).layout (getF p .TXSH_NOTCH_ACT s), disabled := (s.port p).sig.disabled }

/-- The RW fields that take effect when a spur port leaves LINK_DOWN. -/
def spurLatches : List Fld :=
  [.BURST_DET_THR, .BURST_QUAL, .BURST_CAPTURE_DB, .BURST_TERM, .ROUNDABOUT_NODE_ID, .ROUNDABOUT_CYCLE,
    .ROUNDABOUT_SP_RATE, .ROUNDABOUT_SP_MARGIN, .ROUNDABOUT_MISS_LIMIT, .ROUNDABOUT_KNOCK_MAX]

/-- A spur port leaves LINK_DOWN while BURST EN and ROUNDABOUT EN are 1: into SP_LISTEN, or to LINK_FAIL for want of
header tones (R282, R295, 09_spur_mode.md "BURST block map"). -/
def startSpur (p : Nat) (s : State) : State :=
  if getF p (.en .BURST) s != 1 || getF p (.en .ROUNDABOUT) s != 1 then s
  else
    let s := dropLink p s
    let s := setAll p [(.TXSH_PSD_ACT, rwF p .TXSH_PSD_SEL s), (.TXSH_NOTCH_ACT, rwF p .TXSH_NOTCH_SEL s)] s
    let s := latchDisabled p s
    let n := (spurPlan p s).spHeaders.length
    let s := setAll p [(.BURST_HDR_TONES, n), (.BURST_HDR_COPIES, n / 1024), (.PORT_CTL_MODE, 2)] s
    let vals := spurLatches.map fun f => (f.key p, rwF p f s)
    let s := modSig p (fun g => { g with latch := mapPutAll g.latch vals }) (modSpur p (fun _ => {}) s)
    if n < 1024 then toLinkFail p 9 s else enterSt p stSpListen s

/-- A port in LINK_DOWN whose enables are all 1 starts link-up by its line mode (R157, R295). -/
def startLinkup (p : Nat) (s : State) : State :=
  if stOf p s != stLinkDown || !txEnabled p s || s.clk.muted || (s.port p).link.waitSub then s
  else if isSpur p s then startSpur p s
  else if getF p (.en .LINKUP) s != 1 then s
  else if lineMode p s = 1 then toListen p s
  else if rwF p .LINKUP_AN_EN s = 1 then compatEntry p stAn s
  else compatEntry p stCompat s

/-- The mute of R153: MUTE_EVENT and LINK_DOWN from any state but DISABLED and LINK_DOWN. -/
def muteLine (p : Nat) (s : State) : State :=
  if stOf p s = stDisabled || stOf p s = stLinkDown then s
  else toLinkDown p (some 2) (abortLinkCmds p (sticky .TXSH_MUTE_EVENT p s))

/-- The stored channel profile lost (R179). -/
def forgetStored (p : Nat) (s : State) : State :=
  setAll p [(.LINKUP_STORED, 0), (.LINKUP_STORE_ID, 0)] (modPort p (fun x => { x with stored := none }) s)

end Sys2Proof.Machine
end

