-- ==== Sys2Proof/Machine/Operands.lean ====
section
/-! DEFINITION. The forms that data takes on the line: generators, points, handshake frames, training messages, overhead
fields, codeword headers, LDPC encoding (R133, R136, R140, R141, R143, R144, R160, R162, R175, R229 to R231). -/

namespace Sys2Proof.Machine

/-! ### Generators -/

/-- One step of the generator x^11 + x^9 + 1: the bit of its last stage, and the next register (R133).
(DEDUCED, log 68) -/
def gen11 (r : Nat) : Bool × Nat := (bitOf r 10, r * 2 % 2 ^ 11 + ofBool (bitOf r 10 != bitOf r 8))

/-- One step of the generator x^23 + x^18 + 1 (R143). (DEDUCED, log 68) -/
def gen23 (r : Nat) : Bool × Nat := (bitOf r 22, r * 2 % 2 ^ 23 + ofBool (bitOf r 22 != bitOf r 17))

/-- `n` steps of the generator of R143 without their bits. -/
def steps23 : Nat → Nat → Nat
  | 0, r => r
  | n + 1, r => steps23 n (gen23 r).2

/-- The 4-QAM points of `n` tones from tone `k` on: two generator steps for each tone, labels c0 and c1; a tone that
carries nothing takes its steps and gives no point (R133). -/
def genPoints (use_ : Nat → Bool) : Nat → Nat → Nat → List (Nat × Int × Int) × Nat
  | 0, _, r => ([], r)
  | n + 1, k, r =>
    let a := gen11 r
    let b := gen11 a.2
    let rest := genPoints use_ n (k + 1) b.2
    (if use_ k then (k, (if a.1 then 1 else -1), if b.1 then 1 else -1) :: rest.1 else rest.1, rest.2)

/-- The point of pilot `i` in a symbol with transmit symbol counter `c`: phase π/4 + q × π/2 (R136). -/
def pilotPoint (c i : Nat) : Int × Int :=
  if (c + i) % 4 = 0 then (1, 1) else if (c + i) % 4 = 1 then (-1, 1) else if (c + i) % 4 = 2 then (-1, -1) else (1, -1)

/-- `n` steps of the generator of R133 without their bits. -/
def steps11 : Nat → Nat → Nat
  | 0, r => r
  | n + 1, r => steps11 n (gen11 r).2

/-- The generator after a training symbol of `n` tones: two steps for each, and the period is 2,047. -/
def afterTones (n r : Nat) : Nat := steps11 (2 * n % 2047) r

/-! ### Constellations (R140) -/

/-- The level of an axis: Gray bits, most significant first, to the amplitude 2n − (M − 1); no bits give 0. -/
def axisLevel (bs : List Bool) : Int :=
  if bs.isEmpty then 0
  else
    let n := (bs.foldl (fun (a : Nat × Bool) b => (2 * a.1 + ofBool (a.2 != b), a.2 != b)) (0, false)).1
    2 * (n : Int) - ((2 ^ bs.length : Nat) - 1)

/-- The point of a tone from its labels c0, c1, …: amplitudes before the division by √E. -/
def tonePoint (c : List Bool) : Int × Int :=
  let b := c.length
  let nI := (b + 1) / 2
  let rest := c.drop 2
  (axisLevel (c.take 1 ++ rest.take (nI - 1)), axisLevel ((c.drop 1).take 1 ++ rest.drop (nI - 1)))

/-- The points of the data tones at their levels: overhead bits in the first pass, codeword bits in the second (R141).
`quad` is how many overhead bits are still to place. -/
def placeBits (lev : Nat → Int) : List (Nat × ToneEntry) → Nat → List Bool → List Bool → List TonePt
  | [], _, _, _ => []
  | e :: l, quad, oh, cw =>
    let n := min quad (min e.2.bits 2)
    let v := tonePoint (oh.take n ++ cw.take (e.2.bits - n))
    ⟨e.1, v.1, v.2, energy3 e.2.bits, psdOf lev e⟩ ::
      placeBits lev l (quad - n) (oh.drop n) (cw.drop (e.2.bits - n))

/-! ### Handshake frames and training messages (R160, R162, R175) -/

/-- An HS frame: TYPE, SEQ, LEN, payload, CRC-32. -/
def hsFrame (type seq : Nat) (payload : List Byte) : List Byte :=
  let b := beBytes 1 type ++ beBytes 1 seq ++ beBytes 2 payload.length ++ payload
  b ++ beBytes 4 (crc32 0xFFFFFFFF b)

/-- The lowest tone of a beacon set: A begins at 43, B at 77, of 24 tones each. -/
def beaconBase (setB : Bool) : Nat := if setB then 77 else 43

/-- Bits in groups of 24, the last padded with 0. -/
def groups24 : Nat → List Bool → List (List Bool)
  | 0, _ => []
  | n + 1, l => ((l.take 24) ++ List.replicate (24 - (l.take 24).length) false) :: groups24 n (l.drop 24)

/-- The beacon symbols of an HS frame: the reference symbol, the bits 1, 0, 1, 0, 1, 0, 1 on every tone, then 24 bits of the
frame each, most significant first, the lowest tone first. -/
def beaconBits (frame : List Byte) : List (List Bool) :=
  [] :: ((List.range 7).map fun i => List.replicate 24 (i % 2 == 0)) ++
    groups24 ((8 * frame.length + 23) / 24) (byteBits frame)

/-- The first message tone, how many carry bits, and the distance of their repetition (R175). -/
def messageTones (short : Bool) : Nat × Nat × Nat := if short then (11, 128, 128) else (41, 512, 512)

/-- Bytes of a message symbol (R175). -/
def messageCap (short : Bool) : Nat := if short then 32 else 128

/-- The points of the message tones of a symbol for its bits: c0 and c1 of each tone, then the repetition. -/
def messagePoints (short : Bool) (bits : List Bool) : List (Nat × Int × Int) :=
  let t := messageTones short
  (List.range (2 * t.2.1)).map fun j =>
    let b := fun (i : Nat) => bits.getD (2 * (j % t.2.1) + i) false
    (t.1 + (if j < t.2.1 then j else j - t.2.1 + t.2.2), if b 0 then 1 else -1, if b 1 then 1 else -1)

/-- Bits XORed with the scrambler, and its next register (R143). -/
def scramble : List Bool → Nat → List Bool × Nat
  | [], r => ([], r)
  | b :: l, r =>
    let g := gen23 r
    let rest := scramble l g.2
    ((b != g.1) :: rest.1, rest.2)

/-! ### Codewords (R229 to R232) -/

/-- P^s on a block of 64 bits: row r takes bit (r + s) mod 64. -/
def circ (s : Nat) (x : List Bool) : List Bool := x.drop (s % 64) ++ x.take (s % 64)

/-- Bitwise sum of two blocks. -/
def addBits (x y : List Bool) : List Bool := (x.zip y).map fun e => e.1 != e.2

/-- The zero block. -/
def zeroBlock : List Bool := List.replicate 64 false

/-- m_b of a code rate. -/
def ldpcRows (cr : Nat) : Nat := if cr = 0 then 9 else if cr = 1 then 6 else 4

/-- Blocks of 64 bits. -/
def blocksOf : Nat → List Bool → List (List Bool)
  | 0, _ => []
  | n + 1, l => l.take 64 :: blocksOf n (l.drop 64)

/-- Row i of H applied to the information blocks: block (i, j) is P^((7ij + 5i + 3j) mod 64). -/
def infoSum (i : Nat) (u : List (List Bool)) : List Bool :=
  (u.zipIdx).foldl (fun a e => addBits a (circ ((7 * i * e.2 + 5 * i + 3 * e.2) % 64) e.1)) zeroBlock

/-- Parity blocks p_t to p_(m_b − 1), from p_(t). -/
def parityRest (sums : List (List Bool)) (mb : Nat) (p0 : List Bool) : Nat → Nat → List Bool → List (List Bool)
  | 0, _, _ => []
  | n + 1, t, pt =>
    pt :: parityRest sums mb p0 n (t + 1)
      (addBits (addBits (sums.getD t zeroBlock) pt) (if t = mb / 2 then p0 else zeroBlock))

/-- The LDPC codeword of an information part: systematic, H c^T = 0 (R229, R230). (DEDUCED, log 123) -/
def ldpcEncode (cr : Nat) (info : List Byte) : List Bool :=
  let mb := ldpcRows cr
  let kb := 36 - mb
  let bits := (byteBits info ++ List.replicate (64 * kb) false).take (64 * kb)
  let sums := (List.range mb).map fun i => infoSum i (blocksOf kb bits)
  let p0 := sums.foldl addBits zeroBlock
  let p1 := addBits (sums.getD 0 zeroBlock) (circ 1 p0)
  bits ++ (p0 :: parityRest sums mb p0 (mb - 1) 1 p1).flatten

/-- Every parity check of H on 2,304 bits (R229). -/
def ldpcHolds (cr : Nat) (c : List Bool) : Bool :=
  let mb := ldpcRows cr
  let kb := 36 - mb
  let blocks := blocksOf 36 c
  let par := fun t => blocks.getD (kb + t) zeroBlock
  (List.range mb).all fun i =>
    let s := infoSum i (blocks.take kb)
    let s := if i = 0 ∨ i = mb - 1 then addBits s (circ 1 (par 0)) else s
    let s := if i = mb / 2 then addBits s (par 0) else s
    let s := if 1 ≤ i then addBits s (par i) else s
    let s := if i + 1 < mb then addBits s (par (i + 1)) else s
    s == zeroBlock

/-- CRC-24 of the codeword header and frame data (R231). -/
def crc24 (bs : List Byte) : Nat := crcOf 24 0x864CFB 0xB704CE bs

/-- An information part: header and frame data, filled to `n` bytes (R231). (DEDUCED, log 123) -/
def infoPart (ms stream cls kind first n : Nat) (data : List Byte) : List Byte :=
  let head := beBytes 5 (ms % 2 ^ 16 * 2 ^ 24 + stream % 2 ^ 12 * 2 ^ 12 + cls % 8 * 2 ^ 9 + kind % 4 * 2 ^ 7 + first % 2 ^ 7)
  let body := (data ++ List.replicate n 0).take n
  head ++ beBytes 3 (crc24 (head ++ body)) ++ body

/-- A decoded header: milestone, stream, class, kind, first delimiter. -/
structure CwHead where
  ms : Nat
  stream : Nat
  cls : Nat
  kind : Nat
  first : Nat
deriving DecidableEq, Repr

/-- The header of an information part (R231). -/
def cwHead (info : List Byte) : CwHead :=
  let w := beNat (info.take 5)
  ⟨bitsOf w 24 16, bitsOf w 12 12, bitsOf w 9 3, bitsOf w 7 2, bitsOf w 0 7⟩

/-- The CRC-24 of an information part passes. -/
def cwCrcOk (info : List Byte) : Bool := crc24 (info.take 5 ++ info.drop 8) == beNat ((info.drop 5).take 3)

/-! ### Overhead fields (R144, R145) -/

/-- A received overhead field passes: CRC-16 over bytes 0 to 61 and OH_FORMAT 1. -/
def overheadOk (bs : List Byte) : Bool :=
  bs.length == 64 && crc16 (bs.take 62) == beNat (bs.drop 62) && bitsOf (beNat (bs.take 1)) 4 4 == 1

/-- An OAM message as sent: TYPE, LEN, payload, CRC-32 (R190). -/
def oamBytes (type : Nat) (payload : List Byte) : List Byte :=
  let b := beBytes 1 type ++ beBytes 2 payload.length ++ payload
  b ++ beBytes 4 (crc32 0xFFFFFFFF b)

/-- The TYPE of a training message the spec names without one: 1 verdict, 2 TA, 3 SPREAD, 4 CE, 5 STORE_ID, 6 showtime
boundary. (DESIGN CHOICE, log 155) -/
def trainType (kind : Nat) : Nat := 3 + kind

/-- Segments of a message. (DEDUCED, log 77) -/
def oamSegments (type : Nat) (payload : List Byte) : Nat := ((oamBytes type payload).length + 12) / 13

/-- Segment `i` of a message (R190). -/
def oamSegment (mid type : Nat) (payload : List Byte) (i : Nat) : List Byte :=
  let b := oamBytes type payload
  let part := ((b.drop (13 * i)).take 13)
  beBytes 1 (ofBool (i == 0) * 128 + ofBool (i + 1 == oamSegments type payload) * 64 + mid % 16) ++
    part ++ List.replicate (13 - part.length) 0

end Sys2Proof.Machine
end

