-- ==== Sys2Proof/Machine/Launch.lean ====
section
/-! DEFINITION. What a port launches on its line: the plan of a direction, the points of each kind of symbol, prefix, timing
phase and advance of the symbols (R129, R133 to R136, R146, R149, R164, R174 to R176, R181, R218). -/

namespace Sys2Proof.Machine

/-! ### The plan of a direction -/

/-- The active mask of a port. -/
def ownMask (p : Nat) (s : State) : List (Nat × Int) := portMask p (getF p .TXSH_PSD_ACT s) s

/-- The active notch set of a port. -/
def ownNotches (p : Nat) (s : State) : List (Nat × Nat) := notchOf (s.port p).layout (getF p .TXSH_NOTCH_ACT s)

/-- The tone plan of the present agreement (R128, R149, R155, R169). -/
def planOf (p : Nat) (s : State) : TonePlan :=
  let c := (s.port p).link.partner
  { short := isShort p s
    lo := max (rwF p .LINKUP_BAND_LO s) ((c.map (·.bandLo)).getD 0)
    hi := min (rwF p .LINKUP_BAND_HI s) ((c.map (·.bandHi)).getD 16383)
    notches := ownNotches p s ++ (c.map (·.notches)).getD []
    disabled := (s.port p).sig.disabled ++ (c.map (·.disabled)).getD [] }

/-- What the port's transmissions follow from at present (R146). -/
def txPlanOf (p : Nat) (s : State) : TxPlan :=
  { plan := planOf p s, mine := ownMask p s, his := ((s.port p).link.partner.map (·.bps)).getD []
    pref := profPref (profileOf p s) }

/-- L(k) − PREF of a tone: the lower of the two masks (R146). -/
def TxPlan.level (x : TxPlan) (k : Nat) : Int := lowerLevel x.plan.short x.mine x.his x.pref k

/-- The pilots of a plan. -/
def TonePlan.pilots (q : TonePlan) : List Nat := (placePilots q).filterMap id

/-- A tone that carries something in some symbol: its echo coefficient is not held at 0 (R208). -/
def TonePlan.carries (q : TonePlan) (k : Nat) : Bool := q.usable k || q.isCancel k || q.pilots.contains k

/-! ### Points -/

/-- A 4-QAM point at fine gain 0 dB. -/
def qamPt (x : TxPlan) (k : Nat) (v : Int × Int) : TonePt := ⟨k, v.1, v.2, 6, x.level k⟩

/-- Pilot i of a symbol with transmit symbol counter `c` carries its point; an absent pilot keeps its number (R135, R136). -/
def pilotPts (x : TxPlan) (c : Nat) : List TonePt :=
  (placePilots x.plan).zipIdx.filterMap fun e => e.1.map fun k => qamPt x k (pilotPoint c e.2)

/-- A cancellation value: the spec states its purpose and its bound L(k), not its value (R149). In units of 2^−10 of the
amplitude at L(k). (DESIGN CHOICE, log 16) -/
def cancelPoint (k : Nat) (others : List (Nat × Int × Int)) : Int × Int :=
  let v := Config.cancelValue k others
  if v.1 * v.1 + v.2 * v.2 ≤ 2 ^ 20 then v else (0, 0)

/-- The cancellation tones of a symbol with these other tones. -/
def cancelPts (x : TxPlan) (others : List TonePt) : List TonePt :=
  ((List.range (tonesOf x.plan.short)).filter x.plan.isCancel).map fun k =>
    let v := cancelPoint k (others.map fun t => (t.tone, t.i, t.q))
    ⟨k, v.1, v.2, 3 * 2 ^ 20, x.level k⟩

/-- The generator's points on the usable tones that are no pilots, and its next register (R133). -/
def genPts (x : TxPlan) (r : Nat) : List TonePt × Nat :=
  let ps := x.plan.pilots
  let g := genPoints (fun k => x.plan.usable k && !ps.contains k) (tonesOf x.plan.short) 0 r
  (g.1.map fun e => qamPt x e.1 e.2, g.2)

/-- The points of a symbol completed with its cancellation tones. -/
def withCancel (x : TxPlan) (l : List TonePt) : List TonePt := l ++ cancelPts x l

/-- Every point negated (R134, R176). -/
def negated (l : List TonePt) : List TonePt := l.map fun t => { t with i := -t.i, q := -t.q }

/-- Every point rotated by +π/2 (R174). -/
def quarterTurn (l : List TonePt) : List TonePt := l.map fun t => { t with i := -t.q, q := t.i }

/-- The sync symbol (R133, R134): inverted without its pilots. -/
def syncPts (x : TxPlan) (c : Nat) (inverted : Bool) : List TonePt :=
  let pts := (genPts x 2047).1
  withCancel x (pilotPts x c ++ if inverted then negated pts else pts)

/-! ### Symbols -/

/-- Symbol kinds of an emission: a sync symbol. -/
def kSync : Nat := 0
/-- A data symbol. -/
def kData : Nat := 1
/-- A training symbol. -/
def kTrain : Nat := 2
/-- A message symbol of training. -/
def kMessage : Nat := 3
/-- The alert symbol. -/
def kAlert : Nat := 4
/-- The count mark. -/
def kCount : Nat := 5
/-- A ranging mark. -/
def kRange : Nat := 6
/-- A refresh symbol of LPI_QUIET. -/
def kRefresh : Nat := 7

/-- The prefix of the symbol size in use (R129). -/
def pfxOf (p : Nat) (s : State) : Int := ceSamples (getF p .TXSH_CE s)

/-- A symbol launched: the slave's tones turned by φ, and the slave ahead by TA once the symbol named for it has come
(R176, R181, R218). What the port transmits stands in `lastTx` for its echo cancellers (R202). -/
def launch (p kind : Nat) (pfx : Int) (pts : List TonePt) (s : State) : State :=
  let slave := isSlave p s
  let sym : LineSymbol :=
    { kind := kind, pfx := pfx, phi := if slave then (s.port p).sig.phi else 0
      lead := if slave && (s.port p).link.taOn then getF p .LINKUP_TA s else 0, tones := pts }
  emitLine p (.symbol p sym) (modSig p (fun g => { g with prevTx := g.lastTx, lastTx := sym }) s)

/-- The alert symbol: 4-QAM on every tone from BAND_LO to BAND_HI that the port's own mask and notch set let it use
(R164). -/
def alertPts (p : Nat) (s : State) : List TonePt :=
  let q : TonePlan := { short := false, lo := rwF p .LINKUP_BAND_LO s, hi := rwF p .LINKUP_BAND_HI s
                        notches := ownNotches p s, disabled := [] }
  let x : TxPlan := { plan := q, mine := ownMask p s, his := [], pref := 0 }
  withCancel x ((genPoints q.usable 16384 0 2047).1.map fun e => qamPt x e.1 e.2)

/-- An HS frame on the beacon tones of a set, each at the level of the mask that PSD_SEL selects (R160, R162). -/
def hsEmission (p : Nat) (setB : Bool) (type seq : Nat) (payload : List Byte) (s : State) : Emission :=
  let m := portMask p (rwF p .TXSH_PSD_SEL s) s
  let f := hsFrame type seq payload
  .handshake p setB f ((List.range 24).map fun i => (beaconBase setB + i, maskLevel m (beaconBase setB + i))) (beaconBits f)

/-- An HS frame sent. -/
def sendFrame (p : Nat) (setB : Bool) (type seq : Nat) (payload : List Byte) (s : State) : State :=
  emitLine p (hsEmission p setB type seq payload s) s

/-- The fields that a port reads at each start of T1 (R226 to R228). -/
def latchFlds : List Fld :=
  [.AFE_RX_GAIN_FORCE, .AFE_FORCE_GAIN, .AFE_CLIP_LIMIT, .ECHO_TD_EN, .ECHO_MU_FAST, .ECHO_MU_SLOW, .ECHO_MU_SHOW,
    .EQ_TEQ_FORCE, .EQ_TEQ_OFF]

/-- A field as read at the last start of T1. (DEDUCED, log 40) -/
def latched (p : Nat) (f : Fld) (s : State) : Nat := mapGetD (s.port p).sig.latch (f.key p) f.base

end Sys2Proof.Machine
end

