-- ==== Sys2Proof/Machine/Tones.lean ====
section
/-! DEFINITION. The arithmetic of the receiver, tone by tone: what was transmitted, the boundary residue, echo error, decision,
updates of the coefficients, SNR (R202, R207 to R209, R216, R218, R223). -/

namespace Sys2Proof.Machine

/-! ### Complex numbers -/

/-- A complex number. -/
abbrev Cx := Rat × Rat

/-- The sum of two complex numbers. -/
def cadd (a b : Cx) : Cx := (a.1 + b.1, a.2 + b.2)

/-- Their difference. -/
def csub (a b : Cx) : Cx := (a.1 - b.1, a.2 - b.2)

/-- Their product. -/
def cmul (a b : Cx) : Cx := (a.1 * b.1 - a.2 * b.2, a.1 * b.2 + a.2 * b.1)

/-- The conjugate. -/
def cconj (a : Cx) : Cx := (a.1, -a.2)

/-- The squared magnitude. -/
def cnorm (a : Cx) : Rat := a.1 * a.1 + a.2 * a.2

/-- A complex number by another, 0 where the divisor is 0. -/
def cdiv (a b : Cx) : Cx :=
  let n := cnorm b
  if n = 0 then (0, 0) else ((a.1 * b.1 + a.2 * b.2) / n, (a.2 * b.1 - a.1 * b.2) / n)

/-- A complex number times a real one. -/
def cscale (r : Rat) (a : Cx) : Cx := (r * a.1, r * a.2)

/-- (cos 2πq, sin 2πq). -/
def turnOf (q : Rat) : Cx := if q.den = 1 then (1, 0) else Config.turn q

/-- 10 log10 of a ratio in 0.1 dB: exact for the powers of ten, else rounded in a way the spec leaves open.
(DESIGN CHOICE, log 17) -/
def dbOf (q : Rat) : Int :=
  match (List.range 41).find? fun n => q == (10 ^ n : Nat) with
  | some n => 100 * n
  | none => Config.decibel q

/-- √q, exact for squares. (DESIGN CHOICE, log 13) -/
def rootOf (q : Rat) : Rat :=
  let a := Nat.sqrt q.num.toNat
  let b := Nat.sqrt q.den
  if (a * a : Nat) = q.num.toNat ∧ b * b = q.den then mkRat a b else Config.root q

/-- 10^(x/200), exact for whole powers of ten. (DESIGN CHOICE, log 13) -/
def ampOf (x : Int) : Rat :=
  if x % 200 = 0 then (if 0 ≤ x then ((10 ^ (x / 200).toNat : Nat) : Rat) else mkRat 1 (10 ^ (-x / 200).toNat))
  else Config.amplitude x

/-! ### The transmitted signal (R202, R207) -/

/-- A point at unit mean energy. -/
def unitPt (i q : Int) (e3 : Nat) : Cx := cscale (rootOf (mkRat 3 e3)) (i, q)

/-- X(k): the value transmitted on a tone, after the rotation by the timing phase. -/
def toneX (n : Nat) (phi : Int) (t : TonePt) : Cx :=
  cmul (turnOf ((t.tone * phi : Int) / (256 * n : Nat))) (cscale (ampOf t.psd) (unitPt t.i t.q t.e3))

/-- The value transmitted on a tone of a symbol, 0 where it carries nothing. -/
def txValue (n : Nat) (sym : LineSymbol) (k : Nat) : Cx :=
  match sym.tones.find? fun t => t.tone == k with
  | some t => toneX n sym.phi t
  | none => (0, 0)

/-- Sample `j` of the body of a transmitted symbol of `n` samples. -/
def txSample (n : Nat) (sym : LineSymbol) (j : Nat) : Rat :=
  (sym.tones.map fun t => 2 * (cmul (toneX n sym.phi t) (turnOf ((t.tone * j : Nat) / (n : Rat)))).1).foldl (· + ·) 0

/-- What time-domain tap `d`, of delay CE + 1 + d, draws from the previous symbol at window sample `t`, less what it would draw
from the present symbol's prefix (R207). -/
def residueIn (n ce : Nat) (prev cur : LineSymbol) (d t : Nat) : Rat :=
  let delay := ce + 1 + d
  let back : Int := (t : Int) - delay
  if back < -cur.pfx then txSample n prev (n + back + cur.pfx).toNat - txSample n cur (n + back).toNat else 0

/-- The boundary residue at window sample `t`, taps in 2^−15 (R207). -/
def residueAt (n ce : Nat) (taps : NMap Int) (prev cur : LineSymbol) (t : Nat) : Rat :=
  (taps.map fun e => (e.2 : Rat) / 2 ^ 15 * residueIn n ce prev cur e.1 t).foldl (· + ·) 0

/-- FFT output `k` of the residue of the first 256 window samples, in the units of X(k). -/
def residueTone (n : Nat) (res : List Rat) (k : Nat) : Cx :=
  cscale (1 / (n : Rat)) (res.zipIdx.foldl (fun a e => cadd a (cscale e.1 (turnOf (-(k * e.2 : Nat) / (n : Rat))))) (0, 0))

/-- The residue of the first 256 window samples, while the time-domain canceller has taps (R207). -/
def residues (n ce : Nat) (taps : NMap Int) (prev cur : LineSymbol) : List Rat :=
  if taps.isEmpty then [] else (List.range 256).map (residueAt n ce taps prev cur)

/-- The time-domain error at window sample `t`, from the errors of the tones (R208). -/
def errorAt (n : Nat) (errs : List (Nat × Cx)) (t : Nat) : Rat :=
  (errs.map fun e => 2 * (cmul e.2 (turnOf ((e.1 * t : Nat) / (n : Rat)))).1).foldl (· + ·) 0

/-- Tap `d` + 2^−μ Σ e(t) r(t) ÷ Σ r(t)² in 2^−15, with the signal r(t) that the tap draws (R208). (DEDUCED, log 160) -/
def lmsTap (tag n ce mu : Nat) (prev cur : LineSymbol) (errs : List Rat) (d : Nat) (tap : Int) : Int :=
  let r := (List.range 256).map (residueIn n ce prev cur d)
  let p := (r.map fun v => v * v).foldl (· + ·) 0
  if p = 0 then tap
  else
    let v : Rat := (tap : Rat) + 2 ^ 15 * ((errs.zip r).map fun e => e.1 * e.2).foldl (· + ·) 0 / (2 ^ mu * p)
    if v.den = 1 then v.num else Config.freeRound tag v

/-- The response of the shortening equaliser at a tone, taps in 2^−14; 1 while it is not active (R215). -/
def teqTone (n : Nat) (teq : NMap Int) (k : Nat) : Cx :=
  if teq.isEmpty then (1, 0)
  else teq.foldl (fun a e => cadd a (cscale ((e.2 : Rat) / 2 ^ 14) (turnOf (-(k * e.1 : Nat) / (n : Rat))))) (0, 0)

/-! ### Points received (R140, R209, R216) -/

/-- What a tone is expected to carry: a known point, or a constellation to decide in; and 10^(GAIN/20). -/
structure Expect where
  known : Option Cx
  bits : Nat
  gain : Rat

/-- The level of an axis of `b` bits nearest to a value in units of the unscaled constellation. -/
def nearLevel (b : Nat) (v : Rat) : Int :=
  if b = 0 then 0
  else
    let m : Int := (2 ^ b : Nat)
    2 * max 0 (min (m - 1) ((v + m) / 2).floor) - (m - 1)

/-- The hard decision for a value at unit energy, as a unit-energy point (R140). -/
def decide_ (b : Nat) (z : Cx) : Cx :=
  let r := rootOf (mkRat (energy3 b) 3)
  unitPt (nearLevel ((b + 1) / 2) (r * z.1)) (nearLevel (b / 2) (r * z.2)) (energy3 b)

/-- A stored C(k) in 2^−15. -/
def ecfVal (c : Int × Int) : Cx := ((c.1 : Rat) / 2 ^ 15, (c.2 : Rat) / 2 ^ 15)

/-- A stored F(k) in 2^−12; an untrained one is 1. -/
def feqVal (m : NMap (Int × Int)) (k : Nat) : Cx :=
  let c := mapGetD m k (2 ^ 12, 0)
  ((c.1 : Rat) / 2 ^ 12, (c.2 : Rat) / 2 ^ 12)

/-- H(k), the inverse of F(k) (R209). -/
def chanOf (f : Cx) : Cx := cdiv (1, 0) f

/-- A tone of a received symbol as the receiver has processed it (R202): X, Y′ and Z with common phase and slope removed, A
with its gain, whether the tone contributes to adaptation and whether its point was known, and E of R209. -/
structure ToneRx where
  tone : Nat
  x : Cx
  y1 : Cx
  z : Cx
  a : Cx
  near : Bool
  known : Bool
  e : Cx

/-- Receive steps 5 and 6 of R202 on a tone: Y(k) − C(k)X(k), turned by −φ at the slave. -/
def cancelled (n : Nat) (phi : Int) (c x y : Cx) (k : Nat) : Cx :=
  cmul (turnOf (-(k * phi : Int) / (256 * n : Nat))) (csub y (cmul c x))

/-- The error of R209 turned back, by `q` turns, to where C(k)X(k) stands. -/
def errorOf (q : Rat) (f y1 a : Cx) : Cx := cmul (turnOf q) (csub y1 (cmul (chanOf f) a))

/-! ### Updates (R208, R216) -/

/-- A coefficient in 2^−15 or 2^−12 units after an exact update, its rounding free: where both parts are whole they stand. -/
def storeCx (tag : Nat) (v : Cx) : Int × Int :=
  if v.1.den = 1 ∧ v.2.den = 1 then (v.1.num, v.2.num)
  else (Config.freeRound tag v.1, Config.freeRound (tag + 1) v.2)

/-- C(k) + 2^−μ E conj(X) ÷ |X|² in 2^−15 (R208); a tone with X = 0 contributes nothing. -/
def lms (tag mu : Nat) (c : Int × Int) (x e : Cx) : Int × Int :=
  if cnorm x = 0 then c
  else
    let d := cscale (2 ^ 15 / (2 ^ mu * cnorm x)) (cmul e (cconj x))
    storeCx tag (c.1 + d.1, c.2 + d.2)

/-- F(k) + 2^−10 (A − Z) conj(Y′) ÷ |Y′|² in 2^−12: the update of R216 with the normalisation of R208. (DEDUCED, log 167) -/
def feqLms (tag : Nat) (f : Int × Int) (y1 a z : Cx) : Int × Int :=
  if cnorm y1 = 0 then f
  else
    let d := cscale (2 ^ 2 / cnorm y1) (cmul (csub a z) (cconj y1))
    storeCx tag (f.1 + d.1, f.2 + d.2)

/-- SNR(k) in 0.1 dB from F(k) and the sum of the noise of `n` symbols (R223). -/
def snrOf (f : Cx) (sum : Rat) (n : Nat) : Int := dbOf (cnorm (chanOf f) * n / sum)

/-- SNR of every tone of the block being measured. -/
def measuredSnr (p : Nat) (s : State) : NMap Int :=
  let g := (s.port p).sig
  mapVals (fun k v => snrOf (feqVal g.feq k) v g.noiseN) g.noise

end Sys2Proof.Machine
end

