-- ==== Sys2Proof/Machine/Linkup.lean ====
section
/-! DEFINITION. Handshake, training and compatibility modes (R157 to R180, R196, R197). -/

namespace Sys2Proof.Machine

/-- What a meaning answers. -/
abbrev Answer := Host.Outcome State Fault Refusal

/-! ### Handshake frames (R162 to R170) -/

/-- The unique device number (R99). -/
def ownUid : Nat := Config.uidHi % 2 ^ 32 * 2 ^ 32 + Config.uidLo % 2 ^ 32

/-- A mask, notch set and disabled runs as R166 lays them out. -/
def listBytes (bps : List (Nat × Int)) (notches disabled : List (Nat × Nat)) : List Byte :=
  (bps.flatMap fun b => beBytes 4 (codeOf 12 b.2 * 2 ^ 16 + b.1 % 2 ^ 14)) ++
    (notches.flatMap fun n => beBytes 4 (n.2 % 512 * 2 ^ 16 + n.1 % 2 ^ 14)) ++
    disabled.flatMap fun r => beBytes 4 (r.2 % 2 ^ 14 * 2 ^ 16 + r.1 % 2 ^ 14)

/-- The port announces survey monitoring (R331). -/
def survMon (p : Nat) (s : State) : Bool :=
  rwF p .LINKUP_SV_MON s == 1 && enOf .SURVEY p s == 1 && getF p .SURVEY_BASE_VALID s == 1

/-- The port offers a warm start: a stored channel profile and WARM_EN (R166). -/
def warmOffered (p : Nat) (s : State) : Bool := (s.port p).stored.isSome && rwF p .LINKUP_WARM_EN s == 1

/-- The CAP a port sends (R166). (DEDUCED, log 69) -/
def ownCap (p : Nat) (s : State) : Cap :=
  let x := s.port p
  let warm := warmOffered p s
  let short := warm && !x.link.capFull
  { listsOmitted := short, svMon := survMon p s, stored := warm
    permit := getF p .PORT_CTL_PERMIT s, req := profileOf p s, rolePri := rwF p .LINKUP_ROLE_PRI s
    ceMin := rwF p .TXSH_CE_MIN s, draw := x.link.draw, uid := ownUid, port := p
    storeId := if warm then (x.stored.map (·.storeId)).getD 0 else 0
    bandLo := rwF p .LINKUP_BAND_LO s, bandHi := rwF p .LINKUP_BAND_HI s
    cfgHash := crc32 0xFFFFFFFF (listBytes (ownMask p s) (ownNotches p s) (s.port p).sig.disabled)
    bps := if short then [] else ownMask p s, notches := if short then [] else ownNotches p s
    disabled := if short then [] else x.sig.disabled }

/-- The bytes of a CAP payload (R166). -/
def capBytes (c : Cap) : List Byte :=
  [1] ++ beBytes 1 (ofBool c.listsOmitted + 2 * ofBool c.svMon + 4 * ofBool c.stored) ++
    beBytes 1 (c.permit % 16 + c.req % 4 * 16) ++ beBytes 1 (c.rolePri % 8 + c.ceMin % 4 * 16) ++ beBytes 2 c.draw ++
    beBytes 8 c.uid ++ beBytes 1 (c.port % 8) ++ [0] ++ beBytes 4 c.storeId ++ beBytes 2 c.bandLo ++
    beBytes 2 c.bandHi ++ beBytes 1 c.bps.length ++ beBytes 1 c.notches.length ++ beBytes 2 c.disabled.length ++
    beBytes 4 c.cfgHash ++ listBytes c.bps c.notches c.disabled

/-- The payload of a SEEK frame (R162). -/
def seekBytes (uid port : Nat) : List Byte := beBytes 8 uid ++ beBytes 1 (port % 8)

/-- The payload of a CAP_ACK (R162). -/
def ackBytes (seq : Nat) (full : Bool) : List Byte := beBytes 1 seq ++ beBytes 1 (ofBool full)

/-- The CRC-32 of a received HS frame is right (R162, R163). -/
def hsOk (h : HsHead) (type : Nat) (payload : List Byte) : Bool :=
  h.crc.toNat == beNat ((hsFrame type h.seq.toNat payload).drop (4 + payload.length))

/-- An HS frame sent on the port's set, a responder's set B; every frame carries the present SEQ (R162, R164).
(DESIGN CHOICE, log 156) -/
def sendHs (p type : Nat) (payload : List Byte) (s : State) : State :=
  sendFrame p (!(s.port p).link.initiator) type (s.port p).link.capSeq payload s

/-- The port's CAP sent. -/
def sendCap (p : Nat) (s : State) : State :=
  modLink p (fun l => { l with capSent := true }) (sendHs p 1 (capBytes (ownCap p s)) s)

/-- A new CAP: SEQ + 1 and a new DRAW (R168). -/
def newCap (p : Nat) (draw : BitVec 16) (s : State) : State :=
  sendCap p (modLink p (fun l =>
    { l with capSeq := (l.capSeq + 1) % 256, draw := draw.toNat, capAcked := false }) s)

/-- The port enters HS_CAP and sends its CAP; the time counts from the first moment at which either end heard the other
(R163, R164, R172). -/
def enterCap (p : Nat) (initiator : Bool) (since : Nat) (draw : BitVec 16) (s : State) : State :=
  let s := modLink p (fun l => { l with initiator := initiator, seekGap := none, startCycle := s.cycles - since }) s
  newCap p draw (enterSt p stCap s)

/-- The port is in a gap of HS_SEEK. -/
def inGap (p : Nat) (s : State) : Bool :=
  match (s.port p).link.seekGap with
  | some g => g.1 ≤ s.cycles && s.cycles < g.2
  | none => false

/-- The port listens for HS frames of a set: A in HS_LISTEN, in HS_SEEK B at all times and A in a gap, in HS_CAP the
partner's (R157, R164). (DEDUCED, log 168) -/
def listens (p : Nat) (setB : Bool) (s : State) : Bool :=
  let st := stOf p s
  if st = stListen then !setB
  else if st = stSeek then setB || inGap p s
  else st == stCap && setB == (s.port p).link.initiator

/-- Cycles of 8 ns in a gap of (2 + g) × 0.125 ms (R164). -/
def gapCycles (g : Nat) : Nat := (2 + g) * 15625

/-- A responder that hears set B returns to HS_SEEK and starts with a gap (R164). -/
def backToSeek (p : Nat) (s : State) : State :=
  let s := enterSt p stSeek (newLink p s)
  spend (modLink p (fun l => { l with seekGap := some (s.cycles, s.cycles + gapCycles (free s % 7)) }) s)

/-- An HS frame of its partner taken on the set it came on, or what hearing it there does (R163, R164). -/
def hearHs (p : Nat) (h : HsHead) (type : Nat) (payload : List Byte) (f : State → State) (s : State) : State :=
  if !hsOk h type payload then s
  else if listens p h.setB s then f s
  else if stOf p s == stCap && h.setB && !(s.port p).link.initiator then backToSeek p s
  else s

/-- A profile that both ends permit; LATENCY counts as permitted by neither where CE_MIN is 2 or 3 (R169). -/
def permitOf (permit ceMin : Nat) : Nat := if 2 ≤ ceMin then permit &&& 0b1011 else permit

/-- The agreed profile (R169): the master's REQ, the slave's, or the first of RATE, REACH, FRUGAL, LATENCY. -/
def agreeProfile (mPermit mReq sPermit sReq : Nat) : Option Nat :=
  if bitOf sPermit mReq then some mReq
  else if bitOf mPermit sReq then some sReq
  else [0, 1, 3, 2].find? fun q => bitOf mPermit q && bitOf sPermit q

/-- The partner's CAP allows a warm start at this end, profile apart (R180). -/
def warmMatch (p : Nat) (c : Cap) (s : State) : Bool :=
  match (s.port p).stored with
  | some t =>
    rwF p .LINKUP_WARM_EN s == 1 && c.stored && c.storeId == t.storeId && c.uid == t.partnerUid &&
      c.port == t.partnerPort && c.cfgHash == t.cfgHash
  | none => false

/-- The role that ROLE_PRI gives: master with the higher one (R168). -/
def priRole (pri his : Nat) : Option Bool := if his < pri then some true else if pri < his then some false else none

/-- The agreed profile of two ends for the port's role (R169). -/
def agreedFor (p : Nat) (c : Cap) (master : Bool) (s : State) : Option Nat :=
  let ce := max (rwF p .TXSH_CE_MIN s) c.ceMin
  let mine := permitOf (getF p .PORT_CTL_PERMIT s) ce
  let his := permitOf c.permit ce
  let req := profileOf p s
  if master then agreeProfile mine req his c.req else agreeProfile his c.req mine req

/-- A warm start may take place as far as this end sees: the CAP matches the stored channel profile, and the profile agreed
in the roles it would have is the stored one (R168, R180). -/
def warmOk (p : Nat) (c : Cap) (s : State) : Bool :=
  warmMatch p c s && (s.port p).stored.any fun t =>
    agreedFor p c ((priRole (rwF p .LINKUP_ROLE_PRI s) c.rolePri).getD (t.role == 1)) s == some t.profile

/-- Roles, profile and warm start resolved once both capabilities are exchanged; the master sends START. An end whose partner
asked for the full lists starts cold (R168 to R170, R180). -/
def resolveCap (p : Nat) (draw : BitVec 16) (s : State) : State :=
  let l := (s.port p).link
  match l.partner with
  | some c =>
    let warm := warmOk p c s && !l.capFull
    if stOf p s != stCap || !l.capAcked || !l.heard || getF p .PORT_CTL_ROLE s != 0 then s
    else if c.listsOmitted && !warmOk p c s then s
    else
      let role : Option Bool :=
        match priRole (rwF p .LINKUP_ROLE_PRI s) c.rolePri with
        | some r => some r
        | none =>
          if warm then (s.port p).stored.map fun t => t.role == 1
          else if c.draw < l.draw then some true
          else if l.draw < c.draw then some false
          else none
      match role with
      | none => newCap p draw (modLink p (fun l => { l with heard := false }) s)
      | some master =>
        match agreedFor p c master s with
        | none => toLinkFail p 4 s
        | some q =>
          let s := setAll p [(.PORT_CTL_ROLE, if master then 1 else 2), (.PORT_CTL_MODE, 1), (.PORT_CTL_PROFILE, q),
            (.PORT_CTL_PROF_VALID, 1)] s
          let s := modLink p (fun l => { l with warm := warm }) s
          if master then (List.range 4).foldl (fun s _ => sendHs p 3 [] s) s else s
  | none => s

/-- A CAP heard: acknowledged with FULL_REQ where its lists are missing and no warm start is possible, and the
exchange resolved. Lists left out are those of the partner's last full CAP (R166, R167). -/
def onCap (p : Nat) (h : HsHead) (c : Cap) (draw : BitVec 16) (s : State) : State :=
  let s := if stOf p s = stCap then s else enterCap p h.setB h.since draw s
  let old := (s.port p).link.partner
  let c' : Cap :=
    match old with
    | some o =>
      if c.listsOmitted && o.uid == c.uid && o.port == c.port then
        { c with bps := o.bps, notches := o.notches, disabled := o.disabled }
      else c
    | none => c
  let full := c.listsOmitted && (!warmOk p c s || (s.port p).link.capFull)
  let s := modLink p (fun l => { l with partner := some c', heard := !full }) s
  let s := setAll p [(.LINKUP_PARTNER_UID_LO, c.uid), (.LINKUP_PARTNER_UID_HI, c.uid / 2 ^ 32),
    (.LINKUP_PARTNER_PORT, c.port), (.LINKUP_PARTNER_PERMIT, c.permit), (.SURVEY_PARTNER_MON, ofBool c.svMon)] s
  resolveCap p draw (sendHs p 2 (ackBytes h.seq.toNat full) s)

/-- A CAP_ACK: of the port's present CAP it ends the repetition; FULL_REQ asks for a full CAP (R166, R167). -/
def onCapAck (p seq : Nat) (fullReq : Bool) (draw : BitVec 16) (s : State) : State :=
  if stOf p s != stCap || !(s.port p).link.capSent || seq != (s.port p).link.capSeq then s
  else if fullReq then newCap p draw (modLink p (fun l => { l with capFull := true }) s)
  else resolveCap p draw (modLink p (fun l => { l with capAcked := true }) s)

/-- The SEEK frames sent back to back in 1 ms: 14 beacon symbols of 4,608 ns each. (DEDUCED, log 168) -/
def seekFrames : Nat := 1000000 / (14 * 4608)

/-- A seek cycle (R164): the alert symbol, SEEK frames on set A for 1 ms, then the gap drawn. -/
def seekOnce (p gap : Nat) (s : State) : State :=
  let s := launch p kAlert 4096 (alertPts p s) s
  let s := (List.range seekFrames).foldl (fun s _ =>
    sendFrame p false 4 (s.port p).link.capSeq (seekBytes ownUid p) s) s
  modLink p (fun l => { l with seekGap := some (s.cycles + 125576, s.cycles + 125576 + gapCycles gap) }) s

/-! ### Training -/

/-- The shortening equaliser judged on the cover of the receiver (R130, R215). -/
def teqWanted (p : Nat) (s : State) : Bool :=
  latched p .EQ_TEQ_OFF s != 1 &&
    (latched p .EQ_TEQ_FORCE s == 1 || ceSamples (getF p .TXSH_CE s) < getF p .LINKUP_TA s + getF p .TXSH_SPREAD s ||
      ceSamples (getF p .TXSH_CE s) < getF p .TXSH_COVER s)

/-- The receive gain forced by RX_GAIN_FORCE, or another (R206). -/
def gainOr (p g : Nat) (s : State) : Nat :=
  if latched p .AFE_FORCE_GAIN s = 1 then latched p .AFE_RX_GAIN_FORCE s else g

/-- T1 begins: configuration read, windows counted from 0, normal symbols with CE code 3; a warm start takes TA, tables,
coefficients and trims of the stored channel profile, and its CE for T3 (R170, R171, R180, R205, R206, R215, R226). -/
def beginT1 (p : Nat) (s : State) : State :=
  let vals := latchFlds.map fun f => (f.key p, rwF p f s)
  let s := modSig p (fun g => { g with
    latch := mapPutAll g.latch vals, phi := 0, slipDue := 0, rxSym := 0, gen := 2047, rxGen := 2047, winSym := 0
    hyb := 0, hybBest := none, gainHits := [], noise := [], noiseN := 0, margins := [] }) s
  let s := modLink p (fun l => { l with
    window := 0, ownPass := none, partnerPass := none, reject := false, slaveLocked := false, markFound := false
    rtts := [], rangeTry := 0, taSet := false, taFrom := none, taOn := false, spread := none, hisSpread := none
    ceFrom := none, showAt := none, marks := 0, replyAt := [], markDue := false, txBegun := false, tablesIn := false
    tablesOut := false }) s
  let s := match (s.port p).link.warm, (s.port p).stored with
    | true, some t =>
      let s := setAll p [(.LINKUP_TA, t.ta), (.LINKUP_TA_VALID, 1), (.TXSH_CE, t.ce), (.AFE_HYB_R, t.hybR),
        (.AFE_HYB_C, t.hybC), (.AFE_HYB_VALID, 1), (.AFE_RX_GAIN, gainOr p t.gain s)] s
      let s := modSig p (fun g => { g with ecf := t.ecf, ect := t.ect, feq := t.feq, teq := t.teq }) s
      let s := setF p .EQ_TEQ_ACTIVE (ofBool (teqWanted p s && !t.teq.isEmpty)) s
      forAll [0, 1] (fun i => setTable p i t.txTab) (forAll [2, 3] (fun i => setTable p i t.rxTab) s)
    | _, _ => setAll p [(.LINKUP_TA, 0), (.LINKUP_TA_VALID, 0)] s
  enterSt p stT1 (setAll p [(.TXSH_CE, 3), (.TXSH_SHORT, 0)] s)

/-- A failed warm check: WARM_REJECTED, and a cold start from the beginning of T1 (R180). (DEDUCED, log 79) -/
def warmReject (p : Nat) (s : State) : State :=
  sticky .LINKUP_WARM_REJECTED p (count p .LINKUP_WARM_REJ
    (beginT1 p (modLink p (fun l => { l with warm := false })
      (modOam p (fun o => { o with cur := none, queue := [], asm := none, acks := [] }) s))))

/-- A rejected warm start goes on as a cold one once both ends have been told: no message is under way (R180).
(DEDUCED, log 79) -/
def maybeReject (p : Nat) (s : State) : State :=
  let o := (s.port p).oam
  if (s.port p).link.reject && o.cur.isNone && o.queue.isEmpty && o.acks.isEmpty then warmReject p s else s

/-- A training message given to the channel (R175). Kinds: 1 verdict, 2 TA, 3 SPREAD, 4 CE, 5 STORE_ID, 6 showtime
boundary. (DESIGN CHOICE, log 155) -/
def trainSend (p kind : Nat) (payload : List Byte) (s : State) : State := oamPost p (trainType kind) payload s

/-- The verdict message: whether the echo verdict passed, whether the checks of a warm start did, ERLE_B1 (R173, R180). -/
def sendVerdict (p : Nat) (s : State) : State :=
  let l := (s.port p).link
  trainSend p 1 (beBytes 1 (ofBool (l.ownPass != some false) + 2 * ofBool !l.reject) ++
    beBytes 2 (getF p .ECHO_ERLE_B1 s)) s

/-- A check of a warm start fails in T2: the partner is told (R180). -/
def warmFails (p : Nat) (s : State) : State :=
  if (s.port p).link.reject then s else sendVerdict p (modLink p (fun l => { l with reject := true }) s)

/-- T2 is entered with the end's verdict as its first message; the master's first symbol is its count mark (R173, R174). -/
def beginT2 (p : Nat) (s : State) : State :=
  sendVerdict p (modLink p (fun l => { l with markDue := isMaster p s }) (setPhase p 2 s))

/-- The windows of T1: 4 in a cold start, 2 in a warm one (R173, R180). -/
def t1Windows (warm : Bool) : Nat := if warm then 2 else 4

/-- The present T1 window is the port's own: master first, then slave (R173). -/
def ownWindow (p : Nat) (s : State) : Bool := ((s.port p).link.window % 2 == 0) == isMaster p s

/-- A T1 window ends (R173, R180, R212, R219): ERLE of the last own window, FOFS in the partner's first one, whose excess sends
either end to LINK_FAIL, and after the last window T2 with the verdict. -/
def t1Window (p : Nat) (o : T1Meas) (s : State) : State :=
  let l := (s.port p).link
  let own := ownWindow p s
  let n := t1Windows l.warm
  let s :=
    if own && n ≤ l.window + 2 then
      let s := setAll p [(.ECHO_ERLE_B1, o.erleB1), (.ECHO_ERLE_B2, o.erleB2)] s
      let pass := 550 ≤ o.erleB1
      let s := modLink p (fun l => { l with ownPass := some pass }) s
      if pass then s else sticky .ECHO_ECHO_FAIL p (count p .ECHO_ECHO_FAILS s)
    else s
  let first := !own && l.window < 2
  let s := when (first && isSlave p s) (setS p .EQ_FOFS o.fofs) s
  let s := when (own && l.warm && !o.residualOk) (modLink p fun l => { l with reject := true }) s
  if first && decide (2600 < o.fofs.natAbs) then toLinkFail p 6 (when (isSlave p s) (sticky .EQ_FREQ_RANGE p) s)
  else if n ≤ l.window + 1 then beginT2 p s
  else modSig p (fun g => { g with winSym := 0 }) (modLink p (fun l => { l with window := l.window + 1 }) s)

/-- The partner's verdict (R173), in a warm start also on its checks (R180). -/
def onVerdict (p : Nat) (passed : Bool) (erle : BitVec 12) (warmOk : Bool) (s : State) : State :=
  if phaseOf p s != 2 || stOf p s == stFast then s
  else
    let s := setAll p [(.ECHO_PARTNER_ERLE, erle.toNat), (.ECHO_PARTNER_PASS, ofBool passed)] s
    if !passed then toLinkFail p 5 s
    else
      let s := modLink p (fun l => { l with partnerPass := some true }) s
      when ((s.port p).link.warm && !warmOk) (modLink p fun l => { l with reject := true }) s

/-- The phase is that of ranging: T2, or the beginning of a fast retrain (R176, R194). -/
def ranges (p : Nat) (s : State) : Bool := phaseOf p s == 2 || (stOf p s == stFast && phaseOf p s == 0)

/-- The shortening equaliser trained in a cold T3 (R215): the spec gives the aim of the training and not its result, so taps
and SPREAD_TEQ are free values. -/
def trainTeq (p : Nat) (s : State) : State :=
  if teqWanted p s then
    let taps := (List.range 32).map fun i => (i, signedOf 16 (Config.freeValue (s.fresh + i)))
    let s := modSig p (fun g => { g with teq := taps }) s
    let s := { s with fresh := s.fresh + 32 }
    spend (sticky .EQ_TEQ_ON p (setAll p [(.EQ_TEQ_ACTIVE, 1), (.EQ_SPREAD_TEQ, free s)] s))
  else setAll p [(.EQ_TEQ_ACTIVE, 0), (.EQ_SPREAD_TEQ, 0)] (modSig p (fun g => { g with teq := [] }) s)

/-- T3 is entered with the agreed symbol size and the CE chosen (R177, R178). -/
def beginT3 (p ce : Nat) (s : State) : State :=
  let cold := stOf p s != stFast && !(s.port p).link.warm
  let s := setAll p [(.TXSH_CE, ce), (.TXSH_SHORT, ofBool (profileOf p s == 2))] s
  let s := when cold (trainTeq p) s
  modSig p (fun g => { g with winSym := 0, noise := [], noiseN := 0 }) (setPhase p 3 s)

/-- Symbol `c` has come to symbol `n`, both modulo 2^24. -/
def reached (c n : Nat) : Bool := (c + 2 ^ 24 - n % 2 ^ 24) % 2 ^ 24 < 2 ^ 23

/-- What symbol `c` of the master's numbering was named for: the transmit advance, the CE of T3 (R176, R177). -/
def onNamed (p c : Nat) (s : State) : State :=
  let l := (s.port p).link
  let s := when (l.taFrom.any (reached c)) (modLink p fun l => { l with taFrom := none, taOn := true }) s
  match l.ceFrom with
  | some (n, ce) => if reached c n then beginT3 p ce (modLink p (fun l => { l with ceFrom := none }) s) else s
  | none => s

/-- A symbol the master names, beyond those of the message (R176, R177, R179). (DESIGN CHOICE, log 155) -/
def nameSym (p least : Nat) (s : State) : Nat := (getF p .TONES_TX_SYM_CNT s + least + Config.nameAhead) % 2 ^ 24

/-- The slave locks; its next symbol is its count mark (R174, R176). -/
def onLock (p : Nat) (s : State) : State :=
  if !ranges p s || !isSlave p s then s
  else
    let s := modLink p (fun l => { l with slaveLocked := true, markDue := l.markDue || stOf p s != stFast }) s
    when (stOf p s == stFast) (setPhase p 2) s

/-- The partner's count mark: its symbols are numbered from it (R174). -/
def onCountMark (p : Nat) (s : State) : State :=
  if !ranges p s then s
  else
    let s := when (stOf p s == stFast && phaseOf p s == 0) (setPhase p 2) s
    modSig p (fun g => { g with rxSym := 0 }) (modLink p (fun l => { l with markFound := true }) s)

/-- The symbols between ranging marks, and the slave's reply delay: those of R176, or of a warm start and a fast retrain
(R180, R194). -/
def rangeSteps (p : Nat) (s : State) : Nat × Nat :=
  if stOf p s = stFast || (s.port p).link.warm then (16, 8) else (64, 16)

/-- The master's TA announced with the symbol from which it holds; in a warm start or fast retrain T3 begins there (R176,
R180). -/
def sendTa (p ta : Nat) (s : State) : State :=
  let n := nameSym p 16 s
  let s := modLink p (fun l => { l with
    taSet := true, ceFrom := if stOf p s = stFast || l.warm then some (n, storedCe p s) else none }) s
  trainSend p 2 (beBytes 2 ta ++ beBytes 3 n) s
where
  /-- The CE that T3 of a warm start or fast retrain keeps. -/
  storedCe (p : Nat) (s : State) : Nat :=
    if stOf p s = stFast then getF p .TXSH_CE s else ((s.port p).stored.map (·.ce)).getD (getF p .TXSH_CE s)

/-- Eight round trips of the master judged (R176, R180, R194). -/
def judgeRange (p : Nat) (rtts : List Nat) (s : State) : State :=
  let lo := rtts.foldl min (rtts.headD 0)
  let ta := (rtts.foldl (· + ·) 0 + 8) / 16
  let l := (s.port p).link
  let s := modLink p (fun l => { l with rtts := [], marks := 0 }) s
  if 16 < maxOf rtts - lo then
    if l.rangeTry < 3 then modLink p (fun l => { l with rangeTry := l.rangeTry + 1 }) s
    else if stOf p s = stFast then fastFails p s
    else if l.warm then warmFails p s
    else toLinkFail p 6 s
  else if stOf p s = stFast || l.warm then
    let old := getF p .LINKUP_TA s
    if old ≤ ta + 4 && ta ≤ old + 4 then sendTa p old s
    else if stOf p s = stFast then fastFails p s else warmFails p s
  else if 8191 < ta then toLinkFail p 6 s
  else sendTa p ta (setAll p [(.LINKUP_TA, ta), (.LINKUP_TA_VALID, 1)] s)

/-- A ranging mark: the slave's own is due 16 symbol periods later, 8 in a warm start; the master takes one RTT (R176,
R180). A master takes none before the slave's passing verdict (R173). -/
def onRangingMark (p rtt : Nat) (s : State) : State :=
  if !ranges p s then s
  else if isSlave p s then
    modLink p (fun l => { l with replyAt := l.replyAt ++ [(getF p .TONES_TX_SYM_CNT s + (rangeSteps p s).2) % 2 ^ 24] }) s
  else if stOf p s != stFast && (s.port p).link.partnerPass != some true then s
  else
    let rtts := (s.port p).link.rtts ++ [rtt]
    if rtts.length < 8 then modLink p (fun l => { l with rtts := rtts }) s else judgeRange p rtts s

/-- TA announced to the slave with the symbol from which it launches early. In a warm start or fast retrain the slave checks it
against its own, and T3 begins at that symbol (R176, R180, R194). -/
def onTa (p ta symbol : Nat) (s : State) : State :=
  if !ranges p s || !isSlave p s then s
  else
    let s := modLink p (fun l => { l with taSet := true, taFrom := some (symbol % 2 ^ 24) }) s
    if stOf p s = stFast || (s.port p).link.warm then
      let old := getF p .LINKUP_TA s
      if old ≤ ta + 4 && ta ≤ old + 4 then
        modLink p (fun l => { l with ceFrom := some (symbol % 2 ^ 24, sendTa.storedCe p s) }) s
      else if stOf p s = stFast then fastFails p s else warmFails p s
    else setAll p [(.LINKUP_TA, ta), (.LINKUP_TA_VALID, 1)] s

/-- The CE code for a cover, and whether some permitted code reaches it (R130): the smallest code that covers, at least
CE_MIN, in REACH one above, in LATENCY 0 or 1. -/
def chooseCe (profile cover ceMin : Nat) : Nat × Bool :=
  let top := if profile = 2 then 1 else 3
  match (List.range (top + 1)).find? fun c => ceMin ≤ c && cover ≤ ceSamples c with
  | some c => (if profile = 1 then min (c + 1) 3 else c, true)
  | none => (top, false)

/-- The master chooses CE once it knows the SPREAD of both ends, and announces it with a training symbol (R130, R177). -/
def maybeCe (p : Nat) (s : State) : State :=
  let l := (s.port p).link
  match l.spread, l.hisSpread with
  | some a, some b =>
    if !isMaster p s || phaseOf p s != 2 || l.ownPass == some false || l.ceFrom.isSome then s
    else
      let cover := getF p .LINKUP_TA s + max a b
      let ce := chooseCe (profileOf p s) cover (max (rwF p .TXSH_CE_MIN s) ((l.partner.map (·.ceMin)).getD 0))
      let n := nameSym p 16 s
      let s := when (!ce.2) (sticky .TXSH_CE_UNCOVERED p) (setF p .TXSH_COVER cover s)
      trainSend p 4 (beBytes 1 ce.1 ++ beBytes 3 n) (modLink p (fun l => { l with ceFrom := some (n, ce.1) }) s)
  | _, _ => s

/-- The probe ends: SPREAD is measured; the slave sends its own, the master chooses CE when it has both (R130, R177). -/
def onProbe (p spread : Nat) (s : State) : State :=
  let l := (s.port p).link
  if phaseOf p s != 2 || stOf p s == stFast || l.warm || !l.taSet then s
  else
    let s := setAll p [(.TXSH_SPREAD, spread), (.TXSH_COVER, getF p .LINKUP_TA s + spread)] s
    let s := modLink p (fun l => { l with spread := some spread }) s
    if isMaster p s then maybeCe p s else trainSend p 3 (beBytes 2 spread) s

/-- The partner's SPREAD, at the master (R177). -/
def onSpread (p spread : Nat) (s : State) : State :=
  if phaseOf p s != 2 || !isMaster p s then s
  else maybeCe p (modLink p (fun l => { l with hisSpread := some spread }) s)

/-- The CE that the master announces, with the symbol from which it holds, at the slave (R177). -/
def onCe (p ce symbol : Nat) (s : State) : State :=
  if phaseOf p s != 2 || !isSlave p s then s
  else
    let s := when (ceSamples (ce % 4) < getF p .TXSH_COVER s) (sticky .TXSH_CE_UNCOVERED p) s
    modLink p (fun l => { l with ceFrom := some (symbol % 2 ^ 24, ce % 4) }) s

/-- The failure of a loading: PILOT below 8 pilots, LOW_CAPACITY below 512 quadrant bits; in a fast retrain a full one
(R135, R141, R159, R194). -/
def loadFails (p cause : Nat) (s : State) : State :=
  let s := when (cause == 8) (sticky .TONES_PILOT_SHORT p) s
  if stOf p s = stFast then fastFails p s else toLinkFail p cause s

/-- Every data tone of a table meets R152 at the target less 1 dB (R180). -/
def tableMeets (m : NMap ToneEntry) (snr : NMap Int) (gamma target : Int) : Bool :=
  (dataTones m).all fun e =>
    decide (loadNeed e.2.bits + gamma + target - 10 ≤ mapGetD snr e.1 (-2048) + e.2.gain)

/-- The receive table of T4: a warm start keeps the stored one while it still holds, within the cores of R20 too (R178,
R180). -/
def t3Table (p : Nat) (s : State) : NMap ToneEntry :=
  let q := profileOf p s
  let gamma := gammaOf (profRate q)
  let x := txPlanOf p s
  let snr := measuredSnr p s
  let cores := (resourcesOf p s).2.2
  let old := tableOf p 2 s
  if (s.port p).link.warm && stOf p s != stFast && tableMeets old snr gamma (profMargin q) &&
      tableHolds x.plan.short cores (symPeriod p s) x.level old then old
  else loadTable x.plan snr gamma (profMargin q) cores (symPeriod p s) s.fresh x.level

/-- T3 ends: the receiver loads its direction, writes its receive tables and sends them, a kept table as no entries; the
master's STORE_ID follows as its last message of T4 (R178 to R180). -/
def onT3End (p id : Nat) (s : State) : State :=
  if phaseOf p s != 3 then s
  else
    let tab := t3Table p s
    let keep := (s.port p).link.warm && stOf p s != stFast && tab == tableOf p 2 s
    let snrs := measuredSnr p s
    let s := spend (modSig p (fun g => { g with snr := snrs, noise := [], noiseN := 0 }) s)
    if (pilotTones tab).length < 8 then loadFails p 8 s
    else if quadrantBits tab < 512 then loadFails p 9 s
    else
      let s := setPhase p 4 (setTable p 2 tab (setTable p 3 tab s))
      let l := if keep then [] else tab.filter fun e => e.2.bits != 0
      let s := forAll (tonesPayloads (l.length + 1) l) (oamPost p 2) s
      if isMaster p s then
        trainSend p 5 (beBytes 4 (max 1 id)) (modLink p (fun l => { l with storeId := max 1 id }) s)
      else s

/-- Both tables are acknowledged: T5, in which the master names the showtime boundary, at least 64 symbols after the message
(R157, R179). -/
def maybeT5 (p : Nat) (s : State) : State :=
  if phaseOf p s = 4 && (s.port p).link.tablesIn && (s.port p).link.tablesOut then
    let s := setPhase p 5 s
    if isMaster p s then
      let n := nameSym p 80 s
      trainSend p 6 (beBytes 3 n) (modLink p (fun l => { l with showAt := some n }) s)
    else s
  else s

/-- The table that TONES entries of T4 are written into: the flags alone, or what the earlier messages of this training made
of them; a warm start's empty message stands for the stored table (R178, R180). -/
def tonesBase (p : Nat) (entries : List (Nat × Nat × Int)) (s : State) : NMap ToneEntry :=
  let l := (s.port p).link
  if l.txBegun then tableOf p 5 s
  else if l.warm && stOf p s != stFast && entries.isEmpty then tableOf p 0 s
  else replan (planOf p s) []

/-- A transmit table delivered in T4 keeps R135, R141, R146 and R147; CAPACITY is judged with 12 cores.
(DESIGN CHOICE, log 149) -/
def txHolds (p : Nat) (m : NMap ToneEntry) (s : State) : Bool :=
  tableHolds (isShort p s) 12 (symPeriod p s) (txPlanOf p s).level m

/-- A TONES message: in T4 the last one fills the transmit tables; in a reconfiguration entries go to the transmit shadow
table; for a bit swap they are held until the request (R178, R186, R188). -/
def onTones (p : Nat) (last : Bool) (entries : List (Nat × Nat × Int)) (s : State) : State :=
  if phaseOf p s = 4 then
    let tab := applyTones (tonesBase p entries s) entries
    let s := modLink p (fun l => { l with txBegun := true }) (setTable p 5 tab s)
    if !last then s
    else if (pilotTones tab).length < 8 then loadFails p 8 s
    else if !txHolds p tab s then loadFails p 9 s
    else maybeT5 p (modLink p (fun l => { l with tablesIn := true }) (setTable p 0 tab (setTable p 1 tab s)))
  else if trunkShow p s && getF p .TONES_TX_PENDING s != 1 then
    if (s.port p).rc.running then
      let s := setTable p 1 (applyTones (tableOf p 1 s) entries) s
      when last (modRc p fun r => { r with tablesIn := true }) s
    else
      let base := if (s.port p).rc.delivered then tableOf p 5 s else tableOf p 0 s
      modRc p (fun r => { r with delivered := true }) (setTable p 5 (applyTones base entries) s)
  else s

/-- A bound of T2, T4 or T5 exceeded; where the partner's signal has gone before it the cause is PARTNER (R159, R171, R173,
R180, R194). (DESIGN CHOICE, log 157) -/
def onPhaseTimeout (p : Nat) (gone : Bool) (s : State) : State :=
  let ph := phaseOf p s
  let l := (s.port p).link
  if ph = 2 || ph = 4 || ph = 5 then
    if stOf p s = stFast then fastFails p s
    else if ph = 2 && l.ownPass == some false then toLinkFail p 5 s
    else if ph = 2 && l.reject then warmReject p s
    else toLinkFail p (if gone then 11 else 7) s
  else s

/-- Symbols of the master's numbering: the port's own at the master, those received at the slave. -/
def masterSym (p : Nat) (s : State) : Nat := if isMaster p s then getF p .TONES_TX_SYM_CNT s else (s.port p).sig.rxSym

/-- The showtime boundary that was named has come (R179). -/
def atBoundary (p : Nat) (s : State) : Bool := (s.port p).link.showAt.any (reached (masterSym p s))

/-- A training message of the partner: those the spec names without a TYPE (R173, R176, R177, R179). -/
def onTraining (p kind : Nat) (b : List Byte) (s : State) : State :=
  let at_ := fun (i n : Nat) => beNat ((b.drop i).take n)
  if kind = 1 then onVerdict p (bitOf (at_ 0 1) 0) (BitVec.ofNat 12 (at_ 1 2)) (bitOf (at_ 0 1) 1) s
  else if kind = 2 then onTa p (at_ 0 2) (at_ 2 3) s
  else if kind = 3 then onSpread p (at_ 0 2) s
  else if kind = 4 then onCe p (at_ 0 1) (at_ 1 3) s
  else if kind = 5 then when (isSlave p s && 4 ≤ phaseOf p s) (modLink p fun l => { l with storeId := at_ 0 4 }) s
  else if kind = 6 then when (isSlave p s && 4 ≤ phaseOf p s) (modLink p fun l => { l with showAt := some (at_ 0 3) }) s
  else s

/-! ### The commands -/

/-- LINKUP_START (R157). -/
def execLinkupStart (p : Fin 8) (s : State) : Answer := .next (portEvent p (fun s => startLinkup p (leaveDisabled p s)) s)

/-- HS_LISTEN_TIMEOUT (R157). -/
def execHsListenTimeout (p : Fin 8) (s : State) : Answer :=
  .next (portEvent p (fun s => if stOf p s = stListen then enterSt p stSeek s else s) s)

/-- SEEK_CYCLE (R164). -/
def execSeekCycle (p : Fin 8) (gap : Fin 7) (s : State) : Answer :=
  .next (portEvent p (fun s => if stOf p s = stSeek then seekOnce p gap s else s) s)

/-- SEEK (R163, R164). -/
def execSeek (x : HsRx) (uid port : Nat) (draw : BitVec 16) (s : State) : Answer :=
  .next (portEvent x.port (fun s =>
    if uid == ownUid && port == x.port.val then s
    else hearHs x.port x.head 4 (seekBytes uid port)
      (fun s => if stOf x.port s = stCap then s else enterCap x.port x.head.setB x.head.since draw s) s) s)

/-- DME_PAGE_DETECT (R165). -/
def execDmePageDetect (p : Fin 8) (s : State) : Answer :=
  .next (portEvent p (fun s => if stOf p s = stListen || (stOf p s == stSeek && inGap p s) then
    if getF p .PORT_CTL_COMPAT_PERMIT s != 0 then compatEntry p stAn s
    else sticky .LINKUP_DME_SEEN p (count p .LINKUP_DME_SEEN s)
  else s) s)

/-- HS_TIMEOUT (R157, R159). (DESIGN CHOICE, log 3; DEDUCED, log 73) -/
def execHsTimeout (p : Fin 8) (s : State) : Answer :=
  .next (portEvent p (fun s => if stOf p s = stSeek then toLinkFail p 3 (sticky .LINKUP_HS_TIMEOUT p s) else s) s)

/-- CAP (R163, R166 to R169). -/
def execCap (x : HsRx) (c : Cap) (draw : BitVec 16) (s : State) : Answer :=
  .next (portEvent x.port (fun s => if c.uid == ownUid && c.port == x.port.val then s
    else hearHs x.port x.head 1 (capBytes c) (onCap x.port x.head c draw) s) s)

/-- CAP_ACK (R167). -/
def execCapAck (x : HsRx) (seq : BitVec 8) (fullReq : Bool) (draw : BitVec 16) (s : State) : Answer :=
  .next (portEvent x.port
    (hearHs x.port x.head 2 (ackBytes seq.toNat fullReq) (onCapAck x.port seq.toNat fullReq draw)) s)

/-- CAP_REPEAT (R167). -/
def execCapRepeat (p : Fin 8) (s : State) : Answer :=
  .next (portEvent p (fun s => if stOf p s = stCap && !(s.port p).link.capAcked then sendCap p s else s) s)

/-- HS_CAP_TIMEOUT (R157). (DEDUCED, log 73) -/
def execHsCapTimeout (p : Fin 8) (s : State) : Answer :=
  .next (portEvent p (fun s => if stOf p s = stCap then toLinkFail p 7 s else s) s)

/-- ECHO_VERDICT (R173). -/
def execEchoVerdict (p : Fin 8) (v : EchoJudged) (erle : BitVec 12) (s : State) : Answer :=
  .next (portEvent p (onVerdict p v.passed erle v.warmOk) s)

/-- SLAVE_LOCK (R174, R176). -/
def execSlaveLock (p : Fin 8) (s : State) : Answer := .next (portEvent p (fun s => onLock p s) s)

/-- COUNT_MARK_RX (R174). -/
def execCountMarkRx (p : Fin 8) (s : State) : Answer := .next (portEvent p (fun s => onCountMark p s) s)

/-- RANGING_MARK (R176). -/
def execRangingMark (p : Fin 8) (rtt : Nat) (s : State) : Answer := .next (portEvent p (fun s => onRangingMark p rtt s) s)

/-- TA_ANNOUNCE (R176). -/
def execTaAnnounce (p : Fin 8) (ta symbol : Nat) (s : State) : Answer := .next (portEvent p (onTa p ta symbol) s)

/-- PROBE_END (R177): SPREAD is the length of the span (R130). -/
def execProbeEnd (p : Fin 8) (first last : Nat) (s : State) : Answer := .next (portEvent p (onProbe p (last + 1 - first)) s)

/-- T3_END (R178). -/
def execT3End (p : Fin 8) (storeId : Word) (s : State) : Answer := .next (portEvent p (onT3End p storeId.toNat) s)

/-- TONES (R178, R186, R188), a message accepted once its CRC-32 passes (R175, R191). -/
def execTones (p : Fin 8) (last : Bool) (entries : List (Nat × Nat × Int)) (crcOk : Bool) (s : State) : Answer :=
  .next (portEvent p (fun s => if crcOk && (phaseOf p s == 4 || trunkShow p s) then
    onTones p last entries (count p .OAM_MSG_RX s) else s) s)

/-- TRAINING_MESSAGE_RESEND (R175): the unacknowledged message goes out again from its first byte. -/
def execTrainingMessageResend (p : Fin 8) (s : State) : Answer :=
  .next (portEvent p (fun s => if phaseOf p s < 2 then s
    else modOam p (fun o => { o with cur := o.cur.map fun m => { m with segs := 0 } }) s) s)

/-- PHASE_TIMEOUT (R171). (DESIGN CHOICE, log 3) -/
def execPhaseTimeout (b : PhaseBound) (s : State) : Answer := .next (portEvent b.port (onPhaseTimeout b.port b.gone) s)

/-- SHOWTIME_ENTRY (R179), at the boundary named. -/
def execShowtimeEntry (p : Fin 8) (s : State) : Answer :=
  .next (portEvent p (fun s => if phaseOf p s = 5 && atBoundary p s then toShowtime p s else s) s)

/-- LINK_FAIL_TIMEOUT (R157). -/
def execLinkFailTimeout (p : Fin 8) (s : State) : Answer :=
  .next (portEvent p (fun s => if stOf p s = stFail then startLinkup p (toLinkDown p none s) else s) s)

/-- The MARGIN trigger (R193), suspended in LPI_QUIET (R316). -/
def marginTrigger (p : Nat) (s : State) : Bool :=
  stOf p s == stShow && isSet p .EQ_MARGIN_VALID s && decide (getS p .EQ_LINK_MARGIN s < getS p .LINKUP_MARGIN_MIN s)

/-- The CW_FAIL trigger (R193): more than half the codewords failed in 4 superframes in a row; suspended in LPI_QUIET (R316).
-/
def cwTrigger (p : Nat) (s : State) : Bool := stOf p s == stShow && 4 ≤ (s.port p).sig.failRun

/-- RETRAIN_MARGIN (R193): the link margin below MARGIN_MIN; suspended in LPI_QUIET (R316). -/
def execRetrainMargin (p : Fin 8) (s : State) : Answer :=
  .next (portEvent p (fun s =>
    if marginTrigger p s then retrainBy p 10 true true s else s) s)

/-- The PILOT trigger (R193): 1,024 symbols in a row with fewer than half the placed pilots good, in LPI_QUIET 4 refresh
symbols (R316). -/
def pilotTrigger (p : Nat) (s : State) : Bool := (if stOf p s = stQuiet then 4 else 1024) ≤ (s.port p).sig.pilotBad

/-- The SF_SYNC trigger (R193): the sync symbol missed in 4 superframes in a row, in LPI_QUIET 4 refresh symbols (R316). -/
def sfTrigger (p : Nat) (s : State) : Bool := 4 ≤ (s.port p).sig.sfMiss

/-- RETRAIN_PILOT (R193). -/
def execRetrainPilot (p : Fin 8) (s : State) : Answer :=
  .next (portEvent p (fun s => if pilotTrigger p s then retrainBy p 10 true true s else s) s)

/-- RETRAIN_SF_SYNC (R193). -/
def execRetrainSfSync (p : Fin 8) (s : State) : Answer :=
  .next (portEvent p (fun s => if sfTrigger p s then retrainBy p 10 true true s else s) s)

/-- RETRAIN_CW_FAIL (R193). -/
def execRetrainCwFail (p : Fin 8) (s : State) : Answer :=
  .next (portEvent p (fun s =>
    if cwTrigger p s then retrainBy p 10 true true s else s) s)

/-- FAST_RETRAIN_NO_SIGNAL (R194). -/
def execFastRetrainNoSignal (p : Fin 8) (s : State) : Answer :=
  .next (portEvent p (fun s => if stOf p s = stFast && !(s.port p).link.waitSub then fastFails p s else s) s)

/-- FAST_RETRAIN_TIMEOUT (R157); after an entry at a substitution it counts from the substitution's end. -/
def execFastRetrainTimeout (p : Fin 8) (s : State) : Answer :=
  .next (portEvent p (fun s => if stOf p s = stFast && !(s.port p).link.waitSub then fastFails p s else s) s)

/-- AN_RESOLVED (R157, R196, R197): the partner's next pages are answered with null messages; 1000BASE-T1 over 100BASE-T1 of
what both advertise, or LINK_FAIL with NO_COMMON; master is the end that alone requests it, else the standard's rule decides.
-/
def execAnResolved (p : Fin 8) (partner : AnPartner) (tie : Bool) (s : State) : Answer :=
  .next (portEvent p (fun s => if stOf p s = stAn then
    let adv := cl45Of p regAnAdv s
    let common := bitsOf adv 0 2 &&& partner.abilities.toNat
    let s := (List.range partner.pages).foldl (fun s _ => sendPage p true s) s
    if common = 0 then toLinkFail p 4 s
    else
      let gig := bitOf common 0
      let master := if bitOf adv 4 == partner.master then tie else bitOf adv 4
      setAll p [(.LINKUP_AN_DONE, 1), (.LINKUP_T1_RES, if gig then 1 else 2), (.PORT_CTL_ROLE, if master then 1 else 2),
        (.PORT_CTL_MODE, if gig then 3 else 4), (.LINKUP_EEE_ACTIVE, ofBool (gig && partner.eee && bitOf adv 3))]
        (compatEntry p stCompat s)
  else s) s)

/-- COMPAT_LINK_UP (R196): T1_LINK sets; a forced mode takes type and role from the standard's control register. -/
def execCompatLinkUp (p : Fin 8) (s : State) : Answer :=
  .next (portEvent p (fun s => if stOf p s = stCompat then
    let ctl := cl45Of p regPmaCtl s
    if getF p .LINKUP_AN_DONE s = 1 then setF p .LINKUP_T1_LINK 1 s
    else
      let gig := bitOf ctl 0
      setAll p [(.LINKUP_T1_LINK, 1), (.LINKUP_T1_RES, if gig then 1 else 2), (.PORT_CTL_MODE, if gig then 3 else 4),
        (.PORT_CTL_ROLE, if bitOf ctl 14 then 1 else 2)] s
  else s) s)

/-- COMPAT_LINK_FAIL (R157, R159): back to AN, or COMPAT again while the standard's register disables Clause 98, with
COMPAT_LOSS. -/
def execCompatLinkFail (p : Fin 8) (s : State) : Answer :=
  .next (portEvent p (fun s => if stOf p s = stCompat then
    let forced := lineMode p s == 4 && !bitOf (cl45Of p regAnCtl s) 12
    compatEntry p (if forced then stCompat else stAn) (setCause p 12 s)
  else s) s)

end Sys2Proof.Machine
end

