-- ==== Sys2Proof/Machine/Reconf.lean ====
section
/-! DEFINITION. Reconfiguration in showtime, bit swaps, transmit advance, the hybrid pause and OAM messages (R182 to
R192, R389). -/

namespace Sys2Proof.Machine

/-! ### The handshake (R183 to R185) -/

/-- S of a request sent now: n + 2 (R182, R185). (DEDUCED, log 75) -/
def nextSf (p : Nat) (s : State) : Nat := (getF p .TONES_TX_SF_CNT s + 2) % 2 ^ 32

/-- The operation names a superframe S (R183). -/
def namesSf (op : Nat) : Bool := op == 1 || (4 ≤ op && op ≤ 6)

/-- A new request with RC_SEQ + 1, which names S = n + 2 where its operation names one (R183, R185). -/
def rcSend (p op arg : Nat) (s : State) : State :=
  let sf := if namesSf op then nextSf p s else 0
  modRc p (fun r => { r with seq := (r.seq + 1) % 16, req := some ⟨op, (r.seq + 1) % 16, arg, sf⟩ }) s

/-- The next operation that waits, once no request is under way. (DEDUCED, log 158) -/
def rcNext (p : Nat) (s : State) : State :=
  match (s.port p).rc.req, (s.port p).rc.todo with
  | none, q :: rest => rcSend p q.1 q.2 (modRc p (fun r => { r with todo := rest }) s)
  | _, _ => s

/-- An operation requested: at once, or once the present request is answered or withdrawn (R183). (DEDUCED, log 158) -/
def rcPost (p op arg : Nat) (s : State) : State := rcNext p (modRc p (fun r => { r with todo := r.todo ++ [(op, arg)] }) s)

/-- The present request ends; the next one follows. -/
def rcClear (p : Nat) (s : State) : State := rcNext p (modRc p (fun r => { r with req := none }) s)

/-- A response of 4 data symbols: ACK or NAK of an operation (R183). (DEDUCED, log 76) -/
def rcAnswer (p op seq : Nat) (nak : Option Nat) : State → State :=
  modRc p fun r =>
    { r with resp := some (match nak with | none => ⟨7, seq, op, 0⟩ | some c => ⟨8, seq, op * 16 + c, 0⟩, 4) }

/-- S lies too early: S ≤ the transmit superframe counter + 1 (R184). (DEDUCED, log 75) -/
def tooLate (p sf : Nat) (s : State) : Bool := decide (signedOf 32 (sf + 2 ^ 32 - getF p .TONES_TX_SF_CNT s) ≤ 1)

/-- A switch is pending in either direction, or a reconfiguration is in progress. -/
def rcBusy (p : Nat) (s : State) : Bool :=
  getF p .TONES_TX_PENDING s == 1 || getF p .TONES_RX_PENDING s == 1 || (s.port p).rc.running

/-- PORT_STAGE is valid (R187). -/
def stageValid (p : Nat) (s : State) : Bool :=
  let q := getF p .PORT_CTL_STG_PROFILE s
  let sets := getF p .TXSH_NOTCH_SETS s
  let n := getF p .PORT_CTL_STG_NOTCH s
  trunkShow p s && bitOf (getF p .PORT_CTL_PERMIT s) q && (q == profileOf p s || (q != 2 && profileOf p s != 2)) &&
    getF p .PORT_CTL_STG_PSD s < getF p .TXSH_MASKS s && (if sets = 0 then n == 0 else n < sets) && !rcBusy p s

/-- The request of a reconfiguration sent (R188 step 3). -/
def sendReconfReq (p : Nat) (s : State) : State :=
  let r := (s.port p).rc
  modRc p (fun r => { r with maskWait := false }) (rcPost p 2 (r.profile + r.psd * 4 + r.notch * 16) s)

/-- RECONF_GO started (R188 steps 1 to 3). -/
def startReconf (p : Nat) (s : State) : State :=
  if !stageValid p s then cmdReject p .PORT_CTL_RECONF_GO s
  else
    let q := getF p .PORT_CTL_STG_PROFILE s
    let psd := getF p .PORT_CTL_STG_PSD s
    let n := getF p .PORT_CTL_STG_NOTCH s
    let s := modRc p (fun r => { r with running := true, initiator := true, accepted := false, profile := q, psd := psd
                                        notch := n, tablesIn := false, tablesOut := false, drainedSent := false
                                        drainedRx := false, abortReq := false, maskIn := none })
      (cmdStart p .PORT_CTL_RECONF_GO s)
    if psd != getF p .TXSH_PSD_ACT s || n != getF p .TXSH_NOTCH_ACT s then
      let l := (s.port p).layout
      let body := beBytes 1 (portMask p psd s).length ++ beBytes 1 (notchOf l n).length ++
        listBytes (portMask p psd s) (notchOf l n) []
      oamPost p 3 body (modRc p (fun r => { r with maskWait := true }) s)
    else sendReconfReq p s

/-- What transmissions follow from once a change has taken effect: its mask, notch set and profile with those the partner
announced for it (R188). -/
def nextPlan (p : Nat) (s : State) : TxPlan :=
  let x := s.port p
  let r := x.rc
  let c := x.link.partner
  { plan := { planOf p s with notches := notchOf x.layout r.notch ++ (r.maskIn.map (·.2)).getD ((c.map (·.notches)).getD []) }
    mine := portMask p r.psd s, his := (r.maskIn.map (·.1)).getD ((c.map (·.bps)).getD []), pref := profPref r.profile }

/-- The receive table a change asks for: the present SNR moved by the change of level and preference, loaded by the new
profile's Γ and target (R188 step 4). -/
def reloadTable (p : Nat) (s : State) : NMap ToneEntry :=
  let q := (s.port p).rc.profile
  let now := txPlanOf p s
  let next := nextPlan p s
  let snr := mapVals (fun k v => v + next.level k - now.level k) (s.port p).sig.snr
  loadTable next.plan snr (gammaOf (profRate q)) (profMargin q) (resourcesOf p s).2.2 (symPeriod p s) s.fresh next.level

/-- The end's part of an accepted change: its receive table recomputed and sent, LAST flagged; its transmit shadow table under
the flags and pilots of the new notch set; admission held where the code rate changes (R188 steps 4, 5). -/
def acceptReconf (p : Nat) (s : State) : State :=
  let tab := reloadTable p s
  let changed := changedTones (tableOf p 2 s) tab
  let hold := profRate (s.port p).rc.profile != codeRate p s
  let s := setTable p 1 (replan (nextPlan p s).plan (tableOf p 0 s)) (setTable p 3 tab (spend s))
  let s := modRc p (fun r => { r with accepted := true, admHeld := hold }) s
  forAll (tonesPayloads (changed.length + 1) changed) (oamPost p 2) s

/-- The transmit shadow table of a change keeps the rules of R184; CAPACITY is judged with 12 cores. (DESIGN CHOICE, log 149)
-/
def shadowHolds (p : Nat) (s : State) : Bool :=
  tableHolds (isShort p s) 12 (symPeriod p s) (nextPlan p s).level (tableOf p 1 s)

/-- The master that has sent and received DRAINED, and holds a transmit shadow table that may become active, sends COMMIT
(R141, R188 step 6). -/
def maybeCommit (p : Nat) (s : State) : State :=
  let r := (s.port p).rc
  if isMaster p s && r.running && r.tablesIn && r.drainedSent && r.drainedRx && shadowHolds p s then rcPost p 4 0 s else s

/-- Codewords of a port that await acknowledgement (R188 step 5). -/
def awaiting (x : Port) : Bool := x.cws.any fun w => w.node != 31

/-- DRAINED sent once nothing awaits acknowledgement; where the code rate stays, at the end of step 4. -/
def sendDrained (p : Nat) (s : State) : State :=
  let r := (s.port p).rc
  if r.running && r.accepted && r.tablesOut && !r.drainedSent && (!r.admHeld || !awaiting (s.port p)) then
    maybeCommit p (modRc p (fun r => { r with drainedSent := true }) (rcPost p 3 0 s))
  else s

/-- The switch of a reconfiguration made pending at S in both directions (R185, R188). -/
def pendBoth (p sf : Nat) : State → State :=
  setAll p [(.TONES_TX_PENDING, 1), (.TONES_TX_SW_SF, sf), (.TONES_RX_PENDING, 1), (.TONES_RX_SW_SF, sf)]

/-- A bit swap started with a new receive table: the changed entries go out in a TONES message (R186). -/
def startSwap (p : Nat) (tab : NMap ToneEntry) (s : State) : State :=
  let changed := changedTones (tableOf p 2 s) tab
  if changed.isEmpty || rcBusy p s || (s.port p).rc.swapWait || (s.port p).rc.req.isSome then s
  else
    let s := modRc p (fun r => { r with swapWait := true }) (setTable p 3 tab s)
    forAll (tonesPayloads (changed.length + 1) changed) (oamPost p 2) s

/-- The bit swap of the receive direction given up: the receive shadow table takes the active one. -/
def dropSwap (p : Nat) (s : State) : State :=
  modRc p (fun r => { r with swapWait := false }) (setTable p 3 (tableOf p 2 s) s)

/-- HYB_RECAL, or its automatic form, starts by requesting CAL_PAUSE (R389). -/
def startHyb (p : Nat) (s : State) : State :=
  modCal p (fun c => { c with hybWait := true }) (rcPost p 6 1 s)

/-- A hybrid recalibration ended with an OUTCOME; it counts for the command alone (R389). -/
def endHyb (p oc : Nat) (s : State) : State :=
  cmdStop p .CAL_HYB_RECAL oc (modCal p (fun c => { c with hybWait := false, hybAbort := false })
    (modRc p (fun r => { r with pauseSf := if r.pauseOwn then none else r.pauseSf, pauseOwn := false }) s))

/-! ### Requests received -/

/-- TA_ADJ (R182). -/
def onTaAdj (p seq delta sf : Nat) (s : State) : State :=
  if !trunkShow p s || !isSlave p s then s
  else if tooLate p sf s then rcAnswer p 5 seq (some 3) s
  else modRc p (fun r => { r with taAdj := some (sf, signedOf 8 delta) }) (rcAnswer p 5 seq none s)

/-- SWAP_REQ (R184 to R186). The transmitter does not know its partner's decoder cores and judges CAPACITY with 12.
(DESIGN CHOICE, log 149) -/
def onSwapReq (p seq sf : Nat) (s : State) : State :=
  if !trunkShow p s then s
  else if getF p .TONES_TX_PENDING s == 1 || (s.port p).rc.running then rcAnswer p 1 seq (some 1) s
  else if tooLate p sf s then rcAnswer p 1 seq (some 3) s
  else if !(s.port p).rc.delivered then rcAnswer p 1 seq (some 4) s
  else if !txHolds p (tableOf p 5 s) s then
    rcAnswer p 1 seq (some 5) (modRc p (fun r => { r with delivered := false }) s)
  else
    rcAnswer p 1 seq none (setAll p [(.TONES_TX_PENDING, 1), (.TONES_TX_SW_SF, sf)]
      (modRc p (fun r => { r with delivered := false }) (setTable p 1 (tableOf p 5 s) s)))

/-- RECONF_REQ (R184, R188, R189): where both ends asked, the master refuses, and the slave answers while its own request
waits for that refusal. -/
def onReconfReq (p seq arg : Nat) (s : State) : State :=
  let q := bitsOf arg 0 2
  let psd := bitsOf arg 2 2
  let n := bitsOf arg 4 2
  let sets := getF p .TXSH_NOTCH_SETS s
  let r := (s.port p).rc
  let mine := r.running && r.initiator && !r.accepted
  if !trunkShow p s then s
  else if mine && isMaster p s then rcAnswer p 2 seq (some 6) s
  else if rcBusy p s && !mine then rcAnswer p 2 seq (some 1) s
  else if !bitOf (getF p .PORT_CTL_PERMIT s) q || !(psd < getF p .TXSH_MASKS s) ||
      !(if sets = 0 then n == 0 else n < sets) || (q != profileOf p s && (q == 2 || profileOf p s == 2)) then
    rcAnswer p 2 seq (some 2) s
  else
    let s := modRc p (fun r => { r with
      running := true, initiator := false, accepted := false, profile := q, psd := psd, notch := n, tablesIn := false
      tablesOut := false, drainedSent := false, drainedRx := false, maskWait := false }) s
    acceptReconf p (rcAnswer p 2 seq none s)

/-- DRAINED (R188). -/
def onDrained (p seq : Nat) (s : State) : State :=
  if !(s.port p).rc.running then s
  else maybeCommit p (modRc p (fun r => { r with drainedRx := true }) (rcAnswer p 3 seq none s))

/-- COMMIT of the master, naming S (R184, R185, R188). -/
def onRcCommit (p seq sf : Nat) (s : State) : State :=
  if !trunkShow p s then s
  else if getF p .TONES_TX_PENDING s == 1 || getF p .TONES_RX_PENDING s == 1 then rcAnswer p 4 seq (some 1) s
  else if tooLate p sf s then rcAnswer p 4 seq (some 3) s
  else if !(s.port p).rc.running || !(s.port p).rc.tablesIn then rcAnswer p 4 seq (some 4) s
  else if !shadowHolds p s then rcAnswer p 4 seq (some 5) s
  else pendBoth p sf (rcAnswer p 4 seq none s)

/-- CAL_PAUSE (R184, R389). -/
def onCalPause (p seq sf : Nat) (s : State) : State :=
  if !trunkShow p s then s
  else if rcBusy p s || (s.port p).rc.pauseSf.isSome then rcAnswer p 6 seq (some 1) s
  else if tooLate p sf s then rcAnswer p 6 seq (some 3) s
  else modRc p (fun r => { r with pauseSf := some sf, pauseOwn := false }) (rcAnswer p 6 seq none s)

/-- An ACK of the port's request (R185, R188, R389). -/
def onRcAck (p seq op : Nat) (s : State) : State :=
  match (s.port p).rc.req with
  | some q =>
    if q.seq != seq || q.op != op then s
    else
      let s := rcClear p s
      if op = 1 then setAll p [(.TONES_RX_PENDING, 1), (.TONES_RX_SW_SF, q.sf)] (modRc p (fun r => { r with swapWait := false }) s)
      else if op = 2 then
        if !(s.port p).rc.initiator then s
        else if (s.port p).rc.abortReq then rcAbandon p 3 s else acceptReconf p s
      else if op = 4 then pendBoth p q.sf s
      else if op = 5 then modRc p (fun r => { r with taAdj := some (q.sf, signedOf 8 q.arg) }) s
      else if op = 6 then
        if (s.port p).cal.hybAbort then endHyb p 3 s
        else modRc p (fun r => { r with pauseSf := some q.sf, pauseOwn := true }) s
      else s
  | none => s

/-- What the end of an operation without an ACK means: 4 REJECTED for a NAK, 7 TIMEOUT without any answer. DRAINED and COMMIT
are withdrawn alone, and the change goes on to its own bound; the RECONF_REQ of a slave that met its master's ends its
RECONF_GO and not the master's change (R185, R188, R189). -/
def rcCancel (p op oc : Nat) (s : State) : State :=
  let s := rcClear p s
  if op = 1 then dropSwap p s
  else if op = 2 then
    if (s.port p).rc.initiator then rcAbandon p oc s
    else sticky .PORT_CTL_RECONF_FAIL p (cmdStop p .PORT_CTL_RECONF_GO oc s)
  else if op = 6 then endHyb p oc s
  else s

/-- A NAK (R184, R185). -/
def onRcNak (p seq op reason : Nat) (s : State) : State :=
  match (s.port p).rc.req with
  | some q =>
    if q.seq != seq || q.op != op then s
    else rcCancel p op 4 (setF p .PORT_CTL_NAK_REASON reason (count p .OAM_RC_NAK_RX s))
  | none => s

/-- A request whose S has come without an ACK is withdrawn (R185). -/
def rcWithdraw (p : Nat) (s : State) : State :=
  match (s.port p).rc.req with
  | some q =>
    if namesSf q.op && q.sf == getF p .TONES_TX_SF_CNT s then
      rcCancel p q.op 7 (sticky .OAM_RC_LATE p s)
    else s
  | none => s

/-! ### OAM messages received (R190, R191) -/

/-- A mailbox message (R201). -/
def onSoftware (p mid type : Nat) (payload : List Byte) (s : State) : State :=
  if enOf .OAM p s != 1 || isSet p .OAM_RX_FULL s then
    sticky .OAM_RX_DROPPED p (count p .OAM_RX_BUSY s)
  else
    let s := modOam p (fun o => { o with rxBuf := payload, acks := o.acks ++ [mid], lastRx := some mid }) s
    sticky .OAM_RX_READY p (count p .OAM_MSG_RX (setAll p [(.OAM_RX_TYPE, type - 0x10),
      (.OAM_RX_LEN, payload.length), (.OAM_RX_FULL, 1)] s))

/-- The entries of a TONES payload (R190). -/
def tonesEntries : Nat → List Byte → List (Nat × Nat × Int)
  | 0, _ => []
  | n + 1, bs =>
    if bs.length < 3 then []
    else
      let v := beNat (bs.take 3)
      (bitsOf v 10 14, bitsOf v 6 4, signedOf 6 (bitsOf v 0 6)) :: tonesEntries n (bs.drop 3)

/-- A MASK message kept for the change it belongs to (R188). -/
def onMask (p : Nat) (bps : List (Nat × Int)) (notches : List (Nat × Nat)) : State → State :=
  modRc p fun r => { r with maskIn := some (bps, notches) }

/-- The breakpoints and notches of a MASK payload, laid out as in R166. -/
def maskLists (bs : List Byte) : List (Nat × Int) × List (Nat × Nat) :=
  let word := fun i => beNat ((bs.drop (2 + 4 * i)).take 4)
  let n := beNat (bs.take 1)
  ((List.range n).map fun i => (bitsOf (word i) 0 14, signedOf 12 (bitsOf (word i) 16 12)),
    (List.range (beNat ((bs.drop 1).take 1))).map fun i => (bitsOf (word (n + i)) 0 14, bitsOf (word (n + i)) 16 9))

/-- The mailbox and the engine are told that a message is delivered: a failed own verdict ends the link once its message is
acknowledged; the master's last message of T4 is STORE_ID (R173, R179, R186, R188, R191). -/
def oamDelivered (p : Nat) (m : OamMsg) (s : State) : State :=
  let s := count p .OAM_MSG_TX (modOam p (fun o => { o with cur := none }) s)
  let more := (s.port p).oam.queue.any fun q => q.1 == 2
  let s :=
    if m.type = 2 then
      if more then s
      else if phaseOf p s = 4 then
        when (!isMaster p s) (fun s => maybeT5 p (modLink p (fun l => { l with tablesOut := true }) s)) s
      else if (s.port p).rc.running then sendDrained p (modRc p (fun r => { r with tablesOut := true }) s)
      else if (s.port p).rc.swapWait then rcPost p 1 0 s
      else s
    else if m.type = trainType 1 ∧ phaseOf p s = 2 then
      when ((s.port p).link.ownPass == some false) (toLinkFail p 5) s
    else if m.type = trainType 5 ∧ phaseOf p s = 4 then maybeT5 p (modLink p (fun l => { l with tablesOut := true }) s)
    else if m.type = 3 then (if (s.port p).rc.maskWait then sendReconfReq p s else s)
    else if 0x10 ≤ m.type then cmdStop p .OAM_SEND 2 s
    else s
  oamNext p s

/-- A message of showtime that is not delivered (R192). -/
def oamLost (p : Nat) (m : OamMsg) (s : State) : State :=
  let s := count p .OAM_UNDELIVERED (modOam p (fun o => { o with cur := none }) s)
  let s :=
    if 0x10 ≤ m.type then sendLost p s
    else if (s.port p).rc.running then rcAbandon p 7 s
    else if (s.port p).rc.swapWait then dropSwap p s
    else s
  oamNext p s

/-- An ACK of an OAM or training message (R173, R175, R180, R191). -/
def onOamAck (p mid : Nat) (s : State) : State :=
  match (s.port p).oam.cur with
  | some m => if m.mid = mid && mid != 0 then maybeReject p (oamDelivered p m s) else s
  | none => s

/-- An OAM message received whole (R190, R191). -/
def onOamMessage (p mid type : Nat) (payload : List Byte) (crcOk : Bool) (s : State) : State :=
  if !crcOk || 1024 < payload.length || mid = 0 || !(inShow p s || 2 ≤ phaseOf p s) then s
  else if type = 1 then onOamAck p (beNat (payload.take 1)) s
  else if (s.port p).oam.lastRx == some mid then modOam p (fun o => { o with acks := o.acks ++ [mid] }) s
  else if 0x10 ≤ type && type < 0x20 then onSoftware p mid type payload s
  else
    let s := count p .OAM_MSG_RX (modOam p (fun o => { o with acks := o.acks ++ [mid], lastRx := some mid }) s)
    if type = 2 then
      onTones p (bitOf (beNat (payload.take 1)) 0) (tonesEntries payload.length (payload.drop 2)) s
    else if type = 3 then onMask p (maskLists payload).1 (maskLists payload).2 s
    else onTraining p (type - trainType 0) payload s

/-- SEND (R201). -/
def startSend (p : Nat) (s : State) : State :=
  let n := getF p .OAM_SEND_LEN s
  if enOf .OAM p s != 1 || !trunkShow p s || n = 0 || 256 < n then cmdReject p .OAM_SEND s
  else
    let words := (List.range 64).flatMap fun i => beBytes 4 (mapGetD (s.port p).oam.txBuf i 0)
    oamPost p (0x10 + getF p .OAM_SEND_TYPE s) (words.take n) (cmdStart p .OAM_SEND s)

/-- An abort of SEND before its first segment (R201). -/
def abortSend (p : Nat) (s : State) : State :=
  let fresh := match (s.port p).oam.cur with
    | some m => 0x10 ≤ m.type && m.segs == 0 && m.sends == 1
    | none => false
  let queued := (s.port p).oam.queue.any fun m => 0x10 ≤ m.1
  if queued then
    cmdStop p .OAM_SEND 3 (modOam p (fun o => { o with queue := o.queue.filter fun m => m.1 < 0x10 }) s)
  else if fresh then cmdStop p .OAM_SEND 3 (oamNext p (modOam p (fun o => { o with cur := none }) s))
  else s

/-- RX_RELEASE (R201). -/
def startRelease (p : Nat) (s : State) : State :=
  cmdDone p .OAM_RX_RELEASE (setF p .OAM_RX_FULL 0 (modOam p (fun o => { o with rxBuf := [] }) s))

/-- RETRAIN (R195). -/
def startRetrainCmd (p : Nat) (s : State) : State :=
  if !trunkShow p s then cmdReject p .PORT_CTL_RETRAIN s
  else retrainBy p 10 true true (cmdStart p .PORT_CTL_RETRAIN s)

/-! ### The commands -/

/-- TA_ADJ (R182). -/
def execTaAdj (p : Fin 8) (seq : BitVec 4) (delta : BitVec 8) (sf : Word) (s : State) : Answer :=
  .next (portEvent p (fun s => onTaAdj p seq.toNat delta.toNat sf.toNat s) s)

/-- SWAP_REQ (R186). -/
def execSwapReq (p : Fin 8) (seq : BitVec 4) (sf : Word) (s : State) : Answer :=
  .next (portEvent p (fun s => onSwapReq p seq.toNat sf.toNat s) s)

/-- RECONF_REQ (R188). -/
def execReconfReq (p : Fin 8) (seq : BitVec 4) (arg : BitVec 8) (s : State) : Answer :=
  .next (portEvent p (fun s => onReconfReq p seq.toNat arg.toNat s) s)

/-- DRAINED (R188). -/
def execDrained (p : Fin 8) (seq : BitVec 4) (s : State) : Answer := .next (portEvent p (fun s => onDrained p seq.toNat s) s)

/-- DRAIN_COMPLETE (R188). -/
def execDrainComplete (p : Fin 8) (s : State) : Answer := .next (portEvent p (fun s => sendDrained p s) s)

/-- RC_COMMIT (R185). -/
def execRcCommit (p : Fin 8) (seq : BitVec 4) (sf : Word) (s : State) : Answer :=
  .next (portEvent p (fun s => onRcCommit p seq.toNat sf.toNat s) s)

/-- CAL_PAUSE (R389); RC_ARG is 0x01. -/
def execCalPause (p : Fin 8) (seq : BitVec 4) (_arg : BitVec 8) (sf : Word) (s : State) : Answer :=
  .next (portEvent p (fun s => onCalPause p seq.toNat sf.toNat s) s)

/-- RC_ACK (R185). -/
def execRcAck (p : Fin 8) (seq op : BitVec 4) (s : State) : Answer := .next (portEvent p (fun s => onRcAck p seq.toNat op.toNat s) s)

/-- RC_NAK (R184). -/
def execRcNak (p : Fin 8) (seq op reason : BitVec 4) (s : State) : Answer :=
  .next (portEvent p (fun s => onRcNak p seq.toNat op.toNat reason.toNat s) s)

/-- RECONF_TIMEOUT (R188). -/
def execReconfTimeout (p : Fin 8) (s : State) : Answer :=
  .next (portEvent p (fun s => if (s.port p).rc.running then rcAbandon p 7 (dropSwitches p s) else s) s)

/-- MASK (R188), a message accepted. -/
def execMask (p : Fin 8) (bps : List (Nat × Int)) (notches : List (Nat × Nat)) (s : State) : Answer :=
  .next (portEvent p (fun s => if trunkShow p s then onMask p bps notches (count p .OAM_MSG_RX s) else s) s)

/-- OAM_MESSAGE_RX (R190, R191). -/
def execOamMessageRx (p : Fin 8) (mid : BitVec 4) (type : Byte) (payload : List Byte) (crcOk : Bool) (s : State) :
    Answer := .next (portEvent p (fun s => onOamMessage p mid.toNat type.toNat payload crcOk s) s)

/-- OAM_ACK (R191). -/
def execOamAck (p : Fin 8) (mid : BitVec 4) (s : State) : Answer := .next (portEvent p (fun s => onOamAck p mid.toNat s) s)

/-- A message that a retrain discarded is reported as the ack timeout that was running expires (R192). -/
def staleLost (p : Nat) (m : OamMsg) (s : State) : State :=
  let s := count p .OAM_UNDELIVERED (modOam p (fun o => { o with stale := none }) s)
  when (0x10 ≤ m.type) (sendLost p) s

/-- ACK_TIMEOUT (R191, R192). -/
def execAckTimeout (p : Fin 8) (s : State) : Answer :=
  .next (portEvent p (fun s => match (s.port p).oam.stale, (s.port p).oam.cur with
    | some m, _ => staleLost p m s
    | none, some m =>
      if !inShow p s then s
      else if m.sends < getF p .OAM_TRIES s then
        count p .OAM_RESENDS (modOam p (fun o => { o with cur := some { m with sends := m.sends + 1, segs := 0 } }) s)
      else oamLost p m s
    | none, none => s) s)

end Sys2Proof.Machine
end

