-- ==== Sys2Proof/Machine/Symbol.lean ====
section
/-! DEFINITION. Symbols transmitted in showtime and training (R131 to R144, R174 to R176, R181, R194, R202, R218, R245, R249,
R314, R316). -/

namespace Sys2Proof.Machine

/-! ### Codewords into the bit stream (R142, R245) -/

/-- Symbol periods from one transmit symbol counter value to another. -/
def symAge (now then_ : Nat) : Nat := (now + 2 ^ 24 - then_ % 2 ^ 24) % 2 ^ 24

/-- At least `n` symbol periods have passed since a symbol; a symbol yet to come has none behind it. -/
def agedBy (n now then_ : Nat) : Bool := n ≤ symAge now then_ && symAge now then_ < 2 ^ 23

/-- A notice entry is due (R254). -/
def noticeDue (rt now : Nat) (n : Notice) : Bool :=
  match n.sentSym with
  | none => true
  | some t => agedBy rt now t

/-- FIXED frames at the head of the queue that fit in no codeword are discarded (R235). -/
def dropUnfit (p n : Nat) : Nat → State → State
  | 0, s => s
  | k + 1, s =>
    match (s.port p).fixedQ with
    | f :: q =>
      if n < (frameWords f.bytes).length then
        dropUnfit p n k (count p .STREAM_FIXED_DROP (modPort p (fun x => { x with fixedQ := q }) s))
      else s
    | [] => s

/-- Time stamps of frames whose first codeword bit this symbol carries (R345). -/
def stampTx (p : Nat) (frames : List Nat) (s : State) : State :=
  let l := (s.port p).txFrames.filter fun t => t.stamp && frames.contains t.ident
  let s := forAll l (fun t => appendStamp p false t.stream t.kind t.key (nowEighths s)) s
  let done := fun (t : TxFrame) => if frames.contains t.ident then { t with stamp := false } else t
  modPort p (fun x => { x with txFrames := x.txFrames.map done }) s

/-- The first of the codewords of the highest class, and in it the lowest milestone, that satisfy `q` (R245). -/
def pickCw (x : Port) (q : TxCw → Bool) : Option TxCw :=
  (x.cws.filter q).foldl (fun a w =>
    match a with
    | none => some w
    | some v => if v.cls < w.cls || (v.cls == w.cls && msBelow w.ms v.ms) then some w else some v) none

/-- A DATA codeword sent: its sends, symbols and state; an open codeword is closed (R243, R247). -/
def sendCw (p : Nat) (w : TxCw) (sym last cycle : Nat) (s : State) : State :=
  let first := if w.opened && w.firstDelim == 127 then w.data.length / 4 else w.firstDelim
  let s := if w.sends = 0 then stampTx p w.frames s else count p .LAYBY_P_RESENDS s
  let s := modWatch p (fun v => { v with sent := v.sent + 1, resends := v.resends + ofBool (w.sends != 0) }) s
  let sent := fun (v : TxCw) =>
    if v.node == w.node && v.cls == w.cls && v.ms == w.ms && v.stream == w.stream then
      { v with
        st := .sent, opened := false, firstDelim := first, sends := v.sends + 1, firstSym := sym, lastSym := last
        cycle := cycle }
    else v
  modPort p (fun x => { x with cws := x.cws.map sent }) s

/-- The information part of a DATA codeword of `n` frame-data bytes. -/
def cwInfo (n : Nat) (w : TxCw) : List Byte :=
  let first := if w.opened && w.firstDelim == 127 then w.data.length / 4 else w.firstDelim
  infoPart w.ms w.stream w.cls 0 first n w.data

/-- The next codeword of a trunk port by the order of R245, for bits that start in symbol `sym` and end in `last`.
(DEDUCED, log 80) -/
def nextCodeword (p sym last : Nat) (s : State) : List Byte × State :=
  let n := frameData (codeRate p s)
  let rt := getF p .LAYBY_P_RT_SYM s
  let s := count p .FEC_CW_TX s
  let s := dropUnfit p n (s.port p).fixedQ.length s
  let x := s.port p
  let hold := getF p .LAYBY_P_IN_HOLD s == 1
  let due := (x.notices.filter (noticeDue rt sym)).take ((n - 4) / 4)
  match due, x.fixedQ with
  | _ :: _, _ =>
    let body := beBytes 4 due.length ++
      due.flatMap fun e => beBytes 4 (e.cls % 8 * 2 ^ 28 + e.stream % 4096 * 2 ^ 16 + e.ms % 65536)
    let mark := fun (e : Notice) => if due.contains e then { e with sentSym := some sym } else e
    (infoPart 0 0 0 2 127 n body,
      count p .LAYBY_P_NOTICES_TX (modPort p (fun x => { x with notices := x.notices.map mark }) s))
  | [], f :: q =>
    let s := modPort p (fun x => { x with fixedQ := q }) s
    let s := countStream p f.stream 0 1 s
    let s := if stamped p f.stream s then
      appendStamp p false f.stream (stampKind f.bytes) (stampKey f.bytes) (nowEighths s) s else s
    (infoPart 0 f.stream (streamOf p f.stream s).cfg.cls 1 0 n (frameWords f.bytes), s)
  | [], [] =>
    let pick := if hold then none else
      match pickCw x (fun w => w.st == .resend && !deadlineMeets p w s) with
      | some w => some w
      | none => pickCw x (fun w => w.st == .queued && !deadlineMeets p w s)
    match pick with
    | some w => (cwInfo n w, sendCw p w sym last 0 s)
    | none => (infoPart 0 0 0 3 0 n [], s)

/-- The codeword bits of a data symbol: the rest of the codeword under way, then codewords until the superframe's number
is reached, then pad bits (R142). `at_` is the bits already placed, `cap` the codeword bits of a data symbol. -/
def fillBits (p sym cap total : Nat) : Nat → Nat → List Bool → State → List Bool × State
  | 0, _, acc, s => (acc, s)
  | k + 1, at_, acc, s =>
    if cap ≤ at_ then (acc, s)
    else if total ≤ (s.port p).sig.cwBits then (acc ++ List.replicate (cap - at_) false, s)
    else
      let r := nextCodeword p sym ((sym + (at_ + 2303) / cap) % 2 ^ 24) s
      let bits := ldpcEncode (codeRate p r.2) r.1
      fillBits p sym cap total k (at_ + 2304) (acc ++ bits) (modSig p (fun g => { g with cwBits := g.cwBits + 1 }) r.2)

/-! ### The overhead field sent (R144, R183, R190, R249, R314) -/

/-- A milepost: RX_A and the NACK bitmap (R144, R248). -/
def milepost (p node c : Nat) (s : State) : List Byte := beBytes 2 (pmsOf p node c s).rxA ++ beBytes 8 (nackBits p node c s)

/-- The data symbols that transmit symbol `c` reflects: c − L, and c − L − 1 after a sync symbol (R249). -/
def reflects (lag c pos n : Nat) : Bool :=
  n == (c + 2 ^ 24 - lag) % 2 ^ 24 || (pos == 1 && n == (c + 2 ^ 24 - lag - 1) % 2 ^ 24)

/-- The OAM segment of a data symbol: a waiting ACK, the next segment of the message, or idle (R190, R191).
(DEDUCED, log 77) -/
def oamOut (p : Nat) (s : State) : List Byte × State :=
  let o := (s.port p).oam
  match o.acks, o.cur with
  | m :: rest, _ => (oamSegment m 1 [BitVec.ofNat 8 m] 0, modOam p (fun o => { o with acks := rest }) s)
  | [], some m =>
    if m.mid ≠ 0 ∧ m.segs < oamSegments m.type m.payload then
      (oamSegment m.mid m.type m.payload m.segs,
        modOam p (fun o => { o with cur := some { m with segs := m.segs + 1 } }) s)
    else (List.replicate 14 0, s)
  | [], none => (List.replicate 14 0, s)

/-- The reconfiguration bytes of a data symbol: a response for its 4 symbols, else the request (R183). -/
def rcOut (p : Nat) (s : State) : List Byte × State :=
  let bytes := fun (q : RcReq) => beBytes 1 (q.op % 16 * 16 + q.seq % 16) ++ beBytes 1 q.arg ++ beBytes 4 q.sf
  match (s.port p).rc.resp, (s.port p).rc.req with
  | some (q, k), _ =>
    (bytes q, modRc p (fun r => { r with resp := if k ≤ 1 then none else some (q, k - 1) }) s)
  | none, some q => (bytes q, s)
  | none, none => (List.replicate 6 0, s)

/-- A trunk port is idle (R314). -/
def portIdle (p : Nat) (s : State) : Bool :=
  let x := s.port p
  x.inq.all List.isEmpty && x.fixedQ.isEmpty && x.cws.isEmpty && x.notices.isEmpty &&
    (x.pms.all fun e => !e.2.rxAny || (e.2.rxHigh + 1) % 65536 == e.2.rxA) && !rcBusy p s && !x.rc.swapWait &&
    x.oam.cur.isNone && x.oam.queue.isEmpty

/-- The port sends LPI_REQ: idle for the LPI entry time of its profile, in SLEEP as soon as it is idle (R314, R374).
(DEDUCED, log 81) -/
def lpiReq (p : Nat) (s : State) : Bool :=
  match (if getF 0 .PWRC_DEV_STATE s = 2 then some 0 else profLpi (profileOf p s)) with
  | some us =>
    portIdle p s && enOf .WATCH p s == 1 && getF p .WATCH_LPI_EN s == 1 &&
      us * 8000 ≤ (s.port p).watch.idleRun * symPeriod p s
  | none => false

/-- The overhead field of data symbol `c` at position `pos` of its superframe. -/
def overheadOut (p c pos : Nat) (s : State) : List Byte × State :=
  let g := (s.port p).sig
  let imp := g.marks.any fun m => m.2 && reflects (getF p .LAYBY_P_L s) c pos m.1
  let grade := if getF p .WATCH_GRADE_VALID s = 1 then getF p .WATCH_GRADE s else 0
  let set_ := c % 2
  let head := beBytes 1 (16 + set_ * 8) ++
    beBytes 1 (grade * 32 + ofBool imp * 16 + ofBool (g.retrainReq != 0) * 8 + ofBool (lpiReq p s) * 4)
  let mps := (List.range 4).flatMap fun i => milepost p 0 (4 * set_ + i) s
  let rc := rcOut p s
  let oam := oamOut p rc.2
  let bs := head ++ mps ++ rc.1 ++ oam.1
  (bs ++ beBytes 2 (crc16 bs), oam.2)

/-! ### SYMBOL_TX -/

/-- Transmit superframes carry codewords: no paused superframe (R390). -/
def txPaused (p : Nat) (s : State) : Bool := (s.port p).sig.paused

/-- Data symbols are sent: showtime, LOOPBACK, or the 8 data symbols that announce a fast retrain (R194). -/
def sendsData (p : Nat) (s : State) : Bool :=
  stOf p s == stShow || stOf p s == stLoop || (stOf p s == stFast && 0 < (s.port p).sig.retrainReq)

/-- A slip that is due is made where the symbol may carry it: the samples by which its prefix changes (R181, R218). -/
def makeSlip (p : Nat) (may : Bool) (s : State) : Int × State :=
  let due := (s.port p).sig.slipDue
  if due = 0 || !may then (0, s)
  else
    let d : Int := if due < 0 then -1 else 1
    (d, count p .EQ_SLIPS (modSig p (fun g => { g with slipDue := g.slipDue - d }) s))

/-- The symbol counter taken by the symbol that starts now (R132). -/
def takeCounter (p : Nat) (s : State) : Nat × State :=
  let c := if (s.port p).sig.txFirst then getF p .TONES_TX_SYM_CNT s else (getF p .TONES_TX_SYM_CNT s + 1) % 2 ^ 24
  (c, setF p .TONES_TX_SYM_CNT c (modSig p (fun g => { g with txFirst := false }) s))

/-- A data symbol (R141 to R143): data symbol 1 of a superframe with a TA_ADJ carries the change of its prefix, any other one a
slip (R181, R218, R225). -/
def dataSymbol (p c pos : Nat) (s : State) : State :=
  let oh := overheadOut p c pos s
  let s := oh.2
  let tab := tableOf p 0 s
  let cap := codewordBits tab
  let s := if pos = 1 then modSig p (fun g => { g with carry := [], cwBits := 0, scr := 2 ^ 23 - 1 }) s else s
  let carry := (s.port p).sig.carry
  let r := fillBits p c cap (256 * cap / 2304) (cap / 2304 + 2) carry.length carry s
  let cw := r.1.take cap
  let s := modSig p (fun g => { g with carry := r.1.drop cap }) r.2
  let scr := scramble (byteBits oh.1 ++ cw) (s.port p).sig.scr
  let x := txPlanOf p s
  let pts := placeBits x.level (dataTones tab) 512 (scr.1.take 512) (scr.1.drop 512)
  let adj := if pos = 1 then (s.port p).sig.extraPrefix else 0
  let slip := makeSlip p (adj == 0) (modSig p (fun g => { g with scr := scr.2 }) s)
  let s := when (pos == 1) (modSig p fun g => { g with extraPrefix := 0 }) slip.2
  launch p kData (pfxOf p s + adj + slip.1) (withCancel x (pilotPts x c ++ pts)) s

/-- The points of a training symbol with its pilots, and the generator's next register: it goes on from symbol to symbol
(R133, R135). -/
def trainPts (x : TxPlan) (c r : Nat) : List TonePt × Nat :=
  let g := genPts x r
  (pilotPts x c ++ g.1, g.2)

/-- A training symbol outside T2 to T5: in T1, and in a paused superframe (R173, R390). -/
def trainSymbol (p c : Nat) (may : Bool) (s : State) : State :=
  let slip := makeSlip p may s
  let s := slip.2
  let x := txPlanOf p s
  let t := trainPts x c (s.port p).sig.gen
  launch p kTrain (pfxOf p s + slip.1) (withCancel x t.1) (modSig p (fun g => { g with gen := t.2 }) s)

/-- The bytes of a message symbol: the rest of the message under way, ACK messages, then the start of a message; 0 where there
is nothing to send (R175). (DESIGN CHOICE, log 155) -/
def messageOut (p cap : Nat) (s : State) : List Byte × State :=
  let o := (s.port p).oam
  let body := (o.cur.map fun m => oamBytes m.type m.payload).getD []
  let sent := (o.cur.map (·.segs)).getD 0
  let rest := if sent = 0 then [] else (body.drop sent).take cap
  let acks := o.acks.take ((cap - rest.length) / 8)
  let head := rest ++ acks.flatMap fun m => oamBytes 1 [BitVec.ofNat 8 m]
  let first := if sent = 0 then body.take (cap - head.length) else []
  (head ++ first ++ List.replicate (cap - head.length - first.length) 0,
    modOam p (fun o => { o with
      acks := o.acks.drop acks.length
      cur := o.cur.map fun m => { m with segs := sent + rest.length + first.length } }) s)

/-- The points of a symbol with message bits on the message tones that carry anything (R175). -/
def withMessage (x : TxPlan) (bits : List Bool) (pts : List TonePt) : List TonePt :=
  let ps := x.plan.pilots
  let m := (messagePoints x.plan.short bits).filter fun e => x.plan.usable e.1 && !ps.contains e.1
  (pts.filter fun t => !(m.any fun e => e.1 == t.tone)) ++ m.map fun e => qamPt x e.1 e.2

/-- The training symbol `c` is a ranging mark: of the master 8 in all, of the slave its reply (R176, R180, R194). -/
def rangeMark (p c : Nat) (s : State) : Bool :=
  let l := (s.port p).link
  if isSlave p s then l.replyAt.contains c
  else phaseOf p s == 2 && !l.taSet && l.marks < 8 && (stOf p s == stFast || l.partnerPass == some true) &&
    c != 0 && c % (rangeSteps p s).1 == 0

/-- A symbol of T2 to T5, or of a fast retrain: the count mark with every point turned, ranging marks with every point negated,
message symbols, training symbols, and in step 2 of a fast retrain sync symbols in their place (R174 to R176, R194). A slave in
T2 is silent until it has locked. (DESIGN CHOICE, log 159) -/
def sendTraining (p : Nat) (s : State) : State :=
  let l := (s.port p).link
  if stOf p s != stFast && phaseOf p s == 2 && isSlave p s && !l.slaveLocked then s
  else
    let mark := l.markDue
    let c := if mark then 0 else (getF p .TONES_TX_SYM_CNT s + 1) % 2 ^ 24
    let s := setF p .TONES_TX_SYM_CNT c (modLink p (fun l => { l with markDue := false }) s)
    let s := when (isMaster p s) (onNamed p c) s
    let slip := makeSlip p true s
    let s := slip.2
    let x := txPlanOf p s
    let seek := stOf p s == stFast && phaseOf p s < 3
    let t := trainPts x c (if seek then 2047 else (s.port p).sig.gen)
    let s := when (!seek) (modSig p fun g => { g with gen := t.2 }) s
    let msg := !mark && 2 ≤ phaseOf p s && (phaseOf p s == 4 || c % 8 == 7)
    let range := !mark && rangeMark p c s
    let out := if msg then messageOut p (messageCap x.plan.short) s else ([], s)
    let pts := if mark then quarterTurn t.1 else if msg then withMessage x (byteBits out.1) t.1 else t.1
    let pts := if range then negated pts else pts
    let s := when range (modLink p fun l => { l with
      marks := l.marks + ofBool (isMaster p s), replyAt := l.replyAt.filter fun n => n != c }) out.2
    let kind := if mark then kCount else if range then kRange else if msg then kMessage else if seek then kSync else kTrain
    when msg (maybeReject p) (launch p kind (pfxOf p s + slip.1) (withCancel x pts) s)

/-- R_P of R316. -/
def refreshEvery (ce : Nat) : Nat := if ce = 0 then 240 else if ce = 1 then 236 else if ce = 2 then 229 else 217

/-- One symbol transmitted (R131, R141, R174, R194, R316). -/
def sendSymbol (p : Nat) (s : State) : State :=
  let st := stOf p s
  if getF p .TXSH_MUTED s = 1 && st != stLoop then s
  else if st = stQuiet then
    let t := takeCounter p (modSig p (fun g => { g with txPos := min (g.txPos + 1) 257 }) s)
    if t.1 % refreshEvery (getF p .TXSH_CE t.2) = 0 then
      launch p kRefresh (pfxOf p t.2) (syncPts (txPlanOf p t.2) t.1 false) t.2
    else t.2
  else if sendsData p s then
    let pos := (s.port p).sig.txPos
    if 257 ≤ pos then s
    else
      let idle := portIdle p s
      let t := takeCounter p s
      let s := modSig p (fun g => { g with txPos := pos + 1 }) t.2
      if pos = 0 then
        let g := (s.port p).sig
        launch p kSync (pfxOf p s) (syncPts (g.oldTx.getD (txPlanOf p s)) t.1 g.invert)
          (modSig p (fun g => { g with invert := false }) s)
      else if txPaused p s then
        if (s.port p).rc.pauseOwn then trainSymbol p t.1 true s else s
      else
        let s := modWatch p (fun w =>
          { w with idleRun := if idle then w.idleRun + 1 else 0, lpiAllTx := w.lpiAllTx && lpiReq p s }) s
        let s := when (getF p .TONES_RX_PENDING s == 0) (modSig p fun g => { g with oldTx := none }) s
        modSig p (fun g => { g with retrainReq := g.retrainReq - 1 }) (dataSymbol p t.1 pos s)
  else if st = stT1 then (if ownWindow p s then trainSymbol p 0 true s else s)
  else if phaseOf p s = 0 && st != stFast then s
  else sendTraining p s

/-- SYMBOL_TX (R141). -/
def execSymbolTx (p : Fin 8) (s : State) : Answer := .next (portEvent p (fun s => sendSymbol p s) s)

end Sys2Proof.Machine
end

