-- ==== Sys2Proof/Machine/Receive.lean ====
section
/-! DEFINITION. A received symbol: clipping, impulse blocks and events, marking, echo cancellers, equaliser, timing, noise,
and the codeword bits into the decoder queue (R202 to R225, R236, R237, R252). -/

namespace Sys2Proof.Machine

/-! ### Impulse holds (R252) -/

/-- An impulse hold starts where it is enabled, none runs and the last one's exit has been met. -/
def enterHold (p : Nat) (s : State) : State :=
  if getF p .LAYBY_P_IMP_HOLD_EN s = 1 && getF p .LAYBY_P_IN_HOLD s != 1 && !(s.port p).sig.holdBar then
    sticky .LAYBY_P_HOLD p (count p .LAYBY_P_HOLDS (setF p .LAYBY_P_IN_HOLD 1 s))
  else s

/-- The hold's conditions judged: it ends after two clean fields outside an impulse event, and starts while the port's
own receiver is in one and has lost the last field. -/
def judgeHold (p : Nat) (s : State) : State :=
  let g := (s.port p).sig
  if 2 ≤ g.cleanRun && !g.inImpulse then
    setF p .LAYBY_P_IN_HOLD 0 (modSig p (fun g => { g with holdBar := false }) s)
  else if g.inImpulse && g.ohLost then enterHold p s
  else s

/-! ### Impulse blocks, events and marks (R220, R222, R312) -/

/-- `v` exceeds the mean of `n` values of a sum by `thr` in 0.1 dB or more, exactly: v^100 ≥ mean^100 × 10^thr. -/
def exceeds (v sum : Rat) (n thr : Nat) : Bool :=
  n != 0 && decide (0 < v) && decide (sum ^ 100 * (10 ^ thr : Nat) ≤ (v * n) ^ 100)

/-- The bin of an impulse event of a number of 8 ns blocks. -/
def impulseBin (blocks : Nat) : Fld :=
  if blocks < 125 then .WATCH_IMP_BIN0 else if blocks < 1250 then .WATCH_IMP_BIN1
  else if blocks < 12500 then .WATCH_IMP_BIN2 else if blocks < 125000 then .WATCH_IMP_BIN3 else .WATCH_IMP_BIN4

/-- An impulse event of a number of blocks has ended (R222, R312). -/
def closeEvent (p blocks : Nat) (s : State) : State :=
  let s := count p (impulseBin blocks) (count p .EQ_IMP_EVENTS s)
  let s := setF p .WATCH_IMP_MAX (max (getF p .WATCH_IMP_MAX s) (min blocks (2 ^ 32 - 1))) s
  when (125000 ≤ blocks) (fun s =>
    sticky .WATCH_IMPULSE_LONG p (modWatch p (fun w => { w with long := true }) s)) s

/-- The examination of blocks: energies kept, blocks since the last impulse block, length of the open event, events opened,
those closed with their lengths, and whether an impulse block was seen. -/
structure Scan where
  blocks : List Nat
  run : Nat
  len : Nat
  opened : Bool
  starts : Nat := 0
  ended : List Nat := []
  hit : Bool := false

/-- One block examined (R220, R222); `cover`, it belongs to the window of a symbol that is marked by pilot error or clipping
alone. -/
def scanBlock (thr : Nat) (cover : Bool) (a : Scan) (e : Nat) : Scan :=
  let imp := exceeds e a.blocks.sum a.blocks.length thr
  let a := { a with blocks := if imp then a.blocks else (e :: a.blocks).take 4096, hit := a.hit || imp }
  if imp || cover then
    if a.opened then { a with len := a.len + a.run + 1, run := 0 }
    else { a with len := 1, run := 0, opened := true, starts := a.starts + 1 }
  else if a.opened && 124 ≤ a.run then
    { a with run := a.run + 1, len := 0, opened := false, ended := a.ended ++ [a.len] }
  else { a with run := a.run + 1 }

/-- The scan of the port's blocks so far. -/
def scanOf (p : Nat) (s : State) : Scan :=
  let g := (s.port p).sig
  { blocks := g.blocks, run := g.impRun, len := g.impLen, opened := g.inImpulse }

/-- The state after a scan: each event sets IMPULSE as it opens and counts as it ends. -/
def noteScan (p : Nat) (a : Scan) (s : State) : State :=
  let s := modSig p (fun g => { g with blocks := a.blocks, impRun := a.run, impLen := a.len, inImpulse := a.opened }) s
  let s := when (a.starts != 0) (sticky .EQ_IMPULSE p) s
  let s := forAll a.ended (closeEvent p) s
  when (inShow p s) (judgeHold p) s

/-- The samples since the last window and those of the window examined; whether the symbol is marked (R220, R222). -/
def examine (p : Nat) (o : RxSymbol) (other : Bool) (s : State) : Bool × State :=
  let thr := getF p .EQ_IMP_THR s
  let a := o.pre.foldl (scanBlock thr false) (scanOf p s)
  let plain := o.win.foldl (scanBlock thr false) { a with hit := false }
  let b := if other && !plain.hit then o.win.foldl (scanBlock thr true) a else plain
  (plain.hit || other, noteScan p b s)

/-- Clean blocks since the last one examined: 125 in a row end an impulse event (R222). -/
def endImpulse (p blocks : Nat) (s : State) : State :=
  let g := (s.port p).sig
  if !g.inImpulse then s
  else if g.impRun + blocks < 125 then modSig p (fun g => { g with impRun := g.impRun + blocks }) s
  else noteScan p { blocks := g.blocks, run := g.impRun + blocks, len := 0, opened := false, ended := [g.impLen] } s

/-! ### What a symbol carries (R209, R216) -/

/-- How a received symbol is read. -/
inductive RxKind where
  | silent
  | train
  | data
  | sync (inverted : Bool)
  | unknown
deriving DecidableEq, Repr

/-- The kind of symbol `n` that comes with SYMBOL_RX: training symbols in a partner's window and from its count mark on; in
LPI_QUIET refresh symbols at their positions, and nothing at others (R316). -/
def rxKind (p n : Nat) (o : RxSymbol) (s : State) : RxKind :=
  let st := stOf p s
  let placed := (s.port p).link.markFound || o.turn == 1
  if st = stShow ∨ st = stLoop then (if (s.port p).sig.paused then .unknown else .data)
  else if st = stQuiet then (if n % refreshEvery (getF p .TXSH_CE s) = 0 then .sync false else .unknown)
  else if st = stT1 then (if ownWindow p s then .silent else .train)
  else if !placed then .unknown
  else if st = stFast ∧ phaseOf p s < 3 then .sync false
  else .train

/-- A point turned by quarter turns. -/
def turned (n : Nat) (v : Int × Int) : Int × Int :=
  match n % 4 with
  | 0 => v
  | 1 => (-v.2, v.1)
  | 2 => (-v.1, -v.2)
  | _ => (v.2, -v.1)

/-- A 4-QAM point at unit energy. -/
def unitQam (v : Int × Int) : Cx := unitPt v.1 v.2 6

/-- The plan of what the partner sends: the old one until the switch of its direction has come (R139). -/
def rxPlan (p : Nat) (s : State) : TonePlan := (((s.port p).sig.oldTx).map (·.plan)).getD (planOf p s)

/-- What each tone of the partner's symbol `c` carries: pilots and generator points known, data tones and message tones
decided, nothing elsewhere (R133 to R136, R140, R175, R209). -/
def expectOf (p c : Nat) (kind : RxKind) (turn : Nat) (s : State) : Nat → Expect :=
  let q := rxPlan p s
  let ps := placePilots q
  let pilot := fun (k : Nat) => ps.idxOf? (some k)
  let nothing : Expect := ⟨some (0, 0), 0, 1⟩
  let tab := tableOf p 2 s
  let msg := phaseOf p s == 4 || (2 ≤ phaseOf p s && c % 8 == 7)
  let mt := messageTones q.short
  let inMsg := fun (k : Nat) => (mt.1 ≤ k && k < mt.1 + mt.2.1) || (mt.1 + mt.2.2 ≤ k && k < mt.1 + mt.2.2 + mt.2.1)
  let gen := fun (r : Nat) (sign : Nat) (k : Nat) =>
    match (genPoints (fun j => j == k) (tonesOf q.short) 0 r).1 with
    | e :: _ => unitQam (turned sign e.2)
    | [] => (0, 0)
  fun k =>
    match pilot k with
    | some i => ⟨some (unitQam (turned turn (pilotPoint c i))), 2, 1⟩
    | none =>
      if !q.usable k then nothing
      else match kind with
        | .train =>
          if msg && inMsg k then ⟨none, 2, 1⟩ else ⟨some (gen (s.port p).sig.rxGen turn k), 2, 1⟩
        | .sync inv => ⟨some (gen 2047 (turn + if inv then 2 else 0) k), 2, 1⟩
        | .data =>
          let e := entryOf tab k
          if e.isData then ⟨none, e.bits, ampOf e.gain⟩ else nothing
        | _ => nothing

/-- The tones of a symbol through the receiver (R202): the boundary residue, the shortening equaliser, the per-tone
canceller, the turn by −φ, the FEQ, and common phase and slope from the pilots, which are the second result (R217). -/
def rxTones (p : Nat) (o : RxSymbol) (kind : RxKind) (c : Nat) (s : State) : List ToneRx × Rat × Rat :=
  let g := (s.port p).sig
  let q := rxPlan p s
  let n := bodyOf q.short
  let phi := if isSlave p s then g.phi else 0
  let res := if latched p .ECHO_TD_EN s = 1 then
    residues n (ceSamples (getF p .TXSH_CE s)) g.ect g.prevTx g.lastTx else []
  let teq := if isSet p .EQ_TEQ_ACTIVE s then g.teq else []
  let ex := expectOf p c kind o.turn s
  let raw : List (Nat × Cx × Cx) := o.tones.map fun t =>
    let k := t.tone
    let y : Cx := ((t.re : Rat) / 2 ^ 15, (t.im : Rat) / 2 ^ 15)
    let y := cmul (teqTone n teq k) (if res.isEmpty then y else csub y (residueTone n res k))
    let x := txValue n g.lastTx k
    (k, x, cancelled n phi (ecfVal (mapGetD g.ecf k (0, 0))) x y k)
  let ps := q.pilots
  let pil := raw.filterMap fun r =>
    if ps.contains r.1 then (ex r.1).known.map fun a => (r.1, cmul (feqVal g.feq r.1) r.2.2, a) else none
  let fit : Rat × Rat := if kind = .silent ∨ kind = .unknown ∨ pil.isEmpty then (0, 0) else Config.pilotFit pil
  (raw.map fun r =>
    let k : Nat := r.1
    let theta : Rat := fit.1 + fit.2 * (k : Rat)
    let y1 := cmul (turnOf (-theta)) r.2.2
    let f := feqVal g.feq k
    let z := cmul f y1
    let e := ex k
    let a := e.known.getD (cscale e.gain (decide_ e.bits (cscale (1 / e.gain) z)))
    let near := e.known.isSome || decide (cnorm (csub z a) ≤ e.gain * e.gain * mkRat 3 (energy3 e.bits))
    { tone := k, x := r.2.1, y1 := y1, z := z, a := a, near := near, known := e.known.isSome
      e := errorOf ((k * phi : Int) / (256 * n : Nat) + theta) f y1 a }, fit)

/-! ### Adaptation (R208 to R211, R216) -/

/-- The step exponent of the phase of symbol `i` of its window, none where nothing adapts (R210). -/
def stepExp (p i : Nat) (s : State) : Option Nat :=
  let st := stOf p s
  if st = stShow then
    if getF p .ECHO_ADAPT_EN s = 1 && !(s.port p).sig.paused then some (latched p .ECHO_MU_SHOW s) else none
  else if st = stT1 then
    if !ownWindow p s then none
    else if (s.port p).link.warm || 2 ≤ (s.port p).link.window then some (latched p .ECHO_MU_SLOW s)
    else if i < 256 then none
    else if i < 768 then some (latched p .ECHO_MU_FAST s)
    else some (latched p .ECHO_MU_SLOW s)
  else if 2 ≤ phaseOf p s then some (latched p .ECHO_MU_SLOW s)
  else none

/-- The echo cancellers after a symbol: C(k) of every tone that contributes, held at 0 where a tone carries nothing in every
symbol, and the time-domain taps while TD_EN is 1 (R207, R208). -/
def adaptEcho (p mu : Nat) (l : List ToneRx) (s : State) : State :=
  let g := (s.port p).sig
  let q := planOf p s
  let n := bodyOf q.short
  let use_ := l.filter fun t => t.near && q.carries t.tone
  let ecf := use_.zipIdx.foldl (fun m e =>
    mapPut m e.1.tone (lms (s.fresh + 2 * e.2) mu (mapGetD g.ecf e.1.tone (0, 0)) e.1.x e.1.e)) g.ecf
  let ce := ceSamples (getF p .TXSH_CE s)
  let errs := (List.range 256).map (errorAt n (use_.map fun t => (t.tone, t.e)))
  let base := s.fresh + 2 * use_.length
  let ect := if latched p .ECHO_TD_EN s = 1 ∧ use_ ≠ [] then
      mapPutAll g.ect ((List.range 256).map fun d =>
        (d, lmsTap (base + d) n ce mu g.prevTx g.lastTx errs d (mapGetD g.ect d 0)))
    else g.ect
  { modSig p (fun g => { g with ecf := ecf, ect := ect.filter fun e => e.2 != 0 }) s with fresh := base + 256 }

/-- The FEQ after a symbol: trained on the probe symbols of T2, refined in T3, in showtime followed with step 2^−10 on points
that are known or decided near (R216). -/
def adaptFeq (p : Nat) (l : List ToneRx) (s : State) : State :=
  let ph := phaseOf p s
  let show_ := stOf p s == stShow
  let trains := (ph == 2 && (s.port p).link.taOn && stOf p s != stFast) || ph == 3
  if !show_ && !trains then s
  else
    let g := (s.port p).sig
    let use_ := l.filter fun t => t.near && t.a != (0, 0) && (show_ || t.known)
    let feq := use_.zipIdx.foldl (fun m e =>
      let t := e.1
      let f := mapGetD m t.tone (2 ^ 12, 0)
      let tag := s.fresh + 2 * e.2
      mapPut m t.tone (if show_ then feqLms tag f t.y1 t.a t.z
        else storeCx tag (cscale (2 ^ 12) (Config.feqTrain (feqVal m t.tone) t.y1 t.a)))) g.feq
    { modSig p (fun g => { g with feq := feq }) s with fresh := s.fresh + 2 * use_.length }

/-- N(k) of an unmarked symbol: in T3, after the training of an active equaliser, and of a block of 1,024 data symbols in
showtime (R223, R224). -/
def noteNoise (p i : Nat) (kind : RxKind) (l : List ToneRx) (s : State) : State :=
  let g := (s.port p).sig
  let trained := isSet p .EQ_TEQ_ACTIVE s && !(s.port p).link.warm && stOf p s != stFast
  let on := (phaseOf p s == 3 && (!trained || 1024 ≤ i)) || (kind == .data && g.noiseN < 1024)
  if !on then s
  else
    let q := rxPlan p s
    let use_ := l.filter fun t => q.usable t.tone
    modSig p (fun g => { g with
      noiseN := g.noiseN + 1
      noise := use_.foldl (fun m t =>
        mapPut m t.tone (mapGetD m t.tone 0 + cnorm (csub t.y1 (cmul (chanOf (feqVal g.feq t.tone)) t.a)))) g.noise }) s

/-! ### The hybrid search and the receive gain (R205, R206) -/

/-- The trim and its bit that trial `j` of the search sets: HYB_R and HYB_C alternately, most significant bit first. -/
def trimBit (j : Nat) : Fld × Nat := (if j % 2 = 0 then .AFE_HYB_R else .AFE_HYB_C, 2 ^ (5 - j / 2))

/-- Symbol `i` of the first own window of a cold T1: 12 trials of 16 symbols, each bit kept where it lowers the residual echo
power; then 64 symbols of confirmation, after which the gain is the highest at which at most 1 sample in 10^6 would reach full
scale. The power before the first bit is not measured: it is a free value. (DESIGN CHOICE, log 154) -/
def searchHybrid (p i : Nat) (o : RxSymbol) (s : State) : State :=
  if i < 192 then
    let f := trimBit (i / 16)
    let s := if i % 16 = 0 then
        let s := when (i == 0) (fun s => spend (modSig p (fun g => { g with hybBest := some (free s) })
          (setAll p [(.AFE_HYB_R, 0), (.AFE_HYB_C, 0), (.AFE_HYB_VALID, 0)] s))) s
        modSig p (fun g => { g with hyb := 0 }) (setF p f.1 (getF p f.1 s + f.2) s)
      else s
    let sum := (s.port p).sig.hyb + o.adc
    let s := modSig p (fun g => { g with hyb := sum }) s
    if i % 16 ≠ 15 then s
    else if (s.port p).sig.hybBest.any fun b => sum < b then modSig p (fun g => { g with hybBest := some sum }) s
    else setF p f.1 (getF p f.1 s - f.2) s
  else if i < 256 then
    let old := (s.port p).sig.gainHits
    let hits := (List.range 32).map fun k => old.getD k 0 + o.atGain.getD k 0
    let s := modSig p (fun g => { g with gainHits := hits }) s
    if i ≠ 255 then s
    else
      let ok := (List.range 32).filter fun k => hits.getD k 0 * 10 ^ 6 ≤ 64 * symPeriod p s
      setAll p [(.AFE_HYB_VALID, 1), (.AFE_RX_GAIN, gainOr p (ok.getLastD 0) s)] s
  else s

/-! ### Timing (R218) -/

/-- FOFS and φ updated from the pilots' slope at the slave, and slips made due for every sample by which φ leaves its range;
both read 0 at the master (R218, R228). -/
def timing (p : Nat) (slope : Rat) (s : State) : State :=
  if !isSlave p s then setAll p [(.EQ_FOFS, 0), (.EQ_PHASE, 0)] s
  else
    let step := Config.timingLoop (getS p .EQ_FOFS s) slope
    let a := (s.port p).sig.phi + step.2
    let n := (a + 128) / 256
    let s := modSig p (fun g => { g with phi := a - 256 * n, slipDue := g.slipDue - n }) s
    setS p .EQ_PHASE (a - 256 * n) (setS p .EQ_FOFS step.1 s)

/-! ### A symbol -/

/-- Power of the pilot errors of a symbol, and how many pilots have an SNR of at least 6 dB: err^5 × 10^3 ≤ 1 (R193, R220). -/
def pilotQuality (p : Nat) (l : List ToneRx) (s : State) : Rat × Nat :=
  let ps := (rxPlan p s).pilots
  let errs := (l.filter fun t => ps.contains t.tone).map fun t => cnorm (csub t.z t.a)
  (errs.foldl (· + ·) 0, (errs.filter fun e => decide (e ^ 5 * 1000 ≤ 1)).length)

/-- What a symbol's samples and tones do, whatever its kind (R202 to R223); `i` is its number in its window of T1 or in T3,
`c` the partner's symbol counter. The result says whether it is marked. -/
def processSymbol (p : Nat) (o : RxSymbol) (kind : RxKind) (i c : Nat) (s : State) : Bool × State :=
  let clip := decide (latched p .AFE_CLIP_LIMIT s ≤ o.clipped)
  let s := if o.clipped = 0 then s else sticky .AFE_ADC_CLIPPED p (countBy p .AFE_ADC_CLIP o.clipped s)
  let s := when clip (count p .AFE_CLIP_SYMS) s
  let r := rxTones p o kind c s
  let seen := kind != .silent && kind != .unknown
  let ql := pilotQuality p r.1 s
  let hist := (s.port p).sig.pilotErrs
  let pilotErr := seen && exceeds ql.1 (hist.foldl (· + ·) 0) hist.length (getF p .EQ_IMP_FD_THR s)
  let ex := examine p o (pilotErr || clip) s
  let marked := ex.1
  let s := when marked (count p .EQ_IMP_SYMS) ex.2
  let bad := decide (2 * ql.2 < (rxPlan p s).pilots.length)
  let s := when seen (modSig p fun g => { g with
    pilotErrs := if marked then g.pilotErrs else (ql.1 :: g.pilotErrs).take 1024
    pilotBad := if bad && trunkShow p s then g.pilotBad + 1 else 0 }) s
  let s := when seen (timing p r.2.2) s
  let excluded := marked || (stOf p s == stT1 && !ownWindow p s) || (stOf p s == stShow && (s.port p).sig.paused)
  let s := when excluded (count p .ECHO_ADAPT_SKIPS) s
  let s := match stepExp p i s with
    | some mu => if excluded || kind == .unknown then s else adaptEcho p mu r.1 s
    | none => s
  let s := when (!marked && seen) (fun s => noteNoise p i kind r.1 (adaptFeq p r.1 s)) s
  (marked, s)

/-- OVERLOADED follows the decoder queue: the codewords that no core has taken (R236, R237). -/
def dqWaiting (p : Nat) (s : State) : Nat := (s.port p).sig.dq.length - (resourcesOf p s).2.2

/-- OVERLOADED set or cleared after a change of the decoder queue (R237). -/
def noteOverload (p : Nat) (s : State) : State :=
  let n := dqWaiting p s
  if rwF p .FEC_DQ_HIGH s < n then
    setF p .FEC_OVERLOADED 1 (when (getF p .FEC_OVERLOADED s == 0) (sticky .FEC_OVERLOAD p) s)
  else if n ≤ rwF p .FEC_DQ_LOW s then setF p .FEC_OVERLOADED 0 s
  else s

/-- A codeword that counts as not received without a decoder (R221, R236). -/
def failCw (p : Nat) (s : State) : State :=
  modWatch p (fun w => { w with cw := w.cw + 1, fail := w.fail + 1 })
    (modSig p (fun g => { g with doneCw := g.doneCw + 1, failCw := g.failCw + 1 }) s)

/-- A codeword that has come whole goes to a decoder core, or waits in a queue of at most 256 (R236). -/
def queueCw (p : Nat) (w : DqCw) (s : State) : Bool × State :=
  if dqWaiting p s < 256 then (true, noteOverload p (modSig p (fun g => { g with dq := g.dq ++ [w] }) s))
  else (false, sticky .FEC_DQ_OVF p (count p .FEC_DQ_OVF s))

/-- The codeword whose last bit has come: given up when too many of its bits are erased, else queued for a decoder
(R221, R236). -/
def finishCw (p : Nat) (s : State) : State :=
  let e := (s.port p).sig.rxErased
  if getF p .EQ_ERASE_MAX s * 2304 < e * 256 then
    sticky .EQ_CW_SKIPPED p (count p .EQ_SKIPPED_CW (failCw p s))
  else
    let r := queueCw p ⟨nowEighths s, 0, false, 0⟩ s
    if r.1 then when (e != 0) (count p .EQ_ERASED_CW) r.2 else failCw p r.2

/-- `n` codeword bits received, erased or not (R142, R221). -/
def takeBits (p : Nat) (erased : Bool) : Nat → Nat → State → State
  | 0, _, s => s
  | k + 1, n, s =>
    let g := (s.port p).sig
    if g.rxBits + n < 2304 then
      modSig p (fun g => { g with rxBits := g.rxBits + n, rxErased := g.rxErased + if erased then n else 0 }) s
    else
      let need := 2304 - g.rxBits
      let s := modSig p (fun g => { g with rxErased := g.rxErased + if erased then need else 0 }) s
      let s := finishCw p s
      takeBits p erased k (n - need) (modSig p (fun g => { g with rxBits := 0, rxErased := 0 }) s)

/-- The receiver's counters after a symbol: its number, its mark, the partner's generator, the receive power every 1,024
symbols. -/
def countSymbol (p : Nat) (o : RxSymbol) (kind : RxKind) (n : Nat) (marked : Bool) (s : State) : State :=
  let s := when (n % 1024 == 0) (setS p .AFE_RX_POWER o.power) s
  modSig p (fun g => { g with
    rxSym := n, marks := ((n, marked) :: g.marks).take 256, winSym := g.winSym + 1
    rxGen := if kind = .train then afterTones (tonesOf (isShort p s)) g.rxGen else g.rxGen }) s

/-- One symbol received (R202). In T1 the partner's counter holds 0 (R174). -/
def receiveSymbol (p : Nat) (o : RxSymbol) (s : State) : State :=
  let st := stOf p s
  if !(st == stShow || st == stLoop || st == stQuiet || st == stT1 || 2 ≤ phaseOf p s || st == stFast) then s
  else
    let n := if st = stT1 || o.turn = 1 then 0 else ((s.port p).sig.rxSym + 1) % 2 ^ 24
    let kind := rxKind p n o s
    let i := (s.port p).sig.winSym
    let s := if st = stT1 ∧ kind = .silent ∧ !(s.port p).link.warm ∧ (s.port p).link.window < 2 then
      searchHybrid p i o s else s
    let s := when (phaseOf p s == 3 && i == 1024 && isSet p .EQ_TEQ_ACTIVE s && !(s.port p).link.warm)
      (modSig p fun g => { g with feq := [] }) s
    let r := processSymbol p o kind i n s
    let s := countSymbol p o kind n r.1 r.2
    let s := modSig p (fun g => { g with rxPos := min (g.rxPos + 1) 257 }) s
    let s := when (isSlave p s && 2 ≤ phaseOf p s) (onNamed p n) s
    if kind = .data then
      let c := codewordBits (tableOf p 2 s)
      judgeHold p (takeBits p (r.1 && getF p .EQ_ERASE_EN s == 1) (c / 2304 + 2) c s)
    else s

/-! ### The commands -/

/-- SYMBOL_RX (R202). -/
def execSymbolRx (p : Fin 8) (o : RxSymbol) (s : State) : Answer := .next (portEvent p (fun s => receiveSymbol p o s) s)

/-- IMPULSE_EVENT_END (R222, R312): clean blocks have passed since the last one examined. -/
def execImpulseEventEnd (p : Fin 8) (blocks : Nat) (s : State) : Answer :=
  .next (portEvent p (fun s => endImpulse p blocks s) s)

/-- IMPULSE_HOLD_MAX (R252). -/
def execImpulseHoldMax (p : Fin 8) (s : State) : Answer :=
  .next (portEvent p (fun s => if getF p .LAYBY_P_IN_HOLD s = 1 then
    sticky .LAYBY_P_HOLD_MAX p (setF p .LAYBY_P_IN_HOLD 0 (modSig p (fun g => { g with holdBar := true }) s))
  else s) s)

end Sys2Proof.Machine
end

