-- ==== Sys2Proof/Machine/Superframe.lean ====
section
/-! DEFINITION. Superframes, table switches and overhead fields received in showtime (R131, R132, R134, R139, R145, R181 to
R185, R188, R190, R191, R249 to R252, R315, R390). -/

namespace Sys2Proof.Machine

/-! ### Superframe boundaries and table switches (R131, R132, R139, R182, R315) -/

/-- A change's parameters take effect with the transmit switch (R188 step 7). -/
def applyReconf (p : Nat) (s : State) : State :=
  let r := (s.port p).rc
  let s := setAll p [(.PORT_CTL_PROFILE, r.profile), (.TXSH_PSD_ACT, r.psd), (.TXSH_NOTCH_ACT, r.notch)] s
  let s := match r.maskIn with
    | some m => modLink p (fun l => { l with partner := l.partner.map fun c => { c with bps := m.1, notches := m.2 } }) s
    | none => s
  settleClasses p (modRc p (fun r => { r with admHeld := false }) (forceProfile p s))

/-- Both directions of a change have switched. -/
def finishReconf (p : Nat) (s : State) : State :=
  if (s.port p).rc.running && getF p .TONES_TX_PENDING s = 0 && getF p .TONES_RX_PENDING s = 0 then
    modRc p (fun r => { seq := r.seq, heard := r.heard }) s
  else s

/-- The transmit switch of superframe S (R139). -/
def switchTx (p : Nat) (s : State) : State :=
  if getF p .TONES_TX_PENDING s = 1 && getF p .TONES_TX_SW_SF s = getF p .TONES_TX_SF_CNT s then
    let old := if (s.port p).rc.running then some (txPlanOf p s) else none
    let s := setTable p 0 (tableOf p 1 s) s
    let s := setF p .TONES_TX_PENDING 0 (modSig p (fun g => { g with invert := true, oldTx := old }) s)
    let s := count p .TONES_SWITCHES s
    finishReconf p (if (s.port p).rc.running then applyReconf p s else s)
  else s

/-- The receive switch of superframe S (R139), with the end of RECONF_GO (R188). A block of 1,024 data symbols that completes
with it is discarded, and margins stay (R225). -/
def switchRx (p : Nat) (s : State) : State :=
  let s := modSig p (fun g => { g with
    noise := if 1023 ≤ g.noiseN then [] else g.noise, noiseN := if 1023 ≤ g.noiseN then 0 else g.noiseN
    oldTx := if g.txPos = 0 then g.oldTx else none }) s
  let s := setTable p 2 (tableOf p 3 s) s
  let s := setF p .TONES_RX_PENDING 0 s
  let s := sticky .TONES_SWITCHED p (count p .TONES_SWITCHES s)
  let r := (s.port p).rc
  let s := if !r.running then s
    else
      let s := count p .PORT_CTL_RECONFS s
      if r.initiator then sticky .PORT_CTL_RECONF_DONE p (cmdStop p .PORT_CTL_RECONF_GO 2 s)
      else sticky .PORT_CTL_PARTNER_RECONF p s
  finishReconf p s

/-- Δ of R182: round(e ÷ 2) samples for e in 1/16 sample, −64 to +63. A tie the spec does not settle is free.
(DEDUCED, log 78) -/
def taDelta (e : Int) (tie : Bool) : Int :=
  let q := e / 32
  let r := e % 32
  max (-64) (min 63 (if r < 16 then q else if 16 < r then q + 1 else q + (if tie then 1 else 0)))

/-- F(k) turned by the linear phase of a shift of `d` samples: the slave's symbols come earlier at the master, the master's
later in the slave's window (R182, R203). (DEDUCED, log 78) -/
def turnFeq (p : Nat) (d : Int) (s : State) : State :=
  let n := bodyOf (isShort p s)
  let g := (s.port p).sig
  let sign : Int := if isSlave p s then 1 else -1
  let feq := g.feq.zipIdx.map fun e =>
    let v := cmul (turnOf ((sign * e.1.1 * d : Int) / (n : Rat))) ((e.1.2.1 : Rat), (e.1.2.2 : Rat))
    (e.1.1, storeCx (s.fresh + 2 * e.2) v)
  { modSig p (fun g => { g with feq := feq }) s with fresh := s.fresh + 2 * feq.length }

/-- A transmit advance agreed for this superframe: TA + Δ and the FEQ turned at both ends, one prefix changed at the slave
(R181, R182). -/
def applyTa (p : Nat) (s : State) : State :=
  match (s.port p).rc.taAdj with
  | some (sf, d) =>
    if sf = getF p .TONES_TX_SF_CNT s then
      let s := modRc p (fun r => { r with taAdj := none }) s
      let s := setF p .LINKUP_TA ((getF p .LINKUP_TA s : Int) + d).toNat s
      let s := setF p .LAYBY_P_L (lagOf p s) s
      let s := setF p .LAYBY_P_RT_SYM (lagOf p s + 2) s
      let s := when (isSlave p s) (modSig p fun g => { g with extraPrefix := -d }) s
      sticky .LINKUP_TA_ADJUSTED p (count p .LINKUP_TA_ADJS (turnFeq p d s))
    else s
  | none => s

/-- The master's alignment over the superframe that ends (R182): a correction, or the loss of alignment.
(DEDUCED, log 78) -/
def judgeAlign (p : Nat) (e : Int) (s : State) : State :=
  if !isMaster p s then s
  else
    let s := setS p .LINKUP_ALIGN_ERR e s
    let slack := (ceSamples (getF p .TXSH_CE s) : Int) - (getF p .TXSH_COVER s : Int)
    if decide (16 * slack < e) || decide (e < -16 * (getF p .LINKUP_TA s : Int)) then
      retrainBy p 10 false false (sticky .LINKUP_ALIGN_LOST p s)
    else if 64 ≤ e.natAbs && (s.port p).rc.req.isNone && (s.port p).rc.taAdj.isNone then
      let d := taDelta e (free s % 2 == 1)
      let s := if e % 32 = 16 then spend s else s
      let s := when (stOf p s == stQuiet) (modWatch p fun w => { w with wakePend := true }) s
      rcPost p 5 (codeOf 8 d) s
    else s

/-- LPI entry decided and made (R315). (DEDUCED, log 81) -/
def judgeLpi (p : Nat) (s : State) : State :=
  let w := (s.port p).watch
  let cnt := getF p .TONES_TX_SF_CNT s
  let s := if w.lpiAllTx && w.lpiAllRx && w.lpiBad ≤ 8 && w.lpiAt.isNone && stOf p s == stShow && 0 < w.idleRun then
      modWatch p (fun w => { w with lpiAt := some ((cnt + 1) % 2 ^ 32) }) s else s
  let s := modWatch p (fun w => { w with lpiAllTx := true, lpiAllRx := true, lpiBad := 0 }) s
  if w.lpiAt == some cnt && stOf p s = stShow then
    let s := modSig p (fun g => { g with pilotBad := 0, sfMiss := 0 }) s
    count p .WATCH_LPI_ENTRIES (enterSt p stQuiet (modWatch p (fun w => { w with lpiAt := none }) s))
  else s

/-- MEAN_IT and the port's core and engine occupancy over the superframe of a number of samples that ends (R32, R264, R265):
a core runs 8 iterations in 576 ns (R20), so one in 72 ns; what engines do is not stated, so theirs is a free value. (DESIGN
CHOICE, log 108) -/
def noteDecoding (p samples : Nat) (s : State) : State :=
  let g := (s.port p).sig
  let cores := (resourcesOf p s).2.2
  let f : Fld := if p % 2 = 0 then .DECPOOL_UTIL_EVEN else .DECPOOL_UTIL_ODD
  let s := if g.itCw = 0 then s else setF p .FEC_MEAN_IT (roundQ s ((10 * g.itSum : Nat) / (g.itCw : Rat))).toNat s
  let busy : Rat := (57600 * g.itSum : Nat) / (samples * cores : Nat)
  let e : Fld := if p % 2 = 0 then .ENGPOOL_ENG_UTIL_EVEN else .ENGPOOL_ENG_UTIL_ODD
  let s := spend (setF (pavOf p) f (min 100 (roundQ s busy).toNat) s)
  spend (setF (pavOf p) e (free s % 101) s)

/-- A superframe boundary of the transmitter (R131, R132, R139, R182, R185, R315, R390); also in the 8 data symbols before a
fast retrain. -/
def boundary (p : Nat) (e : Int) (s : State) : State :=
  if !(trunkShow p s || sendsData p s) then s
  else
    let s := setF p .TONES_TX_SF_CNT (getF p .TONES_TX_SF_CNT s + 1) s
    let cnt := getF p .TONES_TX_SF_CNT s
    if stOf p s = stFast then modSig p (fun g => { g with txPos := 0 }) s
    else
      let s := noteDecoding p (257 * symPeriod p s) s
      let s := when ((s.port p).sig.paused && !(s.port p).rc.pauseOwn) (modRc p fun r => { r with pauseSf := none }) s
      let s := modSig p (fun g => { g with
        txPos := 0, doneCw := 0, failCw := 0, itSum := 0, itCw := 0, paused := (s.port p).rc.pauseSf == some cnt
        failRun := if g.paused || stOf p s == stQuiet then g.failRun
          else if g.doneCw < 2 * g.failCw then g.failRun + 1 else 0 }) s
      let s := modCal p (fun c => { c with bgPaused := c.bgPaused || (s.port p).sig.paused }) s
      let s := when (stOf p s == stQuiet) (count p .WATCH_QUIET_SF) s
      let s := applyTa p (switchTx p (rcWithdraw p s))
      judgeLpi p (judgeAlign p e s)

/-- A received sync symbol (R132, R134, R139): it is processed as a known symbol where it is found. -/
def onSync (p : Nat) (found inverted : Bool) (o : RxSymbol) (s : State) : State :=
  if !(trunkShow p s || stOf p s == stLoop) then s
  else
    let s := if (s.port p).sig.rxFirst then s else setF p .TONES_RX_SF_CNT (getF p .TONES_RX_SF_CNT s + 1) s
    let s := modSig p (fun g => { g with
      rxFirst := false, rxPos := 0, rxBits := 0, rxErased := 0, sfMiss := if found then 0 else g.sfMiss + 1 }) s
    let n := ((s.port p).sig.rxSym + 1) % 2 ^ 24
    let kind := if stOf p s = stQuiet then rxKind p n o s else if found then .sync inverted else .unknown
    let s := countSymbol p o kind n false (processSymbol p o kind 0 n s).2
    if getF p .TONES_RX_PENDING s = 1 && getF p .TONES_RX_SW_SF s = getF p .TONES_RX_SF_CNT s then
      let s := when (found && !inverted) (fun s => sticky .TONES_SYNC_FLAG_MISS p (count p .TONES_SYNC_FLAG_MISS s)) s
      switchRx p s
    else when (found && inverted) (fun s => sticky .TONES_SYNC_FLAG_UNEXP p (count p .TONES_SYNC_FLAG_UNEXP s)) s

/-! ### Overhead fields received (R145, R183, R191, R249 to R252) -/

/-- The bytes of the segments that a message of the LEN in its first segment takes (R190). -/
def segmentBytes (bs : List Byte) : Nat := (beNat ((bs.drop 1).take 2) + 19) / 13 * 13

/-- A message whose last segment has come: it is discarded where its segments are not those of its LEN (R191). -/
def closeMessage (p mid : Nat) (bs : List Byte) (s : State) : State :=
  let len := beNat ((bs.drop 1).take 2)
  let body := bs.take (3 + len)
  if bs.length ≠ segmentBytes bs then s
  else
    onOamMessage p mid (beNat (bs.take 1)) ((bs.drop 3).take len)
      (crc32 0xFFFFFFFF body == beNat ((bs.drop (3 + len)).take 4)) s

/-- A segment of an OAM message (R190, R191): an ACK lies in one segment; a missing segment, or one more than LEN takes,
drops the message. -/
def onSegment (p : Nat) (seg : List Byte) (s : State) : State :=
  let b := beNat (seg.take 1)
  let mid := bitsOf b 0 4
  let drop := modOam p (fun o => { o with asm := none })
  if mid = 0 then s
  else if bitOf b 7 && bitOf b 6 then closeMessage p mid (seg.drop 1) s
  else if bitOf b 7 then modOam p (fun o => { o with asm := some (mid, seg.drop 1) }) s
  else match (s.port p).oam.asm with
    | some (m, bs) =>
      if m ≠ mid ∨ segmentBytes bs ≤ bs.length then drop s
      else if bitOf b 6 then closeMessage p mid (bs ++ seg.drop 1) (drop s)
      else modOam p (fun o => { o with asm := some (mid, bs ++ seg.drop 1) }) s
    | none => s

/-- The reconfiguration operation of a field; a request already heard is not taken again (R183). -/
def onRcBytes (p : Nat) (bs : List Byte) (s : State) : State :=
  let b0 := beNat (bs.take 1)
  let op := bitsOf b0 4 4
  let seq := bitsOf b0 0 4
  let arg := beNat ((bs.drop 1).take 1)
  let sf := beNat ((bs.drop 2).take 4)
  if op = 0 || 9 ≤ op then s
  else if op = 7 then onRcAck p seq arg s
  else if op = 8 then onRcNak p seq (bitsOf arg 4 4) (bitsOf arg 0 4) s
  else if (s.port p).rc.heard == some (op, seq) then s
  else
    let s := modRc p (fun r => { r with heard := some (op, seq) }) s
    if op = 1 then onSwapReq p seq sf s
    else if op = 2 then onReconfReq p seq arg s
    else if op = 3 then onDrained p seq s
    else if op = 4 then onRcCommit p seq sf s
    else if op = 5 then onTaAdj p seq arg sf s
    else onCalPause p seq sf s

/-- IMPULSE received: the SENT codewords in the reflected symbols are scheduled for resend (R249, R251). -/
def onImpulse (p : Nat) (s : State) : State :=
  let x := s.port p
  let lag := getF p .LAYBY_P_L s
  let j := x.sig.rxSym
  let own := [(j + 2 ^ 24 - lag) % 2 ^ 24] ++ if x.sig.rxPos = 1 then [(j + 2 ^ 24 - lag - 1) % 2 ^ 24] else []
  let hit := fun (w : TxCw) => own.any fun n => symAge n w.firstSym ≤ symAge w.lastSym w.firstSym
  let n := (x.cws.filter fun w => w.st == .sent && w.node != 31 && hit w).length
  countBy p .LAYBY_P_IMP_RESENDS n (scheduleAll p hit s)

/-- A received overhead field (R145): what it acknowledges is freed before what it NACKs or shows as struck is sent again
(R247). -/
def onOverhead (p : Nat) (bs : List Byte) (s : State) : State :=
  if !(trunkShow p s || stOf p s == stLoop) then s
  else if !overheadOk bs then
    let s := modWatch p (fun w => { w with lpiBad := w.lpiBad + 1 }) s
    let s := modOam p (fun o => { o with asm := none }) (modSig p (fun g => { g with ohLost := true }) s)
    judgeHold p (sticky .TONES_OH_ERR p (count p .TONES_OH_ERR s))
  else
    let b0 := beNat (bs.take 1)
    let b1 := beNat ((bs.drop 1).take 1)
    let now := getF p .TONES_TX_SYM_CNT s
    let rt := getF p .LAYBY_P_RT_SYM s
    let s := modSig p (fun g => { g with
      gradeRx := bitsOf b1 5 3, ohLost := false, cleanRun := if bitOf b1 4 then 0 else g.cleanRun + 1 }) s
    let s := forAll (List.range 4) (fun i s =>
      let mp := (bs.drop (2 + 10 * i)).take 10
      onMilepost p 0 (4 * (if bitOf b0 3 then 1 else 0) + i) (beNat (mp.take 2)) (beNat (mp.drop 2))
        (fun w => agedBy rt now w.lastSym) s) s
    let s := if bitOf b1 4 then enterHold p (onImpulse p s) else judgeHold p s
    let s := updPressures p s
    let s := modWatch p (fun w => { w with lpiAllRx := w.lpiAllRx && bitOf b1 2 }) s
    let s := onSegment p ((bs.drop 48).take 14) (onRcBytes p ((bs.drop 42).take 6) s)
    if bitOf b1 3 then retrainBy p 11 true false s else s

/-! ### The commands -/

/-- SUPERFRAME_BOUNDARY (R131); `alignErr` in 1/16 sample. -/
def execSuperframeBoundary (p : Fin 8) (alignErr : Int) (s : State) : Answer := .next (portEvent p (fun s => boundary p alignErr s) s)

/-- SYNC_SYMBOL_RX (R139). -/
def execSyncSymbolRx (p : Fin 8) (m : SyncMark) (o : RxSymbol) (s : State) : Answer :=
  .next (portEvent p (fun s => onSync p m.found m.inverted o s) s)

/-- OVERHEAD_RX (R145). -/
def execOverheadRx (p : Fin 8) (field : List Byte) (s : State) : Answer := .next (portEvent p (fun s => onOverhead p field s) s)

end Sys2Proof.Machine
end

