-- ==== Sys2Proof/Machine/Watch.lean ====
section
/-! DEFINITION. Line quality in showtime, watch intervals, low-power idle, reflectometry and survey (R186, R214, R222,
R224, R310 to R335). -/

namespace Sys2Proof.Machine

/-! ### Hybrid recalibration's start (R389) -/

/-- A hybrid recalibration may start: trunk showtime, CAL EN = 1, no switch pending, no RECONF and none under way. -/
def mayHyb (p : Nat) (s : State) : Bool :=
  trunkShow p s && enOf .CAL p s == 1 && !rcBusy p s && (s.port p).rc.req.isNone && (s.port p).rc.pauseSf.isNone &&
    !(s.port p).cal.hybWait

/-- The automatic form, at most once in 10 s, when ECHO_LOW sets. -/
def autoHyb (p : Nat) (s : State) : State :=
  let c := (s.port p).cal
  let rested := match c.hybAt with | some t => t + 1250000000 ≤ s.cycles | none => true
  if rwF p .CAL_HYB_AUTO s = 1 && mayHyb p s && rested then
    startHyb p (modCal p (fun c => { c with hybAt := some s.cycles }) s)
  else s

/-- ERLE_SHOW computed (R214). (DEDUCED, log 82) -/
def noteErle (p erle : Nat) (s : State) : State :=
  if stOf p s ≠ stShow then s
  else
    let low := decide (erle < getF p .ECHO_ERLE_WARN s)
    let was := (s.port p).watch.erleLow
    let s := setF p .ECHO_ERLE_SHOW erle (modWatch p (fun w => { w with erleLow := low }) s)
    if low && !was then autoHyb p (sticky .ECHO_ECHO_LOW p s) else s

/-! ### Margins (R224) and bit swaps (R186) -/

/-- The margin of a data tone in 0.1 dB (R224), `v` its SNR. -/
def marginOf (gamma : Int) (v : Int) (e : ToneEntry) : Int := v + e.gain - loadNeed e.bits - gamma

/-- The margins of the data tones of the receive active table. -/
def toneMargins (p : Nat) (s : State) : NMap Int :=
  (dataTones (tableOf p 2 s)).map fun e =>
    (e.1, marginOf (gammaOf (codeRate p s)) (mapGetD (s.port p).sig.snr e.1 (-2048)) e.2)

/-- Margins in ascending order. -/
def ascending (l : List Int) : List Int := l.mergeSort fun a b => decide (a ≤ b)

/-- The link margin at position ⌊0.01 × n⌋ (R224). -/
def linkMarginOf (l : List Int) : Int := (ascending l).getD (l.length / 100) 0

/-- The entry of a tone that crossed a limit, loaded again at the profile's target (R152, R186). -/
def swapEntry (p : Nat) (s : State) (k : Nat) (e : ToneEntry) : ToneEntry :=
  let gamma := gammaOf (codeRate p s)
  let v := mapGetD (s.port p).sig.snr k (-2048)
  let m := marginOf gamma v e
  let b := bitsFor (v + e.gain - gamma - profMargin (profileOf p s))
  if !e.isData then e
  else if decide (m ≤ (getF p .LINKUP_SWAP_LOW s : Int)) && b < e.bits then { e with bits := b, gain := if b = 0 then 0 else e.gain }
  else if decide ((getF p .LINKUP_SWAP_HIGH s : Int) ≤ m) && e.bits < b then { e with bits := e.bits + 1 }
  else e

/-- The receiver's bit swap: the affected tones loaded again, a TONES message sent when the table meets the rules. -/
def judgeSwap (p : Nat) (s : State) : State :=
  if getF p .LINKUP_BITSWAP_EN s ≠ 1 || stOf p s != stShow then s
  else
    let cores := (resourcesOf p s).2.2
    let tab := markOverhead (trimBits (mapVals (swapEntry p s) (tableOf p 2 s)) (capacityBits cores (symPeriod p s) + 512))
    if tableHolds (isShort p s) cores (symPeriod p s) (txPlanOf p s).level tab then startSwap p tab s else s

/-- IL_SHOW of the groups with a data tone while DIAG EN is 1, as measured (R326); a value that the command does not bring is
free. (DESIGN CHOICE, log 108) -/
def noteIlShow (p : Nat) (il : List (Nat × BitVec 12)) (s : State) : State :=
  if enOf .DIAG p s ≠ 1 then s
  else
    let short := isShort p s
    let tones := (dataTones (tableOf p 2 s)).map (·.1)
    let hit := fun (g : Nat) => tones.any fun k => if short then k * 4 / 64 == g else k / 64 == g
    let l := (List.range 256).filter hit
    spend (modWatch p (fun w => { w with ilShow := l.map fun g => (g, match il.find? fun e => e.1 == g with
      | some e => e.2.toNat
      | none => Config.freeValue (s.fresh + g) % 4096) })
      { s with fresh := s.fresh + 256 })

/-- The lowest margin of the watch interval follows a new link margin. -/
def noteMargin (p : Nat) (m : Int) : State → State :=
  modWatch p fun w => { w with marginMin := some (match w.marginMin with | some v => min v m | none => m) }

/-- Margins after a completed block of 1,024 unmarked data symbols, whose noise gives SNR(k); a new block starts (R223, R224).
(DEDUCED, log 82) -/
def onMargins (p : Nat) (il : List (Nat × BitVec 12)) (s : State) : State :=
  if !(stOf p s == stShow || stOf p s == stLoop) || (s.port p).sig.paused || (s.port p).sig.noiseN < 1024 then s
  else
    let now := measuredSnr p s
    let s := modSig p (fun g => { g with snr := mapPutAll g.snr now, noise := [], noiseN := 0 }) s
    let l := toneMargins p s
    let s := modSig p (fun g => { g with margins := l }) s
    if l.isEmpty then s
    else
      let m := linkMarginOf (l.map (·.2))
      let least := (ascending (l.map (·.2))).headD 0
      let worst := ((l.find? fun e => e.2 == least).map (·.1)).getD 0
      let floor := getS p .LINKUP_MARGIN_MIN s
      let was := isSet p .EQ_MARGIN_VALID s && decide (getS p .EQ_LINK_MARGIN s < floor)
      let s := setS p .EQ_LINK_MARGIN m (setS p .EQ_MIN_MARGIN least s)
      let s := setAll p [(.EQ_WORST_TONE, worst), (.EQ_MARGIN_VALID, 1)] s
      let s := when (decide (m < floor) && !was) (sticky .EQ_MARGIN_LOW p) s
      judgeSwap p (noteIlShow p il (noteMargin p m s))

/-! ### Watch intervals (R310, R311, R313) -/

/-- The link margin of the watch: R224's, or in spur mode the lowest of any joined partner (R310). (DEDUCED, log 106) -/
def watchMargin (p : Nat) (s : State) : Int :=
  if isSpur p s then
    let own := rwF p .ROUNDABOUT_NODE_ID s
    let mem := getF p .ROUNDABOUT_MEMBERS s
    (ascending (((s.port p).spur.nodes.filter fun e => e.1 != own && bitOf mem e.1).map fun e => e.2.margin)).headD 0
  else getS p .EQ_LINK_MARGIN s

/-- The component grade of a margin in 0.1 dB. -/
def gradeMargin (m : Int) : Nat :=
  if 60 ≤ m then 7 else if 45 ≤ m then 6 else if 30 ≤ m then 5 else if 20 ≤ m then 4
  else if 10 ≤ m then 3 else if 0 ≤ m then 2 else 1

/-- The component grade of a fail ratio. -/
def gradeErr (fail cw : Nat) : Nat :=
  if fail * 10 ^ 7 ≤ cw || cw = 0 then 7 else if fail * 10 ^ 6 ≤ cw then 6 else if fail * 10 ^ 5 ≤ cw then 5
  else if fail * 10 ^ 4 ≤ cw then 4 else if fail * 10 ^ 3 ≤ cw then 3 else if fail * 10 ^ 2 ≤ cw then 2 else 1

/-- The component grade of lost frames and long impulses. -/
def gradeDrop (exp : Nat) (long : Bool) : Nat := if exp ≠ 0 then 1 else if long then 3 else 7

/-- n Σxy − Σx Σy and n Σx² − (Σx)² of the stored margins against their end times in 8 ns cycles. -/
def slopeParts (l : List (Nat × Int)) : Int × Int :=
  let n : Int := l.length
  let sx : Int := l.foldl (fun a e => a + e.1) 0
  let sy : Int := l.foldl (fun a e => a + e.2) 0
  let sxy : Int := l.foldl (fun a e => a + e.1 * e.2) 0
  let sxx : Int := l.foldl (fun a e => a + e.1 * e.1) 0
  (n * sxy - sx * sy, n * sxx - sx * sx)

/-- The least-squares slope in 0.01 dB per hour: 4.5 × 10^11 cycles of 8 ns an hour, margins in 0.1 dB. Where the
times do not differ the spec states none. (DEDUCED, log 107) -/
def trendOf (s : State) (l : List (Nat × Int)) : Int :=
  let q := slopeParts l
  if q.2 = 0 then Config.freeRound s.fresh 0 else roundQ s ((q.1 * 4500000000000 : Int) / (q.2 : Rat))

/-- The interval's counts start again. -/
def restartInterval (p : Nat) (s : State) : State :=
  let m := if getF p .EQ_MARGIN_VALID s = 1 then some (getS p .EQ_LINK_MARGIN s) else none
  modWatch p (fun w => { w with
    running := true, cw := 0, fail := 0, sent := 0, resends := 0, expTx := 0, expRx := 0, long := false
    marginMin := m }) s

/-- The projected margin is too low (R313). -/
def predLow (p : Nat) (s : State) : Bool :=
  isSet p .WATCH_PRED_EN s && isSet p .WATCH_TREND_VALID s && decide (getS p .WATCH_TREND s < 0) &&
    decide (getS p .WATCH_PROJ_MARGIN s < getS p .LINKUP_MARGIN_MIN s)

/-- The port starts a predictive retrain where it may (R313). (DEDUCED, log 107) -/
def predict (p : Nat) (s : State) : State :=
  if !predLow p s then s
  else
    let s := sticky .WATCH_PRED_LOW p s
    let held := match (s.port p).watch.predHold with | some t => s.cycles < t | none => false
    if isSet p .WATCH_PRED_RETRAIN_EN s && !held && trunkShow p s then
      let until_ := s.cycles + getF p .WATCH_PRED_HOLDOFF s * 7500000000
      let s := modWatch p (fun w => { w with predHold := some until_ }) s
      retrainBy p 10 true true (sticky .WATCH_PRED_RETRAIN p (count p .WATCH_PRED_RETRAINS s))
    else s

/-- The end of a watch interval. (DEDUCED, log 106) -/
def endInterval (p : Nat) (s : State) : State :=
  let w := (s.port p).watch
  if !w.running || getF p (.en .WATCH) s ≠ 1 || !inShow p s || stOf p s == stLoop then s
  else
    let endM := watchMargin p s
    let least := w.marginMin.getD endM
    let gm := gradeMargin least
    let ge := gradeErr w.fail w.cw
    let gd := gradeDrop w.expRx w.long
    let g := min gm (min ge gd)
    let wasGood := getF p .WATCH_GRADE_VALID s = 0 || getF p .WATCH_GRADE_WARN s ≤ getF p .WATCH_GRADE s
    let s := setS p .WATCH_INT_MARGIN_MIN least (setS p .WATCH_INT_MARGIN_END endM s)
    let s := setAll p [(.WATCH_INT_CW, w.cw), (.WATCH_INT_FAIL, w.fail), (.WATCH_INT_SENT, w.sent),
      (.WATCH_INT_RESENDS, w.resends), (.WATCH_INT_EXP_TX, min w.expTx 65535), (.WATCH_INT_EXP_RX, min w.expRx 65535),
      (.WATCH_INT_LONG, ofBool w.long), (.WATCH_G_MARGIN, gm), (.WATCH_G_ERR, ge), (.WATCH_G_DROP, gd),
      (.WATCH_GRADE, g), (.WATCH_GRADE_VALID, 1)] s
    let s := when (wasGood && g < getF p .WATCH_GRADE_WARN s) (sticky .WATCH_GRADE_LOW p) s
    let l := ((s.cycles, endM) :: w.trend).take 64
    let s := modWatch p (fun w => { w with trend := l }) (restartInterval p s)
    let s := spend (setS p .WATCH_TREND (trendOf s l) s)
    let s := setF p .WATCH_TREND_VALID (ofBool (16 ≤ l.length)) s
    let proj := roundQ s (endM + (getS p .WATCH_TREND s * getF p .WATCH_PRED_HORIZON s : Int) / (600 : Rat))
    predict p (spend (setS p .WATCH_PROJ_MARGIN proj s))

/-- WATCH EN written: 0 discards the interval, 1 in showtime starts one (R310, R336). -/
def watchEnable (p : Nat) (on : Bool) (s : State) : State :=
  if on then (if inShow p s then restartInterval p s else s)
  else
    setAll p [(.WATCH_GRADE, 0), (.WATCH_GRADE_VALID, 0), (.WATCH_TREND_VALID, 0)]
      (modWatch p (fun w => { w with running := false, trend := [] }) s)

/-! ### Low-power idle (R317 to R319) -/

/-- A wake is due: something needs the line, or idle is switched off (R317, R320). -/
def wakeDue (p : Nat) (s : State) : Bool :=
  let x := s.port p
  !portIdle p s || x.watch.wakePend || x.rc.req.isSome || x.rc.resp.isSome || !x.oam.acks.isEmpty ||
    getF p (.en .WATCH) s != 1 || getF p .WATCH_LPI_EN s != 1

/-- The points of the first four short symbols of a wake burst, on every short tone from 2 on that is not notched; the fifth is
their negative (R317). -/
def wakePts (p : Nat) (s : State) : List TonePt :=
  let x := txPlanOf p s
  let x : TxPlan := { x with plan := { x.plan with short := true } }
  (genPoints (fun k => 2 ≤ k && !x.plan.notched k) 4096 0 2047).1.map fun e => qamPt x e.1 e.2

/-- A retrain trigger meets this event in the same cycle and wins over it (R321, R401). (DESIGN CHOICE, log 132) -/
def retrainMeets (p : Nat) (s : State) : Bool :=
  meets (fun c => match c with
    | .retrain q w => q.val == p && isKeeper w.mtag.toNat s && bitOf w.data.toNat 8
    | .retrainMargin q => q.val == p && marginTrigger p s
    | .retrainCwFail q => q.val == p && cwTrigger p s
    | .retrainPilot q => q.val == p && pilotTrigger p s
    | .retrainSfSync q => q.val == p && sfTrigger p s
    | _ => false) s

/-- The port leaves LPI_QUIET; the first bit it sends and receives then begins a codeword, and the superframe holds
as many as its rest carries; the scrambler stands where the symbols so far would have brought it (R143). (DEDUCED, log 80) -/
def leaveQuiet (p : Nat) (s : State) : State :=
  let cap := codewordBits (tableOf p 0 s)
  let left := (257 - (s.port p).sig.txPos) * cap / 2304
  let scr := steps23 (((s.port p).sig.txPos - 1) * tableBits (tableOf p 0 s)) (2 ^ 23 - 1)
  let s := modSig p (fun g => { g with
    carry := [], cwBits := 256 * cap / 2304 - left, scr := scr, rxBits := 0, rxErased := 0, pilotBad := 0, sfMiss := 0 }) s
  enterSt p stShow (modWatch p (fun w => { w with wakePend := false, lpiAllTx := false, lpiAllRx := false, lpiAt := none }) s)

/-! ### Reflectometry (R323 to R326) -/

/-- TDR_RUN may start (R324). -/
def mayTdr (p : Nat) (s : State) : Bool :=
  getF p (.en .DIAG) s == 1 && getF p .TXSH_TX_ALLOW s == 1 && domainOn (14 + p) s && domainOn (22 + p) s &&
    pavEnabled p s && lineMode p s != 0 && [stDisabled, stLinkDown, stFail].contains (stOf p s)

/-- The end of TDR_RUN: OUTCOME, and the state after DIAG (R320). -/
def endTdr (p oc : Nat) (s : State) : State :=
  let s := cmdStop p .DIAG_TDR_RUN oc s
  if stOf p s ≠ stDiag then s
  else if getF p (.en .PORT_CTL) s = 1 then toLinkDown p none s else toDisabled p s

/-- A run that finds a partner transmitting ends INPUT_UNFIT. -/
def unfitTdr (p : Nat) (s : State) : State := endTdr p 6 (sticky .DIAG_TDR_UNFIT p (count p .DIAG_TDR_UNFITS s))

/-- TDR_RUN started. -/
def startTdr (p : Nat) (s : State) : State :=
  if !mayTdr p s then cmdReject p .DIAG_TDR_RUN s
  else
    let n := getF p .DIAG_TDR_SWEEPS s
    let vf := getF p .DIAG_VF s
    enterSt p stDiag (modWatch p (fun w => { w with sweeps := n, tdrVf := vf, tdrAbort := false }) (cmdStart p .DIAG_TDR_RUN s))

/-- A distance in units of 0.01 m for a round trip of `rtt` × 0.125 ns at VF ÷ 1,000 (R323). -/
def distOf (rtt vf : Nat) : Rat := (rtt * vf * 299792458 * 125 : Nat) / (20000000000000 : Rat)

/-- The kind of an event of coefficient ρ in 0.001 (R325). -/
def tdrKind (rho : Int) : Nat := if 600 ≤ rho then 1 else if rho ≤ -600 then 2 else if 0 < rho then 3 else 4

/-- The event list of a run: at most 8 events within 200 m, nearest first. -/
def tdrEvents (s : State) (vf thr : Nat) (peaks : List Reflection) : List (Nat × Nat × Int × Nat) :=
  let l := peaks.filter fun r => thr ≤ r.rho.natAbs && decide (distOf r.rtt vf ≤ 20000)
  ((l.mergeSort fun a b => decide (a.rtt ≤ b.rtt)).take 8).zipIdx.map fun e =>
    ((roundQ { s with fresh := s.fresh + e.2 } (distOf e.1.rtt vf)).toNat % 65536, tdrKind e.1.rho, e.1.rho, e.1.rtt)

/-- The coefficient of largest magnitude, 0 for none. (DEDUCED, log 109) -/
def largest (l : List Int) : Int := l.foldl (fun a x => if a.natAbs < x.natAbs then x else a) 0

/-- The profile of a run's reflections (R328); a bin without a reflection reads 0. (DEDUCED, log 109) -/
def tdrProfile (vf : Nat) (peaks : List Reflection) : List Int :=
  (List.range 256).map fun i =>
    largest ((peaks.filter fun r =>
      decide ((25 * i : Rat) ≤ distOf r.rtt vf) && decide (distOf r.rtt vf < (25 * (i + 1) : Rat))).map (·.rho))

/-! ### Survey (R327 to R333) -/

/-- One entry of the survey log (R332). -/
def logEntry (p source bin : Nat) (mag : Int) (s : State) : List Nat :=
  let valid := isSet 0 .TIME_TIME_VALID s
  [if valid then s.secs % 2 ^ 32 else 0, if valid then s.nanos % 2 ^ 30 else 0, getF 0 .LODGE_RESET_COUNT s,
    p % 8 * 2 ^ 29 + source % 4 * 2 ^ 27 + ofBool valid * 2 ^ 26 + bin % 256 * 2 ^ 16 + codeOf 16 mag]

/-- Entries 0 to 62 of the survey log that are used. -/
def logUsed (s : State) : Nat := (s.log.filter fun e => e.1 < 63).length

/-- An event written to the log (R333): entry 63, and the next free entry or the overflow count. (DEDUCED, log 112) -/
def writeLog (p source bin : Nat) (mag : Int) (s : State) : State :=
  let e := logEntry p source bin mag s
  let n := logUsed s
  let s := count p .SURVEY_SV_EVENTS s
  if n < 63 then { s with log := mapPut (mapPut s.log n e) 63 e }
  else
    sticky .SURVEY_SV_LOG_FULL p (setF 0 .LODGE_LOG_OVF (satAdd 16 (getF 0 .LODGE_LOG_OVF s) 1)
      { s with log := mapPut s.log 63 e })

/-- ρ of a bin. -/
def rhoAt (l : List Int) (i : Nat) : Int := l.getD i 0

/-- m(i) of R329: the smallest difference from the baseline at i − 1, i and i + 1. -/
def missAt (now base : List Int) (i : Nat) : Nat :=
  (([i - 1, i, i + 1].filter fun j => j < 256).map fun j => (rhoAt now i - rhoAt base j).natAbs).foldl min
    (rhoAt now i - rhoAt base i).natAbs

/-- A profile compared with a reference: METRIC, LAST_BIN and, for a baseline, the event (R329). Where several bins
have the largest m(i), which one LAST_BIN names is free. The result says whether METRIC reached SV_THR.
(DESIGN CHOICE, log 110; DEDUCED, log 111) -/
def judgeProfile (p source persist : Nat) (event : Bool) (now base : List Int) (s : State) : Bool × State :=
  let bins := (List.range 256).filter fun i => getF p .SURVEY_SV_START s ≤ i && i ≤ getF p .SURVEY_SV_END s
  if bins.isEmpty then (false, s)
  else
    let metric := maxOf (bins.map (missAt now base))
    let ties := bins.filter fun i => missAt now base i == metric
    let bin := ties.getD (free s % ties.length) 0
    let hit := decide (getF p .SURVEY_SV_THR s ≤ metric)
    let run := if hit then min 15 (getF p .SURVEY_RUN s + 1) else 0
    let w := (s.port p).watch
    let below := if hit then 0 else w.below + 1
    let s := setAll p [(.SURVEY_METRIC, min metric 1023), (.SURVEY_LAST_BIN, bin), (.SURVEY_RUN, run)] (spend s)
    let fire := event && hit && persist ≤ run && !w.eventOpen
    let open_ := (w.eventOpen && !decide (persist ≤ below)) || fire
    let s := modWatch p (fun w => { w with below := below, eventOpen := open_ }) s
    (hit, if fire then writeLog p source bin (rhoAt now bin - rhoAt base bin) (sticky .SURVEY_SV_EVENT p s) else s)

/-- A current profile formed (R328): held, counted, given to a baseline being averaged, and compared (R329, R330). -/
def newProfile (p source : Nat) (rho : List Int) (s : State) : State :=
  let rho := (List.range 256).map (rhoAt rho)
  let s := count p .SURVEY_PROFILES (setF p .SURVEY_CUR_SRC (if source = 1 then 1 else 0)
    (modWatch p (fun w => { w with prof := some rho }) s))
  let s :=
    if !cmdRuns p .SURVEY_SV_BASE_SAVE s then s
    else if (s.port p).watch.baseAbort then cmdEnd p .SURVEY_SV_BASE_SAVE 3 (modWatch p (fun w => { w with acc := [] }) s)
    else if (s.port p).watch.acc.length < getF p .SURVEY_SV_AVG s then
      modWatch p (fun w => { w with acc := w.acc ++ [rho] }) s
    else s
  if getF p (.en .SURVEY) s ≠ 1 || getF p .SURVEY_BASE_VALID s ≠ 1 then s
  else if getF p .DIAG_VF s ≠ getF p .SURVEY_BASE_VF s then sticky .SURVEY_SV_VF_MISMATCH p s
  else (judgeProfile p source (getF p .SURVEY_SV_PERSIST s) true rho (mapGetD s.nvm.bases p []) s).2

/-- The survey comparison of a warm start (R331): true when it fails. An end without a baseline judges against the
reference of its stored channel profile. (DEDUCED, log 79) -/
def warmSurvey (p : Nat) (rho : List Int) (s : State) : Bool × State :=
  let rho := (List.range 256).map (rhoAt rho)
  let s := count p .SURVEY_PROFILES (setF p .SURVEY_CUR_SRC 0 (modWatch p (fun w => { w with prof := some rho }) s))
  if getF p (.en .SURVEY) s ≠ 1 then (false, s)
  else if getF p .SURVEY_BASE_VALID s = 1 then
    if getF p .DIAG_VF s ≠ getF p .SURVEY_BASE_VF s then (false, sticky .SURVEY_SV_VF_MISMATCH p s)
    else judgeProfile p 2 1 true rho (mapGetD s.nvm.bases p []) s
  else match (s.port p).stored with
    | some t => if t.survey.isEmpty then (false, s) else judgeProfile p 2 1 false rho t.survey s
    | none => (false, s)

/-- The results of a run that ends DONE (R325, R326, R328), with ABORT_LATE where its last silence was to be its abort point
(R334). -/
def finishTdr (p : Nat) (peaks : List Reflection) (loss : List (Nat × Nat)) (s : State) : State :=
  let vf := (s.port p).watch.tdrVf
  let ev := tdrEvents s vf (getF p .DIAG_TDR_THR s) peaks
  let far := match ev.getLast? with | some e => decide (e.2.1 ≤ 2) | none => false
  let pre : NMap Nat := if far then
      mapPutAll [] ((loss.filter fun g => g.1 < 256).map fun g => (g.1, (roundQ s ((g.2 : Nat) / (2 : Rat))).toNat % 4096))
    else []
  let s := modWatch p (fun w => { w with tdr := ev, ilPre := pre }) { s with fresh := s.fresh + 8 }
  let s := setAll p [(.DIAG_TDR_EVENTS, ev.length), (.DIAG_TDR_VALID, 1)] s
  let s := when (ev.any fun e => e.2.1 ≤ 2) (sticky .DIAG_TDR_FAULT p) s
  let s := sticky .DIAG_TDR_DONE p (count p .DIAG_TDR_RUNS s)
  let s := newProfile p 1 (tdrProfile vf peaks) (endTdr p 2 s)
  when (s.port p).watch.tdrAbort (setF p Fld.DIAG_TDR_RUN.abortLate 1) s

/-- One chirp over the band of the LINKUP block, with the mask that PSD_SEL selects (R324). -/
def sendChirp (p : Nat) (s : State) : State :=
  emitLine p (.chirp p (rwF p .LINKUP_BAND_LO s) (rwF p .LINKUP_BAND_HI s) (portMask p (rwF p .TXSH_PSD_SEL s) s)) s

/-- The end of a chirp's silence: an abort point; after the last chirp the run is done (R324). -/
def endSilence (p : Nat) (partnerPower : Bool) (peaks : List Reflection) (loss : List (Nat × Nat)) (s : State) : State :=
  if stOf p s ≠ stDiag || !cmdRuns p .DIAG_TDR_RUN s then s
  else if partnerPower then unfitTdr p s
  else if (s.port p).watch.sweeps ≤ 1 then finishTdr p peaks loss s
  else if (s.port p).watch.tdrAbort then endTdr p 3 s
  else sendChirp p (modWatch p (fun w => { w with sweeps := w.sweeps - 1 }) s)

/-- After TDR_RUN starts, the power on the line decides whether the first chirp goes out (R324). -/
def firstChirp (p : Nat) (partnerPower : Bool) (s : State) : State := if partnerPower then unfitTdr p s else sendChirp p s

/-- SV_BASE_SAVE started (R330). -/
def startBaseSave (p : Nat) (s : State) : State :=
  if !trunkShow p s || getF p (.en .SURVEY) s ≠ 1 then cmdReject p .SURVEY_SV_BASE_SAVE s
  else cmdStart p .SURVEY_SV_BASE_SAVE (modWatch p (fun w => { w with acc := [], baseAbort := false }) s)

/-- The average of a bin over profiles. -/
def meanBin (s : State) (l : List (List Int)) (i : Nat) : Int :=
  roundQ { s with fresh := s.fresh + i } (l.foldl (fun a r => a + rhoAt r i) 0 / (l.length : Rat))

/-- The baseline written to NVM and logged (R330). (DEDUCED, log 112) -/
def finishBaseSave (p : Nat) (s : State) : State :=
  let acc := (s.port p).watch.acc
  if !cmdRuns p .SURVEY_SV_BASE_SAVE s || acc.isEmpty || acc.length < getF p .SURVEY_SV_AVG s then s
  else
    let base := (List.range 256).map (meanBin s acc)
    let s := modNvm (fun n => { n with bases := mapPut n.bases p base }) { s with fresh := s.fresh + 256 }
    let s := setAll p [(.SURVEY_BASE_VALID, 1), (.SURVEY_BASE_VF, getF p .DIAG_VF s),
      (.SURVEY_BASE_GEN, getF p .SURVEY_BASE_GEN s + 1)] s
    let s := modWatch p (fun w => { w with acc := [] }) (cmdDoneLate p .SURVEY_SV_BASE_SAVE false s)
    writeLog p 3 0 0 (sticky .SURVEY_SV_BASE_SAVED p s)

/-! ### The commands -/

/-- ERLE_SHOW_UPDATE (R214). -/
def execErleShowUpdate (p : Fin 8) (erle : BitVec 12) (s : State) : Answer := .next (portEvent p (fun s => noteErle p erle.toNat s) s)

/-- MARGIN_UPDATE (R224). -/
def execMarginUpdate (p : Fin 8) (il : List (Nat × BitVec 12)) (s : State) : Answer :=
  .next (portEvent p (fun s => onMargins p il s) s)

/-- WATCH_INTERVAL_END (R310). -/
def execWatchIntervalEnd (p : Fin 8) (s : State) : Answer := .next (portEvent p (fun s => endInterval p s) s)

/-- WAKE_BURST (R317). -/
def execWakeBurst (p : Fin 8) (s : State) : Answer :=
  .next (portEvent p (fun s => if stOf p s = stQuiet && wakeDue p s && !retrainMeets p s then
    leaveQuiet p (emitLine p (.wake p (wakePts p s)) (modWatch p (fun w => { w with idleRun := 0 }) (count p .WATCH_WAKES_TX s)))
  else s) s)

/-- WAKE_DETECT (R318). (DEDUCED, log 128) -/
def execWakeDetect (p : Fin 8) (s : State) : Answer :=
  .next (portEvent p (fun s => if stOf p s = stQuiet && !retrainMeets p s then leaveQuiet p (count p .WATCH_WAKES_RX s) else s) s)

/-- A wake detection meets the mismatch rule in the same cycle: the detection wins (R321). (DESIGN CHOICE, log 132) -/
def detectMeets (p : Nat) (s : State) : Bool :=
  meets (fun c => match c with | .wakeDetect q => q.val == p | _ => false) s

/-- LPI_MISMATCH (R319). -/
def execLpiMismatch (p : Fin 8) (s : State) : Answer :=
  .next (portEvent p (fun s => if stOf p s = stQuiet && !detectMeets p s && !retrainMeets p s then
    leaveQuiet p (sticky .WATCH_LPI_MISMATCH p (count p .WATCH_LPI_MISMATCH s))
  else s) s)

/-- TDR_SILENCE_END (R324). -/
def execTdrSilenceEnd (p : Fin 8) (partnerPower : Bool) (peaks : List Reflection) (ilPre : List (Nat × Nat))
    (s : State) : Answer := .next (portEvent p (fun s => endSilence p partnerPower peaks ilPre s) s)

/-- A profile formed in showtime, unless adaptation is paused (R327). -/
def showProfile (p : Nat) (rho : List Int) (s : State) : State :=
  if stOf p s = stShow && (stepExp p 0 s).isSome then newProfile p 0 rho s else s

/-- SURVEY_PROFILE (R327): nothing for the profile that a baseline of the same cycle let go first. -/
def execSurveyProfile (p : Fin 8) (rho : List Int) (s : State) : Answer :=
  .next (portEvent p (fun s =>
    if (s.port p).watch.profAt = some s.cycles then modWatch p (fun w => { w with profAt := none }) s
    else showProfile p rho s) s)

/-- The profile that meets the completion of SV_BASE_SAVE in the same cycle is judged first, against the old baseline (R335).
(DESIGN CHOICE, log 132) -/
def profileFirst (p : Nat) (s : State) : State :=
  match s.pending with
  | .surveyProfile q rho :: _ =>
    if q.val = p then modWatch p (fun w => { w with profAt := some s.cycles }) (showProfile p rho s) else s
  | _ => s

/-- SV_BASE_SAVE_DONE (R330). -/
def execSvBaseSaveDone (p : Fin 8) (s : State) : Answer :=
  .next (portEvent p (fun s => finishBaseSave p (when (cmdRuns p .SURVEY_SV_BASE_SAVE s) (profileFirst p) s)) s)

end Sys2Proof.Machine
end

