-- ==== Sys2Proof/Machine/Frames.lean ====
section
/-! DEFINITION. Frames from the host into the lay-by, decoded codewords, and frames toward the host (R234 to R262,
R341, R342, R353). -/

namespace Sys2Proof.Machine

/-! ### Classification and ingress (R234, R238, R242) -/

/-- A frame carries an IEEE 802.1Q tag. -/
def tagged (bs : List Byte) : Bool := beNat ((bs.drop 12).take 2) == 0x8100

/-- The bucket of a destination MAC and VID (R238). -/
def bucketOf (seed mac vid : Nat) : Nat := crc32 seed (beBytes 6 mac ++ beBytes 2 vid) % 4096

/-- The stream of a frame from the host (R238). -/
def classify (p : Nat) (bs : List Byte) (s : State) : Nat :=
  let tci := beNat ((bs.drop 14).take 2)
  if etherType bs = 0x88F7 then getF p .STREAM_TS_STREAM s
  else if getF p .STREAM_CLS_MODE s = 0 then
    if tagged bs then bitsOf tci 13 3 else getF p .STREAM_DEFAULT_STREAM s
  else
    let mac := beNat (bs.take 6)
    let vid := if tagged bs then bitsOf tci 0 12 else 0
    let b := bucketOf (getF p .STREAM_SEED s) mac vid
    match (s.port p).layout.ways.find? fun w => w.entry / 2 == b && w.mac == mac && w.vid == vid with
    | some w => w.stream
    | none => getF p .STREAM_MISS_STREAM s

/-- A frame put into the queue of its stream, or dropped (R235, R242). The result says whether it is in a queue.
(DEDUCED, log 88) -/
def enqueue (p i : Nat) (bs : List Byte) (s : State) : Bool × State :=
  let e := streamOf p i s
  let x := s.port p
  let f : QFrame := { stream := i, bytes := bs, started := false, ident := x.nextFrame }
  let tailDrop := fun (s : State) => sticky .STREAM_TAILDROP p (count p .STREAM_TAILDROP (countStream p i 4 1 s))
  if e.cfg.fixed then
    if queueBytes x.fixedQ + bs.length ≤ 4096 then
      (true, modPort p (fun x => { x with fixedQ := x.fixedQ ++ [f], nextFrame := x.nextFrame + 1 }) s)
    else (false, count p .STREAM_FIXED_DROP (tailDrop s))
  else
    let q := classQ x e.cfg.cls
    if queueBytes q + bs.length ≤ 32768 then
      (true, settleClass p e.cfg.cls
        (modPort p (fun x => { x with nextFrame := x.nextFrame + 1 }) (setClassQ p e.cfg.cls (q ++ [f]) s)))
    else (false, tailDrop s)

/-- A frame from the host toward the line (R196, R234, R238, R347, R353); in a compatibility mode it goes to the
standard PHY while that has its link. (DEDUCED, log 92) -/
def offerFrame (p : Nat) (bs : List Byte) (s : State) : State :=
  let taken := fun (s : State) => countBy p .STATS_TX_OCTETS bs.length (count p .STATS_TX_FRAMES s)
  if getF p .HOST_LB_ACTIVE s = 4 then count p .HOST_LB_DROP s
  else if lineMode p s = 4 || stOf p s = stCompat then
    if getF p .LINKUP_T1_LINK s = 1 && !isSet p .TXSH_MUTED s then taken (emitLine p (.t1 p bs) s) else s
  else if getF p (.en .STREAM) s ≠ 1 then count p .STREAM_OFF_DROP s
  else if bs.length < 64 || 16000 < bs.length then sticky .STREAM_SIZE_DROP p (count p .STREAM_SIZE_DROP s)
  else
    let i := classify p bs s
    if (streamOf p i s).st ≠ 1 then count p .STREAM_OFF_DROP s
    else
      let r := enqueue p i bs s
      if r.1 then taken r.2 else r.2

/-- A stream enabled or refused (R239). -/
def enableStream (p i : Nat) (s : State) : State :=
  let v := enableVerdict p i s
  let s := modStream p i (fun e => { e with cfg := { e.cfg with sen := true }, st := v }) s
  if v = 1 then s else sticky .STREAM_GUAR_REFUSED p (count p .STREAM_GUAR_REFUSALS s)

/-- A stream disabled: its waiting frames are discarded as OFF_DROP; a head frame already admitted in part loses its
rest and is lost (R239, R256). (DEDUCED, log 87) -/
def disableStream (p i : Nat) (s : State) : State :=
  let x := s.port p
  let mine := fun (f : QFrame) => f.stream == i
  let waiting := ((x.inq.flatMap id) ++ x.fixedQ).filter fun f => mine f && !f.started
  let cut := ((x.inq.flatMap id).filter fun f => mine f && f.started).map (·.ident)
  let hit := x.txFrames.filter fun t => cut.contains t.ident && !t.lost
  let s := modPort p (fun x =>
    { x with inq := x.inq.map fun q => q.filter fun f => !mine f
             fixedQ := x.fixedQ.filter fun f => !mine f
             txFrames := x.txFrames.map fun t => if cut.contains t.ident then { t with lost := true, whole := true } else t }) s
  let s := modStream p i (fun e => { e with cfg := { e.cfg with sen := false }, st := 0 }) s
  let s := expireTx p i hit.length (countBy p .STREAM_OFF_DROP waiting.length s)
  settleClasses p (sweepFrames p i ((s.port p).txFrames.length + 1) s)

/-! ### Frames toward the host (R340, R342, R347) -/

/-- Frames for the lane that are discarded and counted (R340, R342). (DEDUCED, log 89) -/
def laneDrop (p n : Nat) : State → State := countBy p .HOST_LANE_DROP n

/-- A released frame goes to its egress queue when it fits; while the lane is down or HOST_NEAR is in force it is
discarded and counted, in REMOTE it goes back toward the line. None: it does not fit. -/
def deliver (p i c : Nat) (fixed : Bool) (bs : List Byte) (s : State) : Option State :=
  let l := (s.port p).lane
  if getF p .HOST_LB_ACTIVE s = 4 then
    if fixed || queueBytes (classQ (s.port p) (streamOf p i s).cfg.cls) + bs.length ≤ 32768 then
      some (if (streamOf p i s).st = 1 then (enqueue p i bs s).2 else count p .STREAM_OFF_DROP s)
    else none
  else if !laneUp p s || getF p .HOST_LB_ACTIVE s == 1 then some (laneDrop p 1 s)
  else if fixed then
    if (l.egFixed.map List.length).sum + bs.length ≤ 4096 then
      some (modLane p (fun l => { l with egFixed := l.egFixed ++ [bs] }) s)
    else none
  else
    let q := l.egress.getD c []
    if (q.map fun f => f.2.length).sum + bs.length ≤ 20480 then
      some (modLane p (fun l => { l with egress := l.egress.set c (q ++ [(i, bs)]) }) s)
    else none

/-- A frame counted as released (R261, R270). -/
def noteReleased (p i ms : Nat) (s : State) : State :=
  countStream p i 1 1 (modStream p i (fun e => { e with ldRx := some ms }) s)

/-- The first frame of a stream from one node that may be released (R259). -/
def releasable (p node i : Nat) (s : State) : Option (RxCw × List Byte × List Nat × Nat) :=
  let x := s.port p
  let base := (streamCws x node i 0).head?
  match base with
  | none => none
  | some w0 =>
    let rxA := (pmsOf p node w0.cls s).rxA
    let l := streamCws x node i rxA
    let whole := fun (r : Found) => match r with | .whole _ _ _ => true | _ => false
    let inOrder := (streamOf p i s).cfg.inOrder
    let cand :=
      if inOrder then
        match l.dropWhile fun w => !moreIn w with
        | w :: rest => some (w, frameAt x node i rxA w rest)
        | [] => none
      else findFrame x node i rxA whole l
    match cand with
    | some (w, .whole bs ms last) => if inOrder && !msBelow last rxA then none else some (w, bs, ms, last)
    | _ => none

/-- A complete frame of a stream released (R259). (DEDUCED, log 92) -/
def releaseFrame (p i : Nat) (s : State) : State :=
  let nodes := if isSpur p s then List.range 16 else [0]
  match nodes.findSome? fun n => (releasable p n i s).map fun r => (n, r) with
  | some (n, w, bs, ms, last) =>
    match deliver p i w.cls false bs s with
    | some s => noteReleased p i last (setCut p n i last 0 (consume p n w.cls ms 1 s))
    | none => s
  | none => s

/-- A FIXED frame delivered as soon as its codeword is decoded, or discarded where it does not fit (R235, R342). -/
def deliverFixed (p i : Nat) (bs : List Byte) (s : State) : State :=
  match deliver p i 0 true bs s with
  | some s => countStream p i 1 1 s
  | none => count p .STREAM_FIXED_DROP s

/-- The counter of STATS for the size of a delivered frame (R353). -/
def sizeBin (n : Nat) : Fld :=
  if n ≤ 64 then .STATS_RX_64 else if n ≤ 255 then .STATS_RX_65_255 else if n ≤ 1023 then .STATS_RX_256_1023
  else if n ≤ 1518 then .STATS_RX_1024_1518 else .STATS_RX_1519_16000

/-- A frame whose last byte has left HSOn (R342). -/
def delivered (p : Nat) (bs : List Byte) (s : State) : State :=
  count p (sizeBin bs.length) (countBy p .STATS_RX_OCTETS bs.length (count p .STATS_RX_FRAMES
    (emit (.host p 0 bs) s)))

/-- The next frame of the egress queues sent: the fixed queue, then the highest class that is not paused (R342,
R343). (DEDUCED, log 93) -/
def sendEgress (p : Nat) (s : State) : State :=
  let l := (s.port p).lane
  if !laneUp p s then s
  else match l.egFixed with
    | f :: q => delivered p f (modLane p (fun l => { l with egFixed := q }) s)
    | [] =>
      let paused := getF p .HOST_PAUSED s
      let cls := ((List.range 8).filter fun c => !(l.egress.getD c []).isEmpty && !bitOf paused c).getLast?
      match cls with
      | some c =>
        match l.egress.getD c [] with
        | f :: q => delivered p f.2 (modLane p (fun l => { l with egress := l.egress.set c q }) s)
        | [] => s
      | none => s

/-! ### Decoded codewords (R231, R232, R237, R255, R257, R302) -/

/-- A broadcast codeword's bytes: the frame in progress of its sender and stream, then frames that begin in it, in
arrival order (R302). (DEDUCED, log 94) -/
def takeBroadcast (p node i : Nat) : Nat → List Byte → State → State
  | 0, _, s => s
  | k + 1, data, s =>
    let key := node * 4096 + i
    let acc := mapGetD (s.port p).bcast key []
    let put := fun (bs : List Byte) => modPort p fun x =>
      { x with bcast := if bs.isEmpty then mapDel x.bcast key else mapPut x.bcast key bs }
    if acc.isEmpty then
      if data.length < 4 || beNat (data.take 4) = 0 then s
      else if bitsOf (beNat (data.take 4)) 16 2 ≠ 2 ∨ crc16 (data.take 2) ≠ bitsOf (beNat (data.take 4)) 0 16 then
        expireRx p i 1 s
      else takeBroadcast p node i k (data.drop 4) (put (data.take 4) s)
    else
      let need := bitsOf (beNat (acc.take 4)) 18 14 + 4
      let bs := acc ++ data
      if need ≤ bs.length then
        let frame := (bs.take need).drop 4
        let s := put [] s
        let s := match deliver p i (streamOf p i s).cfg.cls false frame s with
          | some s => countStream p i 1 1 s
          | none => expireRx p i 1 s
        takeBroadcast p node i k (bs.drop ((need + 3) / 4 * 4)) s
      else put bs s

/-- A broadcast DATA codeword: bytes before its first delimiter go to the frame in progress, or are discarded; a
delimiter that comes too early discards that frame. (DEDUCED, log 94) -/
def onBroadcast (p node i first : Nat) (data : List Byte) (s : State) : State :=
  let key := node * 4096 + i
  let acc := mapGetD (s.port p).bcast key []
  let n := if first = 127 then data.length else 4 * first
  let need := if acc.isEmpty then 0 else bitsOf (beNat (acc.take 4)) 18 14 + 4 - acc.length
  let drop := fun (s : State) => modPort p (fun x => { x with bcast := mapDel x.bcast key }) s
  if acc.isEmpty then takeBroadcast p node i (data.length + 2) (data.drop n) s
  else if (need + 3) / 4 * 4 < n || (first != 127 && n < (need + 3) / 4 * 4) then
    takeBroadcast p node i (data.length + 2) (data.drop n) (expireRx p i 1 (drop s))
  else takeBroadcast p node i (data.length + 2) data s

/-- A lost codeword of a broadcast burst discards the frames of its sender that are under assembly (R302). -/
def loseBroadcast (p node : Nat) (s : State) : State :=
  let hit := (s.port p).bcast.filter fun e => e.1 / 4096 == node
  forAll hit (fun e s => expireRx p (e.1 % 4096) 1 s)
    (modPort p (fun x => { x with bcast := x.bcast.filter fun e => e.1 / 4096 != node }) s)

/-- A codeword that a core ended without a passing result (R231, R237). -/
def decodeFailed (p : Nat) (w : DqCw) (s : State) : State :=
  let s := modSig p (fun g => { g with failCw := g.failCw + 1 }) (modWatch p (fun v => { v with fail := v.fail + 1 }) s)
  if w.bcast then loseBroadcast p w.node s else s

/-- The frame of a FIXED codeword: delimiter at word 0 (R233, R235). -/
def fixedFrame (data : List Byte) : Option (List Byte) :=
  let d := data.take 4
  let len := bitsOf (beNat d) 18 14
  if bitsOf (beNat d) 16 2 = 2 ∧ crc16 (d.take 2) = bitsOf (beNat d) 0 16 ∧ 4 + len ≤ data.length then
    some ((data.drop 4).take len)
  else none

/-- Notice entries as (node, entry) acted on (R254, R255). -/
def actNotices (p : Nat) (l : List (Nat × Nat)) : State → State :=
  forAll l fun e => onNotice p e.1 (bitsOf e.2 28 3) (bitsOf e.2 16 12) (bitsOf e.2 0 16)

/-- The codeword that a notice entry names is decoded in this cycle: it is stored first (R263). (DESIGN CHOICE, log 132) -/
def decodeMeets (p : Nat) (e : Nat × Nat) (s : State) : Bool :=
  meets (fun c => match c with
    | .codewordDecoded q d =>
      let h := cwHead d.info
      q.val == p && d.converged && cwCrcOk d.info && h.kind == 0 && h.ms == bitsOf e.2 0 16 && h.cls == bitsOf e.2 28 3
    | _ => false) s

/-- A codeword with a passing CRC-24, by kind (R232). -/
def onCodeword (p : Nat) (w : DqCw) (info : List Byte) (s : State) : State :=
  let h := cwHead info
  let data := info.drop 8
  let s := count p .FEC_CW_RX_OK s
  if h.kind = 3 then count p .FEC_CW_IDLE_RX s
  else if h.kind = 2 then
    let n := min (bitsOf (beNat (data.take 4)) 0 6) ((data.length - 4) / 4)
    let l := (List.range n).map fun k => (w.node, beNat ((data.drop (4 + 4 * k)).take 4))
    let s := updPressures p (actNotices p (l.filter fun e => !decodeMeets p e s) s)
    modSig p (fun g => { g with noticeHeld := l.filter fun e => decodeMeets p e s }) s
  else if h.kind = 1 then
    match fixedFrame data with
    | some bs =>
      let s := if stamped p h.stream s then appendStamp p true h.stream (stampKind bs) (stampKey bs) w.at_ s else s
      deliverFixed p h.stream bs s
    | none => s
  else if w.bcast then onBroadcast p w.node h.stream h.first data s
  else
    let c := rxCwOf w.node h.cls h.ms h.stream h.first data w.at_
    let fresh := !resolved (s.port p) w.node h.cls (pmsOf p w.node h.cls s).rxA h.ms
    let s := storeRx p c s
    if fresh then stampRx p c s else s

/-- The iteration limit in force: at most 8 while the port is overloaded (R237). -/
def iterLimit (p : Nat) (s : State) : Nat :=
  if isSet p .FEC_OVERLOADED s then min 8 (getF p .FEC_MAXIT s) else getF p .FEC_MAXIT s

/-- A core ends the oldest codeword of the port: at its limit it fails (R236, R237). -/
def codewordEnds (p : Nat) (c : DecodedCw) (s : State) : State :=
  match (s.port p).sig.dq with
  | [] => s
  | w :: q =>
    let loaded := isSet p .FEC_OVERLOADED s
    let lim := iterLimit p s
    let its := min c.iterations lim
    let held := (s.port p).sig.noticeHeld
    let f : Fld := if p % 2 = 0 then .DECPOOL_CW_EVEN else .DECPOOL_CW_ODD
    let s := modSig p (fun g => { g with
      dq := q, noticeHeld := [], doneCw := g.doneCw + 1, itCw := g.itCw + 1, itSum := g.itSum + its }) s
    let s := modWatch p (fun v => { v with cw := v.cw + 1 }) s
    let s := noteOverload p (count (pavOf p) f (countBy p .FEC_ITERATIONS its s))
    let s := when loaded (count p .FEC_OVERLOAD_CW) s
    actNotices p held <|
    if !c.converged || lim < c.iterations then sticky .FEC_CW_FAIL p (count p .FEC_CW_FAIL (decodeFailed p w s))
    else if !cwCrcOk c.info then sticky .FEC_CRC_FAIL p (count p .FEC_CRC_FAIL (decodeFailed p w s))
    else onCodeword p w c.info s

/-! ### The commands -/

/-- FC_REFRESH (R344). -/
def execFcRefresh (p : Fin 8) (s : State) : Answer :=
  .next (portEvent p (fun s => if getF p .STREAM_PRESSURE s = 0 then s else sendFlow p 0 true s) s)

/-- SEN of a stream is written 0 in this cycle: nothing is admitted to it (R263). (DESIGN CHOICE, log 132) -/
def disableMeetsStream (p i : Nat) (s : State) : Bool :=
  meets (fun c => match c with
    | .streamEnable q k sen _ => q.val == p && k.toNat == i && !sen
    | _ => false) s

/-- ADMISSION (R243): the head frame of a class opens its stream's codeword where a slot can be taken. -/
def execAdmission (p : Fin 8) (cls : Fin 8) (s : State) : Answer :=
  .next (portEvent p (fun s => match (classQ (s.port p) cls).head? with
    | some f =>
      if !mayAdmit p s || disableMeetsStream p f.stream s then s
      else if hasOpen (s.port p) f.stream then settleClass p cls s
      else if destOf p f.stream s == 31 || canTake p f.stream s then settleClass p cls (openCw p f.stream s)
      else s
    | none => s) s)

/-- CODEWORD_DECODED (R237). -/
def execCodewordDecoded (p : Fin 8) (c : DecodedCw) (s : State) : Answer := .next (portEvent p (fun s => codewordEnds p c s) s)

/-- A cumulative acknowledgement in this cycle passes a codeword: it wins over the deadline (R263).
(DESIGN CHOICE, log 132) -/
def ackMeets (p : Nat) (w : TxCw) (s : State) : Bool :=
  meets (fun c => match c with
    | .overheadRx q bs =>
      let b := beNat (bs.take 1)
      q.val == p && w.node == 0 && overheadOk bs && (if bitOf b 3 then 1 else 0) == w.cls / 4 &&
        msBelow w.ms (beNat ((bs.drop (2 + 10 * (w.cls % 4))).take 2))
    | _ => false) s

/-- DEADLINE_EXPIRY (R247). -/
def execDeadlineExpiry (p : Fin 8) (node : Fin 16) (cls : Fin 8) (milestone : BitVec 16) (s : State) : Answer :=
  .next (portEvent p (fun s => match (s.port p).cws.find? fun w => w.node == node.val && w.cls == cls.val && w.ms == milestone.toNat with
    | some w => if ackMeets p w s then s else updPressures p (giveUp p (some .LAYBY_P_GIVEUP_DEADLINE) w s)
    | none => s) s)

/-- TAIL_RESEND (R253): the codeword at the partner's cumulative milestone, sent and not acknowledged while mileposts
repeated that milestone with no NACK. -/
def execTailResend (p : Fin 8) (node : Fin 16) (cls : Fin 8) (s : State) : Answer :=
  .next (portEvent p (fun s =>
    let q := pmsOf p node cls s
    match (s.port p).cws.find? fun w => w.node == node.val && w.cls == cls.val && w.ms == q.txAck && w.st != .queued with
    | some w => if 0 < q.tailRun then updPressures p (schedule p w (count p .LAYBY_P_TAIL_RESENDS s)) else s
    | none => s) s)

/-- GAP_LIMIT_EXPIRY (R255). -/
def execGapLimitExpiry (p : Fin 8) (node : Fin 16) (cls : Fin 8) (milestone : BitVec 16) (s : State) : Answer :=
  .next (portEvent p (fun s =>
    let q := pmsOf p node cls s
    let ms := milestone.toNat
    if inShow p s && q.rxAny && msBelow ms q.rxHigh && !resolved (s.port p) node cls q.rxA ms then
      updPressures p (resolveGiven p node cls ms none
        (sticky .LAYBY_P_GAP_TIMEOUT p (count p .LAYBY_P_GAP_TIMEOUTS s)))
    else s) s)

/-- A frame that the standard PHY has received goes to the host lane (R4, R22, R196). It has no stream: it takes class egress
queue 0, and one that does not fit is discarded and counted in LANE_DROP. (DESIGN CHOICE, log 145) -/
def fromPhy (p : Nat) (bs : List Byte) (s : State) : State :=
  if getF p .LINKUP_T1_LINK s ≠ 1 then s
  else if getF p .HOST_LB_ACTIVE s = 4 then emitLine p (.t1 p bs) s
  else if !laneUp p s || getF p .HOST_LB_ACTIVE s == 1 then laneDrop p 1 s
  else
    let q := (s.port p).lane.egress.getD 0 []
    if (q.map fun f => f.2.length).sum + bs.length ≤ 20480 then
      modLane p (fun l => { l with egress := l.egress.set 0 (q ++ [(0, bs)]) }) s
    else laneDrop p 1 s

/-- FRAME_RELEASE (R259). -/
def execFrameRelease (p : Fin 8) (r : Releasing) (s : State) : Answer :=
  .next (portEvent p (fun s => if stOf p s = stCompat then fromPhy p r.phy s else releaseFrame p r.stream.toNat s) s)

/-- EGRESS_FRAME_TX (R342). -/
def execEgressFrameTx (p : Fin 8) (s : State) : Answer := .next (portEvent p (fun s => sendEgress p s) s)

end Sys2Proof.Machine
end

