-- ==== Sys2Proof/Machine/Image.lean ====
section
/-! DEFINITION. Image containers and the checks of an image (R103 to R107, R110, R112). -/

namespace Sys2Proof.Machine

/-- Size of a buffer area (R110): 0 layout, 1 firmware. -/
def areaSize (a : Nat) : Nat := if a = 0 then 0x600000 else 0x100000

/-- A number of `n` bytes at an offset of an image, most significant byte first (R105). -/
def imgNum (m : Memory) (ofs n : Nat) : Nat := beNat (readBytes m ofs n)

/-- IMAGE_ID of an image. -/
def imgId (m : Memory) : Nat := imgNum m 0x10 8

/-- SVN of an image. -/
def imgSvn (m : Memory) : Nat := imgNum m 0x0A 2

/-- TOTAL_LEN of an image. -/
def imgLen (m : Memory) : Nat := imgNum m 0x0C 4

/-- TOTAL_LEN is malformed (R110). -/
def lenMalformed (a len : Nat) : Bool := len % 4 != 0 || len < 512 || areaSize a < len

/-- The section table of an image: ID, offset, length. -/
def sections (m : Memory) : List (Nat × Nat × Nat) :=
  (List.range (imgNum m 0x18 1)).map fun i =>
    (imgNum m (0x20 + 12 * i) 4, imgNum m (0x24 + 12 * i) 4, imgNum m (0x28 + 12 * i) 4)

/-- Check 1 of R112: the header and the section table. -/
def formatOk (a : Nat) (m : Memory) : Bool :=
  imgNum m 0 4 == (if a = 0 then 0x504C5859 else 0x504C4657) && imgNum m 4 2 == 1 &&
    imgNum m 0x18 1 == (if a = 0 then 5 else 1) &&
    (a != 0 || [1, 2, 3, 4, 5].all fun k => ((sections m).filter fun x => x.1 == k).length == 1)

/-- Check 2 of R112: TOTAL_LEN and the placing of the sections. -/
def lengthOk (a : Nat) (m : Memory) : Bool :=
  let len := imgLen m
  let l := sections m
  !lenMalformed a len && (l.all fun x => 0x100 ≤ x.2.1 && x.2.1 + x.2.2 ≤ len - 256) &&
    ((List.range l.length).all fun i => (List.range i).all fun j =>
      let x := l.getD i (0, 0, 0)
      let y := l.getD j (0, 0, 0)
      x.2.1 + x.2.2 ≤ y.2.1 || y.2.1 + y.2.2 ≤ x.2.1)

/-- The digest that both signatures cover: every byte up to the signature block (R105). -/
def imgDigest (m : Memory) : Nat := beNat (sha256 (readBytes m 0 (imgLen m - 256)))

/-- A number of 32 bytes of the signature block. -/
def sigWord (m : Memory) (i : Nat) : Nat := imgNum m (imgLen m - 256 + 32 * i) 32

/-- The vendor signature is valid under the key in mask ROM (R105, R106). -/
def vendorOk (m : Memory) : Bool := ecdsaValid Config.vendorKey (imgDigest m) (sigWord m 0) (sigWord m 1)

/-- The OEM public key of the image has the programmed hash, and its signature is valid (R105, R106). -/
def oemOk (m : Memory) (s : State) : Bool :=
  sha256 (readBytes m (imgLen m - 128) 64) == s.nvm.oemHash.flatMap (beBytes 4) &&
    ecdsaValid (sigWord m 4, sigWord m 5) (imgDigest m) (sigWord m 2) (sigWord m 3)

/-- A stream entry of a layout holds defined values (R270). -/
def streamDefined (e : Nat × StreamCfg) : Bool :=
  e.1 < 4096 && e.2.deadline < 2 ^ 16 && 1 ≤ e.2.maxTries && e.2.maxTries ≤ 15 && e.2.cls < 8 && e.2.guar ≤ 15360 &&
    1 ≤ e.2.cap && e.2.cap ≤ 15360

/-- The sections' fields of a port hold values the manual defines (R103, R104, R149, R270, R271, R339, R442). -/
def portDefined (l : PortLayout) : Bool :=
  l.mode ≤ 4 && l.hostRate ≤ 5 && l.permit < 16 && l.initProfile < 4 && l.compat < 4 && l.masks.length ≤ 4 &&
    (l.masks.all fun m => m.length ≤ 64 && m.all fun b => b.1 < 16384) &&
    (l.notchSets.all fun n => n.length ≤ 32 && n.all fun r => r.1 < 16384 && r.2 < 512) && l.clsMode < 2 &&
    l.defaultStream < 4096 && l.missStream < 4096 && l.tsStream < 4096 && l.streams.all streamDefined &&
    (l.ways.all fun w => w.entry < 8192 && w.vid < 4096 && w.stream < 4096) &&
    (l.enables.all fun b => portBlks.contains b && enKind b == .own)

/-- Check 7 of R112: every field of a layout holds a value that the manual defines. (DEDUCED, log 51) -/
def contentsOk (l : Layout) : Bool :=
  l.ports.length ≤ 8 && l.pavs.length ≤ 4 && l.ports.all portDefined

/-- Check 8 of R112: a layout keeps to R17 and R18. -/
def resourcesOk (l : Layout) : Bool :=
  (List.range 4).all fun n =>
    let v := (l.pavs[n]?).getD {}
    let need := fun (p : Nat) (e f c : Nat) =>
      let m := ((l.ports[p]?).getD {}).mode
      if m = 1 then 12 ≤ e && 2 ≤ f && 2 ≤ c else if m = 2 || m = 3 then 8 ≤ e && 1 ≤ f && 1 ≤ c
      else if m = 4 then 2 ≤ e else true
    v.eng.1 + v.eng.2 ≤ 32 && v.pipes.1 + v.pipes.2 ≤ 4 && v.cores.1 + v.cores.2 ≤ 12 && v.share.1 + v.share.2 == 16384 &&
      1024 ≤ v.share.1 && v.share.1 ≤ 15360 && need (2 * n) v.eng.1 v.pipes.1 v.cores.1 &&
      need (2 * n + 1) v.eng.2 v.pipes.2 v.cores.2

/-- The code of the first check of R112 that an image for area `a` fails, 0 where all pass. `contents` is what its sections
hold, none where a section is malformed. (DEDUCED, log 51) -/
def judgeImage (a : Nat) (m : Memory) (contents : Option Layout) (s : State) : Nat :=
  if !formatOk a m then 1
  else if !lengthOk a m then 2
  else if imgNum m 6 2 ≠ 0x8240 ∨ getF 0 .DEV_ID_REV s < imgNum m 8 1 ∨ imgNum m 9 1 ≠ getF 0 .DEV_ID_MAP_VER s then 3
  else if !vendorOk m then 4
  else if getF 0 .LAYOUT_OEM_SET s = 1 ∧ !oemOk m s then 5
  else if imgSvn m < getF 0 .LAYOUT_RB_COUNTER s then 6
  else if a = 1 then 0
  else match contents with
    | none => 1
    | some l => if !contentsOk l then 1 else if resourcesOk l then 0 else 7

end Sys2Proof.Machine
end

