-- ==== Sys2Proof/Machine/Spares.lean ====
section
/-! DEFINITION. Spares: marks, substitution, elements out of service, end of life (R395 to R398, R400). -/

namespace Sys2Proof.Machine

/-- The EOL_KIND code of a pavilion element (R404). -/
def elemCode : Elem → Nat
  | .engine => 1
  | .pipe => 2
  | .decoder => 3
  | .rows => 4

/-- A kind fell below 25 % of its spares: END_OF_LIFE_WARN, and EOL_KIND names the first such kind (R400). `old` and
`new` are the numbers left before and after, `fitted` the number fitted. (DEDUCED, log 114) -/
def noteEol (kind old new fitted : Nat) (s : State) : State :=
  if fitted ≤ old * 4 ∧ new * 4 < fitted then
    let s := if getF 0 .SPARE_EOL_KIND s = 0 then setF 0 .SPARE_EOL_KIND kind s else s
    correctedFault .SPARE 0 0x10 (getF 0 .SPARE_EOL_KIND s) s
  else s

/-- A spare of a counted kind taken into service (R395, R404). -/
def takeSpare (f : Fld) (kind fitted : Nat) (s : State) : State :=
  let old := getF 0 f s
  noteEol kind old (old - 1) fitted
    (sticky .SPARE_SPARE_USED 0 (count 0 .SPARE_SUBSTITUTIONS (setF 0 f (old - 1) s)))

/-- The condition of LIVE[1] of SPARE: some kind has fewer than 25 % of its spares left (R400). -/
def endOfLife (s : State) : Bool :=
  ((List.range 4).any fun n => getF 0 (.SPARE_ENG_LEFT n) s = 0 || getF 0 (.SPARE_PIPE_LEFT n) s = 0 ||
    getF 0 (.SPARE_DEC_LEFT n) s = 0 || getF 0 (.SPARE_ROWS_MIN n) s < 16) ||
  ((List.range 8).any fun p => getF 0 (.SPARE_SUBCONV_LEFT p) s = 0 || getF 0 (.SPARE_DRV_LEFT p) s = 0) ||
  getF 0 .SPARE_LPLL_LEFT s = 0 || getF 0 .SPARE_BOSC_LEFT s = 0 || getF 0 .NVMC_SECT_LEFT s < 8

/-! ### Pavilion elements -/

/-- The marks of a pavilion. -/
def marksOf (n : Nat) (s : State) : List Mark := s.nvm.marks.filter fun m => m.pav == n

/-- The mark counts of PAV_WEAR (R405). -/
def showMarks (n : Nat) (s : State) : State :=
  let of := fun (e : Elem) => ((marksOf n s).filter fun m => m.elem == e).length
  setAll n [(.PAV_WEAR_MARKED_ENG, min (of .engine) 7), (.PAV_WEAR_MARKED_PIPE, min (of .pipe) 1),
    (.PAV_WEAR_MARKED_DEC, min (of .decoder) 1), (.PAV_WEAR_MARKED_ROWS, min (of .rows) 127)] s

/-- An element marked (R396): recorded in NVM, SUB_PENDING as a corrected-class event. An element that is marked
already is not marked again. (DEDUCED, log 113) -/
def markElem (m : Mark) (s : State) : State :=
  if m.index.isSome && s.nvm.marks.any fun x => x.pav == m.pav && x.elem == m.elem && x.index == m.index then s
  else
    correctedFault .PAV_WEAR m.pav 0x10 (elemCode m.elem)
      (showMarks m.pav (modNvm (fun v => { v with marks := v.marks ++ [m] }) s))

/-- Repair rows left in a bank of a pavilion (R395). -/
def rowsLeft (n bank : Nat) (s : State) : Nat := mapGetD s.nvm.rowsLeft (n * 256 + bank) 64

/-- Spares left of a mark's kind, of its bank for a repair row. -/
def sparesLeft (m : Mark) (s : State) : Nat :=
  match m.elem with
  | .engine => getF 0 (.SPARE_ENG_LEFT m.pav) s
  | .pipe => getF 0 (.SPARE_PIPE_LEFT m.pav) s
  | .decoder => getF 0 (.SPARE_DEC_LEFT m.pav) s
  | .rows => rowsLeft m.pav m.detail s

/-- A spare taken for a mark (R395). -/
def takeFor (m : Mark) (s : State) : State :=
  match m.elem with
  | .engine => takeSpare (.SPARE_ENG_LEFT m.pav) 1 4 s
  | .pipe => setF m.pav .ENGPOOL_PIPE_SPARE_READY 0 (takeSpare (.SPARE_PIPE_LEFT m.pav) 2 1 s)
  | .decoder => setF m.pav .DECPOOL_SPARE_READY 0 (takeSpare (.SPARE_DEC_LEFT m.pav) 3 1 s)
  | .rows =>
    let old := rowsLeft m.pav m.detail s
    let low := getF 0 (.SPARE_ROWS_MIN m.pav) s
    let s := modNvm (fun v => { v with rowsLeft := mapPut v.rowsLeft (m.pav * 256 + m.detail) (old - 1) }) s
    noteEol 4 low (min low (old - 1)) 64 (sticky .SPARE_SPARE_USED 0 (count 0 .SPARE_SUBSTITUTIONS
      (setF 0 (.SPARE_ROWS_MIN m.pav) (min low (old - 1)) s)))

/-- One mark served: a spare takes the element's place, or the element goes out of service with NO_SPARE (R397,
R398). A replaced tile or fixed block holds no image (R30). -/
def serveMark (m : Mark) (s : State) : State :=
  let n := m.pav
  let s := showMarks n (modNvm (fun v => { v with marks := v.marks.erase m }) s)
  if 0 < sparesLeft m s then
    modPav n (fun x => { x with tiles := x.tiles && m.elem == .rows })
      (sticky .PAV_WEAR_SUB_DONE n (count n .PAV_WEAR_SUBS (takeFor m s)))
  else correctedFault .PAV_WEAR n 0x11 (elemCode m.elem) (modNvm (fun v => { v with oos := v.oos ++ [m] }) s)

/-- Every mark of a pavilion served, those of contained faults first, then in the order of their numbers (R397,
R401). -/
def substituteAll (n : Nat) (s : State) : State :=
  let ms := marksOf n s
  let rest := (ms.filter fun m => !m.faulty).mergeSort fun a b => (a.index.getD 0) ≤ (b.index.getD 0)
  forAll ((ms.filter fun m => m.faulty) ++ rest) serveMark s

/-- Elements of a kind out of service that a port of the pavilion held: 0 even, 1 odd, 2 unassigned (R398). -/
def lostOf (n : Nat) (e : Elem) (detail : Nat) (s : State) : Nat :=
  (s.nvm.oos.filter fun m => m.pav == n && m.elem == e && m.detail == detail).length

/-! ### Port elements -/

/-- A port element marked (R396): trim entry 0 to 31 a sub-converter, 34 to 41 a driver position. SUB_PENDING of CAL
is the bit of the port's own block. (DEDUCED, log 113) -/
def markPort (p entry : Nat) (s : State) : State :=
  if s.nvm.portMarks.contains (p, entry) || s.nvm.portOos.contains (p, entry) then s
  else sticky .CAL_SUB_PENDING p (modNvm (fun v => { v with portMarks := v.portMarks ++ [(p, entry)] }) s)

/-- An element of the port out of service for lack of a spare (R398). (DEDUCED, log 116) -/
def losePort (p entry : Nat) (s : State) : State :=
  sticky .CAL_NO_SPARE p (modNvm (fun v => { v with
    portMarks := v.portMarks.filter (· != (p, entry)), portOos := v.portOos ++ [(p, entry)] }) s)

/-- The marks of driver positions served, as a start of T1 does (R395, R398): the spare serves the position from then
on with trims of its own, which no run has set yet. -/
def serveDrivers (p : Nat) (s : State) : State :=
  forAll ((s.nvm.portMarks.filter fun e => e.1 == p && 34 ≤ e.2).map (·.2)) (fun entry s =>
    if getF 0 (.SPARE_DRV_LEFT p) s = 0 then losePort p entry s
    else
      modCal p (fun c => { c with trims := mapDel c.trims entry })
        (modNvm (fun v => { v with portMarks := v.portMarks.filter (· != (p, entry)) })
          (takeSpare (.SPARE_DRV_LEFT p) 6 1 s))) s

/-- A spare sub-converter takes a marked phase with the trims found for it (R395). (DEDUCED, log 115) -/
def swapSubconv (p entry trim : Nat) (s : State) : State :=
  let s := modNvm (fun v => { v with portMarks := v.portMarks.filter (· != (p, entry)) })
    (takeSpare (.SPARE_SUBCONV_LEFT p) 5 2 s)
  correctedFault .CAL p 0x12 0 (modCal p (fun c => { c with
    trims := mapPut c.trims entry trim, bgFails := mapDel c.bgFails entry }) s)

/-- A contained fault of CAL: EN cleared, and the port stays DISABLED (R398, R407, R411). (DEDUCED, log 116) -/
def exhaustSubconv (p entry : Nat) (s : State) : State :=
  toDisabled p (setF p (.en .CAL) 0 (displaceWindow .CAL p (recordFault .CAL p 1 0x13 0 0 (losePort p entry s))))

/-- A sub-converter marked; with no spare left it is exhausted at once (R396, R398). -/
def markSubconv (p entry : Nat) (s : State) : State :=
  let s := markPort p entry s
  if getF 0 (.SPARE_SUBCONV_LEFT p) s = 0 && s.nvm.portMarks.contains (p, entry) then exhaustSubconv p entry s else s

/-- A trim entry holds a working element (R402): a standby position until its spare has left it, a position in service
until its element is out of service. (DEDUCED, log 115) -/
def entryActive (p entry : Nat) (s : State) : Bool :=
  if entry = 32 then getF 0 (.SPARE_SUBCONV_LEFT p) s = 2
  else if entry = 33 then getF 0 (.SPARE_SUBCONV_LEFT p) s != 0
  else if entry = 42 then getF 0 (.SPARE_DRV_LEFT p) s != 0
  else !s.nvm.portOos.contains (p, entry)

/-- The word of a trim entry (R402). -/
def trimWord (p entry : Nat) (s : State) : Nat :=
  let spare := entry = 32 ∨ entry = 33 ∨ entry = 42
  let v := if entry = 32 ∨ entry = 33 ∨ entry = 42 then 0 else mapGetD (s.port p).cal.trims entry 0 % 2 ^ 23
  v + (if spare then 2 ^ 30 else 0) + (if entryActive p entry s then 2 ^ 31 else 0)

end Sys2Proof.Machine
end

