-- ==== Sys2Proof/Machine/Pavilion.lean ====
section
/-! DEFINITION. Host lane state, layouts in force, pavilion enable and disable, power domains (R25 to R30, R103 to R117,
R340, R374, R375, R442). -/

namespace Sys2Proof.Machine

/-! ### Strap codes (R362) -/

/-- The strap code. -/
def strap (s : State) : Nat := getF 0 .RSTC_STRAP_CODE s

/-- Lines after boot follow the layout. -/
def strapFollows (s : State) : Bool := 7 ≤ strap s && strap s ≤ 12

/-- The strap code permits flash. -/
def strapFlash (s : State) : Bool := [3, 4, 5, 6, 9, 10, 11, 12, 14].contains (strap s)

/-- The strap code selects ring mode. -/
def strapRing (s : State) : Bool := [2, 4, 6, 8, 10, 12].contains (strap s)

/-! ### The host lane (R340) -/

/-- The lane goes down: LANE_DOWN, the frames that wait in the egress queues are discarded and counted in LANE_DROP, a
HOST_NEAR loopback ends, in-band responses are lost. (DEDUCED, log 89) -/
def laneFalls (p : Nat) (s : State) : State :=
  let l := (s.port p).lane
  let n := (l.egress.map List.length).sum + l.egFixed.length
  let s := modLane p (fun l => { l with egress := List.replicate 8 [], egFixed := [] }) (laneDrop p n s)
  let s := when (getF p .HOST_LB_ACTIVE s == 1) (setF p .HOST_LB_ACTIVE 0) s
  setF p .HOST_PAUSED 0 (sticky .HOST_LANE_DOWN p s)

/-- HOST_UP follows HOST EN, the lock of the PCS and the lane's power domain. -/
def laneRefresh (p : Nat) (s : State) : State :=
  let up := getF p (.en .HOST) s == 1 && (s.port p).lane.lock && domainOn (30 + p) s && getF p .HOST_HOST_RATE s != 0
  if up == laneUp p s then s
  else
    let s := setF p .HOST_HOST_UP (ofBool up) s
    if up then s else laneFalls p s

/-! ### The layout in force -/

/-- A pavilion's part of its active layout. -/
def pavLayout (n : Nat) (s : State) : Option PavLayout :=
  (s.pav n).active.map fun a => (a.2.2.pavs[n]?).getD {}

/-- A port's part of its pavilion's active layout; without one the port is UNUSED. -/
def portLayout (p : Nat) (s : State) : PortLayout :=
  match (s.pav (pavOf p)).active with
  | some a => (a.2.2.ports[p]?).getD {}
  | none => {}

/-- The fields of the pavilion blocks that the layout gives, less elements out of service (R17, R31, R32, R265, R267,
R398). -/
def showPavLayout (n : Nat) (s : State) : State :=
  match pavLayout n s with
  | none => s
  | some l =>
    let e := fun (d : Nat) => (if d = 0 then l.eng.1 else if d = 1 then l.eng.2 else 32 - l.eng.1 - l.eng.2) - lostOf n .engine d s
    let f := fun (d : Nat) => (if d = 0 then l.pipes.1 else if d = 1 then l.pipes.2 else 4 - l.pipes.1 - l.pipes.2) - lostOf n .pipe d s
    let c := fun (d : Nat) => (if d = 0 then l.cores.1 else if d = 1 then l.cores.2 else 12 - l.cores.1 - l.cores.2) - lostOf n .decoder d s
    setAll n [(.PAV_CTL_MODE_EVEN, (portLayout (2 * n) s).mode), (.PAV_CTL_MODE_ODD, (portLayout (2 * n + 1) s).mode),
      (.ENGPOOL_ENG_EVEN, e 0), (.ENGPOOL_ENG_ODD, e 1), (.ENGPOOL_ENG_IDLE, e 2),
      (.ENGPOOL_PIPES_EVEN, f 0), (.ENGPOOL_PIPES_ODD, f 1), (.ENGPOOL_PIPES_IDLE, f 2),
      (.ENGPOOL_PIPE_SPARE_READY, getF 0 (.SPARE_PIPE_LEFT n) s),
      (.DECPOOL_CORES_EVEN, c 0), (.DECPOOL_CORES_ODD, c 1), (.DECPOOL_CORES_IDLE, c 2),
      (.DECPOOL_SPARE_READY, getF 0 (.SPARE_DEC_LEFT n) s),
      (.LAYBY_SHARE_EVEN, l.share.1), (.LAYBY_SHARE_ODD, l.share.2)] s

/-- The stream entries a layout gives, those with SEN = 1 judged in ascending order (R239, R270). -/
def loadStreams (p : Nat) (l : PortLayout) (s : State) : State :=
  let s := modPort p (fun x => { x with streams := (l.streams.filter fun e => e.1 < 4096).foldl (fun m e =>
    mapPut m e.1 { mapGetD m e.1 {} with cfg := { e.2 with sen := false } }) x.streams }) s
  forAll ((l.streams.filter fun e => e.2.sen && e.1 < 4096).map (·.1) |>.mergeSort (· ≤ ·)) (enableStream p) s

/-- The fields and tables of the PORTDp blocks that the layout gives. -/
def showPortLayout (p : Nat) (s : State) : State :=
  let l := portLayout p s
  let share := match pavLayout (pavOf p) s with | some x => if p % 2 = 0 then x.share.1 else x.share.2 | none => 0
  let s := setAll p [(.PORT_CTL_LINE_MODE, l.mode), (.PORT_CTL_PERMIT, l.permit),
    (.PORT_CTL_INIT_PROFILE, l.initProfile), (.PORT_CTL_COMPAT_PERMIT, l.compat), (.TXSH_MASKS, l.masks.length),
    (.TXSH_NOTCH_SETS, l.notchSets.length), (.FEC_CORES, (resourcesOf p s).2.2), (.LAYBY_P_SHARE, share),
    (.STREAM_CLS_MODE, l.clsMode), (.STREAM_DEFAULT_STREAM, l.defaultStream), (.STREAM_MISS_STREAM, l.missStream),
    (.STREAM_TS_STREAM, l.tsStream), (.STREAM_SEED, l.seed)] s
  loadStreams p l (modPort p (fun x => { x with layout := l }) s)

/-- The HOST field that the layout gives. -/
def showHostLayout (p : Nat) (s : State) : State :=
  laneRefresh p (setF p .HOST_HOST_RATE (portLayout p s).hostRate s)

/-- Everything the layout gives a pavilion and its ports, in the domains that are on (R114, R117, R375). -/
def showLayout (n : Nat) (s : State) : State :=
  forAll [2 * n, 2 * n + 1] (fun p s =>
    when (domainOn (30 + p) s) (showHostLayout p) (when (domainOn (14 + p) s) (showPortLayout p) s))
    (when (domainOn (6 + n) s) (showPavLayout n) s)

/-- The resources of a pavilion shown anew, as a substitution may have changed them. -/
def showCores (n : Nat) (s : State) : State :=
  let s := when (domainOn (6 + n) s) (showPavLayout n) s
  forAll [2 * n, 2 * n + 1] (fun p s => when (domainOn (14 + p) s) (setF p .FEC_CORES (resourcesOf p s).2.2) s) s

/-! ### Pavilion enable and disable (R27, R28, R30, R443) -/

/-- A running command of a port block ends ABORTED, as a pavilion disable ends it (R28). (DEDUCED, log 125) -/
def abortPortCmds (p : Nat) (s : State) : State :=
  let s := modPort p (fun x => { x with
    cal := { x.cal with hybWait := false, hybAbort := false, bgRun := false }
    watch := { x.watch with tdrAbort := false, baseAbort := false, acc := [] } }) s
  forAll (portBlks.flatMap cmdFlds) (fun f => cmdStop p f ocAborted) s

/-- PAV_CTL EN became 1, or an image was applied while it is 1 (R30 steps 1 to 3): the image check, the substitution of
marked elements, the load. The end is PAV_ENABLE_DONE. -/
def startEnable (n : Nat) (s : State) : State :=
  if getF n (.en .PAV_CTL) s ≠ 1 || isSet n .PAV_CTL_ENABLED s then s
  else if (s.pav n).active.isNone then setF n .PAV_CTL_NO_IMAGE 1 s
  else
    let load := !(marksOf n s).isEmpty || !(s.pav n).tiles
    setAll n [(.PAV_CTL_NO_IMAGE, 0), (.PAV_CTL_LOADING, ofBool load)]
      (showCores n (when (!(marksOf n s).isEmpty) (substituteAll n) s))

/-- APPLY runs on a pavilion (R115): until it ends. -/
def applyRuns (n : Nat) (s : State) : Bool := cmdRuns 0 .LAYOUT_APPLY s && s.loader.applyMask.contains n

/-- PAV_CTL EN written 1: it takes effect once a disable or an APPLY in progress has completed (R30, R115). EN_TIME
counts from here. -/
def pavEnRises (n : Nat) (s : State) : State :=
  let s := modPav n (fun x => { x with enCycle := s.cycles }) s
  if (s.pav n).disabling || applyRuns n s then modPav n (fun x => { x with deferred := true }) s else startEnable n s

/-- The pavilion stops: both ports to DISABLED, the lay-by discarded with the accounting of R443, running port commands
ended (R27, R28, R158). -/
def stopPorts (n : Nat) (s : State) : State :=
  forAll [2 * n, 2 * n + 1] (fun p s => abortPortCmds p (discardLayby p (toDisabled p s))) s

/-- PAV_CTL EN became 0 (R30). -/
def pavEnFalls (n : Nat) (s : State) : State :=
  let s := setAll n [(.PAV_CTL_NO_IMAGE, 0), (.PAV_CTL_LOADING, 0)] s
  modPav n (fun x => { x with deferred := false, subRun := false, disabling := true, offCycle := some s.cycles }) (stopPorts n s)

/-- Whether the setting of GATE turns a domain on in a device state (R375). -/
def gateWants (d : Nat) (s : State) : Bool :=
  let st := getF 0 .PWRC_DEV_STATE s
  (if st = 2 then getF 0 (.PWRC_SLEEP_EN d) s else if st = 3 then getF 0 (.PWRC_DEEP_EN d) s
    else getF 0 (.PWRC_RUN_EN d) s) == 1

/-- The enable completes (R30 step 4, R31): the milestones restart, and the ports leave DISABLED. EN_TIME counts whole
microseconds. A GATE that turns the pavilion's domain off wins over an enable under way (R377). (DESIGN CHOICE, log 141) -/
def enableDone (n : Nat) (s : State) : State :=
  let x := s.pav n
  if getF n (.en .PAV_CTL) s ≠ 1 || isSet n .PAV_CTL_ENABLED s || x.active.isNone || x.disabling || x.deferred ||
      !domainOn (6 + n) s || !gateWants (6 + n) s || !domainOn (10 + n) s || applyRuns n s || getF n .PAV_CTL_NO_IMAGE s = 1 then s
  else
    let us := (s.cycles - x.enCycle) * 8 / 1000
    let s := setAll n [(.PAV_CTL_LOADING, 0), (.PAV_CTL_ENABLED, 1), (.PAV_CTL_EN_TIME, min us 65535)] s
    let s := modPav n (fun x => { x with tiles := true }) s
    let s := sticky .PAV_CTL_ENABLED_EVT n (count n .PAV_CTL_ENABLES s)
    forAll [2 * n, 2 * n + 1] (fun p s =>
      settleClasses p (leaveDisabled p (startLayby p (setF p .PORT_CTL_PROFILE (getF p .PORT_CTL_INIT_PROFILE s) s)))) s

/-- The disable completes (R30): ENABLED clears. A deferred enable stays waiting for PAV_ENABLE_DEFERRED. -/
def disableDone (n : Nat) (s : State) : State :=
  if (s.pav n).disabling then modPav n (fun x => { x with disabling := false }) (setF n .PAV_CTL_ENABLED 0 s) else s

/-! ### Enables of blocks -/

/-- What follows when EN of a block becomes 1. -/
def enRises (b : Blk) (u : Nat) (s : State) : State :=
  match b with
  | .PAV_CTL => pavEnRises u s
  | .PORT_CTL => leaveDisabled u s
  | .CAL => leaveDisabled u (modCal u (fun c => { c with held := false }) s)
  | .WATCH => watchEnable u true s
  | .HOST => laneRefresh u s
  | .STREAM => settleClasses u s
  | _ => s

/-- What follows when EN of a block becomes 0 (R30, R153, R158, R340, TSU and WATCH blocks). -/
def enFalls (b : Blk) (u : Nat) (s : State) : State :=
  match b with
  | .PAV_CTL => pavEnFalls u s
  | .PORT_CTL => toDisabled u s
  | .TXSH => muteLine u s
  | .TONES => muteLine u s
  | .WATCH => watchEnable u false s
  | .HOST => laneRefresh u s
  | .TSU => modLane u (fun l => { l with tsTx := [], tsRx := [] }) s
  | _ => s

/-- EN of a block set, with what follows. -/
def setEn (b : Blk) (u : Nat) (v : Nat) (s : State) : State :=
  let old := getF u (.en b) s
  let s := setF u (.en b) v s
  if v = 1 ∧ old ≠ 1 then enRises b u s else if v = 0 ∧ old = 1 then enFalls b u s else s

/-- The start enables of a port's blocks in one power domain (R442). -/
def startPortEnables (p d : Nat) (s : State) : State :=
  forAll ((portLayout p s).enables.filter fun b => blkDomain b p == d && enKind b == .own) (fun b => setEn b p 1) s

/-- The layout loader sets TX_ALLOW of a port where the strap code follows the layout (R153). (DEDUCED, log 66) -/
def allowTx (p : Nat) (s : State) : State :=
  when (strapFollows s && (s.pav (pavOf p)).active.isSome && domainOn (14 + p) s) (setF p .TXSH_TX_ALLOW 1) s

/-- The start enables of a pavilion and its ports, then TX_ALLOW (R360 steps 8 and 9, R442). -/
def startEnables (n : Nat) (s : State) : State :=
  if !strapFollows s then s
  else
    let s := match pavLayout n s with
      | some l => when (l.enable && domainOn (6 + n) s) (setEn .PAV_CTL n 1) s
      | none => s
    forAll [2 * n, 2 * n + 1] (fun p s => allowTx p
      (forAll ((([14, 22, 30].map (· + p)).filter fun d => domainOn d s)) (startPortEnables p) s)) s

/-! ### Images (R107, R108, R111, R112, R117) -/

/-- The ledger's image of a pavilion: its IMAGE_ID; 0 for none. -/
def appliedId (n : Nat) (s : State) : Nat :=
  getF 0 (.LAYOUT_APPLIED_ID_HI n) s * 2 ^ 32 + getF 0 (.LAYOUT_APPLIED_ID_LO n) s

/-- The image of a flash region where it passes R112: slot 0 A or 1 B, area 0 layout or 1 firmware. -/
def flashValid (slot area : Nat) (s : State) : Option FlashImage :=
  (mapGet s.loader.flash (2 * slot + area)).filter fun f => judgeImage area f.bytes f.contents s == 0

/-- A flash image that a search at boot examined and that fails R112 counts once per boot in BOOT_REJ (R126). A region that
an aborted or interrupted copy left holds no image and is not counted. (DESIGN CHOICE, log 142) -/
def noteFlash (slot area : Nat) (s : State) : State :=
  let k := 2 * slot + area
  if (mapGet s.loader.flash k).isSome && (flashValid slot area s).isNone && !s.loader.rejSeen.contains k then
    count 0 .BOOTF_BOOT_REJ (modLoader (fun l => { l with rejSeen := k :: l.rejSeen }) s)
  else s

/-- The flash slots in the order of preference. -/
def slots (s : State) : List Nat := if getF 0 .BOOTF_SLOT_PREF s = 0 then [0, 1] else [1, 0]

/-- A search of the flash slots in the order of preference examines them up to the one it takes, of which it counts those
that fail R112. (DEDUCED, log 151) -/
def noteSearch (area : Nat) (taken : Option Nat) (s : State) : State :=
  forAll ((slots s).takeWhile fun sl => some sl != taken) (fun sl => noteFlash sl area) s

/-- IMAGE_ID, SVN and contents of the layout area while it is VERIFIED. -/
def bufferLayout (s : State) : Option (Nat × Nat × Layout) :=
  if getF 0 .LAYOUT_LAY_STATE s = 2 then
    s.loader.contents.map fun l =>
      (getF 0 .LAYOUT_BUF_ID_HI s * 2 ^ 32 + getF 0 .LAYOUT_BUF_ID_LO s, getF 0 .LAYOUT_BUF_SVN s, l)
  else none

/-- The layout for a pavilion and its source (1 slot A, 2 slot B, 3 chain), by the order of R117: the ledger's image, or
with no image applied the first that passes R112. (DEDUCED, log 54) -/
def findLayout (n : Nat) (s : State) : Option (Nat × (Nat × Nat × Layout)) :=
  let id := appliedId n s
  let fits := fun (i : Nat) => id == 0 || id == i
  let flash := if strapFlash s then (slots s).filterMap fun sl =>
      (flashValid sl 0 s).bind fun f =>
        if fits (imgId f.bytes) then f.contents.map fun l => (sl + 1, (imgId f.bytes, imgSvn f.bytes, l)) else none
    else []
  let chain := match bufferLayout s with
    | some b => if fits b.1 then [(3, b)] else []
    | none => []
  (flash ++ chain).head?

/-- A pavilion's ledger record APPLIED (R114, R117). -/
def recordApplied (n id svn : Nat) : State → State :=
  setAll 0 [(.LAYOUT_APPLIED_ID_LO n, id % 2 ^ 32), (.LAYOUT_APPLIED_ID_HI n, id / 2 ^ 32), (.LAYOUT_APPLIED_SVN n, svn),
    (.LAYOUT_PHASE n, 4)]

/-- The source of a pavilion's layout at boot, in LAY_SRC (R126). -/
def noteSource (n src : Nat) (s : State) : State :=
  let old := getF 0 .BOOTF_LAY_SRC s
  setF 0 .BOOTF_LAY_SRC (old - bitsOf old (2 * n) 2 * 4 ^ n + src * 4 ^ n) s

/-- What a reload of a pavilion's tiles shows: the pavilion's own fields and start enable; a port's fields only where they
show another layout, as when its domain turned on in between (R375). -/
def showReload (n : Nat) (s : State) : State :=
  let s := forAll [2 * n, 2 * n + 1] (fun p s =>
    allowTx p (when (domainOn (14 + p) s && (s.port p).layout != portLayout p s) (showPortLayout p) s)) (showCores n s)
  match pavLayout n s with
  | some l => when (l.enable && strapFollows s) (setEn .PAV_CTL n 1) s
  | none => s

/-- A pavilion brought up at boot, or its tiles reloaded when its domain turns on, from the first source that holds its
layout; NOMATCH where none does, and clear again once one does (R117, R374, R375). Counts and reports of the search are
those of the boot (R126); CHAIN_FALLBACK reports a layout taken from the chain where the strap code permits flash, never
firmware. (DEDUCED, log 54; DESIGN CHOICE, log 143; DESIGN CHOICE, log 144) -/
def bringUp (n : Nat) (boot : Bool) (s : State) : State :=
  let found := findLayout n s
  let s := when (boot && strapFlash s) (noteSearch 0 (found.bind fun r => if r.1 < 3 then some (r.1 - 1) else none)) s
  match found with
  | some (src, img) =>
    let s := if appliedId n s = 0 then recordApplied n img.1 img.2.1 s else s
    let s := modPav n (fun x => { x with active := some img, tiles := true }) s
    let s := setF 0 (.LAYOUT_NOMATCH n) 0 s
    let s := when boot (fun s =>
      let s := when (src == 3 && strapFlash s) (sticky .BOOTF_CHAIN_FALLBACK 0) (noteSource n src s)
      when (src < 3 && decide ((slots s).head? ≠ some (src - 1))) (sticky .BOOTF_SLOT_FALLBACK 0) s) s
    startEnable n (if boot then startEnables n (showLayout n s) else showReload n s)
  | none => sticky .LAYOUT_LEDGER_NOMATCH 0 (setF 0 (.LAYOUT_NOMATCH n) 1 s)

/-! ### Power domains (R375) -/

/-- The staged bank of a pavilion is lost: STAGED returns to APPLIED, or to NONE (R116). -/
def loseStaged (n : Nat) (s : State) : State :=
  let s := modPav n (fun x => { x with staged := none }) (setF 0 (.LAYOUT_STAGED_ID_LO n) 0 s)
  if getF 0 (.LAYOUT_PHASE n) s = 3 then setF 0 (.LAYOUT_PHASE n) (if appliedId n s = 0 then 0 else 4) s else s

/-- The fields of a domain's blocks returned to their reset values. (DEDUCED, log 34) -/
def resetDomain (d : Nat) (s : State) : State := forAll (domainBlks d) (fun x => resetBlk x.1 x.2) s

/-- The effects of a domain that turns off. (DEDUCED, log 67) -/
def domainOffFx (d : Nat) (s : State) : State :=
  if 6 ≤ d ∧ d < 10 then
    let n := d - 6
    let s := loseStaged n (stopPorts n s)
    modPav n (fun x => { rowHits := x.rowHits }) (resetDomain d s)
  else if 10 ≤ d ∧ d < 14 then resetDomain d (setF (d - 10) .PAV_CTL_ENABLED 0 (stopPorts (d - 10) s))
  else if 14 ≤ d ∧ d < 22 then
    let p := d - 14
    let s := abortPortCmds p (discardLayby p (toDisabled p s))
    modPort p (fun x => { lane := { x.lane with tsTx := [], tsRx := [] }, cal := x.cal }) (resetDomain d s)
  else if 22 ≤ d ∧ d < 30 then
    let p := d - 22
    resetDomain d (forgetStored p (modCal p (fun _ => {}) (cmdStop p .CAL_HYB_RECAL ocAborted (toDisabled p s))))
  else if 30 ≤ d ∧ d < 38 then
    let p := d - 30
    resetDomain d (modLane p (fun l => { l with lock := false, ib := [] }) (laneRefresh p s))
  else if d = 1 then s
  else resetDomain d s

/-- The trims of a port loaded from the current calibration set (R391). -/
def loadTrims (p : Nat) (s : State) : State :=
  let set := if s.nvm.current = 0 then s.nvm.areaA else s.nvm.areaB
  let trims := match set with | some c => (c.ports[p]?).getD [] | none => []
  setAll p [(.AFE_HYB_R, mapGetD trims 44 Fld.AFE_HYB_R.base), (.AFE_HYB_C, mapGetD trims 45 Fld.AFE_HYB_C.base)] (modCal p (fun c => { c with trims := trims }) s)

/-- The effects of a domain that turns on: reset values, the values of the applied layout, the start enables of its
blocks where the strap code follows the layout, TX_ALLOW (R375). (DEDUCED, log 66; DEDUCED, log 67) -/
def domainOnFx (d : Nat) (s : State) : State :=
  if 6 ≤ d ∧ d < 10 then when s.loader.fwRunning (bringUp (d - 6) false) s
  else if 10 ≤ d ∧ d < 14 then
    let n := d - 10
    startEnable n (when (domainOn (6 + n) s) (showPavLayout n) s)
  else if 14 ≤ d ∧ d < 22 then
    let p := d - 14
    let s := showPortLayout p s
    leaveDisabled p (allowTx p (when (strapFollows s) (startPortEnables p d) s))
  else if 22 ≤ d ∧ d < 30 then
    let p := d - 22
    let s := loadTrims p s
    leaveDisabled p (allowTx p (when (strapFollows s) (startPortEnables p d) s))
  else if 30 ≤ d ∧ d < 38 then
    let p := d - 30
    when (strapFollows s) (startPortEnables p d) (showHostLayout p s)
  else s

/-- A domain follows its GATE. D2 waits for an NVM write in progress (R375). -/
def gateFollow (d : Nat) (s : State) : State :=
  let want := gateWants d s
  if want == domainOn d s then s
  else if want then domainOnFx d (setF 0 (.PWRC_ON d) 1 s)
  else if d = 2 ∧ getF 0 .NVMC_WRITING s = 1 then s
  else domainOffFx d (setF 0 (.PWRC_ON d) 0 s)

/-! ### The commands of rows R30 and R117 -/

/-- PAVILION_BRINGUP (R117): once firmware runs, a pavilion without a layout in its tiles is brought up. -/
def execPavilionBringup (n : Fin 4) (s : State) : Answer :=
  .next (coreEvent (fun s => if s.loader.fwRunning && domainOn (6 + n.val) s && (s.pav n).active.isNone then bringUp n true s else s) s)

/-- PAV_ENABLE_DEFERRED (R115): the enable that waited for an APPLY or a disable. -/
def execPavEnableDeferred (n : Fin 4) (s : State) : Answer :=
  .next (clockEvent (fun s => if (s.pav n).deferred && !(s.pav n).disabling && !applyRuns n s then
      startEnable n (modPav n (fun x => { x with deferred := false }) s)
    else s) s)

/-- PAV_ENABLE_DONE (R30). -/
def execPavEnableDone (n : Fin 4) (s : State) : Answer := .next (clockEvent (fun s => enableDone n s) s)

/-- PAV_DISABLE_DONE (R30). -/
def execPavDisableDone (n : Fin 4) (s : State) : Answer := .next (clockEvent (fun s => disableDone n s) s)

end Sys2Proof.Machine
end

