-- ==== Sys2Proof/Machine/Post.lean ====
section
/-! DEFINITION. Post rings (R58 to R63): command and event entries in post-office memory. -/

namespace Sys2Proof.Machine

/-- The place of an entry in post-office memory: ring 2m holds the commands of tag m, ring 2m + 1 its events (R58). -/
def entryAt (ring pos : Nat) : Nat := ring * 4096 + pos % 64 * 64

/-- A word of a ring entry. -/
def entryWord (ring pos w : Nat) (s : State) : Nat := readWord s.post (entryAt ring pos + 4 * w)

/-- A word of a ring entry written. -/
def setEntryWord (ring pos w v : Nat) (s : State) : State :=
  { s with post := writeWord s.post (entryAt ring pos + 4 * w) v }

/-- Entries between two indices of a ring (R58). -/
def ringFill (put get : Nat) : Nat := (put + 128 - get) % 128

/-- STATE of a command entry (R59). -/
def cmdState (m pos : Nat) (s : State) : Nat := entryWord (2 * m) pos 0 s / 2 ^ 28

/-- STATE of a command entry set. -/
def setCmdState (m pos st : Nat) (s : State) : State :=
  setEntryWord (2 * m) pos 0 (st * 2 ^ 28 + entryWord (2 * m) pos 0 s % 2 ^ 28) s

/-- Free entries of a master's event ring. -/
def evtFree (m : Nat) (s : State) : Nat := 64 - ringFill (getF 0 (.POST_EVT_PUT m) s) (getF 0 (.POST_EVT_GET m) s)

/-- Positions of a master's commands in a state. -/
def cmdsIn (m st : Nat) (s : State) : List Nat := (List.range 64).filter fun e => cmdState m e s == st

/-- An event entry posted, then EVT_PUT advanced (R59, R60): kind, the command it stands for, OUTCOME, results, LEDGER. -/
def postEvent (m kind cmd cookie oc : Nat) (results ledger : List Nat) (s : State) : State :=
  let put := getF 0 (.POST_EVT_PUT m) s
  let words := [kind * 2 ^ 28 + cmd % 2 ^ 16, cookie, oc] ++ (results ++ List.replicate 9 0).take 9 ++
    (ledger ++ List.replicate 4 0).take 4
  let s := forAll (List.range 16) (fun w => setEntryWord (2 * m + 1) put w (words.getD w 0)) s
  setF 0 (.POST_EVT_PUT m) (put + 1) s

/-- LEDGER of a command entry. -/
def ledgerOf (m pos : Nat) (s : State) : List Nat := (List.range 4).map fun i => entryWord (2 * m) pos (12 + i) s

/-- The event of a command entry, with its CMD and COOKIE. -/
def postFor (m pos kind oc : Nat) (results ledger : List Nat) (s : State) : State :=
  postEvent m kind (entryWord (2 * m) pos 0 s) (entryWord (2 * m) pos 1 s) oc results ledger s

/-- Firmware takes the entry at CMD_GET (R60): one that is not POSTED is completed REJECTED unexecuted. An entry is
taken only while the event ring has room beyond what executing commands will need. (DEDUCED, log 48) -/
def takeCommand (m : Nat) (s : State) : State :=
  let get := getF 0 (.POST_CMD_GET m) s
  let pos := get % 64
  if !s.loader.fwRunning || get == getF 0 (.POST_CMD_PUT m) s || evtFree m s ≤ (cmdsIn m 2 s).length then s
  else
    let posted := cmdState m pos s = 1
    let s := setF 0 (.POST_CMD_GET m) (get + 1) s
    if posted then setCmdState m pos 2 s else postFor m pos 1 ocRejected [] [] (setCmdState m pos 3 s)

/-- LEDGER of an executing command written by firmware (R59). -/
def setLedger (m pos : Nat) (ledger : List Nat) (s : State) : State :=
  forAll (List.range 4) (fun i => setEntryWord (2 * m) pos (12 + i) (ledger.getD i 0)) s

/-- Firmware goes on with an executing command (R59, R60, R63): a step of it completed writes LEDGER; its end also sets
STATE to DONE and posts the completion entry. A visitor's command that would change configuration or state is REJECTED.
`results` holds the words 3 to 11 of the completion, then LEDGER. (DEDUCED, log 48) -/
def completeCommand (m pos : Nat) (oc : Option Nat) (changes : Bool) (results : List Nat) (s : State) : State :=
  if !s.loader.fwRunning || cmdState m pos s != 2 then s
  else
    let ledger := ((results ++ List.replicate 13 0).drop 9).take 4
    match oc with
    | none => setLedger m pos ledger s
    | some oc =>
      if evtFree m s = 0 then s
      else
        let oc := if changes && !isKeeper m s then ocRejected else oc
        postFor m pos 1 oc (results.take 9) ledger (setCmdState m pos 3 (setLedger m pos ledger s))

/-- A core reset marks the executing entries INTERRUPTED (R61). -/
def interruptPost (s : State) : State :=
  forAll (List.range 16) (fun m s =>
    forAll (cmdsIn m 2 s) (fun pos s =>
      { setCmdState m pos 4 s with interrupted := s.interrupted ++ [(m, pos)] }) s) s

/-- After a restart firmware reports each interrupted entry, as far as the event rings have room (R61). -/
def reportInterrupted (s : State) : State :=
  if !s.loader.fwRunning then s
  else
    forAll s.interrupted (fun e s =>
      if evtFree e.1 s = 0 then s
      else postFor e.1 e.2 3 ocInterrupted [] (ledgerOf e.1 e.2 s)
        { s with interrupted := s.interrupted.filter (· != e) }) s

/-- COMMAND_TAKE (R60). -/
def execCommandTake (m : Fin 16) (s : State) : Answer := .next (coreEvent (takeCommand m) s)

/-- COMMAND_COMPLETE (R60). -/
def execCommandComplete (m : Fin 16) (pos : Fin 64) (outcome : Option (BitVec 4)) (changes : Bool) (results : List Word)
    (s : State) : Answer :=
  .next (coreEvent (completeCommand m pos (outcome.map (·.toNat)) changes (results.map (·.toNat))) s)

end Sys2Proof.Machine
end

