-- ==== Sys2Proof/Machine/Reset.lean ====
section
/-! DEFINITION. Reset levels, reset episodes, fatal faults, start-up, clocks, power states and the TAP (R354 to R383,
R406 to R409, R423). -/

namespace Sys2Proof.Machine

/-! ### What each level clears (R354) -/

/-- A ledger phase STAGED falls back when the staged banks are lost (R116). -/
def unstageAll : State → State := forAll (List.range 4) loseStaged

/-- An unfinished write of a calibration set is lost at a reset that does not wait for it: its area holds a started but
incomplete write (R393). (DEDUCED, log 63) -/
def cutSave (v : Nvm) : Nvm :=
  if v.saving.isNone then v
  else if v.current = 0 then { v with saving := none, started := true, areaB := none }
  else { v with saving := none, started := true, areaA := none }

/-- The state that system reset leaves (R354): Lodge, RSTC block, debug logic, strap code, NVM contents, and the outputs
that forward the chain (R441). Register fields are at the Reset column (R9). The queue of commands and the record of what
was sent are the model's own. -/
def systemClear (s : State) : State :=
  let s := unstageAll s
  let keep := keptKeys
  let old := s
  {
    pending := old.pending, sent := old.sent, slotMark := old.slotMark, fresh := old.fresh, cycles := old.cycles
    fields := old.fields.filter fun e => keep.contains e.1
    tmr := old.tmr.filter fun e => keep.contains e.1
    forwarding := old.forwarding, nvm := cutSave old.nvm, causes := old.causes, log := old.log
    loader := { flash := old.loader.flash }
    irqOut := old.irqOut.filter fun a => a == blkBase .RSTC 0 || a == blkBase .DEBUG 0 || a == blkBase .LODGE 0
    banked := old.banked.filter fun e => e.1 / 512 / 4096 % 256 == 0 && e.1 / 512 / 4096 / 256 == 1
    clk := { old.clk with
      boot := 0, rootPresent := false, timeRun := false, holdRun := false, holdLeft := 0, boscStarting := true
      timesetAt := none, rstPend := none, rstWas := old.clk.rstPend.map fun l => (l, old.cycles)
      stateAt := none, goAt := none, wakeWas := none, switching := false, measRun := false, fatalCore := false, muted := false } }

/-- The fields of a block returned to the Reset column of power-on; the strap fields are measured afresh (R354, R363,
R378, R383). -/
def clearBlk (b : Blk) (s : State) : State :=
  let keys := (blkFlds b).map fun f => f.key 0
  { s with fields := s.fields.filter fun e => !keys.contains e.1
           tmr := s.tmr.filter fun e => !keys.contains e.1
           irqOut := dropNat s.irqOut (blkBase b 0) }

/-- The state that power-on reset leaves (R354). -/
def powerClear (s : State) : State :=
  let s := clearBlk .DEBUG (clearBlk .RSTC (systemClear s))
  let s := setAll 0 [(.NVMC_WP, 0), (.CHAIN_RING, 0)] s
  modClk (fun c => { c with tap := 0, tapShift := 1, tapDr := [], boundary := [], boscSwap := false }) { s with forwarding := false }

/-- The Lodge loses its contents: every field reads 0, and VBAK_LOST sets (R365). (DEDUCED, log 61) -/
def loseLodge (s : State) : State :=
  let s := { clearBlk .LODGE s with causes := [], log := [] }
  sticky .LODGE_VBAK_LOST 0 s

/-- The commands carried out by the management core (R92, R118, R125, R330), with their unit. -/
def coreCmds : List (Nat × Fld) :=
  [(0, .LAYOUT_VERIFY), (0, .LAYOUT_STAGE), (0, .LAYOUT_APPLY), (0, .LAYOUT_ROLLBACK_RAISE), (0, .LAYOUT_OEM_PROGRAM)] ++
    (List.range 8).map fun p => (p, .SURVEY_SV_BASE_SAVE)

/-- INJ_ARM clears; DISARMED where the reason is one of those the block map names (R415, R419). (DEDUCED, log 47) -/
def disarm (note : Bool) (s : State) : State :=
  if isSet 0 .INJ_INJ_ARM s then
    when note (sticky .INJ_DISARMED 0) (setF 0 .INJ_ARM_LEFT 0 (setF 0 .INJ_INJ_ARM 0 { s with armLeft := 0 }))
  else s

/-- What a core reset does to the state (R58, R61, R69, R92, R118, R121, R354, R415): management core and firmware stop,
their running commands end, staging not complete is discarded. A trial it catches fails unless the reset is that of
FW_ACTIVATE. (DEDUCED, log 56) -/
def coreClear (activate : Bool) (s : State) : State :=
  let s := forAll coreCmds (fun c => cmdStop c.1 c.2 ocInterrupted) s
  let s := forAll s.loader.applyLeft (fun n => modPav n fun x => { x with tiles := false }) s
  let s := forAll (List.range 8) (fun p => modWatch p fun w => { w with acc := [], baseAbort := false }) s
  let failed := !activate && isSet 0 .LAYOUT_TRIAL s
  let id := getF 0 .LAYOUT_FW_ID_HI s * 2 ^ 32 + getF 0 .LAYOUT_FW_ID_LO s
  let s := modLoader (fun l => { l with
    fwRunning := false, stageLeft := [], stageAbort := false, applyLeft := [], applyMask := [], trialLeft := 0
    fwFailed := if failed then [id] else l.fwFailed, reverted := l.reverted || failed }) s
  let s := when failed (fun s => setF 0 .RSTC_CAUSE_MASK (getF 0 .RSTC_CAUSE_MASK s ||| 2 ^ 10) s) s
  let s := setAll 0 [(.LAYOUT_TRIAL, 0), (.LAYOUT_FW_SVN, 0), (.LAYOUT_FW_ID_LO, 0), (.LAYOUT_FW_ID_HI, 0),
    (.BOOTF_FW_SRC, 0)] s
  let s := setF 0 .INJ_ALLOW_FATAL 0 (disarm true s)
  let s := match s.staging with
    | some g =>
      if g.complete then s
      else setF 0 .CHAIN_STAGED_GEN 0 { s with staging := if g.armed.isSome then some { g with dead := true } else none }
    | none => s
  interruptPost s

/-! ### Episodes (R355, R357, R361) -/

/-- An assertion recorded: at an episode's start CAUSE_MASK and WIDEST are replaced and the Lodge counts (R357, R365). -/
def noteCause (bit level : Nat) (s : State) : State :=
  let first := !s.clk.episode
  let mask := if first then 0 else getF 0 .RSTC_CAUSE_MASK s
  let wide := if first then level else max level (getF 0 .RSTC_WIDEST s)
  let s := setAll 0 [(.RSTC_CAUSE_MASK, mask ||| 2 ^ bit), (.RSTC_WIDEST, wide)] s
  let s := modClk (fun c => { c with episode := true, asserted := addNat c.asserted bit }) s
  if first then
    let n := getF 0 .LODGE_RESET_COUNT s
    let s := setF 0 .LODGE_RESET_COUNT (satAdd 32 n 1) s
    if n + 1 = 2 ^ 32 - 1 then sticky .LODGE_COUNT_SAT 0 s else s
  else s

/-- A reset source asserts (R355): level 1 core, 2 system, 3 power-on. A core reset during a start-up that has not
reached its entry step is only recorded (R361). -/
def assertReset (bit level : Nat) (s : State) : State :=
  if level = 3 then noteCause bit 3 (powerClear s)
  else if level = 2 then noteCause bit 2 (systemClear s)
  else
    let s := noteCause bit 1 s
    if s.clk.boot < 6 then s else modClk (fun c => { c with boot := 6 }) (coreClear (bit == 9) s)

/-- A cause entry of the Lodge: the ring of the last 8 episodes (R365, R381). -/
def writeCause (s : State) : State :=
  let held := getF 0 .LODGE_CAUSES_HELD s
  let at_ := if held = 0 then 0 else (getF 0 .LODGE_CAUSE_NEWEST s + 1) % 8
  let e := (getF 0 .RSTC_CAUSE_MASK s + getF 0 .RSTC_WIDEST s * 2 ^ 16, getF 0 .LODGE_RESET_COUNT s)
  let l := if at_ < s.causes.length then s.causes.set at_ e else s.causes ++ [e]
  setAll 0 [(.LODGE_CAUSE_NEWEST, at_), (.LODGE_CAUSES_HELD, min 8 (held + 1))] { s with causes := l }

/-- Every port out of DISABLED resumes after its line was muted: SHOWTIME and LPI_QUIET by fast retrain with the lay-by
kept, the others to LINK_DOWN with DOWN_CAUSE as it is (R369, R409). -/
def resumePorts : State → State :=
  forAll (List.range 8) fun p s =>
    if stOf p s = stDisabled then s
    else if trunkShow p s then retrainBy p 10 true false s
    else noteMuted p (toLinkDown p none s)

/-- Every line muted, or released again. -/
def muteAll (on : Bool) (s : State) : State :=
  forAll (List.range 8) noteMuted (modClk (fun c => { c with muted := on }) s)

/-- The end of a reset episode (R357, R360, R409): the cause entry, RESET_SEEN, start-up from the entry step of the
widest level. -/
def endEpisode (s : State) : State :=
  if !s.clk.episode then s
  else
    let wide := getF 0 .RSTC_WIDEST s
    let s := sticky .RSTC_RESET_SEEN 0 (writeCause s)
    let s := modClk (fun c => { c with episode := false, asserted := [], widest := wide }) s
    if wide = 1 then
      let s := when s.loader.reverted (fun s =>
        sticky .LAYOUT_FW_REVERTED 0 (modLoader (fun l => { l with reverted := false }) s)) s
      if s.clk.fatalCore then
        resumePorts (muteAll false (modClk (fun c => { c with fatalCore := false }) s))
      else s
    else modClk (fun c => { c with boot := 1 }) s

/-! ### The calibration store (R391 to R393) -/

/-- The write of a calibration set completes: CRC and generation last, then it is the current set (R392, R393).
(DEDUCED, log 63) -/
def finishSave (s : State) : State :=
  match s.nvm.saving with
  | none => s
  | some c =>
    let s := modNvm (fun v => if v.current = 0 then { v with areaB := some c, current := 1, saving := none }
      else { v with areaA := some c, current := 0, saving := none }) s
    let s := setAll 0 [(.NVMC_CAL_GEN, c.gen), (.NVMC_CAL_SRC, c.src), (.NVMC_CAL_DEFAULTS, 0), (.NVMC_WRITING, 0)] s
    cmdStop 0 .NVMC_SAVE ocDone s

/-! ### Fatal faults (R408, R409, R416) -/

/-- A fatal source that FTC_NVM or FTC_SUPPLY routes to core reset (R355). -/
def routedToCore (b : Blk) (src : Nat) (s : State) : Bool :=
  (b == .NVMC && src == 0x10 && isSet 0 .RSTC_FTC_NVM s) ||
    (b == .PWRC && (src == 0x11 || src == 0x12) && isSet 0 .RSTC_FTC_SUPPLY s)

/-- The ladder of R408 after the latch: record in RSTC, lines muted, an NVM write in progress completed, reset. -/
def fatalLadder (b : Blk) (u src : Nat) (s : State) : State :=
  let s := finishSave s
  let s := muteAll true (setAll 0 [(.RSTC_FATAL_BLOCK, blkBase b u), (.RSTC_FATAL_VALID, 1)] s)
  if routedToCore b src s then assertReset 7 1 (modClk (fun c => { c with fatalCore := true }) s)
  else assertReset 6 2 s

/-- A real fatal fault (R408, R418). -/
def fatal (b : Blk) (u src detail : Nat) (s : State) : State :=
  fatalLadder b u src (displaceWindow b u (recordFault b u 2 src detail 0 s))

/-! ### Start-up (R360 to R363) -/

/-- The strap code of a converter count (R362). -/
def strapOf (count : Nat) : Nat :=
  ([1, 5, 8, 12, 16, 20, 24, 28, 32, 37, 41, 45, 49, 53, 58, 63].filter fun top => top < count).length

/-- The lowest and highest counts of the codes, without 0 and 63 (R362). -/
def strapEdges : List Nat :=
  [1, 2, 5, 6, 8, 9, 12, 13, 16, 17, 20, 21, 24, 25, 28, 29, 32, 33, 37, 38, 41, 42, 45, 46, 49, 50, 53, 54, 58, 59]

/-- STRAP_MEASURE (R362, R363, R378). (DESIGN CHOICE, log 8) -/
def measureStrap (count : Nat) (s : State) : State :=
  let code := strapOf count
  let wp := ofBool (code = 13 || code = 14)
  let s := setAll 0 [(.RSTC_STRAP_CODE, code), (.RSTC_STRAP_COUNT, count), (.RSTC_STRAP_WP, wp), (.NVMC_WP, wp)] s
  let s := setF 0 .CHAIN_RING (ofBool (strapRing s)) s
  if strapEdges.contains count then sticky .RSTC_STRAP_MARGINAL 0 s else s

/-- BOSC qualifies (R360 step 2, R370): BOSC_SEL shows the instance in use; after a failed instance BOSC_SWAP sets; in DEEP
with ROOT lost CLK_LOSS sets; at power-on the strap is then measured. -/
def boscQualified (count : Nat) (s : State) : State :=
  if !s.clk.boscStarting || s.clk.episode then s
  else
    let s := setAll 0 [(.CLKC_BOSC_QUAL, 1), (.CLKC_BOSC_SEL, s.clk.boscSel)]
      (modClk (fun c => { c with boscStarting := false, boscRuns := true }) s)
    let s := if s.clk.boscSwap then
        correctedFault .CLKC 0 0x13 s.clk.boscSel (modClk (fun c => { c with boscSwap := false }) s)
      else s
    let s := when (s.clk.holdRun && getF 0 .PWRC_DEV_STATE s == 3) (sticky .CLKC_CLK_LOSS 0) s
    if s.clk.boot = 1 then
      modClk (fun c => { c with boot := 3 }) (if s.clk.widest = 3 then measureStrap count s else s)
    else s

/-- ROOT qualifies (R360 step 4, R441): the device acts on chain frames from here on, its outputs forward, device time
runs. After a loss of ROOT in the episode of a core reset the ports resume as well (R369, R377).
(DEDUCED, log 57; DEDUCED, log 137) -/
def rootQualified (s : State) : State :=
  let lockA := isSet 0 .CHAIN_LINK_A s
  let onB := !lockA && isSet 0 .CHAIN_RING s && isSet 0 .CHAIN_LINK_B s
  let back := 4 ≤ s.clk.boot && !s.clk.rootPresent && !s.clk.holdRun
  if s.clk.episode || (s.clk.boot != 3 && !back) || !(lockA || onB) then s
  else
    let s := setAll 0 [(.CLKC_ROOT_OK, 1), (.CHAIN_ROOT_SRC, ofBool onB)] s
    let s := modClk (fun c => { c with boot := max c.boot 4, rootPresent := true, timeRun := true })
      { s with acting := true, forwarding := true }
    if back then resumePorts (muteAll false (setAll 0 [(.CLKC_LPLL_LOCK, 1), (.CLKC_HPLL_LOCK, 1)] s)) else s

/-- The PLLs lock (R360 step 5, R374); LPLL_SEL shows the line PLL in use (R371, R379). (DEDUCED, log 60) -/
def pllLock (s : State) : State :=
  if s.clk.episode || s.clk.boot < 4 || getF 0 .PWRC_DEV_STATE s == 3 || !s.clk.rootPresent then s
  else
    setAll 0 [(.CLKC_LPLL_SEL, 1 - getF 0 .SPARE_LPLL_LEFT s), (.CLKC_LPLL_LOCK, 1), (.CLKC_HPLL_LOCK, 1)]
      (modClk (fun c => { c with boot := max c.boot 5 }) s)

/-- The current calibration set chosen: the higher CAL_GEN among the readable areas (R391). -/
def chooseSet (a b : Bool) (s : State) : Option (Nat × CalSet) :=
  let pick := fun (k : Nat) (ok : Bool) (x : Option CalSet) =>
    match x with
    | some c => if ok && c.readable then some (k, c) else none
    | none => none
  match pick 0 a s.nvm.areaA, pick 1 b s.nvm.areaB with
  | some x, some y => some (if x.2.gen < y.2.gen then y else x)
  | some x, none => some x
  | none, y => y

/-- NVM read and device calibration (R360 step 6, R385, R391, R393, R394); the boot ROM enables the LAYOUT block, and
BOOTF where flash is permitted, and reads the flash's identity (R125, R126). (DEDUCED, log 53; DEDUCED, log 64) -/
def nvmRead (a b started : Bool) (corrected : Nat) (duty : Nat × Nat) (flashId : Nat) (s : State) : State :=
  if s.clk.episode || s.clk.boot != 5 then s
  else
    let s := countBy 0 .NVMC_ECC_CORR corrected s
    let s := when (started || s.nvm.started) (sticky .NVMC_CAL_OLD_KEPT 0) (modNvm (fun v => { v with started := false }) s)
    let lost := (chooseSet a b s).isNone
    let declared := bitsOf (getF 0 .RSTC_CAUSE_MASK s) 6 2 != 0 && getF 0 .RSTC_FATAL_BLOCK s == blkBase .NVMC 0
    if lost && isSet 0 .RSTC_STRAP_WP s && !declared then fatal .NVMC 0 0x10 0 s
    else
      let s := match chooseSet a b s with
        | some (k, c) =>
          setAll 0 [(.NVMC_CAL_GEN, c.gen), (.NVMC_CAL_SRC, c.src), (.NVMC_CAL_DEFAULTS, 0)]
            (modNvm (fun v => { v with current := k }) s)
        | none =>
          sticky .NVMC_CAL_DEFAULTS 0 (setAll 0 [(.NVMC_CAL_GEN, 0), (.NVMC_CAL_SRC, 2), (.NVMC_CAL_DEFAULTS, 1)]
            (modNvm (fun v => { v with areaA := none, areaB := none }) s))
      let s := forAll ((List.range 8).filter fun p => domainOn (22 + p) s) loadTrims s
      let s := setF 0 (.en .LAYOUT) 1 (modClk (fun c => { c with boot := 6, duty := duty }) s)
      if strapFlash s then
        let s := setAll 0 [(.en .BOOTF, 1), (.BOOTF_FLASH_JEDEC_ID, flashId)] s
        if flashId = 0 then sticky .BOOTF_FLASH_ERR 0 s else s
      else s

/-- A firmware runs: its identity and source, and the reports of R61; an image whose trial failed is barred until other
firmware runs. (DEDUCED, log 55; DESIGN CHOICE, log 139) -/
def runFirmware (src id svn : Nat) (s : State) : State :=
  let s := setAll 0 [(.BOOTF_FW_SRC, src), (.LAYOUT_FW_SVN, svn), (.LAYOUT_FW_ID_LO, id % 2 ^ 32),
    (.LAYOUT_FW_ID_HI, id / 2 ^ 32)] s
  reportInterrupted (modClk (fun c => { c with boot := max c.boot 7 })
    (modLoader (fun l => { l with fwRunning := true, fwFailed := [] }) s))

/-- Firmware starts from flash: the preferred slot, then the other, without an image whose trial failed (R117, R121,
R360 step 7). Strap code 0 stops before this step. (DEDUCED, log 55) -/
def startFirmware (s : State) : State :=
  if s.clk.episode || s.clk.boot < 6 || !coreRuns s || s.loader.fwRunning || s.loader.actPending || !strapFlash s then s
  else
    let found := (slots s).findSome? fun sl =>
      (flashValid sl 1 s).bind fun f => if s.loader.fwFailed.contains (imgId f.bytes) then none else some (sl, f)
    let s := noteSearch 1 (found.map (·.1)) s
    match found with
    | some (sl, f) =>
      runFirmware (sl + 1) (imgId f.bytes) (imgSvn f.bytes)
        (when (decide ((slots s).head? ≠ some sl)) (sticky .BOOTF_SLOT_FALLBACK 0) s)
    | none => s

/-! ### Loss of ROOT (R368 to R371) -/

/-- ROOT is lost (R369 step 2, R70, R100, R370, R377): lines muted, clocks gated, device time stops, an arming and its
staging are discarded; ROOT_HOLD counts, but not in a reset episode; in DEEP BOSC starts. (DEDUCED, log 58; DEDUCED, log 137)
-/
def loseRoot (s : State) : State :=
  if !s.clk.rootPresent then s
  else
    let s := modClk (fun c => { c with rootPresent := false, timeRun := false }) s
    let s := sticky .TIME_TIME_INVALID 0 (setAll 0 [(.CLKC_ROOT_OK, 0), (.CLKC_LPLL_LOCK, 0), (.CLKC_HPLL_LOCK, 0),
      (.TIME_TIME_VALID, 0)] s)
    let s := match s.staging with
      | some g =>
        if g.armed.isSome then
          sticky .CHAIN_MODE_MISSED 0 (setAll 0 [(.CHAIN_MISSED_GEN, g.gen), (.CHAIN_STAGED_GEN, 0), (.CHAIN_STAGED, 0),
            (.CHAIN_ARMED, 0)] { s with staging := none })
        else s
      | none => s
    let s := muteAll true s
    if s.clk.episode then s
    else
      let deep := getF 0 .PWRC_DEV_STATE s == 3
      let s := setF 0 .CLKC_HOLD_LEFT (getF 0 .CLKC_ROOT_HOLD s) s
      modClk (fun c => { c with holdRun := true, holdLeft := getF 0 .CLKC_ROOT_HOLD s * 125000
                                boscStarting := c.boscStarting || deep }) s

/-- Management moves to BOSC in SAFE (R369 step 3). -/
def safeEntry (s : State) : State :=
  if s.clk.holdRun && !s.clk.rootPresent && getF 0 .CLKC_BOSC_QUAL s == 1 && getF 0 .PWRC_DEV_STATE s != 3 then
    sticky .CLKC_CLK_LOSS 0 (setF 0 .CLKC_SAFE 1 s)
  else s

/-- ROOT returns and qualifies before ROOT_HOLD (R369 step 4a, R370). -/
def rootReturn (s : State) : State :=
  if !s.clk.holdRun then s
  else
    let deep := getF 0 .PWRC_DEV_STATE s == 3
    let s := modClk (fun c => { c with holdRun := false, holdLeft := 0, rootPresent := true, timeRun := true
                                       boscStarting := if deep then false else c.boscStarting }) s
    let s := sticky .CLKC_ROOT_RETURNED 0 (setAll 0 [(.CLKC_HOLD_LEFT, 0), (.CLKC_SAFE, 0), (.CLKC_ROOT_OK, 1)] s)
    let s := muteAll false s
    if deep then setF 0 .CLKC_BOSC_QUAL 0 s
    else resumePorts (setAll 0 [(.CLKC_LPLL_LOCK, 1), (.CLKC_HPLL_LOCK, 1)] s)

/-- BOSC has not qualified in 500 µs (R370): the other instance serves the next qualification. (DEDUCED, log 60) -/
def boscFails (s : State) : State :=
  if !s.clk.boscStarting || s.clk.episode then s
  else
    let sel := s.clk.boscSel
    let s := if getF 0 .SPARE_BOSC_LEFT s = 1 then takeSpare .SPARE_BOSC_LEFT 8 1 s else s
    fatal .CLKC 0 0x11 sel (modClk (fun c => { c with boscSel := 1 - sel, boscSwap := true }) s)

/-- The root moves to port B (R371): always forced. (DEDUCED, log 59) -/
def rootToB (s : State) : State :=
  if isSet 0 .CHAIN_RING s && getF 0 .CHAIN_ROOT_SRC s == 0 && isSet 0 .CHAIN_LINK_B s && s.clk.rootPresent then
    sticky .CHAIN_ROOT_ON_B 0 (sticky .CLKC_CLK_FORCED 0 (count 0 .CLKC_FORCED_SW (setF 0 .CHAIN_ROOT_SRC 1 s)))
  else s

/-- The root returns to port A when port B fails with port A in lock (R371): the failed port gives no edge, so the
switch is forced. (DEDUCED, log 59) -/
def rootToA (s : State) : State :=
  if isSet 0 .CHAIN_RING s && getF 0 .CHAIN_ROOT_SRC s == 1 && isSet 0 .CHAIN_LINK_A s && s.clk.rootPresent then
    sticky .CLKC_CLK_FORCED 0 (count 0 .CLKC_FORCED_SW (setF 0 .CHAIN_ROOT_SRC 0 s))
  else s

/-- The line PLL loses lock for 10 µs (R371): the spare takes over, ports in SHOWTIME start a fast retrain.
(DEDUCED, log 60) -/
def pllLost (s : State) : State :=
  if getF 0 .CLKC_LPLL_LOCK s != 1 then s
  else if getF 0 .SPARE_LPLL_LEFT s = 0 then setF 0 .CLKC_LPLL_LOCK 0 s
  else
    let s := setF 0 .CLKC_LPLL_SEL 1 (takeSpare .SPARE_LPLL_LEFT 7 1 s)
    let s := correctedFault .CLKC 0 0x12 1 s
    forAll (List.range 8) (fun p s => if stOf p s = stShow then retrainBy p 10 true false s else s) s

/-! ### Power states and domains (R374, R375) -/

/-- A device state is entered (R374): into DEEP every port goes to DISABLED and BOSC and the PLLs stop, out of it BOSC
starts. Domains follow at DOMAIN_SWITCH_DONE. -/
def switchState (st : Nat) (s : State) : State :=
  let old := getF 0 .PWRC_DEV_STATE s
  let s := modClk (fun c => { c with switching := true }) (setF 0 .PWRC_DEV_STATE st s)
  if old = st then s
  else
    let s := sticky .PWRC_STATE_CHANGED 0 (count 0 .PWRC_STATE_CHANGES s)
    if st = 3 then
      let s := forAll (List.range 8) (fun p s =>
        if stOf p s = stDisabled then s else setCause p 1 (toDisabled p s)) s
      let s := modClk (fun c => { c with boscStarting := false }) s
      setAll 0 [(.CLKC_BOSC_QUAL, 0), (.CLKC_LPLL_LOCK, 0), (.CLKC_HPLL_LOCK, 0)] s
    else if old = 3 then modClk (fun c => { c with boscStarting := true }) s
    else s

/-- Wake detectors that fire in DEEP (R322, R374): WAKE_SRC holds WAKE_N low, each firing counts, and with WAKE_AUTO = 1
the device enters RUN. -/
def wakeTakes (ps : List Nat) (s : State) : State :=
  let s := forAll ps (fun p s =>
    sticky .PWRC_WAKE 0 (count 0 .PWRC_WAKES (setF 0 .PWRC_WAKE_SRC (getF 0 .PWRC_WAKE_SRC s ||| 2 ^ p) s))) s
  if !ps.isEmpty && getF 0 .PWRC_WAKE_AUTO s == 1 then switchState 1 s else s

/-- A device state is entered; into DEEP, detectors that fired in the same cycle are taken after it (R374, R377).
(DESIGN CHOICE, log 132) -/
def enterState (st : Nat) (s : State) : State :=
  let was := s.clk.wakeWas
  let now := s.cycles
  let s := switchState st s
  match was with
  | some (mask, at_) =>
    if st = 3 ∧ at_ = now then
      wakeTakes ((List.range 8).filter fun p => bitOf mask p) (modClk (fun c => { c with wakeWas := none }) s)
    else s
  | none => s

/-- STATE_GO written (R374, R380): ABORTED in the cycle of a COMMIT's change of state (R377). -/
def startStateGo (s : State) : State :=
  if getF 0 .PWRC_STATE_REQ s = 0 then cmdReject 0 .PWRC_STATE_GO s
  else if s.clk.stateAt = some s.cycles then cmdEnd 0 .PWRC_STATE_GO ocAborted s
  else
    enterState (getF 0 .PWRC_STATE_REQ s) (cmdStart 0 .PWRC_STATE_GO (modClk (fun c => { c with goAt := some s.cycles }) s))

/-- A chain COMMIT enters a state at T (R71): it wins over a STATE_GO of the same cycle, which ends ABORTED (R377). -/
def commitState (st : Nat) (s : State) : State :=
  let s := when (s.clk.goAt == some s.cycles) (cmdStop 0 .PWRC_STATE_GO ocAborted) s
  enterState st (modClk (fun c => { c with stateAt := some s.cycles }) s)

/-- The domains have switched (R374, R375). -/
def domainSwitched (s : State) : State :=
  if !s.clk.switching then s
  else
    let s := forAll (List.range 38) gateFollow (modClk (fun c => { c with switching := false }) s)
    let s := when (getF 0 .PWRC_DEV_STATE s != 3) (forAll (List.range 8) leaveDisabled) s
    cmdStop 0 .PWRC_STATE_GO ocDone s

/-- A wake detector fires (R322, R374): taken in DEEP; one that fires in the cycle in which DEEP is entered is taken then
(R377). -/
def wakeFires (p : Nat) (s : State) : State :=
  if !bitOf (getF 0 .PWRC_WAKE_EN s) p then s
  else if getF 0 .PWRC_DEV_STATE s = 3 then wakeTakes [p] s
  else
    let mask := match s.clk.wakeWas with | some (m, at_) => if at_ = s.cycles then m else 0 | none => 0
    modClk (fun c => { c with wakeWas := some (mask ||| 2 ^ p, s.cycles) }) s

/-- The reference of MEAS_GO is present: ROOT, or BOSC qualified and running still (R373). (DEDUCED, log 169) -/
def measRef (s : State) : Bool :=
  if getF 0 .CLKC_MEAS_REF s = 0 then s.clk.rootPresent else getF 0 .CLKC_BOSC_QUAL s == 1 && s.clk.boscRuns

/-- MEAS_GO written: REJECTED without the reference (R373). -/
def startMeas (s : State) : State :=
  if measRef s then modClk (fun c => { c with measRun := true }) (cmdStart 0 .CLKC_MEAS_GO s)
  else cmdReject 0 .CLKC_MEAS_GO s

/-! ### The TAP (R382) -/

/-- The TAP states of IEEE 1149.1: 0 Test-Logic-Reset, 1 Run-Test/Idle, 2 to 8 Select, Capture, Shift, Exit1, Pause,
Exit2, Update of DR, 9 to 15 the same of IR. -/
def tapNext (st : Nat) (tms : Bool) : Nat :=
  let step := fun (low high : Nat) => if tms then high else low
  match st with
  | 0 => step 1 0
  | 1 => step 1 2
  | 2 => step 3 9
  | 3 => step 4 5
  | 4 => step 4 5
  | 5 => step 6 8
  | 6 => step 6 7
  | 7 => step 4 8
  | 8 => step 1 2
  | 9 => step 10 0
  | 10 => step 11 12
  | 11 => step 11 12
  | 12 => step 13 15
  | 13 => step 13 14
  | 14 => step 11 15
  | _ => step 1 2

/-- The instruction selects the boundary register: EXTEST, SAMPLE/PRELOAD, EXTEST_PULSE, EXTEST_TRAIN (R382). -/
def selectsBoundary (s : State) : Bool := [0, 2, 3, 4].contains (getF 0 .DEBUG_TAP_IR s)

/-- What Capture-DR loads, the bit nearest TDO first (R382, R383): the 32 bits of IDCODE; the pins for the boundary
register; one 0 for BYPASS, for every code the table does not list and for DBG_RESET. (DEDUCED, log 65) -/
def drCapture (s : State) : List Bool :=
  if getF 0 .DEBUG_TAP_IR s = 1 then (List.range 32).map fun i => bitOf (getF 0 .DEBUG_JTAG_IDCODE s) i
  else if selectsBoundary s then (List.range Config.boundaryLen).map (Config.boundaryCell s.fresh)
  else [false]

/-- The data register over a TCK edge: captured in Capture-DR, shifted in Shift-DR, the boundary register updated in
Update-DR (R382). (DEDUCED, log 65) -/
def tapData (old st : Nat) (tdi : Bool) (s : State) : State :=
  let s :=
    if old = 3 then
      let dr := drCapture s
      modClk (fun c => { c with tapDr := dr }) (if selectsBoundary s then spend s else s)
    else if old = 4 then modClk (fun c => { c with tapDr := c.tapDr.tail ++ [tdi] }) s
    else s
  if st = 8 ∧ selectsBoundary s then modClk (fun c => { c with boundary := c.tapDr }) s else s

/-- TDO: the bit that leaves the register being shifted, not driven otherwise (R382). (DEDUCED, log 65) -/
def tdo (s : State) : Option Bool :=
  if s.clk.tap = 4 then some (s.clk.tapDr.headD false) else if s.clk.tap = 11 then some (s.clk.tapShift % 2 == 1) else none

/-- A TCK edge, or TRST_N (R382, R383): in Test-Logic-Reset the instruction is IDCODE. (DEDUCED, log 65) -/
def tapEdge (tms tdi trst : Bool) (s : State) : State :=
  let old := s.clk.tap
  let st := if trst then 0 else tapNext old tms
  let shift := if old = 10 then 1 else if old = 11 then s.clk.tapShift / 2 + ofBool tdi * 128 else s.clk.tapShift
  let s := modClk (fun c => { c with tap := st, tapShift := shift }) (if trst then s else tapData old st tdi s)
  let s := if st = 0 then setAll 0 [(.DEBUG_TAP_RESET, 1), (.DEBUG_TAP_IR, 1)] s
    else setF 0 .DEBUG_TAP_RESET 0 (if st = 15 then setF 0 .DEBUG_TAP_IR shift s else s)
  if old = 0 ∧ st ≠ 0 then sticky .DEBUG_TAP_ACTIVE 0 s else s

/-! ### The commands -/

/-- POWER_ON_RESET (R355, R365). -/
def execPowerOnReset (lodgeIntact : Bool) (s : State) : Answer :=
  .next (assertReset 0 3 (when (!lodgeIntact) loseLodge s))

/-- BROWN_OUT (R355, R365, R423): VBAK has no brown-out threshold of its own. (DEDUCED, log 61) -/
def execBrownOut (rail : Rail) (lodgeIntact : Bool) (s : State) : Answer :=
  .next (if rail == .vbak then s else assertReset 1 3 (when (!lodgeIntact) loseLodge s))

/-- RESET_N (R356): under 1 µs ignored, from 4 µs taken, between the two either. -/
def execResetN (lowNs : Nat) (taken : Bool) (s : State) : Answer :=
  .next (if 4000 ≤ lowNs || (1000 ≤ lowNs && taken) then assertReset 2 2 s else s)

/-- The chain reset command whose reset asserts now; RESET_N in the same cycle joins it in one episode (R358, R377).
(DESIGN CHOICE, log 132) -/
def rstDue (s : State) : Option Nat :=
  match s.clk.rstPend, s.clk.rstWas with
  | some level, _ => some level
  | none, some (level, at_) => if at_ = s.cycles then some level else none
  | none, none => none

/-- RST_ASSERT (R358): RST_OUTCOME reads DONE after the reset. -/
def execRstAssert (s : State) : Answer :=
  .next (match rstDue s with
    | some level =>
      let s := cmdStop 0 .RSTC_RST_GO ocDone (modClk (fun c => { c with rstPend := none, rstWas := none }) s)
      if level = 2 then assertReset 3 2 s else assertReset 4 1 s
    | none => s)

/-- WDT_KICK (R359): the management core's write of the watchdog's words. (DEDUCED, log 62) -/
def execWdtKick (en : Bool) (time : BitVec 12) (s : State) : Answer :=
  .next (if s.loader.fwRunning && coreRuns s then setAll 0 [(.RSTC_WDT_EN, ofBool en), (.RSTC_WDT_TIME, time.toNat)] s else s)

/-- WATCHDOG_EXPIRY (R359): the watchdog stops while the core is in retention. -/
def execWatchdogExpiry (s : State) : Answer :=
  .next (if isSet 0 .RSTC_WDT_EN s && domainOn 1 s then assertReset 5 1 s else s)

/-- RESET_EPISODE_END (R357). -/
def execResetEpisodeEnd (s : State) : Answer := .next (endEpisode s)

/-- BOSC_QUALIFIED (R360, R362). -/
def execBoscQualified (strapCount : BitVec 6) (s : State) : Answer := .next (boscQualified strapCount.toNat s)

/-- ROOT_QUALIFIED (R360). -/
def execRootQualified (s : State) : Answer := .next (rootQualified s)

/-- PLL_LOCK (R360). -/
def execPllLock (s : State) : Answer := .next (pllLock s)

/-- NVM_READ_DONE (R391). -/
def execNvmReadDone (areaA areaB started : Bool) (corrected : Nat) (duty : Nat × Nat) (flashId : BitVec 24) (s : State) :
    Answer := .next (nvmRead areaA areaB started corrected duty flashId.toNat s)

/-- FIRMWARE_START (R360). -/
def execFirmwareStart (s : State) : Answer := .next (startFirmware s)

/-- ROOT_SWITCH_B (R371). -/
def execRootSwitchB (s : State) : Answer := .next (rootToB s)

/-- ROOT_SWITCH_A (R371). -/
def execRootSwitchA (s : State) : Answer := .next (rootToA s)

/-- ROOT_EDGE_LOSS (R368, R369): ROOT_LOSSES counts the firing. -/
def execRootEdgeLoss (s : State) : Answer :=
  .next (if s.clk.rootPresent then loseRoot (count 0 .CLKC_ROOT_LOSSES s) else s)

/-- ROOT_MONITOR_BAD (R368, R370): acted on once BOSC has qualified. (DEDUCED, log 58) -/
def execRootMonitorBad (s : State) : Answer :=
  .next (if getF 0 .CLKC_BOSC_QUAL s = 1 then loseRoot s else s)

/-- SAFE_ENTRY (R369). -/
def execSafeEntry (s : State) : Answer := .next (safeEntry s)

/-- ROOT_RETURN (R369). -/
def execRootReturn (s : State) : Answer := .next (rootReturn s)

/-- ROOT_HOLD_EXPIRY (R369 step 4b). -/
def execRootHoldExpiry (s : State) : Answer :=
  .next (if s.clk.holdRun && !s.clk.rootPresent then fatal .CLKC 0 0x10 0 s else s)

/-- BOSC_QUAL_TIMEOUT (R370). -/
def execBoscQualTimeout (s : State) : Answer := .next (boscFails s)

/-- LINE_PLL_LOCK_LOSS (R371). -/
def execLinePllLockLoss (s : State) : Answer := .next (pllLost s)

/-- DEEP_WAKE_DETECT (R322). -/
def execDeepWakeDetect (p : Fin 8) (s : State) : Answer := .next (wakeFires p s)

/-- MEAS_DONE (R373). -/
def execMeasDone (count : Word) (s : State) : Answer :=
  .next (if s.clk.measRun then
      setF 0 .CLKC_MEAS_COUNT count.toNat (cmdStop 0 .CLKC_MEAS_GO ocDone (modClk (fun c => { c with measRun := false }) s))
    else s)

/-- MEAS_TIMEOUT (R373). -/
def execMeasTimeout (s : State) : Answer :=
  .next (if s.clk.measRun then cmdStop 0 .CLKC_MEAS_GO ocTimeout (modClk (fun c => { c with measRun := false }) s) else s)

/-- DBG_RESET (R382): the instruction in Run-Test/Idle while DBG_RST_EN = 1. -/
def execDbgReset (s : State) : Answer :=
  .next (if isSet 0 .DEBUG_DBG_RST_EN s && s.clk.tap == 1 && getF 0 .DEBUG_TAP_IR s == 0xE0 then
      assertReset 8 2 (sticky .DEBUG_DBG_RESET_USED 0 s)
    else s)

/-- SUPPLY_FAULT (R423): no fault while power-on reset is held; VDDIO and VBAK have no source. (DESIGN CHOICE, log 122) -/
def execSupplyFault (rail : Rail) (s : State) : Answer :=
  .next (
    let held := s.clk.episode && (s.clk.asserted.contains 0 || s.clk.asserted.contains 1)
    let src := match rail with
      | .core => some 0x10
      | .afe => some 0x11
      | .drv => some 0x12
      | .nvm => some 0x13
      | .vddio => none
      | .vbak => none
    match src with
    | some k => if held then s else fatal .PWRC 0 k 0 s
    | none => s)

/-- TAP_TCK_EDGE (R382). (DEDUCED, log 65) -/
def execTapTckEdge (tms tdi trst : Bool) (s : State) : Answer :=
  .next (if domainOn 5 s then tapEdge tms tdi trst s else s)

end Sys2Proof.Machine
end

