-- ==== Sys2Proof/Machine/Loader.lean ====
section
/-! DEFINITION. The image buffer, VERIFY, STAGE, APPLY, firmware, rollback, OEM key and flash (R105 to R121). -/

namespace Sys2Proof.Machine

/-- State of a buffer area (R116). -/
def areaState (a : Nat) (s : State) : Nat := if a = 0 then getF 0 .LAYOUT_LAY_STATE s else getF 0 .LAYOUT_FW_STATE s

/-- The bytes of a buffer area. -/
def areaMem (a : Nat) (s : State) : Memory := s.loader.mem.getD a []

/-- State of a buffer area set; BUF_ID and BUF_SVN show the layout area while it is VERIFIED (R125). -/
def setArea (a st : Nat) (s : State) : State :=
  if a = 0 then
    let id := if st = 2 then imgId (areaMem 0 s) else 0
    setAll 0 [(.LAYOUT_LAY_STATE, st), (.LAYOUT_BUF_ID_LO, id % 2 ^ 32), (.LAYOUT_BUF_ID_HI, id / 2 ^ 32),
      (.LAYOUT_BUF_SVN, if st = 2 then imgSvn (areaMem 0 s) else 0)] s
  else setF 0 .LAYOUT_FW_STATE st s

/-- A loader command runs (R118). -/
def loaderBusy (s : State) : Bool :=
  [Fld.LAYOUT_VERIFY, .LAYOUT_STAGE, .LAYOUT_APPLY, .LAYOUT_ROLLBACK_RAISE, .LAYOUT_OEM_PROGRAM].any fun f => cmdRuns 0 f s

/-- VERIFY, STAGE or FLASH_PROG reads an area (R110). -/
def areaRead (a : Nat) (s : State) : Bool :=
  (cmdRuns 0 .LAYOUT_VERIFY s && s.loader.verArea == a) || (cmdRuns 0 .LAYOUT_STAGE s && a == 0) ||
    (cmdRuns 0 .BOOTF_FLASH_PROG s && s.loader.flashDest % 2 == a)

/-- A LOAD_DATA write (R110). -/
def loadWord (v : Nat) (s : State) : State :=
  let a := getF 0 .LAYOUT_LOAD_AREA s
  let ofs := getF 0 .LAYOUT_LOAD_OFS s
  if getF 0 (.en .LAYOUT) s ≠ 1 then s
  else if areaRead a s || areaSize a ≤ ofs then sticky .LAYOUT_BUF_WRITE_LOST 0 s
  else
    let s := modLoader (fun l => { l with mem := l.mem.modify a fun m => writeWord m ofs v
                                          stored := l.stored.modify a fun w => addNat w ofs }) s
    let s := setF 0 .LAYOUT_LOAD_OFS (ofs + 4) s
    let len := imgLen (areaMem a s)
    let w := s.loader.stored.getD a []
    if areaState a s = 2 then setArea a 1 s
    else if areaState a s = 0 ∧ w.contains 0x0C ∧ (lenMalformed a len ∨ w.contains (len - 4)) then setArea a 1 s
    else s

/-! ### VERIFY (R112) -/

/-- VERIFY written. -/
def startVerify (s : State) : State :=
  let a := getF 0 .LAYOUT_VER_AREA s
  if getF 0 (.en .LAYOUT) s ≠ 1 || areaState a s != 1 || loaderBusy s then cmdReject 0 .LAYOUT_VERIFY s
  else modLoader (fun l => { l with verArea := a }) (cmdStart 0 .LAYOUT_VERIFY s)

/-- VERIFY ends (R112). -/
def verifyDone (contents : Option Layout) (s : State) : State :=
  if !cmdRuns 0 .LAYOUT_VERIFY s then s
  else
    let a := s.loader.verArea
    let r := judgeImage a (areaMem a s) contents s
    let s := setF 0 .LAYOUT_VERIFY_REASON r s
    if r = 0 then
      cmdStop 0 .LAYOUT_VERIFY ocDone (setArea a 2
        (if a = 0 then modLoader (fun l => { l with contents := contents }) s else s))
    else sticky .LAYOUT_VERIFY_FAIL 0 (cmdEnd 0 .LAYOUT_VERIFY ocImplausible s)

/-! ### STAGE and APPLY (R113 to R116) -/

/-- The pavilions of a mask, ascending. -/
def masked (m : Nat) : List Nat := (List.range 4).filter fun n => bitOf m n

/-- STAGE written. (DEDUCED, log 52) -/
def startStage (s : State) : State :=
  let l := masked (getF 0 .LAYOUT_STG_MASK s)
  if getF 0 (.en .LAYOUT) s ≠ 1 || areaState 0 s != 2 || loaderBusy s || l.any fun n => !domainOn (6 + n) s then
    cmdReject 0 .LAYOUT_STAGE s
  else if l.isEmpty then cmdDone 0 .LAYOUT_STAGE s
  else modLoader (fun x => { x with stageLeft := l, stageAbort := false }) (cmdStart 0 .LAYOUT_STAGE s)

/-- The copy of one pavilion ends (R113): the last is the completion, each other an abort point. -/
def stageCopied (s : State) : State :=
  match s.loader.stageLeft with
  | [] => s
  | n :: rest =>
    let s := modLoader (fun x => { x with stageLeft := rest }) s
    let s := match bufferLayout s with
      | some b =>
        when (domainOn (6 + n) s) (fun s =>
          setAll 0 [(.LAYOUT_PHASE n, 3), (.LAYOUT_STAGED_ID_LO n, b.1 % 2 ^ 32)]
            (modPav n (fun x => { x with staged := some b }) s)) s
      | none => s
    if rest.isEmpty then cmdDoneLate 0 .LAYOUT_STAGE s.loader.stageAbort s
    else if s.loader.stageAbort then
      modLoader (fun x => { x with stageLeft := [] }) (cmdEnd 0 .LAYOUT_STAGE ocAborted s)
    else s

/-- APPLY written (R114, R115): EN is judged as it stood before this cycle, and one written 1 in it waits for the end of
APPLY. (DEDUCED, log 52) -/
def startApply (s : State) : State :=
  let l := masked (getF 0 .LAYOUT_APP_MASK s)
  let now := fun (n : Nat) => getF n (.en .PAV_CTL) s == 1 && (s.pav n).enCycle == s.cycles
  if getF 0 (.en .LAYOUT) s ≠ 1 || loaderBusy s ||
      l.any fun n => (getF n (.en .PAV_CTL) s == 1 && !now n) || getF 0 (.LAYOUT_PHASE n) s != 3 then
    cmdReject 0 .LAYOUT_APPLY s
  else if l.isEmpty then cmdDone 0 .LAYOUT_APPLY s
  else
    let s := forAll (l.filter now) (fun n s =>
      setAll n [(.PAV_CTL_LOADING, 0), (.PAV_CTL_NO_IMAGE, 0)] (modPav n (fun x => { x with deferred := true }) s)) s
    modLoader (fun x => { x with applyLeft := l, applyMask := l }) (cmdStart 0 .LAYOUT_APPLY s)

/-- The commit point of one pavilion (R114, R115): tiles loaded, bank active, ledger APPLIED, NOMATCH clear, lay-by and
stored channel profiles lost (R115, R179), TX_ALLOW by R153; the last ends APPLY. (DESIGN CHOICE, log 143) -/
def applyCommitted (s : State) : State :=
  match s.loader.applyLeft with
  | [] => s
  | n :: rest =>
    let s := modLoader (fun x => { x with applyLeft := rest }) s
    let s := match (s.pav n).staged with
      | some b =>
        let s := modPav n (fun x => { x with active := some b, staged := none, tiles := true }) s
        let s := setAll 0 [(.LAYOUT_STAGED_ID_LO n, 0), (.LAYOUT_NOMATCH n, 0)] (recordApplied n b.1 b.2.1 s)
        let s := showLayout n (forAll [2 * n, 2 * n + 1] (fun p s => forgetStored p (discardLayby p s)) s)
        let s := forAll [2 * n, 2 * n + 1] allowTx s
        if (s.pav n).deferred then s else startEnable n s
      | none => s
    if rest.isEmpty then modLoader (fun x => { x with applyMask := [] }) (cmdStop 0 .LAYOUT_APPLY ocDone s) else s

/-! ### Firmware (R120, R121) -/

/-- FW_ACTIVATE written: the reset controller applies a core reset and loads the firmware area. -/
def startActivate (s : State) : State :=
  if getF 0 (.en .LAYOUT) s ≠ 1 || areaState 1 s != 2 then cmdReject 0 .LAYOUT_FW_ACTIVATE s
  else assertReset 9 1 (modLoader (fun l => { l with actPending := true }) (cmdStart 0 .LAYOUT_FW_ACTIVATE s))

/-- The new firmware runs, on trial. -/
def activated (s : State) : State :=
  if !s.loader.actPending || s.clk.episode then s
  else
    let s := modLoader (fun l => { l with actPending := false }) s
    let s := cmdStop 0 .LAYOUT_FW_ACTIVATE ocDone (runFirmware 3 (imgId (areaMem 1 s)) (imgSvn (areaMem 1 s)) s)
    modLoader (fun l => { l with trialLeft := getF 0 .LAYOUT_FW_TRIAL s }) (setF 0 .LAYOUT_TRIAL 1 s)

/-- FW_CONFIRM written. -/
def confirm (s : State) : State :=
  if getF 0 (.en .LAYOUT) s ≠ 1 || !isSet 0 .LAYOUT_TRIAL s then cmdReject 0 .LAYOUT_FW_CONFIRM s
  else cmdDone 0 .LAYOUT_FW_CONFIRM (modLoader (fun l => { l with trialLeft := 0 }) (setF 0 .LAYOUT_TRIAL 0 s))

/-- The trial's time runs out. (DEDUCED, log 56) -/
def trialExpires (s : State) : State := if isSet 0 .LAYOUT_TRIAL s then assertReset 10 1 s else s

/-! ### Rollback counter, OEM key, flash -/

/-- ROLLBACK_RAISE written (R108). -/
def raiseRollback (s : State) : State :=
  if getF 0 (.en .LAYOUT) s ≠ 1 || loaderBusy s || getF 0 .BOOTF_FW_SRC s == 0 then cmdReject 0 .LAYOUT_ROLLBACK_RAISE s
  else
    let used := ((List.range 4).filter fun n => getF 0 (.LAYOUT_PHASE n) s != 0).map fun n =>
      getF 0 (.LAYOUT_APPLIED_SVN n) s
    let low := used.foldl min (getF 0 .LAYOUT_FW_SVN s)
    let s := cmdDone 0 .LAYOUT_ROLLBACK_RAISE s
    if getF 0 .LAYOUT_RB_COUNTER s < low then sticky .LAYOUT_RB_RAISED 0 (setF 0 .LAYOUT_RB_COUNTER low s) else s

/-- OEM_PROGRAM written (R106). -/
def programOem (s : State) : State :=
  if getF 0 (.en .LAYOUT) s ≠ 1 || loaderBusy s || isSet 0 .LAYOUT_OEM_SET s then cmdReject 0 .LAYOUT_OEM_PROGRAM s
  else
    cmdDone 0 .LAYOUT_OEM_PROGRAM (setF 0 .LAYOUT_OEM_SET 1
      (modNvm (fun v => { v with oemHash := (List.range 8).map fun i => getF 0 (.LAYOUT_OEM_HASH i) s }) s))

/-- FLASH_PROG written (R111, R126): the target region is erased first. -/
def startFlash (s : State) : State :=
  let a := getF 0 .BOOTF_PROG_AREA s
  let dest := 2 * getF 0 .BOOTF_PROG_SLOT s + a
  if getF 0 (.en .BOOTF) s ≠ 1 || areaState a s != 2 then cmdReject 0 .BOOTF_FLASH_PROG s
  else
    modLoader (fun l => { l with flash := mapDel l.flash dest, flashDest := dest, flashAbort := false
                                 flashSector := (imgLen (areaMem a s) + 65535) / 65536 })
      (cmdStart 0 .BOOTF_FLASH_PROG s)

/-- Where a flash region lies (R111). -/
def flashBase (dest : Nat) : Nat := dest / 2 * 0x800000 + (if dest % 2 = 0 then 0x100000 else 0)

/-- One 64 KiB sector of the flash copy completes (R111): an abort point; the last completes FLASH_PROG. -/
def flashSectorDone (s : State) : State :=
  if !cmdRuns 0 .BOOTF_FLASH_PROG s then s
  else
    let l := s.loader
    let a := l.flashDest % 2
    let total := (imgLen (areaMem a s) + 65535) / 65536
    let s := emit (.flash (flashBase l.flashDest) (total - l.flashSector)) s
    if l.flashSector ≤ 1 then
      let img : FlashImage := { bytes := areaMem a s, contents := if a = 0 then l.contents else none }
      cmdDoneLate 0 .BOOTF_FLASH_PROG l.flashAbort
        (modLoader (fun l => { l with flash := mapPut l.flash l.flashDest img, flashSector := 0 }) s)
    else if l.flashAbort then cmdEnd 0 .BOOTF_FLASH_PROG ocAborted s
    else modLoader (fun l => { l with flashSector := l.flashSector - 1 }) s

/-! ### The commands -/

/-- VERIFY_DONE (R112). -/
def execVerifyDone (contents : Option Layout) (s : State) : Answer := .next (coreEvent (verifyDone contents) s)

/-- STAGE_COPY_DONE (R113). -/
def execStageCopyDone (s : State) : Answer := .next (coreEvent stageCopied s)

/-- APPLY_COMMIT (R114). -/
def execApplyCommit (s : State) : Answer := .next (coreEvent applyCommitted s)

/-- FW_ACTIVATE_DONE (R120). -/
def execFwActivateDone (s : State) : Answer := .next (coreEvent activated s)

/-- FW_TRIAL_EXPIRY (R121). -/
def execFwTrialExpiry (s : State) : Answer := .next (coreEvent trialExpires s)

/-- FLASH_SECTOR_DONE (R111). -/
def execFlashSectorDone (s : State) : Answer := .next (coreEvent flashSectorDone s)

end Sys2Proof.Machine
end

