-- ==== Sys2Proof/Machine/Loopback.lean ====
section
/-! DEFINITION. Loopbacks (R347). -/

namespace Sys2Proof.Machine

/-- The precondition of a loopback (R347). (DEDUCED, log 91) -/
def mayLoop (p mode : Nat) (s : State) : Bool :=
  if mode = 1 then laneUp p s
  else if mode = 2 ∨ mode = 3 then lineMode p s == 1 && (stOf p s == stLinkDown || stOf p s == stFail)
  else mode == 4 && trunkShow p s

/-- The port enters LOOPBACK as its own partner: 4 bits on every tone that may carry data, CE code 1, normal symbols,
code rate 5/6, 8 iterations, TA = 0 (R347). Counters restart as at a showtime entry, milestones start at 0. -/
def enterLoop (p : Nat) (s : State) : State :=
  let s := latchDisabled p (dropLink p (startLayby p s))
  let s := modLink p (fun l => { l with partner := none }) s
  let s := setAll p [(.FEC_OVERLOADED, 0), (.TXSH_CE, 1), (.TXSH_SHORT, 0), (.FEC_CODE_RATE, 1), (.FEC_MAXIT, 8), (.LINKUP_TA, 0),
    (.LAYBY_P_L, 2), (.LAYBY_P_RT_SYM, 4), (.TONES_TX_SYM_CNT, 0), (.TONES_TX_SF_CNT, 0), (.TONES_RX_SF_CNT, 0)] s
  let t := flatTable (planOf p s) 4
  let s := setTable p 0 t (setTable p 1 t (setTable p 2 t (setTable p 3 t s)))
  let s := modSig p (fun g => { g with
    txFirst := true, txPos := 0, rxPos := 0, rxSym := 2 ^ 24 - 1, carry := [], cwBits := 0, marks := [], dq := []
    rxErased := 0, rxFirst := true, invert := false, rxBits := 0, doneCw := 0, failCw := 0, itSum := 0, itCw := 0
    noise := [], noiseN := 0, margins := [], pilotErrs := [], oldTx := none }) s
  settleClasses p (enterSt p stLoop s)

/-- The loopback in force ends (R347). -/
def endLoop (p : Nat) (s : State) : State :=
  let was := getF p .HOST_LB_ACTIVE s
  let s := setF p .HOST_LB_ACTIVE 0 s
  if (was = 2 ∨ was = 3) ∧ stOf p s = stLoop then toLinkDown p none s else s

/-- LB_MODE written: the present loopback ends; the new one starts when its precondition holds (R347) and no retrain trigger
comes in the same cycle (R350). (DEDUCED, log 91) -/
def setLoop (p mode : Nat) (s : State) : State :=
  let ok := mayLoop p mode s && !retrainMeets p s
  let s := settleClasses p (endLoop p s)
  if mode = 0 then s
  else if !ok then sticky .HOST_LB_REFUSED p s
  else
    let s := if mode = 2 ∨ mode = 3 then enterLoop p s else s
    setF p .HOST_LB_ACTIVE mode s

end Sys2Proof.Machine
end

