-- ==== Sys2Proof/Machine/Faults.lean ====
section
/-! DEFINITION. Fault sources and their actions, automatic substitution, self-tests, wear, lay-by ECC, injection
(R21, R266, R396, R397, R399, R406 to R418). -/

namespace Sys2Proof.Machine

/-! ### Contained faults (R397, R407) -/

/-- The element that a contained source of PAV_CTL names (R411). -/
def faultElem (src : Nat) : Elem := if src = 0x10 then .engine else if src = 0x11 then .pipe else .decoder

/-- The ports of a pavilion stop for a substitution (R397 step 1): trunk ports in showtime wait in FAST_RETRAIN, the
others out of DISABLED in LINK_DOWN, muted, with DOWN_CAUSE SUBSTITUTION. -/
def waitPorts (n : Nat) : State → State :=
  forAll [2 * n, 2 * n + 1] fun p s =>
    if stOf p s = stDisabled then s
    else
      let s := abortLinkCmds p s
      let s := if trunkShow p s then toFast p (setCause p 16 s) else toLinkDown p (some 16) s
      noteMuted p (modLink p (fun l => { l with waitSub := true }) s)

/-- A contained fault of PAV_CTL with AUTO_SUB = 1; a disable of the same cycle wins (R401). -/
def autoSub (n : Nat) (s : State) : State :=
  if !isSet n .PAV_CTL_ENABLED s || (s.pav n).disabling || disableMeets n s then s
  else setF n .PAV_CTL_LOADING 1 (modPav n (fun x => { x with subRun := true }) (waitPorts n s))

/-- The action of a contained fault: the element is marked; EN is cleared, or the pavilion substitutes (R396, R397,
R398, R407). -/
def containedAction (b : Blk) (u src detail : Nat) (s : State) : State :=
  match b with
  | .PAV_CTL =>
    let s := markElem ⟨u, faultElem src, if detail < 2 then detail else 2, none, true⟩ s
    if getF u .PAV_WEAR_AUTO_SUB s = 1 then autoSub u s
    else if getF u (.en .PAV_CTL) s = 1 then
      setEn .PAV_CTL u 0 (sticky .PAV_CTL_FAULT_DISABLE u (count u .PAV_CTL_FAULT_DISABLES s))
    else s
  | .CAL => toDisabled u (modCal u (fun c => { c with held := true }) (setF u (.en .CAL) 0 s))
  | _ => s

/-- The substitution and the reload are done (R397 step 2, R398): the elements contained faults marked are replaced, a
port left below R18 goes to DISABLED, the others resume. -/
def substituted (n : Nat) (s : State) : State :=
  if !(s.pav n).subRun || disableMeets n s then s
  else
    let s := forAll ((marksOf n s).filter fun m => m.faulty) serveMark (modPav n (fun x => { x with subRun := false }) s)
    let s := showCores n (setF n .PAV_CTL_LOADING 0 (modPav n (fun x => { x with tiles := true }) s))
    forAll [2 * n, 2 * n + 1] (fun p s =>
      if !(s.port p).link.waitSub then s
      else
        let s := noteMuted p (modLink p (fun l => { l with waitSub := false }) s)
        if resourcesEnough p s then s else toDisabled p s) s

/-! ### Sources (R411, R412) -/

/-- An NVM sector fails its write verification: the data goes to a spare sector (R395, R401, R403). -/
def remapSector (s : State) : State :=
  let old := getF 0 .NVMC_SECT_LEFT s
  if old = 0 then s
  else
    let s := setAll 0 [(.NVMC_SECT_LEFT, old - 1), (.SPARE_SECT_LEFT, old - 1)] s
    let s := sticky .SPARE_SPARE_USED 0 (count 0 .SPARE_SUBSTITUTIONS (count 0 .NVMC_SECT_REMAPS s))
    correctedFault .NVMC 0 0x12 (old - 1) (noteEol 9 old (old - 1) 32 s)

/-- A real corrected or contained fault of a listed source: latch, sticky bit, counter, action of its class (R406, R407,
R412). -/
def detect (b : Blk) (u src detail : Nat) (s : State) : State :=
  if blkUnits b ≤ u || !domainOn (blkDomain b u) s then s
  else match faultClass b src with
    | some 0 =>
      if b == .NVMC && src == 0x12 then remapSector s
      else
        let s := if b == .NVMC && src == 0x11 then count 0 .NVMC_ECC_UNCORR s
          else if b == .LAYBY && src == 0x10 then count u .LAYBY_ECC_CORR s
          else if b == .LAYBY && src == 0x11 then count u .LAYBY_ECC_UNCORR s
          else s
        correctedFault b u src detail s
    | some 1 => containedAction b u src detail (displaceWindow b u (recordFault b u 1 src detail 0 s))
    | _ => s

/-! ### Lay-by ECC, self-tests, wear -/

/-- A corrected word of a lay-by row: more than 16 in one hour mark the row (R396). (DEDUCED, log 118) -/
def noteRow (n bank row : Nat) (s : State) : State :=
  let hour := 450000000000
  let hits := ((s.pav n).rowHits.filter fun h => s.cycles < h.2.2 + hour) ++ [(bank, row, s.cycles)]
  let s := modPav n (fun x => { x with rowHits := hits }) s
  if 16 < (hits.filter fun h => h.1 == bank && h.2.1 == row).length then
    markElem ⟨n, .rows, bank, some (bank * 65536 + row), false⟩ s
  else s

/-- An uncorrectable word (R254, R266): a transmit codeword is given up; a received one is treated as not received, or,
where its milestone is acknowledged already and no resend can come, as given up. (DEDUCED, log 85) -/
def loseSlot (p : Nat) (rx : Bool) (node cls ms : Nat) (s : State) : State :=
  if rx then
    if (s.port p).rxCws.any fun w => w.node == node && w.cls == cls && w.ms == ms then
      let below := msBelow ms (pmsOf p node cls s).rxA
      let st := ((s.port p).rxCws.find? fun w => w.node == node && w.cls == cls && w.ms == ms).map (·.stream)
      let s := modPort p (fun x =>
        { x with rxCws := x.rxCws.filter fun w => !(w.node == node && w.cls == cls && w.ms == ms) }) s
      if below then resolveGiven p node cls ms st s else s
    else s
  else match (s.port p).cws.find? fun w => w.node == node && w.cls == cls && w.ms == ms with
    | some w => updPressures p (giveUp p none w s)
    | none => s

/-- A self-test kernel ends on an unassigned engine tile or decoder core (R21, R396). (DEDUCED, log 119) -/
def selfTest (n : Nat) (e : Elem) (index : Nat) (passed : Bool) (s : State) : State :=
  let idle := match e with
    | .engine => getF n .ENGPOOL_ENG_IDLE s
    | .decoder => getF n .DECPOOL_CORES_IDLE s
    | _ => 0
  if !domainOn (6 + n) s || idle ≤ index then s
  else
    let dec := e == .decoder
    let s := count n .PAV_WEAR_SELFTESTS (when dec (count n .DECPOOL_SELFTESTS) s)
    let twice := (s.pav n).fails.contains (e, index)
    let s := modPav n (fun x => { x with fails :=
      if passed || twice then x.fails.filter (· != (e, index)) else x.fails ++ [(e, index)] }) s
    if passed then s
    else
      let s := count n .PAV_WEAR_SELFTEST_FAILS (when dec (fun s =>
        correctedFault .DECPOOL n 0x10 2 (count n .DECPOOL_SELFTEST_FAILS s)) s)
      if twice then markElem ⟨n, e, 2, some index, false⟩ s else s

/-- The hourly comparison of the ageing oscillators (R399). -/
def measureWear (n drift tj : Nat) (s : State) : State :=
  if !domainOn (6 + n) s then s
  else
    let g := if drift < 20 then 0 else if drift < 40 then 1 else if drift < 60 then 2 else 3
    let up := getF n .PAV_WEAR_WEAR_GRADE s < g
    when up (sticky .PAV_WEAR_WEAR_UP n)
      (setAll n [(.PAV_WEAR_DRIFT, drift), (.PAV_WEAR_TJ, tj), (.PAV_WEAR_WEAR_GRADE, g)] s)

/-! ### Injection (R80, R415 to R418) -/

/-- DETAIL is among the values that the source's DETAIL column of R411 allows. (DEDUCED, log 120) -/
def detailOk (b : Blk) (src detail : Nat) : Bool :=
  if src = 1 then (counterFlds b).any fun f => f.off / 4 == detail
  else match b with
    | .TMRS => detail ≤ 0x13
    | .CLKC => if src = 0x10 then detail = 0 else detail ≤ 1
    | .PWRC => detail = 0
    | .NVMC => if src = 0x10 then detail = 0 else if src = 0x11 then true else detail ≤ 32
    | .SPARE => 1 ≤ detail && detail ≤ 9
    | .LAYBY => true
    | .DECPOOL | .PAV_CTL => detail ≤ 2
    | .PAV_WEAR => 1 ≤ detail && detail ≤ 4
    | .CAL => if src ≤ 0x11 then [1, 2, 3, 4, 5, 8, 9, 10].contains detail else detail = 0
    | _ => false

/-- FIRE written (R80, R415, R416): a window opens, or the command ends REJECTED. A real fault of the same cycle counts as
one within the window (R417). -/
def startFire (b : Blk) (u : Nat) (s : State) : State :=
  let src := getF u (.injSrc b) s
  let cls := getF u (.injClass b) s
  let detail := getF u (.injDetail b) s
  if isSet 0 .INJ_INJ_ARM s && faultClass b src == some cls && detailOk b src detail then
    let s := setAll 0 [(.INJ_LAST_BLOCK, blkBase b u), (.INJ_LAST_VALID, 1)] (cmdStart u (.fire b) s)
    { s with injOpen := s.injOpen ++
        [(blkBase b u, cls, src, detail, mapGet s.faultAt (blkBase b u) == some s.cycles)] }
  else cmdReject u (.fire b) s

/-- The window ends (R416, R417): the injected fault is recorded with INJ = 1, or, displaced by a real fault, sets OVF
and its sticky bit; it takes the action of its class, a fatal one only with ALLOW_FATAL = 1. (DEDUCED, log 121) -/
def windowEnds (b : Blk) (u : Nat) (s : State) : State :=
  match s.injOpen.find? fun w => w.1 == blkBase b u with
  | none => s
  | some (_, cls, src, detail, displaced) =>
    let s := { s with injOpen := s.injOpen.filter fun w => w.1 != blkBase b u }
    let s := if displaced then
        count 0 .INJ_INJ_DISPLACED (irqUpdate b u (setF u (.firstOvf b) 1 (setStsBits b u (2 ^ faultBit b src) s)))
      else recordFault b u cls src detail 1 s
    let s := cmdStop u (.fire b) ocDone (sticky .INJ_INJ_FIRED 0 (count 0 .INJ_INJECTED s))
    if cls = 1 then containedAction b u src detail s
    else if cls = 2 && isSet 0 .INJ_ALLOW_FATAL s then fatalLadder b u src s
    else s

/-- INJ_ARM written 1 (R415, R419): ARM_TIME runs, in ROOT periods. -/
def armed (s : State) : State := { s with armLeft := getF 0 .INJ_ARM_TIME s * 125000000 }

/-! ### The commands -/

/-- FAULT_DETECT (R412). -/
def execFaultDetect (b : Blk) (u : Fin 8) (src detail : Byte) (s : State) : Answer :=
  .next (detect b u src.toNat detail.toNat s)

/-- FATAL_FAULT (R408). -/
def execFatalFault (b : Blk) (src detail : Byte) (s : State) : Answer :=
  .next (if faultClass b src.toNat = some 2 && domainOn (blkDomain b 0) s then fatal b 0 src.toNat detail.toNat s else s)

/-- AUTO_SUBSTITUTION (R397): a contained fault of an element while AUTO_SUB = 1. -/
def execAutoSubstitution (n : Fin 4) (e : Elem) (detail : Fin 3) (s : State) : Answer :=
  .next (clockEvent (fun s =>
    let src := match e with
      | .engine => some 0x10
      | .pipe => some 0x11
      | .decoder => some 0x12
      | .rows => none
    match src with
    | some k => if getF n.val .PAV_WEAR_AUTO_SUB s = 1 then detect .PAV_CTL n k detail s else s
    | none => s) s)

/-- SUBSTITUTION_DONE (R397). -/
def execSubstitutionDone (n : Fin 4) (s : State) : Answer := .next (clockEvent (fun s => substituted n s) s)

/-- LAYBY_ECC_ERROR (R266). -/
def execLaybyEccError (p : Fin 8) (corrected : Bool) (bank : Byte) (row : Nat) (rx : Bool) (node : Fin 16) (cls : Fin 8)
    (milestone : BitVec 16) (s : State) : Answer :=
  .next (portEvent p (fun s =>
    let n := pavOf p
    if !domainOn (10 + n) s then s
    else if corrected then noteRow n bank.toNat row (detect .LAYBY n 0x10 bank.toNat s)
    else loseSlot p rx node cls milestone.toNat (detect .LAYBY n 0x11 bank.toNat s)) s)

/-- SELFTEST_KERNEL_DONE (R21). -/
def execSelftestKernelDone (n : Fin 4) (e : Elem) (index : Nat) (passed : Bool) (s : State) : Answer :=
  .next (clockEvent (fun s => selfTest n e index passed s) s)

/-- WEAR_MEASURE (R399). -/
def execWearMeasure (n : Fin 4) (drift tj : BitVec 8) (s : State) : Answer :=
  .next (clockEvent (fun s => measureWear n drift.toNat tj.toNat s) s)

/-- ARM_TIME_EXPIRY (R415). -/
def execArmTimeExpiry (s : State) : Answer := .next (disarm true s)

/-- INJECTION_WINDOW_END (R416). -/
def execInjectionWindowEnd (b : Blk) (u : Fin 8) (s : State) : Answer := .next (windowEnds b u s)

end Sys2Proof.Machine
end

