-- ==== Sys2Proof/Machine/Calib.lean ====
section
/-! DEFINITION. Calibration runs, the start of T1 and its windows, the calibration store (R173, R180, R384 to R393,
R398). -/

namespace Sys2Proof.Machine

/-! ### Trims (R384) -/

/-- Offset, gain and skew of a trim entry, as T_OFS, T_GAIN and T_SKEW hold them. -/
def packTrim (ofs gain skew : Int) : Nat := codeOf 8 ofs + codeOf 8 gain * 2 ^ 8 + codeOf 7 skew * 2 ^ 16

/-- The numbers a packed trim entry holds. -/
def unpackTrim (w : Nat) : Int × Int × Int := (signedOf 8 w, signedOf 8 (w / 2 ^ 8), signedOf 7 (w / 2 ^ 16))

/-- A number fits a signed trim of `w` bits. -/
def fitsTrim (w : Nat) (i : Int) : Bool := satSigned w i == i

/-- A result lies in its entry's ranges: sub-converters, driver gains, DC offsets. -/
def trimInRange (t : Nat × Int × Int × Int) : Bool :=
  if t.1 < 32 then fitsTrim 8 t.2.1 && fitsTrim 8 t.2.2.1 && fitsTrim 7 t.2.2.2
  else if 34 ≤ t.1 ∧ t.1 ≤ 41 then fitsTrim 6 t.2.2.1
  else fitsTrim 8 t.2.1 && fitsTrim 8 t.2.2.1

/-- A result keeps to the step limits of a background run from the present trim. -/
def trimInStep (t : Nat × Int × Int × Int) (old : Nat) : Bool :=
  let o := unpackTrim old
  if t.1 < 32 then
    (t.2.1 - o.1).natAbs ≤ 8 && (t.2.2.1 - o.2.1).natAbs ≤ 16 && (t.2.2.2 - o.2.2).natAbs ≤ 10
  else (t.2.1 - o.1).natAbs ≤ 16 && (t.2.2.1 - o.2.1).natAbs ≤ 16

/-- The entries a run of a kind sets: 1 full port calibration, 2 background. -/
def runEntry (kind e : Nat) : Bool := e < 32 || e == 43 || (kind == 1 && 34 ≤ e && e ≤ 41)

/-- The suitability checks of R387 in order; 0 where all pass. Power in 0.1 dBm, kurtosis and ratio in 0.01, deviation in
0.1 dB. -/
def unfitReason (power : Int) (kurt : Nat) (impulse : Bool) (dev ratio : Nat) : Nat :=
  if power < -350 then 1 else if kurt < 240 then 2 else if 450 < kurt || impulse then 3 else if 10 < dev then 4
  else if 125 < ratio then 5 else 0

/-- A run's record (R387, R402): LAST_*, its counter, CAL_UNFIT or CAL_IMPLAUSIBLE. -/
def endRun (p kind oc reason : Nat) (s : State) : State :=
  let s := setAll p [(.CAL_LAST_KIND, kind), (.CAL_LAST_OUTCOME, oc), (.CAL_LAST_REASON, reason)] s
  if oc = ocUnfit then correctedFault .CAL p 0x10 reason (count p .CAL_RUNS_UNFIT s)
  else if oc = ocImplausible then correctedFault .CAL p 0x11 reason (count p .CAL_RUNS_IMPLAUSIBLE s)
  else s

/-- The statistics of a run shown. -/
def showRun (p kurt ratio dev : Nat) : State → State :=
  setAll p [(.CAL_KURT, min kurt 4095), (.CAL_VAR_RATIO, min ratio 4095), (.CAL_STAT_DEV, min dev 255)]

/-- Results stored as trims. -/
def storeTrims (p : Nat) (l : List (Nat × Int × Int × Int)) : State → State :=
  modCal p fun c => { c with trims := mapPutAll c.trims (l.map fun t => (t.1, packTrim t.2.1 t.2.2.1 t.2.2.2)) }

/-- The trims of a port as they stood before a background step of this cycle (R401). -/
def trimsBefore (p : Nat) (s : State) : NMap Nat :=
  match (s.port p).cal.trimsWere with
  | some (c, l) => if c = s.cycles then l else (s.port p).cal.trims
  | none => (s.port p).cal.trims

/-! ### Background runs (R385 to R387, R395, R396, R401) -/

/-- A background run may start: T2 to T5 and SHOWTIME, with EN and BG_EN. -/
def mayBg (p : Nat) (s : State) : Bool :=
  [stT2, stT3, stT4, stT5, stShow].contains (stOf p s) && enOf .CAL p s == 1 && getF p .CAL_BG_EN s == 1

/-- A sub-converter whose result broke a limit in the runs so far: its count, and the mark at the third (R396).
(DEDUCED, log 117) -/
def noteBgFail (p : Nat) (bad : List Nat) (s : State) : State :=
  let s := modCal p (fun c => { c with bgFails := bad.foldl (fun m e =>
    mapPut m e (mapGetD c.bgFails e 0 + 1)) [] }) s
  forAll bad (fun e s => if 3 ≤ mapGetD (s.port p).cal.bgFails e 0 then markSubconv p e s else s) s

/-- A background run ends. A phase that waits for a spare is calibrated on the spare, which takes its place.
(DEDUCED, log 117) -/
def bgDone (p : Nat) (power : Int) (kurt : Nat) (impulse : Bool) (dev ratio : Nat) (res : List (Nat × Int × Int × Int))
    (s : State) : State :=
  if !(s.port p).cal.bgRun then s
  else
    let s := showRun p kurt ratio dev (count p .CAL_BG_RUNS (modCal p (fun c => { c with bgRun := false }) s))
    let why := if (s.port p).sig.paused || (s.port p).cal.bgPaused then 1 else unfitReason power kurt impulse dev ratio
    if why ≠ 0 then endRun p 2 ocUnfit why s
    else
      let s := modCal p (fun c => { c with trimsWere := some (s.cycles, c.trims) }) s
      let res := res.filter fun t => runEntry 2 t.1
      let waits := fun (t : Nat × Int × Int × Int) => s.nvm.portMarks.contains (p, t.1)
      let trims := (s.port p).cal.trims
      let far := (res.filter fun t => !waits t && !trimInRange t).map (·.1)
      let jump := (res.filter fun t => !waits t && trimInRange t && !trimInStep t (mapGetD trims t.1 0)).map (·.1)
      let bad := (far ++ jump).filter (· < 32)
      let swaps := res.filter fun t => waits t && t.1 < 32 && trimInRange t
      let s := if far.isEmpty && jump.isEmpty then
          endRun p 2 ocDone 0 (storeTrims p (res.filter fun t => !waits t) (modCal p (fun c => { c with bgFails := [] }) s))
        else noteBgFail p bad (endRun p 2 ocImplausible (if far.isEmpty then 9 else 8) s)
      forAll swaps (fun t s => swapSubconv p t.1 (packTrim t.2.1 t.2.2.1 t.2.2.2) s) s

/-! ### The full port calibration and T1 (R173, R180, R331, R385, R388) -/

/-- The window of a cold T1 at whose end its first 40 ms are over. -/
def calWindow (p : Nat) (s : State) : Nat := if profileOf p s = 1 then 1 else 3

/-- A full port calibration runs. -/
def fullRuns (p : Nat) (s : State) : Bool :=
  stOf p s == stT1 && !(s.port p).link.warm && (s.port p).link.window ≤ calWindow p s

/-- A full port calibration ends: the trims it found, or the ones before (R388); a driver gain at the end of its range
marks the segment (R396). -/
def fullCal (p : Nat) (o : T1Meas) (s : State) : State :=
  let s := showRun p o.kurt o.varRatio o.statDev s
  let why := unfitReason o.power o.kurt o.impulse o.statDev o.varRatio
  if why ≠ 0 then endRun p 1 ocUnfit why s
  else
    let res := o.trims.filter fun t => runEntry 1 t.1
    if res.all trimInRange then
      let ends := (res.filter fun t => 34 ≤ t.1 && t.1 ≤ 41 && (t.2.2.1 == -32 || t.2.2.1 == 31)).map (·.1)
      forAll ends (markPort p) (endRun p 1 ocDone 0 (storeTrims p res s))
    else endRun p 1 ocImplausible 8 s

/-- T1 begins as the fourth START ends, as the master sends it and as the slave hears it (R170, R395). -/
def startT1 (p : Nat) (s : State) : State :=
  if stOf p s != stCap || getF p .PORT_CTL_ROLE s == 0 then s
  else
    let s := beginT1 p (serveDrivers p s)
    if s.nvm.portOos.any fun e => e.1 == p && e.2 < 34 then toDisabled p s else s

/-- A T1 window ends: the full port calibration where its 40 ms are over, the survey of a warm window, then the window
itself. -/
def t1WindowEnds (p : Nat) (o : T1Meas) (s : State) : State :=
  if stOf p s != stT1 then s
  else
    let s := if fullRuns p s && (s.port p).link.window == calWindow p s then fullCal p o s else s
    if (s.port p).link.warm && ownWindow p s then
      let r := warmSurvey p o.profile s
      t1Window p o (when r.1 (modLink p fun l => { l with reject := true }) r.2)
    else t1Window p o s

/-! ### Hybrid recalibration (R389, R401) -/

/-- HYB_RECAL written. -/
def startHybCmd (p : Nat) (s : State) : State :=
  if mayHyb p s then startHyb p (cmdStart p .CAL_HYB_RECAL s) else cmdReject p .CAL_HYB_RECAL s

/-- The paused superframe ends. -/
def hybDone (p : Nat) (gain10 : Int) (hybR hybC : Nat) (coefs : List (Nat × Int × Int)) (s : State) : State :=
  if !(s.port p).rc.pauseOwn then s
  else if 10 ≤ gain10 then
    let s := setAll p [(.AFE_HYB_R, hybR), (.AFE_HYB_C, hybC)] s
    let s := modSig p (fun g => { g with ecf := coefs.foldl (fun m c =>
      let o := mapGetD m c.1 (0, 0)
      mapPut m c.1 (o.1 + c.2.1, o.2 + c.2.2)) g.ecf }) s
    endHyb p ocDone (sticky .AFE_HYB_CHANGED p (count p .CAL_HYB_RECALS (endRun p 3 ocDone 0 s)))
  else endHyb p ocImplausible (endRun p 3 ocImplausible 10 s)

/-! ### SAVE (R392) -/

/-- SAVE written. -/
def startSave (s : State) : State :=
  if isSet 0 .RSTC_STRAP_WP s || (List.range 8).any fun p => fullRuns p s then cmdReject 0 .NVMC_SAVE s
  else
    let cur := if s.nvm.current = 0 then s.nvm.areaA else s.nvm.areaB
    let held := fun (p : Nat) => match cur with | some c => (c.ports[p]?).getD [] | none => []
    let now := fun (p : Nat) =>
      mapPutAll (trimsBefore p s) [(44, getF p .AFE_HYB_R s), (45, getF p .AFE_HYB_C s)]
    let c : CalSet := { gen := getF 0 .NVMC_CAL_GEN s + 1, src := 1, duty := s.clk.duty, readable := true
                        ports := (List.range 8).map fun p => if domainOn (22 + p) s then now p else held p }
    setF 0 .NVMC_WRITING 1 (modNvm (fun v => { v with saving := some c }) (cmdStart 0 .NVMC_SAVE s))

/-- SAVE completes; a sector that failed is replaced (R401). A switch of D2 that waited for the write follows. -/
def saveDone (sectorFailed : Bool) (s : State) : State :=
  if s.nvm.saving.isNone then s
  else gateFollow 2 (finishSave (if sectorFailed then remapSector s else s))

/-! ### The commands -/

/-- START (R170). -/
def execStart (x : HsRx) (s : State) : Answer :=
  .next (portEvent x.port (fun s => if isMaster x.port s then startT1 x.port s
    else hearHs x.port x.head 3 [] (fun s => startT1 x.port s) s) s)

/-- T1_WINDOW_END (R173). -/
def execT1WindowEnd (p : Fin 8) (o : T1Meas) (s : State) : Answer := .next (portEvent p (fun s => t1WindowEnds p o s) s)

/-- BG_CAL_RUN (R386). -/
def execBgCalRun (p : Fin 8) (s : State) : Answer :=
  .next (portEvent p (fun s => if mayBg p s then modCal p (fun c => { c with bgRun := true, bgPaused := (s.port p).sig.paused }) s
    else s) s)

/-- BG_CAL_DONE (R387). -/
def execBgCalDone (p : Fin 8) (power : Int) (kurt : Nat) (impulse : Bool) (statDev : Nat) (varRatio : Nat)
    (trims : List (Nat × Int × Int × Int)) (s : State) : Answer :=
  .next (portEvent p (fun s => bgDone p power kurt impulse statDev varRatio trims s) s)

/-- HYB_RECAL_DONE (R389). -/
def execHybRecalDone (p : Fin 8) (gain10 : Int) (hybR hybC : Nat) (coefs : List (Nat × Int × Int)) (s : State) : Answer :=
  .next (portEvent p (fun s => if retrainMeets p s then s else hybDone p gain10 hybR hybC coefs s) s)

/-- SAVE_DONE (R393). -/
def execSaveDone (sectorFailed : Bool) (s : State) : Answer := .next (saveDone sectorFailed s)

end Sys2Proof.Machine
end

