-- ==== Sys2Proof/Machine/Keeper.lean ====
section
/-! DEFINITION. The Keeper (R50 to R57): claims, lease, handover, sealed mode, key programming. -/

namespace Sys2Proof.Machine

/-- A lease in ms held to 10 to 10,000 (R51, R74). -/
def clampLease (ms : Nat) : Nat := max 10 (min 10000 ms)

/-- The lease restarted at LEASE, in ROOT cycles (R53). -/
def renewLease (s : State) : State := { s with leaseLeft := getF 0 .KEEPER_LEASE s * 125000 }

/-- A master becomes Keeper (R51, R54, R74, R415). (DEDUCED, log 47) -/
def becomeKeeper (m : Nat) (s : State) : State :=
  let s := when (!isKeeper m s) (disarm true) s
  sticky .KEEPER_KEEPER_CHANGED 0 (renewLease (setAll 0 [(.KEEPER_KTAG, m), (.KEEPER_KVALID, 1)] s))

/-- The response of a claimant in sealed mode is right: HMAC-SHA-256 under the device key of the 17-byte message (R55). The key
is taken KEY0 first, each word most significant byte first. (DEDUCED, log 46; DEDUCED, log 133) -/
def responseOk (m : Nat) (s : State) : Bool :=
  let nonce := (List.range 4).flatMap fun i => beBytes 4 (getB m 0 (.KEEPER_NONCE i) s)
  let resp := (List.range 8).flatMap fun i => beBytes 4 (getB m 0 (.KEEPER_SRESP i) s)
  hmacSha256 (s.nvm.key.flatMap (beBytes 4)) (nonce ++ beBytes 1 (m % 16)) == resp

/-- The check of sealed mode, which uses up the nonce; a failure opens the 100 ms refusal of NONCE_REQ (R55).
(DEDUCED, log 45) -/
def sealCheck (m : Nat) (s : State) : Bool × State :=
  if !isSet 0 .KEEPER_SEALED s then (true, s)
  else
    let ok := s.nonces.contains m && responseOk m s
    let s := { s with nonces := dropNat s.nonces m }
    if ok then (true, s)
    else (false, sticky .KEEPER_SEAL_FAILED 0 (count 0 .KEEPER_SEAL_FAIL { s with refused := addNat s.refused m }))

/-! ### The arbitration point (R57) -/

/-- An access that reaches the KEEPER block: its source, master, offset and DATA; a CLAIM has offset 0. -/
def keeperAccess (c : Instr) : Option (Src × Nat × Nat × Nat) :=
  match c with
  | .claim r => some (r.src, r.mtag.toNat, 0, r.data.toNat)
  | .heartbeat w => some (w.src, w.mtag.toNat, 0x028, w.data.toNat)
  | .nominate w => some (w.src, w.mtag.toNat, 0x030, w.data.toNat)
  | .accept w => some (w.src, w.mtag.toNat, 0x034, w.data.toNat)
  | .write r =>
    let off := r.addr.toNat - blkBase .KEEPER 0
    if off = 0x028 ∨ off = 0x030 ∨ off = 0x034 then some (r.src, r.mtag.toNat, off, r.data.toNat) else none
  | _ => none

/-- In sealed mode the master's check would pass (R55). -/
def sealPasses (m : Nat) (s : State) : Bool := !isSet 0 .KEEPER_SEALED s || (s.nonces.contains m && responseOk m s)

/-- A valid CLAIM of a lower tag meets this one in the same cycle (R57). -/
def claimBeaten (m : Nat) (s : State) : Bool :=
  meets (fun c => match keeperAccess c with
    | some (_, k, off, _) => off == 0 && k < m && sealPasses k s
    | none => false) s

/-- An ACCEPT that will pass ownership meets this access in the same cycle (R57). -/
def acceptMeets (s : State) : Bool :=
  meets (fun c => match keeperAccess c with
    | some (_, k, off, data) => off == 0x034 && bitOf data 0 && s.nominee == some k && sealPasses k s
    | none => false) s

/-- A HEARTBEAT of the Keeper meets the expiry of the lease in the same cycle (R57). -/
def heartbeatMeets (s : State) : Bool :=
  meets (fun c => match keeperAccess c with
    | some (_, k, off, _) => off == 0x028 && isKeeper k s
    | none => false) s

/-- A pending nomination ended (R54). -/
def endNomination (oc : Nat) (s : State) : State := cmdStop 0 .KEEPER_NOMINATE oc { s with nominee := none }

/-- The Keeper's lease has run out (R53): no Keeper, KTAG reads 0. (DESIGN CHOICE, log 134) -/
def expireLease (s : State) : State :=
  match keeper s with
  | none => s
  | some m =>
    if s.leaseLeft ≠ 0 then s
    else
      let s := setAll 0 [(.KEEPER_KTAG, 0), (.KEEPER_KVALID, 0)] (endNomination ocTimeout s)
      disarm true (queueEvent m .KEEPER 0 (sticky .KEEPER_KEEPER_LOST 0 s))

/-- A CLAIM at the arbitration point (R51, R55, R57): its response code, and the device after it. A lease that has run out
expires first; a valid CLAIM of a lower tag in the same cycle wins. The caller counts a refusal in VISIT_REJ.
(DEDUCED, log 45) -/
def claimKeeper (m data : Nat) (s : State) : Nat × State :=
  let s := expireLease s
  let beaten := (keeper s).isNone && claimBeaten m s
  let r := sealCheck m s
  let s := r.2
  let other := match keeper s with | some k => k != m | none => false
  if !r.1 || other || beaten then (3, s)
  else
    let ms := data % 2 ^ 14
    let s := if ms = 0 then s else setF 0 .KEEPER_LEASE (clampLease ms) s
    (0, if (keeper s).isSome then renewLease s else becomeKeeper m s)

/-- A HEARTBEAT write of the Keeper (R53). -/
def heartbeat (m : Nat) (s : State) : State := if isKeeper m s then renewLease s else s

/-- NOMINATE written by the Keeper (R54). -/
def startNomination (s : State) : State :=
  cmdStart 0 .KEEPER_NOMINATE { s with nominee := some (getF 0 .KEEPER_NTAG s) }

/-- A banked command of master `m` ended at once, with an OUTCOME (R54, R55, R74). -/
def bankedEnd (m : Nat) (f : Fld) (oc : Nat) (s : State) : State :=
  setB m 0 f 0 (setB m 0 f.outcome oc s)

/-- ACCEPT written (R54, R55). -/
def acceptNomination (m : Nat) (s : State) : State :=
  if s.nominee ≠ some m then bankedEnd m .KEEPER_ACCEPT ocRejected s
  else
    let r := sealCheck m s
    if r.1 then bankedEnd m .KEEPER_ACCEPT ocDone (becomeKeeper m (endNomination ocDone r.2))
    else bankedEnd m .KEEPER_ACCEPT ocRejected r.2

/-- NONCE_REQ written: a fresh random nonce (R55). -/
def requestNonce (m : Nat) (rand : Nat) (s : State) : State :=
  if s.refused.contains m then bankedEnd m .KEEPER_NONCE_REQ ocRejected s
  else
    let s := forAll (List.range 4) (fun i => setB m 0 (.KEEPER_NONCE i) (rand / 2 ^ (32 * (3 - i)))) s
    bankedEnd m .KEEPER_NONCE_REQ ocDone { s with nonces := addNat s.nonces m }

/-- KEY_PROGRAM written (R56): the write of the key to NVM starts. While SEALED reads 0 no check uses the key.
(DEDUCED, log 46) -/
def startKeyProgram (s : State) : State :=
  if isSet 0 .KEEPER_SEALED s then cmdReject 0 .KEEPER_KEY_PROGRAM s
  else
    cmdStart 0 .KEEPER_KEY_PROGRAM
      (modNvm (fun v => { v with key := (List.range 8).map fun i => getF 0 (.KEEPER_KEY i) s }) s)

/-! ### The commands that no master sends -/

/-- LEASE_EXPIRY (R53): a HEARTBEAT or the nominee's ACCEPT in the same cycle wins (R57). -/
def execLeaseExpiry (s : State) : Answer := .next (if heartbeatMeets s || acceptMeets s then s else expireLease s)

/-- NOMINATE_TIMEOUT (R54): 10 ms without acceptance. -/
def execNominateTimeout (s : State) : Answer :=
  .next (if s.nominee.isSome then endNomination ocTimeout s else s)

/-- NONCE_EXPIRY (R55): 100 ms after a nonce was issued, or after a failed check. -/
def execNonceExpiry (m : BitVec 4) (refusal : Bool) (s : State) : Answer :=
  .next (if refusal then { s with refused := dropNat s.refused m.toNat }
    else { s with nonces := dropNat s.nonces m.toNat })

/-- KEY_PROGRAM_DONE (R56): the read-back matches, or the write could not be completed. -/
def execKeyProgramDone (matched : Bool) (s : State) : Answer :=
  .next (if !cmdRuns 0 .KEEPER_KEY_PROGRAM s then s
    else if matched then cmdEnd 0 .KEEPER_KEY_PROGRAM ocDone (setF 0 .KEEPER_SEALED 1 s)
    else cmdEnd 0 .KEEPER_KEY_PROGRAM ocImplausible s)

end Sys2Proof.Machine
end

