-- ==== Sys2Proof/Machine/Mode.lean ====
section
/-! DEFINITION. Chain-wide mode change (R68 to R72). -/

namespace Sys2Proof.Machine

/-- The staging discarded, with any arming. -/
def dropStaging (s : State) : State :=
  setAll 0 [(.CHAIN_STAGED_GEN, 0), (.CHAIN_STAGED, 0), (.CHAIN_ARMED, 0)] { s with staging := none }

/-- A missed mode change recorded (R70, R71). -/
def noteMissed (gen : Nat) (s : State) : State := sticky .CHAIN_MODE_MISSED 0 (setF 0 .CHAIN_MISSED_GEN gen s)

/-- The ports of a PORT_MASK. -/
def maskPorts (m : Nat) : List Nat := (List.range 8).filter fun p => bitOf m p

/-- MODE_STAGE is valid (R68). -/
def modeStageValid (s : State) : Bool :=
  let m := getF 0 .CHAIN_PORT_MASK s
  (m == 0 || getF 0 .CHAIN_STATE_TGT s != 3) && (maskPorts m).all fun p => stageValid p s

/-- Staged or armed for a GEN, with a staging that was not discarded (R68 step 3). -/
def stagedFor (gen : Nat) (s : State) : Bool :=
  match s.staging with
  | some g => g.gen == gen && !g.dead
  | none => false

/-- Armed for another GEN (R68 step 4). -/
def armedElse (gen : Nat) (s : State) : Bool :=
  match s.staging with
  | some g => g.gen != gen && g.armed.isSome
  | none => false

/-- The staging of a GEN begins on snapshots of MODE_STAGE and PORT_STAGE; an arming for the same GEN is kept (R68). -/
def beginStaging (gen : Nat) (s : State) : State :=
  let m := getF 0 .CHAIN_PORT_MASK s
  let snaps := (maskPorts m).map fun p =>
    (p, getF p .PORT_CTL_STG_PROFILE s, getF p .PORT_CTL_STG_PSD s, getF p .PORT_CTL_STG_NOTCH s)
  let armed := s.staging.bind (·.armed)
  let g : Staging := {
    gen := gen, stateTgt := getF 0 .CHAIN_STATE_TGT s, mask := m, snaps := snaps, complete := false, armed := armed }
  setAll 0 [(.CHAIN_STAGED_GEN, gen), (.CHAIN_STAGED, 0)] { s with staging := some g }

/-- PREPARE (R68): DATA as the device forwards it, and the device after the whole frame. -/
def onPrepare (m data : Nat) (s : State) : Nat × State :=
  let gen := bitsOf data 16 16
  if getF 0 .CHAIN_APPLIED_GEN s = gen then (data, s)
  else
    let own := isKeeper m s
    let kept := own && stagedFor gen s
    let begins := own && !kept && modeStageValid s && !armedElse gen s
    let data := if own then data else data ||| 2
    let data := if bitOf data 0 && !(kept || begins) then
        data - bitsOf data 3 5 * 8 + chainAddr s * 8 - 1
      else data
    (data, if begins then beginStaging gen s else s)

/-- How long after now T comes, in 2^−16 ns: the next instant with these seconds[7:0] and nanoseconds; none where the
nanoseconds name no instant (R70). (DEDUCED, log 49) -/
def untilT (sec ns : Nat) (s : State) : Option Nat :=
  if 1000000000 ≤ ns then none
  else
    let round := 256 * 1000000000 * 65536
    let now := (s.secs % 256 * 1000000000 + s.nanos) * 65536 + s.frac
    let at_ := (sec * 1000000000 + ns) * 65536
    some (if now < at_ then at_ - now else at_ + round - now)

/-- COMMIT (R70): arms for T, or records that T is too near. (DEDUCED, log 49) -/
def onCommit (m addr data : Nat) (s : State) : State :=
  let gen := bitsOf addr 8 16
  if getF 0 .CHAIN_APPLIED_GEN s = gen || !stagedFor gen s || !isKeeper m s then s
  else
    let sec := bitsOf addr 0 8
    let ns := bitsOf data 0 30
    let late := match untilT sec ns s with | some d => decide (d < 1000000 * 65536) | none => true
    if late then noteMissed gen s
    else
      setF 0 .CHAIN_ARMED 1
        { s with staging := s.staging.map fun g => { g with armed := some (sec, ns) } }

/-- One staged port at T (R71): the snapshot written back, then RECONF_GO. -/
def commitPort (x : Nat × Nat × Nat × Nat) (s : State) : State :=
  let p := x.1
  if !domainOn (14 + p) s then s
  else
    let s := setAll p [(.PORT_CTL_STG_PROFILE, x.2.1), (.PORT_CTL_STG_PSD, x.2.2.1), (.PORT_CTL_STG_NOTCH, x.2.2.2)] s
    if cmdRuns p .PORT_CTL_RECONF_GO s then s else startReconf p s

/-- T (R71). -/
def modeAtT (s : State) : State :=
  match s.staging with
  | none => s
  | some g =>
    if g.armed.isNone then s
    else if g.dead || !g.complete then noteMissed g.gen (dropStaging s)
    else
      let s := dropStaging s
      let s := if g.stateTgt = 0 then s else commitState g.stateTgt s
      setF 0 .CHAIN_APPLIED_GEN g.gen (forAll g.snaps commitPort s)

/-- STAGING_COMPLETE (R69). -/
def execStagingComplete (s : State) : Answer :=
  .next (coreEvent (fun s => match s.staging with
    | some g => if g.complete || g.dead then s
      else setF 0 .CHAIN_STAGED 1 { s with staging := some { g with complete := true } }
    | none => s) s)

end Sys2Proof.Machine
end

