-- ==== Sys2Proof/Machine/Spur.lean ====
section
/-! DEFINITION. Spur mode: acquisition, headers, schedules, grants, joining, tables and noise (R272 to R305). -/

namespace Sys2Proof.Machine

/-! ### Nodes and tables -/

/-- The port's own node ID: 0 at the gatehouse (R272, R308). -/
def ownNode (p : Nat) (s : State) : Nat := if lineMode p s = 2 then 0 else latched p .ROUNDABOUT_NODE_ID s

/-- What the port knows of a node. -/
def nodeOf (p n : Nat) (s : State) : NodeSt := mapGetD (s.port p).spur.nodes n {}

/-- What the port knows of a node replaced. -/
def modNode (p n : Nat) (f : NodeSt → NodeSt) : State → State :=
  modSpur p fun x => { x with nodes := mapPut x.nodes n (f (mapGetD x.nodes n {})) }

/-- The port is in a spur state with a receiver (R295). -/
def spurOn (p : Nat) (s : State) : Bool := [stSpListen, stSpKnock, stSpMember, stSpGate].contains (stOf p s)

/-- The port's spur showtime (R295). -/
def spurShow (p : Nat) (s : State) : Bool := stOf p s == stSpMember || stOf p s == stSpGate

/-- Robust loading: 2 bits on each header tone (R282). -/
def robustLoads (p : Nat) (s : State) : NMap Nat := (spurPlan p s).spHeaders.map fun j => (j, 2)

/-- Bits per symbol of a loading. -/
def loadSum (l : NMap Nat) : Nat := l.foldl (fun a e => a + e.2) 0

/-- The common table when the port holds that of COMMON_GEN (R301). -/
def commonNow (p : Nat) (s : State) : Option SpTable :=
  match (s.port p).spur.common with
  | some t => if t.gen = getF p .ROUNDABOUT_COMMON_GEN s && t.gen != 0 then some t else none
  | none => none

/-- The generation and loading of payload toward a node, 31 for broadcast (R300, R301). -/
def txLoads (p dest : Nat) (s : State) : Nat × NMap Nat :=
  let common := match commonNow p s with | some t => (t.gen, t.loads) | none => (0, robustLoads p s)
  if dest = 31 then common
  else match (nodeOf p dest s).txTab with
    | some t => (t.gen, t.loads)
    | none => common

/-- The loading that a received TABLE_GEN names, none where the receiver does not hold it (R300). -/
def rxLoads (p sender dest gen : Nat) (s : State) : Option (NMap Nat) :=
  let x := nodeOf p sender s
  let held := fun (t : Option SpTable) => match t with | some v => if v.gen = gen then some v.loads else none | none => none
  if gen = 0 then some (robustLoads p s)
  else if dest = 31 then held (s.port p).spur.common
  else (held x.rxTab).orElse fun _ => (held x.newTab).orElse fun _ => held (s.port p).spur.common

/-- The next generation, 1 to 255 (R299). -/
def nextGen (g : Nat) : Nat := g % 255 + 1

/-! ### Bursts sent (R281 to R287) -/

/-- The oldest cycle of a node's codewords that still wait for a decoder, else the present one, less 1 (R284).
(DEDUCED, log 95) -/
def reflectsOf (p node : Nat) (s : State) : Nat :=
  let x := s.port p
  let waiting := (x.sig.dq.filter fun w => w.node == node).map (·.cycle)
  (waiting.foldl (fun a c => if decide (signedOf 32 (c + 2 ^ 32 - a) < 0) then c else a) x.spur.cycleNo + 2 ^ 32 - 1) % 2 ^ 32

/-- A milepost entry as sent (R284), with its key. (DEDUCED, log 95) -/
def mpEntry (p key : Nat) (s : State) : Nat × List Byte :=
  let node := key / 8
  (key, beBytes 1 (node * 16 + key % 8) ++ beBytes 1 (reflectsOf p node s) ++ milepost p node (key % 8) s)

/-- The milepost entries of the next header: changed ones first, then those sent longest ago (R284). -/
def mpChoice (p : Nat) (s : State) : List (Nat × List Byte) :=
  let x := s.port p
  let all := ((x.pms.filter fun e => e.2.rxAny).map (·.1)).map fun k => mpEntry p k s
  let changed := all.filter fun e => !(x.spur.mpLast.contains e)
  let rest := x.spur.mpLast.filter fun e => all.contains e
  (changed ++ rest).take 19

/-- Notice entries due toward a node: not sent in this cycle or the one before. (DEDUCED, log 96) -/
def spNotices (p dest : Nat) (s : State) : List Notice :=
  let x := s.port p
  x.notices.filter fun n => n.node == dest &&
    (match n.sentSym with | none => true | some t => 2 ≤ (x.spur.cycleNo + 2 ^ 32 - t) % 2 ^ 32)

/-- Codewords that wait toward a node. -/
def spWaiting (p dest : Nat) (s : State) : Nat :=
  let x := s.port p
  let n := frameData (codeRate p s)
  let per := (n - 4) / 4
  ((spNotices p dest s).length + per - 1) / per + (x.fixedQ.filter fun f => destOf p f.stream s == dest).length +
    (x.cws.filter fun w => w.node == dest && w.st != .sent).length

/-- BACKLOG: payload symbols the sender has waiting (R283). -/
def ownBacklog (p : Nat) (s : State) : Nat :=
  min 255 (((List.range 16 ++ [31]).map fun d =>
    let bits := loadSum (txLoads p d s).2
    if bits = 0 then 0 else (spWaiting p d s * 2304 + bits - 1) / bits).sum)

/-- A header block (R283). -/
def headerBlock (p dest kind len gen : Nat) (mps : List (Nat × List Byte)) (s : State) : List Byte :=
  let body := beBytes 1 (16 + ownNode p s) ++ beBytes 1 (dest % 32 * 8 + kind % 8) ++ beBytes 1 (len % 32) ++
    beBytes 1 gen ++ beBytes 4 (s.port p).spur.cycleNo ++ beBytes 1 (ownBacklog p s) ++ beBytes 1 mps.length ++
    List.replicate 6 0 ++ mps.flatMap (·.2)
  let b := (body ++ List.replicate 252 0).take 252
  b ++ beBytes 4 (crc32 0xFFFFFFFF b)

/-- The level of a spur tone: that of normal tone ⌊j/2⌋ in the port's mask (R146, R275). -/
def spLevel (p : Nat) (s : State) (j : Nat) : Int := maskLevel (ownMask p s) (j / 2)

/-- Bits on the tones of a loading, at fine gain 0 dB (R275, R282). -/
def spSymbols (lev : Nat → Int) (loads : NMap Nat) : Nat → List Bool → List (List TonePt)
  | 0, _ => []
  | n + 1, bits =>
    let tones := loads.map fun e => (e.1, ({ bits := e.2 } : ToneEntry))
    placeBits lev tones 0 [] (bits.take (loadSum loads)) :: spSymbols lev loads n (bits.drop (loadSum loads))

/-- The cancellation tones of a spur symbol (R149, R275). -/
def spCancelPts (p : Nat) (s : State) (pts : List TonePt) : List TonePt :=
  ((List.range 4096).filter (spurPlan p s).spCancel).map fun j =>
    let v := cancelPoint j (pts.map fun t => (t.tone, t.i, t.q))
    ⟨j, v.1, v.2, 3 * 2 ^ 20, spLevel p s j⟩

/-- Symbol kinds of a burst: its header. -/
def kHeader : Nat := 8
/-- A payload symbol. -/
def kPayload : Nat := 9
/-- A preamble symbol. -/
def kPreamble : Nat := 10
/-- The sync symbol of a burst. -/
def kBurstSync : Nat := 11
/-- A symbol of a knock. -/
def kKnock : Nat := 12

/-- The short tones of spur mode that carry points: 2 to 511, short tone m at spur tone 8m (R274, R281, R286). -/
def spShort (p m : Nat) (s : State) : Bool := 2 ≤ m && m < 512 && !(spurPlan p s).spNotched (8 * m)

/-- A symbol of a burst put on the line: spur symbols have a prefix of 512 samples at 1 GS/s, short symbols none (R274). -/
def sendSp (p kind : Nat) (pts : List TonePt) (s : State) : State :=
  let sym : LineSymbol := { kind := kind, pfx := if kind = kHeader ∨ kind = kPayload then 512 else 0, tones := pts }
  emitLine p (.symbol p sym) (modSig p (fun g => { g with lastTx := sym }) s)

/-- The preamble of 4 short symbols and the sync symbol, their negative (R281). -/
def sendPreamble (p : Nat) (s : State) : State :=
  let g := (genPoints (fun m => spShort p m s) 512 0 2047).1
  let pts : List TonePt := g.map fun e => ⟨e.1, e.2.1, e.2.2, 6, spLevel p s (8 * e.1)⟩
  let s := (List.range 4).foldl (fun s _ => sendSp p kPreamble pts s) s
  sendSp p kBurstSync (negated pts) s

/-- A burst sent: header block, payload bits, and the symbols that carry them (R281, R282). -/
def sendBurst (p dest kind len gen : Nat) (loads : NMap Nat) (bits : List Bool) (s : State) : State :=
  let mps := mpChoice p s
  let head := headerBlock p dest kind len gen mps s
  let robust := robustLoads p s
  let copies := (List.replicate (robust.length / 1024) (byteBits head)).flatten
  let fill := fun (l : NMap Nat) (n : Nat) (b : List Bool) =>
    (scramble ((b ++ List.replicate (n * loadSum l) false).take (n * loadSum l)) (2 ^ 23 - 1)).1
  let lev := spLevel p s
  let out := fun (kind : Nat) (pts : List TonePt) (s : State) => sendSp p kind (pts ++ spCancelPts p s pts) s
  let s := sendPreamble p (emitLine p (.burst p kind head (packBytes ((len * loadSum loads + 7) / 8) bits)) s)
  let s := forAll (spSymbols lev robust 1 (fill robust 1 copies)) (out kHeader) s
  let s := forAll (spSymbols lev loads len (fill loads len bits)) (out kPayload) s
  let keys := mps.map (·.1)
  count p .BURST_BURSTS_TX (modSpur p (fun x =>
    { x with mpLast := x.mpLast.filter (fun e => !keys.contains e.1) ++ mps }) s)

/-- A broadcast DATA codeword sent once (R302): it leaves the queue and its frames have one codeword less to settle. -/
def sendBroadcast (p : Nat) (w : TxCw) (s : State) : State :=
  let s := stampTx p w.frames s
  let s := modWatch p (fun v => { v with sent := v.sent + 1 }) s
  settleCw p w (modPort p (fun x => { x with cws := x.cws.erase w }) s)

/-- The next codeword toward a node by the order of R245 (R302). -/
def nextTo (p dest : Nat) (s : State) : List Byte × State :=
  let n := frameData (codeRate p s)
  let s := count p .FEC_CW_TX s
  let s := dropUnfit p n (s.port p).fixedQ.length s
  let x := s.port p
  let cyc := x.spur.cycleNo
  let due := (spNotices p dest s).take ((n - 4) / 4)
  match due, x.fixedQ.find? fun f => destOf p f.stream s == dest with
  | _ :: _, _ =>
    let body := beBytes 4 due.length ++
      due.flatMap fun e => beBytes 4 (e.cls % 8 * 2 ^ 28 + e.stream % 4096 * 2 ^ 16 + e.ms % 65536)
    let mark := fun (e : Notice) => if due.contains e then { e with sentSym := some cyc } else e
    (infoPart 0 0 0 2 127 n body,
      count p .LAYBY_P_NOTICES_TX (modPort p (fun x => { x with notices := x.notices.map mark }) s))
  | [], some f =>
    let s := modPort p (fun x => { x with fixedQ := x.fixedQ.erase f }) s
    let s := countStream p f.stream 0 1 s
    let s := if stamped p f.stream s then
      appendStamp p false f.stream (stampKind f.bytes) (stampKey f.bytes) (nowEighths s) s else s
    (infoPart 0 f.stream (streamOf p f.stream s).cfg.cls 1 0 n (frameWords f.bytes), s)
  | [], none =>
    let mine := fun (st : CwSt) (w : TxCw) => w.node == dest && w.st == st
    match (pickCw x (mine .resend)).orElse fun _ => pickCw x (mine .queued) with
    | some w => (cwInfo n w, if dest = 31 then sendBroadcast p w s else sendCw p w 0 0 cyc s)
    | none => (infoPart 0 0 0 3 0 n [], s)

/-- `k` codewords toward a node, encoded. -/
def codewordsTo (p dest : Nat) : Nat → List Bool → State → List Bool × State
  | 0, acc, s => (acc, s)
  | k + 1, acc, s =>
    let r := nextTo p dest s
    codewordsTo p dest k (acc ++ ldpcEncode (codeRate p r.2) r.1) r.2

/-- The node of the highest-class eligible codeword (R302). -/
def spDest (p : Nat) (s : State) : Option Nat :=
  let x := s.port p
  let notices := (List.range 16).flatMap fun d => (spNotices p d s).map fun n => (n.cls, d)
  let fixed := x.fixedQ.map fun f => ((streamOf p f.stream s).cfg.cls, destOf p f.stream s)
  let cws := fun (st : CwSt) => (x.cws.filter fun w => w.st == st).map fun w => (w.cls, w.node)
  ((notices ++ fixed ++ cws .resend ++ cws .queued).foldl (fun a e =>
    match a with
    | some v => if v.1 < e.1 then some e else some v
    | none => some e) (none : Option (Nat × Nat))).map (·.2)

/-- The bursts of a grant of `left` slots, back to back (R280, R287); a header-only burst where nothing can be sent,
whose DEST the spec does not state. (DESIGN CHOICE, log 97) -/
def sendGrant (p : Nat) : Nat → Bool → Nat → State → State
  | 0, _, _, s => s
  | k + 1, first, left, s =>
    if left < 2 then s
    else
      let pick : Option (Nat × Nat × Nat) :=
        match spDest p s with
        | some d =>
          let bits := loadSum (txLoads p d s).2
          let n := min (spWaiting p d s) (min 27 (left - 2) * bits / 2304)
          if n = 0 then none else some (d, n, (n * 2304 + bits - 1) / bits)
        | none => none
      match pick with
      | some (d, _, len) =>
        let t := txLoads p d s
        let r := codewordsTo p d (len * loadSum t.2 / 2304) [] s
        sendGrant p k false (left - (len + 2)) (sendBurst p d 0 len t.1 t.2 r.1 r.2)
      | none => if first then sendBurst p (free s % 16) 0 0 0 [] [] (spend s) else s

/-- The grant of the port that starts at a slot of the present cycle. -/
def grantAt (p slot : Nat) (s : State) : Option Grant :=
  let x := (s.port p).spur
  if x.haveSched then x.grants.find? fun g => g.node == ownNode p s && g.first == slot else none

/-- The reception under way is abandoned where the port transmits itself (R305). -/
def abandonRx (p : Nat) (s : State) : State :=
  if 2 ≤ (s.port p).spur.acq.st && (s.port p).spur.acq.st ≤ 3 then
    modSpur p (fun x => { x with acq := {} })
      (sticky .BURST_SCHEDULE_VIOLATION p (count p .BURST_SCHEDULE_VIOLATION s))
  else s

/-- GRANT_START (R280, R305). -/
def startGrant (p slot : Nat) (s : State) : State :=
  match (if spurShow p s then grantAt p slot s else none) with
  | some g => sendGrant p g.len true g.len (abandonRx p s)
  | none => s

/-! ### Joining, leaving and schedules (R276, R279, R285, R295 to R298) -/

/-- Slots of a cycle of CYCLE × 0.5 µs (R276). -/
def slotsOf (cycle : Nat) : Nat := cycle * 500 / 8704

/-- The parameters of spur showtime come into force: SP_RATE, iteration limit (R302). -/
def forceSpur (p : Nat) (s : State) : State :=
  let ovr := rwF p .FEC_MAXIT_OVR s
  setAll p [(.FEC_CODE_RATE, latched p .ROUNDABOUT_SP_RATE s), (.FEC_MAXIT, if ovr = 0 then 12 else ovr)] s

/-- Entry into SP_MEMBER or SP_GATEHOUSE, the spur's showtime (R243, R260, R295, R302, R310). -/
def toSpurShow (p st : Nat) (s : State) : State :=
  let s := forceSpur p s
  let s := modSig p (fun g => { g with dq := [], doneCw := 0, failCw := 0, itSum := 0, itCw := 0 }) s
  let s := modWatch p (fun w => { w with running := getF p (.en .WATCH) s == 1 }) s
  let s := setF p .FEC_OVERLOADED 0 (enterSt p st s)
  settleClasses p (resendAll p (sticky .PORT_CTL_LINK_UP p (count p .PORT_CTL_LINK_UPS s)))

/-- A return to SP_LISTEN (R260, R295): milestones, lay-by and tables stay. (DEDUCED, log 102) -/
def toSpListen (p : Nat) (cause : Option Nat) (s : State) : State :=
  let show_ := spurShow p s
  let s := leaveShow p s
  let s := when show_ (dropFixed p) s
  let s := match cause with | some c => setCause p c s | none => s
  enterSt p stSpListen (modSpur p (fun x => { nodes := x.nodes, common := x.common, noise := x.noise }) s)

/-- SP_LISTEN times out (R295). -/
def spListenEnds (p : Nat) (s : State) : State :=
  if stOf p s ≠ stSpListen then s
  else if lineMode p s = 2 then
    let s := modSpur p (fun x => { x with cycleNo := 0, haveSched := false, grants := [] }) s
    let s := modNode p 0 (fun n => { n with idleCycles := 7 }) s
    toSpurShow p stSpGate (setF p .ROUNDABOUT_MEMBERS 1 (setF p .TONES_TX_SF_CNT 0 s))
  else toLinkFail p 3 s

/-- A pass of R279: grants of the wanted lengths to nodes in turn. The state of a pass: next free slot, grants so far,
and the first node that was not reached. (DEDUCED, log 98) -/
def passGrants (stop : Nat) (want : Nat → Nat) : List Nat → Nat × List Grant × Option Nat → Nat × List Grant × Option Nat
  | [], a => a
  | n :: rest, (cur, gs, un) =>
    if want n < 2 then passGrants stop want rest (cur, gs, un)
    else if 32 ≤ gs.length || stop < cur + 2 then passGrants stop want rest (cur, gs, un.orElse fun _ => some n)
    else
      let len := min (want n) (stop - cur)
      passGrants stop want rest (cur + len, gs ++ [⟨n, cur, len⟩], un)

/-- The grants of a cycle (R279), with the node that the next backlog pass starts at. (DEDUCED, log 98) -/
def buildGrants (p slots : Nat) (s : State) : List Grant × Nat :=
  let x := (s.port p).spur
  let mem := getF p .ROUNDABOUT_MEMBERS s
  let joined := (List.range 16).filter fun n => bitOf mem n
  let stop := slots - 1
  let keep := passGrants stop (fun n => if 7 ≤ (nodeOf p n s).idleCycles then 2 else 0) joined (4, [], none)
  let fix := passGrants stop (fun n => min 29 (getF p (.ROUNDABOUT_GRANT_FIX n) s)) joined (keep.1, keep.2.1, none)
  let turn := (joined.filter fun n => x.rrNext ≤ n) ++ joined.filter fun n => n < x.rrNext
  let load := fun (n : Nat) => if n = 0 then ownBacklog p s else (nodeOf p n s).backlog
  let back := passGrants stop (fun n => if load n = 0 then 0 else min (load n + 2) 29) turn (fix.1, fix.2.1, none)
  let firstServed := (turn.filter fun n => load n != 0).head?
  let next := match back.2.2, firstServed with
    | some u, _ => u
    | none, some f => (f + 1) % 16
    | none, none => x.rrNext
  (back.2.1, next)

/-- A schedule payload (R285). -/
def scheduleBytes (cycle members gen : Nat) (gs : List Grant) (ws : List Welcome) : List Byte :=
  let b := beBytes 2 cycle ++ beBytes 2 members ++ beBytes 1 gs.length ++ beBytes 1 ws.length ++ beBytes 1 gen ++ [0] ++
    (gs.flatMap fun g => beBytes 3 (g.node % 16 * 2 ^ 20 + g.first % 512 * 2 ^ 11 + g.len % 32 * 2 ^ 6)) ++
    ws.flatMap fun w => beBytes 8 w.uid ++ beBytes 1 w.node ++ beBytes 1 w.result
  b ++ beBytes 4 (crc32 0xFFFFFFFF b)

/-- A cycle's statistics of the decoder start again. -/
def cycleStats (p cycle : Nat) (s : State) : State :=
  modSig p (fun g => { g with doneCw := 0, failCw := 0, itSum := 0, itCw := 0 }) (noteDecoding p (cycle * 4000) s)

/-- CYCLE_START at the gatehouse (R276, R279, R285). -/
def startCycle (p : Nat) (s : State) : State :=
  if stOf p s ≠ stSpGate then s
  else
    let x := (s.port p).spur
    let no := if x.haveSched then (x.cycleNo + 1) % 2 ^ 32 else 0
    let cycle := latched p .ROUNDABOUT_CYCLE s
    let s := cycleStats p cycle s
    let s := setAll p [(.ROUNDABOUT_CYCLE_ACT, cycle), (.ROUNDABOUT_SLOTS, slotsOf cycle), (.TONES_TX_SF_CNT, no)] s
    let s := modSpur p (fun x => { x with cycleNo := no }) s
    let r := buildGrants p (slotsOf cycle) s
    let ws := x.welcomes.take 2
    let aged := fun (n : Nat) (v : NodeSt) =>
      { v with idleCycles := if r.1.any (fun g => g.node == n) then 0 else v.idleCycles + 1 }
    let mem := getF p .ROUNDABOUT_MEMBERS s
    let s := forAll ((List.range 16).filter fun n => bitOf mem n) (fun n => modNode p n (aged n)) s
    let s := modSpur p (fun x => { x with grants := r.1, rrNext := r.2, haveSched := true, welcomes := x.welcomes.drop 2 }) s
    let bytes := scheduleBytes cycle mem (getF p .ROUNDABOUT_COMMON_GEN s) r.1 ws
    count p .ROUNDABOUT_CYCLES (sendBurst p 31 1 1 0 (robustLoads p s) (byteBits bytes) s)

/-- A schedule heard by a member: its cycle, grants, members, common generation, and the UIDs of its welcomes. -/
def followSchedule (p no : Nat) (c : Schedule) (s : State) : State :=
  let s := cycleStats p c.cycle s
  let s := setAll p [(.ROUNDABOUT_CYCLE_ACT, c.cycle), (.ROUNDABOUT_SLOTS, slotsOf c.cycle),
    (.ROUNDABOUT_MEMBERS, c.members), (.ROUNDABOUT_COMMON_GEN, c.commonGen), (.TONES_RX_SF_CNT, no)] s
  let s := forAll (c.welcomes.filter fun w => w.result == 0) (fun w => modNode p w.node fun n => { n with uid := w.uid }) s
  count p .ROUNDABOUT_CYCLES (modSpur p (fun x => { x with
    cycleNo := no, grants := c.grants, haveSched := true, missRun := 0, schedRun := x.schedRun + 1 }) s)

/-- A knock that found no welcome: the last one allowed ends the attempt, else the drawn wait begins (R295, R296). -/
def knockUnanswered (p : Nat) (s : State) : State :=
  let x := (s.port p).spur
  if x.answer then
    if latched p .ROUNDABOUT_KNOCK_MAX s ≤ x.knocks then toLinkFail p 3 s
    else modSpur p (fun x => { x with answer := false }) s
  else modSpur p (fun x => { x with backoff := x.backoff - 1 }) s

/-- SCHEDULE_RX (R285, R295, R296). (DEDUCED, log 103) -/
def onSchedule (p : Nat) (c : Schedule) (no sender : Nat) (s : State) : State :=
  if lineMode p s = 2 then
    if stOf p s = stSpListen || stOf p s == stSpGate then
      toLinkFail p 15 (sticky .ROUNDABOUT_GATEHOUSE_CLASH p s)
    else s
  else if !spurOn p s || sender != 0 then s
  else
    let s := followSchedule p no c s
    if stOf p s = stSpListen then
      if 2 ≤ (s.port p).spur.schedRun then
        enterSt p stSpKnock (modSpur p (fun x => { x with knocks := 0, backoff := 0, answer := false }) s)
      else s
    else if stOf p s = stSpKnock then
      match c.welcomes.find? fun w => w.uid == ownUid with
      | some w =>
        if w.result = 0 then
          sticky .ROUNDABOUT_JOINED p (count p .ROUNDABOUT_JOINS (toSpurShow p stSpMember s))
        else toLinkFail p 13 (sticky .ROUNDABOUT_KNOCK_REFUSED p s)
      | none => knockUnanswered p s
    else if bitOf c.members (ownNode p s) then s
    else toSpListen p (some 14) s

/-- SCHEDULE_MISS (R295, R305). -/
def missSchedule (p : Nat) (s : State) : State :=
  if lineMode p s = 2 || !spurOn p s then s
  else
    let s := sticky .ROUNDABOUT_SCHED_LOST p (count p .ROUNDABOUT_SCHED_LOST s)
    let s := modSpur p (fun x => { x with
      haveSched := false, grants := [], schedRun := 0, missRun := x.missRun + 1, cycleNo := (x.cycleNo + 1) % 2 ^ 32 }) s
    let s := setF p .TONES_RX_SF_CNT (s.port p).spur.cycleNo s
    let lost := decide (latched p .ROUNDABOUT_MISS_LIMIT s ≤ (s.port p).spur.missRun)
    if stOf p s = stSpKnock then (if lost then toSpListen p none s else knockUnanswered p s)
    else if stOf p s = stSpMember && lost then toSpListen p (some 14) s
    else s

/-- GRANT_MISS at the gatehouse (R298). A member whose knock of the same cycle has been taken is dropped as it stood before,
and the knock, judged against the table without it, has admitted it again (R305). -/
def missGrant (p node : Nat) (s : State) : State :=
  let mem := getF p .ROUNDABOUT_MEMBERS s
  if stOf p s ≠ stSpGate || node = 0 || !bitOf mem node then s
  else
    let before : Option Nat := match (nodeOf p node s).knockAt with
      | some k => if k.1 = s.cycles then some k.2 else none
      | none => none
    let missed := before.getD (nodeOf p node s).misses + 1
    let s := count p .ROUNDABOUT_GRANT_MISSES s
    if latched p .ROUNDABOUT_MISS_LIMIT s ≤ missed then
      let s := modNode p node (fun n => { n with misses := 0, backlog := 0, knockAt := none }) s
      sticky .ROUNDABOUT_MEMBER_DROPPED p (count p .ROUNDABOUT_DROPS
        (setF p .ROUNDABOUT_MEMBERS (if before.isSome then mem else mem - 2 ^ node) s))
    else modNode p node (fun n => { n with misses := missed }) s

/-- A knock on the line: preamble, sync symbol, and two short symbols with as many whole copies of the block as fit, the bits
beyond them 0 (R286). (DEDUCED, log 103) -/
def knockSymbols (p : Nat) (block : List Byte) (s : State) : State :=
  let loads : NMap Nat := ((List.range 512).filter fun m => spShort p m s).map fun m => (m, 2)
  let copies := (List.replicate (2 * loadSum loads / 128) (byteBits block)).flatten
  let bits := copies ++ List.replicate (2 * loadSum loads - copies.length) false
  let s := sendPreamble p (emitLine p (.burst p 8 block []) s)
  forAll (spSymbols (fun m => spLevel p s (8 * m)) loads 2 bits) (sendSp p kKnock) s

/-- KNOCK_SEND in the contention slot (R286, R296); `draw` is the wait drawn for the case that no welcome answers. -/
def sendKnock (p draw : Nat) (s : State) : State :=
  let x := (s.port p).spur
  if stOf p s ≠ stSpKnock || !x.haveSched || x.answer || x.backoff ≠ 0 then s
  else
    let b := beBytes 1 (32 + ownNode p s) ++ beBytes 8 ownUid ++ beBytes 1 p ++ List.replicate 4 0
    let s := knockSymbols p (b ++ beBytes 2 (crc16 b)) s
    let s := modSpur p (fun x => { x with
      knocks := x.knocks + 1, answer := true, backoff := draw % 2 ^ min (x.knocks + 1) 4 }) s
    count p .ROUNDABOUT_KNOCKS_TX (count p .BURST_BURSTS_TX s)

/-- KNOCK_RX at the gatehouse (R297): RESULT 0 ADMITTED, 1 ID_IN_USE, 2 FULL. (DEDUCED, log 103) -/
def onKnock (p uid node : Nat) (s : State) : State :=
  if stOf p s ≠ stSpGate then s
  else
    let mem := getF p .ROUNDABOUT_MEMBERS s
    let s := count p .ROUNDABOUT_KNOCKS_RX s
    let result :=
      if node ≠ 0 ∧ (!bitOf mem node || (nodeOf p node s).uid == uid) then 0
      else if (List.range 15).all (fun n => bitOf mem (n + 1)) then 2 else 1
    let s := modSpur p (fun x => { x with welcomes := x.welcomes ++ [⟨uid, node, result⟩] }) s
    if result = 0 then
      let s := if bitOf mem node then s else modNode p node (fun n => { n with idleCycles := 7, backlog := 0 }) s
      let s := modNode p node (fun n => { n with
        uid := uid, misses := 0, knockAt := if bitOf mem node then some (s.cycles, n.misses) else none }) s
      sticky .ROUNDABOUT_JOINED p (count p .ROUNDABOUT_JOINS (setF p .ROUNDABOUT_MEMBERS (mem ||| 2 ^ node) s))
    else sticky .ROUNDABOUT_KNOCK_REFUSED p s

/-! ### Acquisition (R288 to R294), also of a wake burst in LPI_QUIET (R318) -/

/-- The port runs the two-stage detector. -/
def detects (p : Nat) (s : State) : Bool := spurOn p s || stOf p s == stQuiet

/-- The acquisition replaced. -/
def setAcq (p : Nat) (a : Acq) : State → State := modSpur p fun x => { x with acq := a }

/-- The receiver armed again, or restarted: late where the power is already at or above DET_THR (R291).
(DEDUCED, log 101) -/
def reacquire (p : Nat) (above : Bool) : State → State := setAcq p { st := if above then 1 else 0, late := above }

/-- A reception abandoned by R290: FALSE_DETECT, or in LPI_QUIET WAKE_FALSE. -/
def falseDetect (p : Nat) (s : State) : State :=
  if stOf p s = stQuiet then sticky .WATCH_WAKE_FALSE p (count p .WATCH_WAKE_FALSE s)
  else sticky .BURST_FALSE_DETECT p (count p .BURST_FALSE_DETECT s)

/-- A LATE_START_LOSS (R291); in LPI_QUIET it wakes nothing. -/
def loseLate (p : Nat) (s : State) : State :=
  setAcq p { st := 4 } (when (stOf p s != stQuiet)
    (fun s => sticky .BURST_LATE_START_LOSS p (count p .BURST_LATE_START_LOSS s)) s)

/-- BURST_DETECT (R288). -/
def onDetect (p frozen : Nat) (s : State) : State :=
  let a := (s.port p).spur.acq
  if !detects p s || a.st ≠ 1 then s
  else
    let s := setAcq p { a with st := 2, frozen := frozen } s
    when (stOf p s != stQuiet) (fun s => count p .BURST_DETECTS (setF p .BURST_FROZEN_LVL frozen s)) s

/-- SYNC_FOUND (R289, R291); `preamble` is the time in ns from the re-arm or restart to the sync symbol.
(DEDUCED, log 101) -/
def onSyncFound (p lvl afc preamble : Nat) (s : State) : State :=
  let a := (s.port p).spur.acq
  if !detects p s || a.st ≠ 2 then s
  else if a.late && preamble < 2048 then loseLate p s
  else
    let s := setAcq p { a with st := 3, hdr := none } s
    when (stOf p s != stQuiet) (setAll p [(.BURST_SYNC_LVL, lvl), (.BURST_AFC, afc)]) s

/-- An energy rise meets the close of the sync search in the same cycle and wins (R305). (DESIGN CHOICE, log 132) -/
def riseMeets (p : Nat) (s : State) : Bool :=
  meets (fun c => match c with | .energyRise q _ => q.val == p | _ => false) s

/-- The sync symbol found meets an energy rise in the same cycle and wins (R305). (DESIGN CHOICE, log 132) -/
def syncMeets (p : Nat) (s : State) : Bool :=
  meets (fun c => match c with | .syncFound q _ _ _ => q.val == p | _ => false) s

/-- The end of the burst meets a capture in the same cycle and wins (R305). (DESIGN CHOICE, log 132) -/
def endMeets (p : Nat) (s : State) : Bool :=
  meets (fun c => match c with | .burstEnd q _ => q.val == p | _ => false) s

/-- SYNC_SEARCH_CLOSE (R290, R291). -/
def closeSearch (p : Nat) (above : Bool) (s : State) : State :=
  let a := (s.port p).spur.acq
  if !detects p s || a.st ≠ 2 || riseMeets p s then s
  else if a.late then loseLate p s
  else reacquire p above (falseDetect p s)

/-- ENERGY_RISE in the sync search (R290). -/
def onRise (p : Nat) (above : Bool) (s : State) : State :=
  if !detects p s || (s.port p).spur.acq.st ≠ 2 || syncMeets p s then s else reacquire p above (falseDetect p s)

/-! ### Headers and payload (R283, R293, R299, R300) -/

/-- The burst breaks the schedule (R293): a SCHEDULE burst not from node 0 in slot 0, or a sender without the grant
that covers the slot. -/
def breaksSchedule (p slot : Nat) (h : Header) (s : State) : Bool :=
  let x := (s.port p).spur
  if !x.haveSched then false
  else if h.kind = 1 then !(h.sender == 0 && slot == 0)
  else !(x.grants.any fun g => g.node == h.sender && g.first ≤ slot && slot < g.first + g.len)

/-- Loads from measured SNR (R152, R299), within the capacity of the port's decoder cores (R20). -/
def spLoad (p : Nat) (snr : NMap Int) (s : State) : NMap Nat :=
  let gamma := gammaOf (latched p .ROUNDABOUT_SP_RATE s)
  let target : Int := latched p .ROUNDABOUT_SP_MARGIN s
  let budget := (resourcesOf p s).2.2 * 34816
  (((spurPlan p s).spHeaders.filterMap fun j => (mapGet snr j).map fun v => (j, bitsFor (v - gamma - target))).foldl
    (fun (a : List (Nat × Nat) × Nat) e =>
      let b := min e.2 a.2
      (if b = 0 then a.1 else (e.1, b) :: a.1, a.2 - b)) ([], budget)).1.reverse

/-- The link margin over a partner's last header symbols (R299), in 0.1 dB. -/
def spMargin (p : Nat) (snr : NMap Int) (loads : NMap Nat) (s : State) : Int :=
  let gamma := gammaOf (latched p .ROUNDABOUT_SP_RATE s)
  linkMarginOf (loads.map fun e => mapGetD snr e.1 (-2048) - loadNeed e.2 - gamma)

/-- The common table formed again at the gatehouse (R301). -/
def formCommon (p : Nat) (s : State) : State :=
  if stOf p s ≠ stSpGate then s
  else
    let x := (s.port p).spur
    let tabs := (x.nodes.filterMap fun e => e.2.rxTab) ++ x.heardTabs.map (·.2)
    match tabs with
    | [] => s
    | t :: rest =>
      let loads := (t.loads.map fun e => (e.1, rest.foldl (fun a u => min a (mapGetD u.loads e.1 0)) e.2)).filter
        fun e => e.2 != 0
      if (x.common.map (·.loads)) == some loads then s
      else
        let g := nextGen ((x.common.map (·.gen)).getD 0)
        modSpur p (fun x => { x with common := some ⟨g, loads⟩, commonSent := false }) s

/-- The SNR of a partner's header symbols judged: its margin, and a new table when it crosses a limit while none is
outstanding (R299, R300). -/
def judgeTable (p sender : Nat) (snr : NMap Int) (s : State) : State :=
  let x := nodeOf p sender s
  let loads := match x.rxTab with | some t => t.loads | none => robustLoads p s
  let m := spMargin p snr loads s
  let s := noteMargin p m (modNode p sender (fun n => { n with margin := satSigned 12 m }) s)
  let crossed := decide (m ≤ (getF p .LINKUP_SWAP_LOW s : Int)) || decide ((getF p .LINKUP_SWAP_HIGH s : Int) ≤ m)
  if crossed && x.newTab.isNone then
    let g := nextGen ((x.rxTab.map (·.gen)).getD 0)
    let l := spLoad p snr s
    modNode p sender (fun n => { n with newTab := some ⟨g, l⟩, dirty := true }) s
  else s

/-- NOISE_STALE where the strength alone is left to report (R304). -/
def noteStale (p : Nat) (s : State) : State :=
  let x := (s.port p).spur
  let fresh := (List.range 64).all fun g => match mapGet x.noise g with
    | some n => (s.cycles - n.2) * 8 ≤ 100000000
    | none => false
  if fresh then s else sticky .ROUNDABOUT_NOISE_STALE p s

/-- An accepted header used: strength, backlog, mileposts, table generation (R293, R299, R300, R302, R304). -/
def useHeader (p : Nat) (h : Header) (snr : Option (List (Nat × Int))) (s : State) : State :=
  let own := ownNode p s
  let s := setAll p [(.BURST_LAST_SENDER, h.sender), (.BURST_LAST_DEST, h.dest), (.BURST_LAST_LEN, h.len),
    (.BURST_LAST_KIND, h.kind), (.BURST_LAST_VALID, 1)] s
  let lvl := getF p .BURST_SYNC_LVL s
  let s := modNode p h.sender (fun n => { n with syncLvl := lvl, misses := 0, backlog := h.backlog }) s
  let s := noteStale p s
  let s := updPressures p (forAll (h.mileposts.filter fun e => e.partner == own) (fun e s =>
    onMilepost p h.sender e.cls e.cum e.nack (fun w => decide (signedOf 8 (w.cycle + 256 - e.reflects % 256) ≤ 0)) s) s)
  let named := h.dest == own && h.kind == 0 && h.len != 0 &&
    ((nodeOf p h.sender s).newTab.map (·.gen)) == some h.tableGen
  let s := when named (fun s =>
    formCommon p (modNode p h.sender (fun n => { n with rxTab := n.newTab, newTab := none, dirty := false }) s)) s
  let s := match snr with | some l => judgeTable p h.sender (mapPutAll [] l) s | none => s
  modSpur p (fun x => { x with acq := { x.acq with hdr := some h } }) s

/-- HEADER_RX (R283, R293): a discarded burst lasts as its LEN says before the receiver re-arms (R294). (DEDUCED, log 101) -/
def onHeader (p slot : Nat) (crcOk : Bool) (h : Header) (snr : Option (List (Nat × Int))) (s : State) : State :=
  let a := (s.port p).spur.acq
  if !spurOn p s || a.st ≠ 3 || a.hdr.isSome then s
  else if !crcOk then setAcq p { st := 4 } (sticky .BURST_HDR_ERR p (count p .BURST_HDR_ERR s))
  else
    let s := count p .BURST_BURSTS_RX s
    let drop := modSpur p (fun x => { x with acq := { x.acq with hdr := some { h with kind := 7 } } })
    if 3 ≤ h.kind then drop s
    else if breaksSchedule p slot h s then
      drop (sticky .BURST_SCHEDULE_VIOLATION p (count p .BURST_SCHEDULE_VIOLATION s))
    else useHeader p h snr s

/-- Codewords of a burst into the decoder queue (R236). -/
def queueCws (p : Nat) (w : DqCw) : Nat → State → State
  | 0, s => s
  | k + 1, s =>
    let r := queueCw p w s
    queueCws p w k (if r.1 then r.2 else failCw p r.2)

/-- BURST_END: the payload for this node goes to the decoders, and the receiver re-arms (R287, R294, R300). -/
def endBurst (p : Nat) (above : Bool) (s : State) : State :=
  let a := (s.port p).spur.acq
  if !spurOn p s || a.st ≠ 3 then s
  else
    let s := reacquire p above s
    match a.hdr with
    | some h =>
      if h.kind ≠ 0 || h.len = 0 || !spurShow p s || (h.dest != ownNode p s && h.dest != 31) then s
      else match rxLoads p h.sender h.dest h.tableGen s with
        | some l =>
          let w : DqCw := { at_ := nowEighths s, node := h.sender, bcast := h.dest == 31, cycle := (s.port p).spur.cycleNo }
          queueCws p w (h.len * loadSum l / 2304) s
        | none => sticky .BURST_GEN_MISS p (count p .BURST_GEN_MISS s)
    | none => s

/-! ### Tables (R299 to R301) -/

/-- A table record (R300). -/
def tableRecord (t : SpTable) : List Byte :=
  let nibbles := (List.range 2048).map fun i =>
    BitVec.ofNat 8 (mapGetD t.loads (2 * i) 0 % 16 * 16 + mapGetD t.loads (2 * i + 1) 0 % 16)
  let b := beBytes 1 t.gen ++ List.replicate 7 0 ++ nibbles
  b ++ beBytes 4 (crc32 0xFFFFFFFF b)

/-- TABLE_RX: a record that passed its CRC (R300, R301). -/
def onTable (p sender dest gen : Nat) (loads : List (Nat × Nat)) (s : State) : State :=
  if !spurOn p s then s
  else
    let t : SpTable := ⟨gen, mapPutAll [] (loads.filter fun e => e.2 != 0)⟩
    let s := if dest = ownNode p s then modNode p sender (fun n => { n with txTab := some t }) s else s
    if stOf p s = stSpGate then
      formCommon p (modSpur p (fun x => { x with heardTabs := mapPut x.heardTabs (sender * 32 + dest) t }) s)
    else if dest = 31 then modSpur p (fun x => { x with common := some t }) s
    else s

/-- A TABLE burst sent (R300). -/
def sendTable (p dest : Nat) (t : SpTable) (s : State) : State :=
  let n := getF p .BURST_HDR_TONES s
  sendBurst p dest 2 ((16480 + 2 * n - 1) / (2 * n)) 0 (robustLoads p s) (byteBits (tableRecord t)) s

/-- The port holds a grant of the present cycle. -/
def hasGrant (p : Nat) (s : State) : Bool :=
  spurShow p s && (s.port p).spur.haveSched && ((s.port p).spur.grants.any fun g => g.node == ownNode p s)

/-- TABLE_SEND: the new table toward a partner; at the gatehouse, for its own node, the common table (R299 to R301). -/
def tableOut (p node : Nat) (s : State) : State :=
  let x := (s.port p).spur
  if !hasGrant p s then s
  else if node = ownNode p s then
    match stOf p s == stSpGate && !x.commonSent && x.commonCycle != some x.cycleNo, x.common with
    | true, some t =>
      let s := modSpur p (fun x => { x with commonSent := true, commonCycle := some x.cycleNo }) (sendTable p 31 t s)
      setF p .ROUNDABOUT_COMMON_GEN t.gen s
    | _, _ => s
  else match (nodeOf p node s).newTab, (nodeOf p node s).dirty with
    | some t, true =>
      modNode p node (fun n => { n with dirty := false, newTabCycle := x.cycleNo }) (sendTable p node t s)
    | _, _ => s

/-- TABLE_RESEND: the partner still names the old generation 2 cycles after (R300). -/
def tableAgain (p node : Nat) (s : State) : State :=
  let x := (s.port p).spur
  let v := nodeOf p node s
  match v.newTab, v.dirty with
  | some t, false =>
    if hasGrant p s && 2 ≤ (x.cycleNo + 2 ^ 32 - v.newTabCycle) % 2 ^ 32 then
      modNode p node (fun n => { n with newTabCycle := x.cycleNo }) (sendTable p node t s)
    else s
  | _, _ => s

/-! ### Noise (R303, R304) -/

/-- NOISE of a group before its first update: the register's reset value, 0 dBm, in 10^−18 W. (DEDUCED, log 100) -/
def noiseReset : Int := 10 ^ 15

/-- IDLE_SLOT_NOISE: NOISE(g) of each group moves by 1/16 of the difference (R303). (DEDUCED, log 100) -/
def onIdleSlot (p : Nat) (power : List (Nat × Int)) (s : State) : State :=
  if !spurOn p s then s
  else
    let step := fun (e : Nat × Int) (s : State) =>
      let old := ((mapGet (s.port p).spur.noise e.1).map (·.1)).getD noiseReset
      let v := roundQ s ((15 * old + e.2 : Int) / (16 : Rat))
      spend (modSpur p (fun x => { x with noise := mapPut x.noise e.1 (v, s.cycles) }) s)
    forAll (power.filter fun e => e.1 < 64) step (count p .ROUNDABOUT_IDLE_SLOTS s)

/-- AGE of a group in ms, holding at 65,535. -/
def noiseAge (p g : Nat) (s : State) : Nat :=
  match mapGet (s.port p).spur.noise g with
  | some n => min 65535 ((s.cycles - n.2) * 8 / 1000000)
  | none => 65535

/-- NOISE_TOTAL in 10^−18 W. -/
def noiseTotal (p : Nat) (s : State) : Int :=
  let count := fun (g : Nat) => ((spurPlan p s).spHeaders.filter fun j => j / 64 == g).length
  ((s.port p).spur.noise.map fun e => e.2.1 * (count e.1 : Int)).foldl (fun a b => a + b) 0

/-- QUALITY and Q_SRC of a partner (R304). (DEDUCED, log 104) -/
def quality (p n : Nat) (s : State) : Int × Nat :=
  let lvl := signedOf 12 (nodeOf p n s).syncLvl
  if (List.range 64).all fun g => noiseAge p g s ≤ 100 then (lvl - Config.levelOf (noiseTotal p s), 0) else (lvl, 1)

/-! ### The commands -/

/-- CYCLE_START (R279). -/
def execCycleStart (p : Fin 8) (s : State) : Answer := .next (portEvent p (fun s => startCycle p s) s)

/-- SCHEDULE_RX (R285). -/
def execScheduleRx (p : Fin 8) (sched : Schedule) (cycleNo : Word) (sender : Fin 16) (s : State) : Answer :=
  .next (portEvent p (fun s => onSchedule p sched cycleNo.toNat sender s) s)

/-- SCHEDULE_MISS (R295). -/
def execScheduleMiss (p : Fin 8) (s : State) : Answer := .next (portEvent p (fun s => missSchedule p s) s)

/-- GRANT_START (R280). -/
def execGrantStart (p : Fin 8) (slot : Nat) (s : State) : Answer := .next (portEvent p (fun s => startGrant p slot s) s)

/-- GRANT_MISS (R298). -/
def execGrantMiss (p : Fin 8) (node : Fin 16) (s : State) : Answer := .next (portEvent p (fun s => missGrant p node s) s)

/-- KNOCK_SEND (R296). -/
def execKnockSend (p : Fin 8) (backoff : Nat) (s : State) : Answer := .next (portEvent p (fun s => sendKnock p backoff s) s)

/-- KNOCK_RX (R297). -/
def execKnockRx (p : Fin 8) (uid : Nat) (node : Fin 16) (_port : Fin 8) (s : State) : Answer :=
  .next (portEvent p (fun s => onKnock p uid node s) s)

/-- ENERGY_DETECT (R288). -/
def execEnergyDetect (p : Fin 8) (s : State) : Answer :=
  .next (portEvent p (fun s => if detects p s && (s.port p).spur.acq.st == 0 then setAcq p { st := 1 } s else s) s)

/-- BURST_DETECT (R288). -/
def execBurstDetect (p : Fin 8) (frozen : BitVec 12) (s : State) : Answer := .next (portEvent p (fun s => onDetect p frozen.toNat s) s)

/-- SYNC_FOUND (R290). -/
def execSyncFound (p : Fin 8) (lvl : BitVec 12) (afc : BitVec 16) (preamble : Nat) (s : State) : Answer :=
  .next (portEvent p (fun s => onSyncFound p lvl.toNat afc.toNat preamble s) s)

/-- SYNC_SEARCH_CLOSE (R290). -/
def execSyncSearchClose (p : Fin 8) (above : Bool) (s : State) : Answer := .next (portEvent p (fun s => closeSearch p above s) s)

/-- ENERGY_RISE (R290). -/
def execEnergyRise (p : Fin 8) (above : Bool) (s : State) : Answer := .next (portEvent p (fun s => onRise p above s) s)

/-- LATE_START_LOSS (R291): 8.704 µs without a detection. -/
def execLateStartLoss (p : Fin 8) (s : State) : Answer :=
  .next (portEvent p (fun s => if detects p s && (s.port p).spur.acq.late && (s.port p).spur.acq.st == 1 then loseLate p s else s) s)

/-- CAPTURED (R292). -/
def execCaptured (p : Fin 8) (above : Bool) (s : State) : Answer :=
  .next (portEvent p (fun s => if detects p s && (s.port p).spur.acq.st == 3 && !endMeets p s then
    reacquire p above (when (stOf p s != stQuiet) (fun s => sticky .BURST_CAPTURED p (count p .BURST_CAPTURED s)) s)
  else s) s)

/-- RE_ARM (R291, R293): the power stayed below DET_THR for 512 ns. -/
def execReArm (p : Fin 8) (s : State) : Answer :=
  .next (portEvent p (fun s => if detects p s && (s.port p).spur.acq.st == 4 then setAcq p {} s else s) s)

/-- HEADER_RX (R293). -/
def execHeaderRx (p : Fin 8) (slot : Nat) (crcOk : Bool) (h : Header) (snrBlock : Option (List (Nat × Int)))
    (s : State) : Answer := .next (portEvent p (fun s => onHeader p slot crcOk h snrBlock s) s)

/-- BURST_END (R294). -/
def execBurstEnd (p : Fin 8) (above : Bool) (s : State) : Answer := .next (portEvent p (fun s => endBurst p above s) s)

/-- SP_LISTEN_TIMEOUT (R295). -/
def execSpListenTimeout (p : Fin 8) (s : State) : Answer := .next (portEvent p (fun s => spListenEnds p s) s)

/-- TABLE_RX (R300). -/
def execTableRx (p : Fin 8) (sender : Fin 16) (dest : BitVec 5) (gen : BitVec 8) (loads : List (Nat × Nat))
    (s : State) : Answer := .next (portEvent p (fun s => onTable p sender dest.toNat gen.toNat loads s) s)

/-- TABLE_SEND (R299). -/
def execTableSend (p : Fin 8) (node : Fin 16) (s : State) : Answer := .next (portEvent p (fun s => tableOut p node s) s)

/-- TABLE_RESEND (R300). -/
def execTableResend (p : Fin 8) (node : Fin 16) (s : State) : Answer := .next (portEvent p (fun s => tableAgain p node s) s)

/-- IDLE_SLOT_NOISE (R303). -/
def execIdleSlotNoise (p : Fin 8) (power : List (Nat × Int)) (s : State) : Answer := .next (portEvent p (fun s => onIdleSlot p power s) s)

end Sys2Proof.Machine
end

