-- ==== Sys2Proof/Machine/Views.lean ====
section
/-! DEFINITION. What registers and table windows show a master: banked copies, captures, fields computed when they are
read, and the entries of the table windows (R74, R94, R97, R98 and the block maps). -/

namespace Sys2Proof.Machine

/-! ### Fields -/

/-- The present conditions of a block behind its sticky bits, as bits of LIVE (R78). A sticky bit whose event leaves nothing
that a field or the state shows has no lasting condition. (DEDUCED, log 43) -/
def conditions (b : Blk) (u : Nat) (s : State) : List (Nat × Bool) :=
  match b with
  | .CHAIN => [(3, isSet 0 .CHAIN_ROOT_SRC s)]
  | .TIME => [(1, !isSet 0 .TIME_TIME_VALID s)]
  | .LAYOUT => [(1, (List.range 4).any fun n => isSet 0 (.LAYOUT_NOMATCH n) s)]
  | .BOOTF => [(2, strapFlash s && 6 ≤ s.clk.boot && getF 0 .BOOTF_FLASH_JEDEC_ID s == 0)]
  | .OAM => [(0, isSet u .OAM_RX_FULL s)]
  | .ECHO => [(1, (s.port u).watch.erleLow)]
  | .EQ => [(0, isSet u .EQ_TEQ_ACTIVE s), (2, (s.port u).sig.inImpulse),
      (3, isSet u .EQ_MARGIN_VALID s && decide (getS u .EQ_LINK_MARGIN s < getS u .LINKUP_MARGIN_MIN s))]
  | .FEC => [(2, isSet u .FEC_OVERLOADED s)]
  | .LAYBY_P => [(0, isSet u .LAYBY_P_IN_HOLD s)]
  | .STREAM => [(1, (s.port u).streams.any fun e => 2 ≤ e.2.st)]
  | .WATCH => [(1, isSet u .WATCH_GRADE_VALID s && getF u .WATCH_GRADE s < getF u .WATCH_GRADE_WARN s),
      (2, predLow u s)]
  | .SURVEY => [(0, (s.port u).watch.eventOpen), (2, enOf b u s == 1 && isSet u .SURVEY_BASE_VALID s &&
      getF u .DIAG_VF s != getF u .SURVEY_BASE_VF s)]
  | .HOST => [(0, enOf b u s == 1 && !laneUp u s)]
  | .TSU => [(0, !(s.port u).lane.tsTx.isEmpty), (1, !(s.port u).lane.tsRx.isEmpty)]
  | .RSTC => [(1, strapEdges.contains (getF 0 .RSTC_STRAP_COUNT s))]
  | .CLKC => [(0, isSet 0 .CLKC_SAFE s)]
  | .PWRC => [(1, getF 0 .PWRC_WAKE_SRC s != 0)]
  | .LODGE => [(1, getF 0 .LODGE_RESET_COUNT s == 2 ^ 32 - 1)]
  | .DEBUG => [(0, s.clk.tap != 0)]
  | .CAL => [(4, s.nvm.portMarks.any fun e => e.1 == u), (5, s.nvm.portOos.any fun e => e.1 == u)]
  | .NVMC => [(0, isSet 0 .NVMC_CAL_DEFAULTS s)]
  | .SPARE => [(1, endOfLife s)]
  | .PAV_WEAR => [(0, !(marksOf u s).isEmpty), (3, s.nvm.oos.any fun e => e.pav == u)]
  | _ => []

/-- A counter of the block is at all ones (R78, R93). -/
def saturated (b : Blk) (u : Nat) (s : State) : Bool :=
  ((counterFlds b).any fun f => getF u f s == 2 ^ f.width - 1) ||
    (b == .STREAM && (s.port u).streams.any fun e => (streamCounts e.2).contains (2 ^ 48 - 1))

/-- LIVE of a block (R78). -/
def liveOf (b : Blk) (u : Nat) (s : State) : Nat :=
  ((conditions b u s).map fun c => ofBool c.2 * 2 ^ c.1).sum + ofBool (saturated b u s) * 2 ^ 23

/-- Units of a countdown left, rounded up. (DEDUCED, log 44) -/
def unitsLeft (cycles unit : Nat) : Nat := (cycles + unit - 1) / unit

/-- A field of the KEEPER block outside the banked range (R52, R74). (DEDUCED, log 44) -/
def viewKeeper (f : Fld) (s : State) : Nat :=
  if f.off = 0x02C then unitsLeft s.leaseLeft 125000
  else if f.off = 0x028 || (0x0A0 ≤ f.off && f.off < 0x0C0) then 0
  else getF 0 f s

/-- A field of the CHAIN block (R35, R73). -/
def viewChain (f : Fld) (s : State) : Nat :=
  if f.off = 0x024 ∧ f.lo = 2 then ofBool (isTail s)
  else if f.off = 0x030 then Config.fwdLat % 2 ^ 16
  else getF 0 f s

/-- A field of the DEV_ID block (R99). -/
def viewDevId (f : Fld) (s : State) : Nat :=
  if f.off = 0x024 ∧ f.lo = 8 then Config.grade % 4
  else if f.off = 0x028 then Config.uidLo % 2 ^ 32
  else if f.off = 0x02C then Config.uidHi % 2 ^ 32
  else getF 0 f s

/-- A field of the TIME block: NOW_NS runs, the other NOW fields show the master's capture (R94, R101). -/
def viewTime (m : Nat) (f : Fld) (s : State) : Nat :=
  if f.off = 0x020 then s.nanos
  else if f.off < 0x030 && 0x020 < f.off then mapGetD s.caps (f.key 0 * 16 + m) 0
  else getF 0 f s

/-- A field of the CLKC block (R379). -/
def viewClkc (f : Fld) (s : State) : Nat :=
  if f.off = 0x024 ∧ f.lo = 16 then (if s.clk.holdRun then unitsLeft s.clk.holdLeft 125000 else 0) else getF 0 f s

/-- A field of the SPARE block (R404). -/
def viewSpare (f : Fld) (s : State) : Nat :=
  if f.off = 0x050 ∧ f.lo = 8 then getF 0 .NVMC_SECT_LEFT s
  else if f.off = 0x050 ∧ f.lo = 16 then ofBool (isSet 0 .CHAIN_RING s && isSet 0 .CHAIN_LINK_B s)
  else getF 0 f s

/-- Elements of a port out of service for lack of a spare, drivers or sub-converters (R398). -/
def outOfService (p : Nat) (driver : Bool) (s : State) : Nat :=
  (s.nvm.portOos.filter fun e => e.1 == p && decide (34 ≤ e.2) == driver).length

/-- A field of the AFE block (R226, R398). -/
def viewAfe (p : Nat) (f : Fld) (s : State) : Nat :=
  if f.off ≠ 0x028 then getF p f s
  else if f.lo = 0 then 32 - outOfService p false s
  else if f.lo = 8 then getF 0 (.SPARE_SUBCONV_LEFT p) s
  else if f.lo = 16 then 8 - outOfService p true s
  else getF 0 (.SPARE_DRV_LEFT p) s

/-- The spacing of the tones of a symbol in Hz (R127, R274). -/
def spacingOf (short : Bool) (kind : Nat) : Rat :=
  if kind = kHeader ∨ kind = kPayload then 1220703125 / 10000
  else if kPreamble ≤ kind || short then 976562500 / 1000 else 244140625 / 1000

/-- Present launch power in 10^−18 W (R146, R154): that of the last symbol transmitted, in the handshake that of the beacon
tones. (DEDUCED, log 165) -/
def launchNow (p : Nat) (s : State) : Rat :=
  let beacon := stOf p s == stSeek || stOf p s == stCap
  let m := portMask p (rwF p .TXSH_PSD_SEL s) s
  let sym := (s.port p).sig.lastTx
  let lev : List Rat := if beacon then
      (List.range 24).map fun i => powerOf (maskLevel m (beaconBase (stOf p s == stCap && !(s.port p).link.initiator) + i))
    else sym.tones.map fun t => powerOf t.psd * (if t.e3 = 3 * 2 ^ 20 then mkRat (t.i * t.i + t.q * t.q) (2 ^ 20) else 1)
  lev.foldl (· + ·) 0 * (if beacon then 244140625 / 1000 else spacingOf (isShort p s) sym.kind) * 10 ^ 15 / 2 ^ 20

/-- A field of the TXSH block (R147, R154): LAUNCH keeps its Reset value while the line is muted. -/
def viewTxsh (p : Nat) (f : Fld) (s : State) : Nat :=
  if f.off = 0x090 ∧ getF p .TXSH_MUTED s = 0 then codeOf 12 (min 40 (Config.levelOf (launchNow p s))) else getF p f s

/-- The Clause 45 window reaches an implemented register (R198). -/
def cl45Has (p : Nat) (s : State) : Bool :=
  let mmd := getF p .LINKUP_CL45_MMD s
  let k := cl45Key mmd (getF p .LINKUP_CL45_REG s)
  (mmd == 1 || mmd == 3 || mmd == 7) &&
    ([regAnCtl, regPmaCtl, regAnAdv].contains k || Config.cl45Has mmd (getF p .LINKUP_CL45_REG s))

/-- The register the Clause 45 window names. -/
def cl45Read (p : Nat) (s : State) : Nat :=
  let mmd := getF p .LINKUP_CL45_MMD s
  let reg := getF p .LINKUP_CL45_REG s
  let v := cl45Of p (cl45Key mmd reg) s
  if !cl45Has p s then 0
  else if [regAnCtl, regPmaCtl, regAnAdv].contains (cl45Key mmd reg) then v % 2 ^ 16
  else Config.cl45Value mmd reg v % 2 ^ 16

/-- A field of the LINKUP block (R179, R198, R200). -/
def viewLinkup (p : Nat) (f : Fld) (s : State) : Nat :=
  if f.off = 0x050 ∧ f.lo = 0 then ofBool (s.port p).stored.isSome
  else if f.off = 0x05C ∧ f.lo = 0 then cl45Read p s
  else getF p f s

/-- A field of the TONES block: the superframe counters show the master's capture (R94, R156). -/
def viewTones (m p : Nat) (f : Fld) (s : State) : Nat :=
  if f.off = 0x044 ∨ f.off = 0x048 then mapGetD s.caps (f.key p * 16 + m) 0 else getF p f s

/-- A milestone array of LAYBY_P, which shows the trunk link (R268). (DEDUCED, log 105) -/
def viewArray (p : Nat) (f : Fld) (s : State) : Nat :=
  let x := pmsOf p 0 ((f.off - 0x040) / 4 % 8) s
  if isSpur p s then 0
  else if f.off < 0x060 then (if f.lo = 0 then x.txNext else x.txAck)
  else if f.lo = 0 then x.rxA
  else x.rxHigh

/-- A field of the LAYBY_P block (R241, R268). -/
def viewLaybyP (p : Nat) (f : Fld) (s : State) : Nat :=
  if 0x040 ≤ f.off ∧ f.off < 0x080 then viewArray p f s
  else if f.off = 0x02C then (if f.lo = 0 then heldTxAll (s.port p) else heldRx (s.port p))
  else if f.off = 0x030 ∧ f.lo = 16 then freePool p s
  else if f.off = 0x034 then (s.port p).notices.length
  else getF p f s

/-- A field of the STREAM block (R269). -/
def viewStream (p : Nat) (f : Fld) (s : State) : Nat :=
  if f.off = 0x044 then guarSum (s.port p)
  else if 0x060 ≤ f.off ∧ f.off < 0x080 then queueBytes (classQ (s.port p) ((f.off - 0x060) / 4))
  else getF p f s

/-- Slots of a port held (R267). -/
def usedSlots (p : Nat) (s : State) : Nat := heldTxAll (s.port p) + heldRx (s.port p)

/-- A field of the LAYBY block (R267). -/
def viewLayby (n : Nat) (f : Fld) (s : State) : Nat :=
  if f.off = 0x024 then usedSlots (2 * n + (if f.lo = 0 then 0 else 1)) s else getF n f s

/-- A field of the DECPOOL block: a core decodes 4,000 Mb/s of coded bits at 8 iterations (R20, R265). -/
def viewDecpool (n : Nat) (f : Fld) (s : State) : Nat :=
  if f.off = 0x024 then 4000 * getF n (if f.lo = 0 then .DECPOOL_CORES_EVEN else .DECPOOL_CORES_ODD) s else getF n f s

/-- A head entry of a time-stamp FIFO. -/
def tsHead (p : Nat) (rx : Bool) (s : State) : List Nat :=
  let l := (s.port p).lane
  (if rx then l.tsRx else l.tsTx).headD [0, 0, 0, 0]

/-- A field of the TSU block: word 0 of a head runs, the other words show the master's capture (R94, R346, R352). -/
def viewTsu (m p : Nat) (f : Fld) (s : State) : Nat :=
  if f.off = 0x024 then (if f.lo = 0 then (s.port p).lane.tsTx.length else (s.port p).lane.tsRx.length)
  else if f.off = 0x030 then (tsHead p false s).headD 0
  else if f.off = 0x050 then (tsHead p true s).headD 0
  else if (0x030 < f.off ∧ f.off < 0x040) ∨ (0x050 < f.off ∧ f.off < 0x060) then mapGetD s.caps (f.key p * 16 + m) 0
  else getF p f s

/-- A field as master `m` reads it. -/
def viewF (m u : Nat) (f : Fld) (s : State) : Nat :=
  if f.off = 0x000 ∧ f.lo = 0 then enOf f.blk u s
  else if f.off = 0x014 ∧ f.lo = 0 then liveOf f.blk u s
  else if f.ty = .idx then getB m u f s
  else
    match f.blk with
    | .KEEPER => if 0x034 ≤ f.off ∧ f.off ≤ 0x07C then getB m u f s else viewKeeper f s
    | .CHAIN => viewChain f s
    | .DEV_ID => viewDevId f s
    | .TIME => viewTime m f s
    | .CLKC => viewClkc f s
    | .SPARE => viewSpare f s
    | .RSTC => if f.off = 0x034 then 0 else getF u f s
    | .INJ => if f.off = 0x024 then unitsLeft s.armLeft 125000000 else getF u f s
    | .LAYOUT => if f.off = 0x024 then 0 else getF u f s
    | .LODGE => if f.off = 0x038 ∧ f.lo = 0 then logUsed s else getF u f s
    | .DECPOOL => viewDecpool u f s
    | .LAYBY => viewLayby u f s
    | .PORT_CTL => if f.off = 0x028 ∧ f.lo = 16 then ofBool (stageValid u s) else getF u f s
    | .AFE => viewAfe u f s
    | .TXSH => viewTxsh u f s
    | .LINKUP => viewLinkup u f s
    | .TONES => viewTones m u f s
    | .FEC => if f.off = 0x028 ∧ f.lo = 0 then dqWaiting u s else getF u f s
    | .LAYBY_P => viewLaybyP u f s
    | .STREAM => viewStream u f s
    | .ROUNDABOUT => if f.off = 0x020 ∧ f.lo = 0 ∧ lineMode u s = 2 then 0 else getF u f s
    | .TSU => viewTsu m u f s
    | _ => getF u f s

/-- The word at a register offset as master `m` reads it: its fields at their places, reserved bits 0 (R8). -/
def viewWord (m : Nat) (b : Blk) (u off : Nat) (s : State) : Nat :=
  (fldsAt b off).foldl (fun a f => a + viewF m u f s % 2 ^ f.width * 2 ^ f.lo) 0

/-! ### Table windows -/

/-- Entries and words for each entry of the window whose data register lies at an offset (R97 and the block maps). -/
def winShape (b : Blk) (off : Nat) : Option (Nat × Nat) :=
  match b with
  | .LODGE => if off = 0x02C then some (8, 2) else if off = 0x034 then some (64, 4) else none
  | .TXSH => if off = 0x030 then some (256, 1) else if off = 0x038 then some (128, 1) else none
  | .TONES => if off = 0x024 then some (65536, 1) else none
  | .ECHO => if off = 0x034 then some (16384, 1) else if off = 0x03C then some (256, 1) else none
  | .EQ => if off = 0x03C ∨ off = 0x044 then some (16384, 1) else if off = 0x04C then some (32, 1) else none
  | .STREAM => if off = 0x038 then some (4096, 14) else if off = 0x040 then some (8192, 3) else none
  | .BURST => if off = 0x038 then some (65536, 2) else none
  | .ROUNDABOUT =>
    if off = 0x084 then some (16, 4) else if off = 0x08C then some (128, 2) else if off = 0x094 then some (64, 1)
    else if off = 0x09C then some (4096, 1) else none
  | .DIAG => if off = 0x034 then some (8, 2) else if off = 0x03C then some (256, 1) else none
  | .SURVEY => if off = 0x03C then some (256, 1) else none
  | .OAM => if off = 0x024 ∨ off = 0x02C then some (4, 16) else none
  | .CAL => if off = 0x038 then some (44, 1) else none
  | _ => none

/-- A counter as the two words of a table entry. -/
def counterWords (n : Nat) : List Nat := [n % 2 ^ 32, n / 2 ^ 32 % 2 ^ 16]

/-- A complex coefficient as a word: real part high. -/
def coefWord (c : Int × Int) : Nat := codeOf 16 c.1 * 2 ^ 16 + codeOf 16 c.2

/-- Entry of the PSD window (R154). -/
def psdWord (p e : Nat) (s : State) : Nat :=
  match (((s.port p).layout.masks[e / 64]?).getD [])[e % 64]? with
  | some bp => bp.1 % 2 ^ 14 + codeOf 12 bp.2 * 2 ^ 16 + 2 ^ 31
  | none => 0

/-- Entry of the NOTCH window (R154). -/
def notchWord (p e : Nat) (s : State) : Nat :=
  match (((s.port p).layout.notchSets[e / 32]?).getD [])[e % 32]? with
  | some n => n.1 % 2 ^ 14 + n.2 % 2 ^ 9 * 2 ^ 16 + 2 ^ 31
  | none => 0

/-- Entry of the tone window (R155, R156). (DEDUCED, log 42) -/
def toneWord (p e : Nat) (s : State) : Nat :=
  let t := e / 16384
  let k := e % 16384
  let x := entryOf (tableOf p t s) k
  let off := if t = 0 then (entryOf (tableOf p 4 s) k).disabled else x.disabled
  if isShort p s && 4096 ≤ k then 0
  else x.bits % 16 + codeOf 6 x.gain * 2 ^ 4 + ofBool x.pilot * 2 ^ 16 + ofBool x.notched * 2 ^ 17 +
    ofBool off * 2 ^ 18 + ofBool x.cancel * 2 ^ 19 + ofBool x.oh * 2 ^ 20

/-- Entry of the SNR window (R228). -/
def snrWord (p k : Nat) (s : State) : Nat :=
  match mapGet (s.port p).sig.snr k with
  | some v =>
    codeOf 12 v + codeOf 12 (satSigned 12 (mapGetD (s.port p).sig.margins k 0)) * 2 ^ 16 + 2 ^ 31
  | none => 0

/-- Words 0 and 1 of a stream entry (R270). -/
def cfgWords (c : StreamCfg) : Nat × Nat :=
  (c.deadline % 2 ^ 16 + c.maxTries % 16 * 2 ^ 16 + c.cls % 8 * 2 ^ 20 + ofBool c.retx * 2 ^ 24 + ofBool c.inOrder * 2 ^ 25 +
    ofBool c.fixed * 2 ^ 26 + ofBool c.sen * 2 ^ 31, c.guar % 2 ^ 14 + c.cap % 2 ^ 14 * 2 ^ 16)

/-- A stream entry (R270). -/
def streamWords (p i : Nat) (s : State) : List Nat :=
  let e := streamOf p i s
  let c := cfgWords e.cfg
  [c.1, c.2, heldTx (s.port p) i % 2 ^ 14 + e.st * 2 ^ 16 + ofBool e.ldTx.isSome * 2 ^ 20 + ofBool e.ldRx.isSome * 2 ^ 21,
    e.ldTx.getD 0 % 2 ^ 16 + e.ldRx.getD 0 % 2 ^ 16 * 2 ^ 16] ++
    [e.frAdm, e.frDeliv, e.frExpTx, e.frExpRx, e.frTail].flatMap counterWords

/-- A match entry (R271). -/
def matchWords (p e : Nat) (s : State) : List Nat :=
  match (s.port p).layout.ways.find? fun w => w.entry == e with
  | some w => [w.mac / 2 ^ 16 % 2 ^ 32, w.mac % 2 ^ 16 * 2 ^ 16 + w.vid % 2 ^ 12, w.stream % 2 ^ 12 + 2 ^ 31]
  | none => [0, 0, 0]

/-- A word of the SPT window: the flags of a spur tone and its load in a table (R307). (DEDUCED, log 104) -/
def sptWord (p j : Nat) (t : Option SpTable) (s : State) : Nat :=
  let q := spurPlan p s
  let flags := if isSpur p s then
    ofBool (q.spNotched j) * 2 ^ 16 + ofBool (q.spCancel j) * 2 ^ 17 + ofBool (q.spHeader j) * 2 ^ 18 else 0
  match t with
  | some t => mapGetD t.loads j 0 % 16 + t.gen % 256 * 2 ^ 8 + flags + 2 ^ 31
  | none => flags

/-- A SPT entry (R307). -/
def sptWords (p e : Nat) (s : State) : List Nat :=
  let i := e / 4096
  let j := e % 4096
  if isSpur p s && i == ownNode p s then [sptWord p j (commonNow p s) s, sptWord p j (commonNow p s) s]
  else [sptWord p j (nodeOf p i s).txTab s, sptWord p j (nodeOf p i s).rxTab s]

/-- A partner entry (R304, R309). -/
def partnerWords (p i : Nat) (s : State) : List Nat :=
  let x := nodeOf p i s
  let known := (mapGet (s.port p).spur.nodes i).isSome
  let q := if known then quality p i s else (0, 0)
  [codeOf 12 (satSigned 12 q.1) + q.2 * 2 ^ 12 + ofBool (bitOf (getF p .ROUNDABOUT_MEMBERS s) i) * 2 ^ 16,
    x.syncLvl % 2 ^ 12 + codeOf 12 (satSigned 12 x.margin) * 2 ^ 16, x.uid % 2 ^ 32, x.uid / 2 ^ 32 % 2 ^ 32]

/-- A PMS entry (R302, R309). (DEDUCED, log 105) -/
def pmsWords (p e : Nat) (s : State) : List Nat :=
  let x := pmsOf p (e / 8) (e % 8) s
  if isSpur p s then [x.txNext % 2 ^ 16 + x.txAck % 2 ^ 16 * 2 ^ 16, x.rxA % 2 ^ 16 + x.rxHigh % 2 ^ 16 * 2 ^ 16] else [0, 0]

/-- A noise entry (R303, R309). -/
def noiseWord (p g : Nat) (s : State) : Nat :=
  (match mapGet (s.port p).spur.noise g with
    | some n => codeOf 12 (Config.levelOf n.1)
    | none => 0) + noiseAge p g s * 2 ^ 16

/-- A TDR entry (R325, R337). -/
def tdrWords (p e : Nat) (s : State) : List Nat :=
  match (s.port p).watch.tdr[e]? with
  | some r => [r.1 % 2 ^ 16 + r.2.1 % 8 * 2 ^ 16 + codeOf 12 r.2.2.1 * 2 ^ 20, r.2.2.2 % 2 ^ 24]
  | none => [0, 0]

/-- An insertion-loss entry (R326, R337). -/
def ilWord (p g : Nat) (s : State) : Nat :=
  (match mapGet (s.port p).watch.ilPre g with | some v => v % 2 ^ 12 + 2 ^ 15 | none => 0) +
    (match mapGet (s.port p).watch.ilShow g with | some v => v % 2 ^ 12 * 2 ^ 16 + 2 ^ 31 | none => 0)

/-- A profile entry (R328, R338). -/
def profWord (p i : Nat) (s : State) : Nat :=
  codeOf 12 (rhoAt (mapGetD s.nvm.bases p []) i) * 2 ^ 16 +
    (match (s.port p).watch.prof with | some l => codeOf 12 (rhoAt l i) + 2 ^ 31 | none => 0)

/-- An entry of a window, by the offset of its data register. -/
def entryWords (b : Blk) (u off e : Nat) (s : State) : List Nat :=
  match b with
  | .LODGE =>
    if off = 0x02C then (let c := s.causes.getD e (0, 0); [c.1, c.2]) else mapGetD s.log e [0, 0, 0, 0]
  | .TXSH => if off = 0x030 then [psdWord u e s] else [notchWord u e s]
  | .TONES => [toneWord u e s]
  | .ECHO =>
    if off = 0x034 then [coefWord (mapGetD (s.port u).sig.ecf e (0, 0))] else [codeOf 16 (mapGetD (s.port u).sig.ect e 0)]
  | .EQ =>
    if off = 0x03C then [coefWord (mapGetD (s.port u).sig.feq e (0, 0))]
    else if off = 0x044 then [snrWord u e s]
    else [codeOf 16 (mapGetD (s.port u).sig.teq e 0)]
  | .STREAM => if off = 0x038 then streamWords u e s else matchWords u e s
  | .BURST => sptWords u e s
  | .ROUNDABOUT =>
    if off = 0x084 then partnerWords u e s
    else if off = 0x08C then pmsWords u e s
    else if off = 0x094 then [noiseWord u e s]
    else [(((s.port u).layout.sdest.find? fun d => d.1 == e).map (·.2)).getD 0 % 32]
  | .DIAG => if off = 0x034 then tdrWords u e s else [ilWord u e s]
  | .SURVEY => [profWord u e s]
  | .OAM =>
    if off = 0x024 then (List.range 16).map fun w => mapGetD (s.port u).oam.txBuf (16 * e + w) 0
    else (List.range 16).map fun w =>
      beNat ((((s.port u).oam.rxBuf.drop (64 * e + 4 * w)) ++ List.replicate 4 0).take 4)
  | .CAL => [trimWord u e s]
  | _ => []

end Sys2Proof.Machine
end

