-- ==== Sys2Proof/Machine/Writes.lean ====
section
/-! DEFINITION. What a write does to the register it reaches: rights, field judging, ignored writes, sticky and latch
clears, table windows, command starts and aborts (R52, R78 to R98). -/

namespace Sys2Proof.Machine

/-! ### Rights -/

/-- A master's right to write an address (R52, R57, R359). -/
def mayWrite (m a : Nat) (s : State) : Bool :=
  match target a with
  | .ring r _ => r == 2 * m
  | .reg .KEEPER _ off =>
    if 0x034 ≤ off ∧ off ≤ 0x07C then true else isKeeper m s && !(off == 0x030 && acceptMeets s)
  | .reg .POST _ off => if 0x020 ≤ off then (off - 0x020) / 16 == m else isKeeper m s
  | .reg .RSTC _ off => if off = 0x030 ∨ off = 0x034 then false else isKeeper m s
  | _ => isKeeper m s

/-- A write or a claim refused for want of a right (R43, R52). -/
def countRefusal (m : Nat) (s : State) : State := count 0 (.KEEPER_VISIT_REJ m) s

/-! ### Ignored writes (R84) -/

/-- An ignored write recorded; `reason` is 1 enabled, 2 locked. (DEDUCED, log 39) -/
def recordIgnored (b : Blk) (u off m reason : Nat) (s : State) : State :=
  let s := bump8 u (.ignCount b) s
  let s := if isSet u (.ignValid b) s then setF u (.ignOvf b) 1 s
    else setAll u [(.ignReason b, reason), (.ignMtag b, m), (.ignOffset b, off), (.ignValid b, 1)] s
  irqUpdate b u (setStsBits b u (2 ^ 22) s)

/-- The response code of a judged write, 0, 1 or 2, with its record (R82, R84). (DEDUCED, log 39) -/
def endJudging (b : Blk) (u off m : Nat) (enabled locked : Bool) (s : State) : Nat × State :=
  if locked then (2, recordIgnored b u off m 2 s) else if enabled then (1, recordIgnored b u off m 1 s) else (0, s)

/-! ### Sticky bits and latches (R84 to R86) -/

/-- A write to BLK_STS (R85). -/
def clearSts (b : Blk) (u data : Nat) (s : State) : State :=
  if data / 2 ^ 24 % 2 ^ 8 = getF u (.seq b) s then
    irqUpdate b u (setF u (.sts b) (getF u (.sts b) s &&& (2 ^ 24 - 1 - data % 2 ^ 24)) s)
  else bump8 u (.clrMiss b) s

/-- A write to BLK_FIRST (R86). -/
def clearFirst (b : Blk) (u data : Nat) (s : State) : State :=
  if !bitOf data 31 then s
  else if bitsOf data 8 8 = getF u (.seq b) s then irqUpdate b u (setF u (.firstOvf b) 0 (setF u (.firstValid b) 0 s))
  else bump8 u (.clrMiss b) s

/-- A write to BLK_IGN (R84). -/
def clearIgn (b : Blk) (u data : Nat) (s : State) : State :=
  if !bitOf data 31 then s
  else if bitsOf data 16 8 = getF u (.ignCount b) s then setAll u [(.ignValid b, 0), (.ignOvf b, 0), (.ignCount b, 0)] s
  else bump8 u (.clrMiss b) s

/-! ### Table windows (R97, R98) -/

/-- The index register of the window with its data register at an offset. -/
def winIdx (b : Blk) (off : Nat) : Fld := ⟨b, off - 4, 0, 32, .idx, .num 0x80000000, false⟩

/-- The key of a master's captures and buffers of a window. -/
def winKey (m : Nat) (b : Blk) (u off : Nat) : Nat := (blkBase b u + off) * 16 + m

/-- The index after an access (R97): WORD, then ENTRY advance, and both wrap. -/
def nextIdx (idx entries words : Nat) : Nat :=
  if !bitOf idx 31 then idx
  else
    let w := bitsOf idx 16 4 + 1
    let e := if w = words then (bitsOf idx 0 16 + 1) % entries else bitsOf idx 0 16
    2 ^ 31 + w % words * 2 ^ 16 + e

/-- A data register read: code, word, state. (DESIGN CHOICE, log 41) -/
def readWindow (m : Nat) (b : Blk) (u off entries words : Nat) (s : State) : Nat × Nat × State :=
  let idx := getB m u (winIdx b off) s
  let e := bitsOf idx 0 16
  let w := bitsOf idx 16 4
  if entries ≤ e ∨ words ≤ w then (4, 0, s)
  else
    let adv := setB m u (winIdx b off) (nextIdx idx entries words)
    let k := winKey m b u off
    if w = 0 then
      let l := entryWords b u off e s
      (0, l.headD 0, adv { s with wcap := mapPut s.wcap k (e, l) })
    else
      match mapGet s.wcap k with
      | some c => if c.1 = e then (0, c.2.getD w 0, adv s) else (0, free s % 2 ^ 32, adv (spend s))
      | none => (0, free s % 2 ^ 32, adv (spend s))

/-- A stream entry written whole (R239, R270): whether a field was ignored, and the state. -/
def writeStream (p i : Nat) (l : List Nat) (s : State) : Bool × State :=
  let old := (streamOf p i s).cfg
  let a := l.getD 0 0
  let c := l.getD 1 0
  let new : StreamCfg :=
    { deadline := bitsOf a 0 16, maxTries := bitsOf a 16 4, cls := bitsOf a 20 3, retx := bitOf a 24
      inOrder := bitOf a 25, fixed := old.fixed, sen := old.sen, guar := bitsOf c 0 14, cap := bitsOf c 16 14 }
  let ignored := old.sen && cfgWords new != cfgWords old
  let s := if old.sen then s else modStream p i (fun e => { e with cfg := new }) s
  let sen := bitOf a 31
  (ignored, if sen && !old.sen then enableStream p i s else if !sen && old.sen then disableStream p i s else s)

/-- A tone entry written (R82, R155): DISABLED of table 0 is an RW field, everything else is read-only.
(DEDUCED, log 42) -/
def writeTone (p e v : Nat) (s : State) : Nat × State :=
  let t := tableOf p 4 s
  let now := (entryOf t e).disabled
  let want := bitOf v 18
  if 16384 ≤ e ∨ now = want then (0, s)
  else if isSet p (.lock .TONES) s then (2, s)
  else if enOf .TONES p s = 1 then (1, s)
  else (0, setTable p 4 (if want then mapPut t e { disabled := true } else mapDel t e) s)

/-- An entry written whole: the reason a field was ignored for, 0 none, and the state. -/
def writeEntry (b : Blk) (u off e : Nat) (l : List Nat) (s : State) : Nat × State :=
  match b with
  | .STREAM =>
    if off = 0x038 then (let r := writeStream u e l s; (ofBool r.1, r.2)) else (0, s)
  | .TONES => writeTone u e (l.headD 0) s
  | .OAM =>
    if off = 0x024 then
      (0, modOam u (fun o => { o with txBuf := mapPutAll o.txBuf (l.zipIdx.map fun x => (16 * e + x.2, x.1)) }) s)
    else (0, s)
  | _ => (0, s)

/-- The words of an entry with a master's buffered words in place; the last word is `data`, and a word that was not written
keeps its present value (R98). (DESIGN CHOICE, log 135) -/
def bufferedWords (k e words data : Nat) (old : List Nat) (s : State) : List Nat :=
  (List.range words).map fun w =>
    if w + 1 = words then data else (mapGet s.wbuf ((k * 65536 + e) * 16 + w)).getD (old.getD w 0)

/-- A data register written: code, state. Words are buffered until the entry's last one is written. -/
def writeWindow (m : Nat) (b : Blk) (u off entries words data : Nat) (s : State) : Nat × State :=
  let idx := getB m u (winIdx b off) s
  let e := bitsOf idx 0 16
  let w := bitsOf idx 16 4
  if entries ≤ e ∨ words ≤ w then (4, s)
  else
    let k := winKey m b u off
    let s := setB m u (winIdx b off) (nextIdx idx entries words) s
    if w + 1 ≠ words then (0, { s with wbuf := mapPut s.wbuf ((k * 65536 + e) * 16 + w) data })
    else
      let l := bufferedWords k e words data (entryWords b u off e s) s
      let s := { s with wbuf := s.wbuf.filter fun x => x.1 / 16 != k * 65536 + e }
      let r := writeEntry b u off e l s
      endJudging b u off m (r.1 == 1) (r.1 == 2) r.2

/-! ### Commands (R90) -/

/-- What a write frame that carries none of these takes: values the spec leaves open. (DESIGN CHOICE, log 24) -/
def extOf (s : State) : Ext := ⟨free s % 2 ^ 128, Config.freeValue (s.fresh + 1) % 2 == 1⟩

/-- SNAP_CLR of a block (R95, R269, R336). -/
def startSnapClr (b : Blk) (u : Nat) (f : Fld) (s : State) : State :=
  let s := clearCounters b u s
  let s := match b with
    | .STREAM => modPort u (fun x => { x with streams := mapVals (fun _ e =>
        { e with frAdm := 0, frDeliv := 0, frExpTx := 0, frExpRx := 0, frTail := 0 }) x.streams }) s
    | .WATCH => setF u .WATCH_IMP_MAX 0 s
    | _ => s
  cmdDone u f s

/-- SET or STEP starts, and runs until the next ROOT cycle; it ends ABORTED where a TIMESET fell in the same cycle (R100). -/
def startTimeCmd (f : Fld) (s : State) : State :=
  if s.clk.timesetAt = some s.cycles then cmdEnd 0 f ocAborted (cmdStart 0 f s) else cmdStart 0 f s

/-- SET of the TIME block (R100, R101). -/
def startSet (s : State) : State :=
  if 999999999 < getF 0 .TIME_SET_NS s then cmdReject 0 .TIME_SET s else startTimeCmd .TIME_SET s

/-- STEP of the TIME block (R100, R101): its preconditions are judged on device time as it is at the write.
(DEDUCED, log 50) -/
def startStep (s : State) : State :=
  let d := signedOf 32 (getF 0 .TIME_STEP_NS s)
  if 1000000000 ≤ d.natAbs ∨ (nowNs s : Int) + d < 0 then cmdReject 0 .TIME_STEP s else startTimeCmd .TIME_STEP s

/-- RST_GO (R358): the reset follows the response. -/
def startReset (s : State) : State :=
  let l := getF 0 .RSTC_RST_LEVEL s
  if l = 1 ∨ l = 2 then modClk (fun c => { c with rstPend := some l }) (cmdStart 0 .RSTC_RST_GO s)
  else cmdReject 0 .RSTC_RST_GO s

/-- WAKE_CLR (R322, R380). -/
def startWakeClr (s : State) : State := cmdDone 0 .PWRC_WAKE_CLR (setF 0 .PWRC_WAKE_SRC 0 s)

/-- PEAK_CLR (R267). -/
def startPeakClr (n : Nat) (s : State) : State :=
  cmdDone n .LAYBY_PEAK_CLR (setAll n [(.LAYBY_PEAK_EVEN, usedSlots (2 * n) s), (.LAYBY_PEAK_ODD, usedSlots (2 * n + 1) s)] s)

/-- TX_POP or RX_POP (R346). -/
def startPop (p : Nat) (rx : Bool) (s : State) : State :=
  let f : Fld := if rx then .TSU_RX_POP else .TSU_TX_POP
  let l := (s.port p).lane
  if (if rx then l.tsRx else l.tsTx).isEmpty then cmdReject p f s
  else
    cmdDone p f (modLane p (fun l => if rx then { l with tsRx := l.tsRx.drop 1 } else { l with tsTx := l.tsTx.drop 1 }) s)

/-- A command of the KEEPER block started (R54 to R56). -/
def startKeeperCmd (m : Nat) (f : Fld) (x : Ext) (s : State) : State :=
  if f.off = 0x030 then startNomination s
  else if f.off = 0x034 then acceptNomination m s
  else if f.off = 0x038 then requestNonce m x.rand { s with fresh := s.fresh + 2 }
  else startKeyProgram s

/-- A command of the LAYOUT block started (chapter 4). -/
def startLayoutCmd (f : Fld) (s : State) : State :=
  if f.off = 0x02C then startVerify s
  else if f.off = 0x030 then startStage s
  else if f.off = 0x034 then startApply s
  else if f.off = 0x038 then startActivate s
  else if f.off = 0x03C then confirm s
  else if f.off = 0x040 then raiseRollback s
  else programOem s

/-- A command of a block other than FIRE and SNAP_CLR started. -/
def startOwnCmd (m u : Nat) (f : Fld) (x : Ext) (s : State) : State :=
  match f.blk with
  | .KEEPER => startKeeperCmd m f x s
  | .RSTC => startReset s
  | .CLKC => startMeas s
  | .PWRC => if f.off = 0x020 then startStateGo s else startWakeClr s
  | .LAYOUT => startLayoutCmd f s
  | .NVMC => startSave s
  | .TIME => if f.off = 0x03C then startSet s else startStep s
  | .BOOTF => startFlash s
  | .LAYBY => startPeakClr u s
  | .PORT_CTL => if f.lo = 0 then startReconf u s else startRetrainCmd u s
  | .LINKUP => cmdDone u .LINKUP_STORE_CLR (forgetStored u s)
  | .DIAG => (let t := startTdr u { s with fresh := s.fresh + 2 }
    if stOf u t = stDiag ∧ stOf u s ≠ stDiag then firstChirp u x.power t else t)
  | .SURVEY => startBaseSave u s
  | .TSU => startPop u (f.off == 0x060) s
  | .OAM => if f.off = 0x030 then startSend u s else startRelease u s
  | .CAL => startHybCmd u s
  | _ => s

/-- A command is SNAP_CLR of its block. -/
def isSnapClr (f : Fld) : Bool := (cmdFlds f.blk).getLast? == some f && !(counterFlds f.blk).isEmpty

/-- A command started by a write of 1 (R90). A command of a port that meets a disable of its pavilion is abandoned (R28). -/
def startCmd (m u : Nat) (f : Fld) (x : Ext) (s : State) : State :=
  if f = .fire f.blk then startFire f.blk u s
  else if isSnapClr f then startSnapClr f.blk u f s
  else if portBlks.contains f.blk && disableMeets (pavOf u) s then cmdEnd u f ocAborted (cmdStart u f s)
  else startOwnCmd m u f x s

/-- An abort asked for by a write of 0 to a running command (R90). -/
def abortCmd (u : Nat) (f : Fld) (s : State) : State :=
  let s := { s with abortAt := mapPut s.abortAt (f.key u) s.cycles }
  match f.blk with
  | .LAYOUT => if f.off = 0x030 then modLoader (fun l => { l with stageAbort := true }) s else s
  | .BOOTF => modLoader (fun l => { l with flashAbort := true }) s
  | .PORT_CTL =>
    if f.lo = 0 then modRc u (fun r => if r.accepted then r else { r with abortReq := true }) s else s
  | .DIAG => if f.off = 0x020 then modWatch u (fun w => { w with tdrAbort := true }) s else s
  | .SURVEY => if f.off = 0x02C then modWatch u (fun w => { w with baseAbort := true }) s else s
  | .OAM => if f.off = 0x030 then abortSend u s else s
  | .CAL => if f.off = 0x024 then modCal u (fun c => { c with hybAbort := true }) s else s
  | _ => s

/-! ### Fields (R82, R83) -/

/-- How a write meets a field. -/
inductive Verdict where
  | keep | store | enabled | locked | start | abort
deriving DecidableEq, Repr

/-- A field on which every write acts, whatever value it holds: HEARTBEAT (R53), LOAD_DATA (R110), CL45_DATA (R198). -/
def actsAlways (f : Fld) : Bool :=
  (f.blk == .KEEPER && f.off == 0x028) || (f.blk == .LAYOUT && f.off == 0x024) ||
    (f.blk == .LINKUP && f.off == 0x05C && f.lo == 0)

/-- A bit of GATE that the spec fixes (R375). -/
def gateFixed (f : Fld) : Bool :=
  let d := (f.off - 0x040) / 4
  f.blk == .PWRC && 0x040 ≤ f.off && f.off < 0x0D8 && (d == 0 || d == 3 || d == 4 || (d == 1 && f.lo < 2))

/-- The present value a written value is compared with. -/
def presentF (m u : Nat) (f : Fld) (s : State) : Nat :=
  if f.blk = .KEEPER ∧ 0x0A0 ≤ f.off ∧ f.off < 0x0C0 then getF u f s else viewF m u f s

/-- A write of `v` to a field, with EN and LOCK as they stood before it (R82, R83, R90, R375, R383).
(DEDUCED, log 38) -/
def judgeF (m u : Nat) (f : Fld) (v : Nat) (s : State) : Verdict :=
  let lock := isSet u (.lock f.blk) s
  if actsAlways f then .store
  else if v = presentF m u f s ∨ gateFixed f then .keep
  else
    match f.ty with
    | .rw => if lock then .locked else if enOf f.blk u s = 1 then .enabled else .store
    | .lrw =>
      if f.off = 0x000 ∧ lock ∧ v = 0 then .locked
      else if f.blk = .DEBUG ∧ f.off = 0x020 ∧ isSet 0 .DEBUG_DBG_SEAL s then .locked
      else .store
    | .wo1 => if getF u f s = f.base then .store else .locked
    | .idx => .store
    | .cmd => if v = 1 then .start else .abort
    | _ => .keep

/-- The value a field takes from an accepted write: LEASE is clamped (R74), LOAD_OFS names a word (R110), an index
register has reserved bits (R97). (DEDUCED, log 38) -/
def storedValue (f : Fld) (v : Nat) : Nat :=
  if f.blk = .KEEPER ∧ f.off = 0x024 then clampLease v
  else if f.blk = .LAYOUT ∧ f.off = 0x020 ∧ f.lo = 0 then v - v % 4
  else if f.ty = .idx then v &&& 0x800FFFFF
  else v

/-- An accepted write stored; a field on which every write acts, and EN, hold nothing here. -/
def storeF (m u : Nat) (f : Fld) (v : Nat) (s : State) : State :=
  if actsAlways f ∨ f.off = 0x000 ∧ f.lo = 0 then s
  else if f.ty = .idx ∨ f.blk = .KEEPER ∧ 0x034 ≤ f.off ∧ f.off ≤ 0x07C then setB m u f (storedValue f v) s
  else setF u f (storedValue f v) s

/-- What follows an accepted write once every field of the word is stored. -/
def afterWrite (m u : Nat) (f : Fld) (v : Nat) (s : State) : State :=
  if f.off = 0x000 then (if f.lo = 0 then setEn f.blk u v s else s)
  else if f.off = 0x008 then irqUpdate f.blk u s
  else
    match f.blk with
    | .KEEPER => if f.off = 0x028 then heartbeat m s else s
    | .PWRC => if 0x040 ≤ f.off ∧ f.off < 0x0D8 then gateFollow ((f.off - 0x040) / 4) s else s
    | .LAYOUT => if f.off = 0x024 then loadWord v s else s
    | .POST => reportInterrupted s
    | .INJ => if f.off = 0x020 ∧ f.lo = 0 then (if v = 1 then armed s else { s with armLeft := 0 }) else s
    | .DEBUG => if f.off = 0x020 ∧ f.lo = 1 then setF 0 .DEBUG_DBG_RST_EN 0 s else s
    | .TXSH => if f.off = 0x020 ∧ v = 0 then muteLine u s else s
    | .STREAM => if f.off = 0x02C then updPressures u s else s
    | .HOST => if f.off = 0x034 then setLoop u v s else s
    | .LINKUP =>
      if f.off = 0x05C then
        let has := cl45Has u s
        let k := cl45Key (getF u .LINKUP_CL45_MMD s) (getF u .LINKUP_CL45_REG s)
        setF u .LINKUP_CL45_ERR (ofBool (!has)) (when has (modPort u fun x => { x with cl45 := mapPut x.cl45 k v }) s)
      else s
    | _ => s

/-- The fields of a written word with the value each is given and its verdict. (DESIGN CHOICE, log 37) -/
def judgeWord (m : Nat) (b : Blk) (u off data : Nat) (s : State) : List (Fld × Nat × Verdict) :=
  (fldsAt b off).map fun f => (f, bitsOf data f.lo f.width, judgeF m u f (bitsOf data f.lo f.width) s)

/-- A word judged field by field: the accepted values are stored, what follows from them happens, then commands start
or abort (R82, R90). (DESIGN CHOICE, log 37) -/
def writeFields (m : Nat) (b : Blk) (u off data : Nat) (x : Ext) (s : State) : Nat × State :=
  let l := judgeWord m b u off data s
  let given := fun (v : Verdict) => l.filter fun e => e.2.2 == v
  let s := forAll (given .store) (fun e => storeF m u e.1 e.2.1) s
  let s := forAll (given .store) (fun e => afterWrite m u e.1 e.2.1) s
  let s := forAll (given .start) (fun e => startCmd m u e.1 x) s
  let s := forAll (given .abort) (fun e => abortCmd u e.1) s
  endJudging b u off m (!(given .enabled).isEmpty) (!(given .locked).isEmpty) s

/-- A write that reaches a register word: response code and state. -/
def writeReg (m : Nat) (b : Blk) (u off data : Nat) (x : Ext) (s : State) : Nat × State :=
  if off = 0x004 then (0, clearSts b u data s)
  else if off = 0x00C then (0, clearFirst b u data s)
  else if off = 0x010 then (0, clearIgn b u data s)
  else
    match winShape b off with
    | some w => writeWindow m b u off w.1 w.2 data s
    | none => writeFields m b u off data x s

/-! ### Reads -/

/-- A counter word read (R94): the low word captures, the high word shows the master's snapshot of that counter. -/
def readCounter (m : Nat) (f : Fld) (u off : Nat) (s : State) : Nat × State :=
  let k := blkBase f.blk u * 16 + m
  if off = f.off then
    (getF u f s % 2 ^ 32, { s with snaps := mapPut s.snaps k (f.off, getF u f s) })
  else
    match mapGet s.snaps k with
    | some c => (if c.1 = f.off then c.2 / 2 ^ 32 % 2 ^ 16 else 0, s)
    | none => (0, s)

/-- What a read of a word captures for the master (R94, R101, R156, R346). -/
def captureOn (m : Nat) (b : Blk) (u off : Nat) (s : State) : State :=
  let put := fun (l : List (Fld × Nat)) =>
    { s with caps := mapPutAll s.caps (l.map fun e => (e.1.key u * 16 + m, e.2)) }
  match b with
  | .TIME =>
    if off = 0x020 then
      put [(.TIME_NOW_SEC_LO, s.secs % 2 ^ 32), (.TIME_NOW_SEC_HI, s.secs / 2 ^ 32 % 2 ^ 16), (.TIME_NOW_FRAC, s.frac)]
    else s
  | .TONES =>
    if off = 0x040 then
      put [(.TONES_TX_SF_CNT, getF u .TONES_TX_SF_CNT s), (.TONES_RX_SF_CNT, getF u .TONES_RX_SF_CNT s)]
    else s
  | .TSU =>
    let words := fun (rx : Bool) (f : Nat → Fld) => put ([1, 2, 3].map fun i => (f i, (tsHead u rx s).getD i 0))
    if off = 0x030 then words false .TSU_TX_TS else if off = 0x050 then words true .TSU_RX_TS else s
  | .LINKUP => if off = 0x05C then setF u .LINKUP_CL45_ERR (ofBool (!cl45Has u s)) s else s
  | _ => s

/-- A read that reaches a register word: code, word, state. -/
def readReg (m : Nat) (b : Blk) (u off : Nat) (s : State) : Nat × Nat × State :=
  match winShape b off with
  | some w => readWindow m b u off w.1 w.2 s
  | none =>
    match (fldsAt b off).find? fun f => f.ty == .snap with
    | some f => (let r := readCounter m f u off s; (0, r.1, r.2))
    | none =>
      let t := captureOn m b u off s
      (0, viewWord m b u off (if b = .LINKUP then t else s), t)

end Sys2Proof.Machine
end

