-- ==== Sys2Proof/Machine/Access.lean ====
section
/-! DEFINITION. Register accesses: precedence of response codes, order of one master's accesses, clock-domain crossings
and their timeouts, in-band records one after the other (R40, R42 to R45, R49, R348). -/

namespace Sys2Proof.Machine

/-- OP codes (R38). -/
def opRead : Nat := 1

/-- WRITE. -/
def opWrite : Nat := 2

/-- BWRITE. -/
def opBwrite : Nat := 3

/-- CLAIM. -/
def opClaim : Nat := 5

/-- The power domain of what an address names; D3 where it names nothing, and for a CLAIM (R77). (DEDUCED, log 21) -/
def accessDomain (op a : Nat) : Nat :=
  if op = opClaim then 3
  else
    match target a with
    | .reg b u _ => blkDomain b u
    | .ring _ _ => 1
    | .nothing => 3

/-- The first of the codes 3, 4 and 5 that applies before an access goes ahead (R43). -/
def earlyCode (r : Req) (op : Nat) (s : State) : Option Nat :=
  let a := r.addr.toNat
  if op = opClaim then none
  else if (op = opWrite ∨ op = opBwrite) ∧ !mayWrite r.mtag.toNat a s then some 3
  else if target a = .nothing then some 4
  else if !domainOn (accessDomain op a) s then some 5
  else none

/-- A CLAIM carried out: code, state (R51). -/
def claimOp (r : Req) (s : State) : Nat × State := claimKeeper r.mtag.toNat r.data.toNat s

/-- A read carried out: code, word, state. -/
def readOp (m a : Nat) (s : State) : Nat × Nat × State :=
  match target a with
  | .reg b u off => readReg m b u off s
  | .ring n off => (0, readWord s.post (n * 4096 + off), s)
  | .nothing => (4, 0, s)

/-- A write carried out: code, state. -/
def writeOp (m a data : Nat) (x : Ext) (s : State) : Nat × State :=
  match target a with
  | .reg b u off => writeReg m b u off data x s
  | .ring n off => (0, { s with post := writeWord s.post (n * 4096 + off) data })
  | .nothing => (4, s)

/-- SEN of a stream entry written with the entry's other fields as they are (R239): response code and state. -/
def senOp (p i : Nat) (sen : Bool) (s : State) : Nat × State :=
  let l := cfgWords (streamOf p i s).cfg
  let r := writeStream p i [l.1 % 2 ^ 31 + ofBool sen * 2 ^ 31, l.2] s
  endJudging .STREAM p 0x038 0 r.1 false r.2

/-- An access carried out: code, word, state. -/
def performOp (a : Access) (s : State) : Nat × Nat × State :=
  let r := a.req
  let m := r.mtag.toNat
  let wr := fun (t : Nat × State) => (t.1, 0, t.2)
  if a.op = opRead then readOp m r.addr.toNat s
  else if a.op = opClaim then wr (claimOp r s)
  else
    match a.act with
    | .plain => wr (writeOp m r.addr.toNat r.data.toNat (extOf s) s)
    | .ext x => wr (writeOp m r.addr.toNat r.data.toNat x s)
    | .sen i on => wr (senOp ((r.addr.toNat - 0x800000) / 0x100000) i on s)

/-- The answer to an access (R40, R42); a refusal for want of a right is counted (R43, R52). -/
def answer (r : Req) (op code data : Nat) (s : State) : State :=
  let s := when (code == 3) (countRefusal r.mtag.toNat) s
  if op = opBwrite then s
  else respond r.src r.mtag.toNat r.tag.toNat op r.addr.toNat code (if op = opRead ∧ code = 0 then data else 0) s

/-- An access that has reached its register carried out and answered. -/
def landAccess (a : Access) (s : State) : State :=
  let t := performOp a s
  answer a.req a.op t.1 t.2.1 t.2.2

/-! ### Order and crossings (R44, R45) -/

/-- The target domain of an access. -/
def Access.domain (a : Access) : Nat := accessDomain a.op a.req.addr.toNat

/-- An access starts: refused at once, carried out in the chain's own clock domain, or sent into a crossing. The row of a
register is the access at the moment it reaches that register, so it lands at once while the clock there runs.
(DEDUCED, log 21; DEDUCED, log 25) -/
def beginAccess (a : Access) (s : State) : State :=
  match earlyCode a.req a.op s with
  | some c => answer a.req a.op c 0 s
  | none =>
    if a.domain = 3 || (a.act != .plain && clocked s) then landAccess a s
    else { s with access := { a with crossing := true } :: s.access }

/-- The list without the first access of a master. -/
def dropFirst (m : Nat) : List Access → List Access
  | [] => []
  | a :: l => if a.req.mtag.toNat = m then l else a :: dropFirst m l

/-- The next accesses of a master start, until one is crossing or none waits. -/
def startNext (m : Nat) : Nat → State → State
  | 0, s => s
  | n + 1, s =>
    match s.access.find? fun a => a.req.mtag.toNat == m with
    | none => s
    | some a =>
      if a.crossing then s
      else startNext m n (beginAccess a { s with access := dropFirst m s.access })

/-- The first crossing access of a master. -/
def crossingOf (m : Nat) (s : State) : Option Access :=
  s.access.find? fun a => a.crossing && a.req.mtag.toNat == m

/-- A master's crossing ends; its next accesses start. -/
def endCrossing (m : Nat) (f : State → State) (s : State) : State :=
  let s := f { s with access := dropFirst m s.access }
  startNext m (s.access.length + 1) s

/-- An access of a master arrives (R44): BUSY on a TAG that is outstanding; it waits behind the master's earlier ones. -/
def submit (a : Access) (s : State) : State :=
  let mine := s.access.filter fun b => b.req.mtag == a.req.mtag
  if mine.any fun b => b.req.tag == a.req.tag then answer a.req a.op 7 0 s
  else if mine.isEmpty then beginAccess a s
  else { s with access := s.access ++ [a] }

/-- A timed-out crossing resolves; `landed`, the write took effect before the withdrawal (R45). The record of the timeouts
names the latest one. (DEDUCED, log 23) -/
def resolveTimedOut (k : Nat) (landed : Bool) (s : State) : State :=
  match s.timedOut[k]? with
  | none => s
  | some a =>
    let land := landed && a.op != opRead && domainOn a.domain s
    let newest := k + 1 == s.timedOut.length
    let s := { s with timedOut := s.timedOut.eraseIdx k }
    let s := if land then (performOp a s).2.2 else s
    let s := if newest then setAll 0 [(.CHAIN_TO_DONE, 1), (.CHAIN_TO_LANDED, ofBool land)] s else s
    sticky .CHAIN_TO_RESOLVED 0 s

/-- Crossings into domains that are off end with DOMAIN_OFF (R45). (DEDUCED, log 22) -/
def dropCrossings : Nat → State → State
  | 0, s => s
  | n + 1, s =>
    match s.access.find? fun a => a.crossing && !domainOn a.domain s with
    | none => s
    | some a => dropCrossings n (endCrossing a.req.mtag.toNat (answer a.req a.op 5 0) s)

/-- Timed-out crossings into domains that are off resolve (R45). -/
def dropTimedOut : Nat → State → State
  | 0, s => s
  | n + 1, s =>
    match s.timedOut.findIdx? fun a => !domainOn a.domain s with
    | none => s
    | some k => dropTimedOut n (resolveTimedOut k false s)

/-! ### In-band records (R348) -/

/-- The next record of the request at the head of a lane starts when the one before it has been answered. -/
def pumpLane (p : Nat) : Nat → State → State
  | 0, s => s
  | n + 1, s =>
    match (s.port p).lane.ib with
    | [] => s
    | q :: rest =>
      match q.todo with
      | [] => s
      | (op, tag, addr, data) :: more =>
        if q.done.length + q.todo.length ≠ q.count then s
        else
          let s := modLane p (fun l => { l with ib := { q with todo := more } :: rest }) s
          let r : Req := { src := .inband (Fin.ofNat 8 p), dest := 0, mtag := BitVec.ofNat 4 (8 + p), tag := BitVec.ofNat 3 tag
                           addr := BitVec.ofNat 24 addr, data := BitVec.ofNat 32 data }
          pumpLane p n (submit { req := r, op := op, crossing := false } s)

/-- What follows every access and every change of a domain: crossings into domains that are off end, in-band records go
on. (DEDUCED, log 22) -/
def settle (s : State) : State :=
  let s := dropTimedOut (s.timedOut.length + 1) (dropCrossings (s.access.length + 1) s)
  forAll (List.range 8) (fun p => pumpLane p 17) s

/-- DOMAIN_CROSSING_DONE (R45): a crossing completes while its target is on and has its clock. -/
def execDomainCrossingDone (m : BitVec 4) (s : State) : Answer :=
  .next (match crossingOf m.toNat s with
    | none => s
    | some a =>
      if domainOn a.domain s && !clocked s then s
      else settle (endCrossing m.toNat (fun s =>
        if domainOn a.domain s then landAccess a s else answer a.req a.op 5 0 s) s))

/-- DOMAIN_TIMEOUT (R45). -/
def execDomainTimeout (m : BitVec 4) (s : State) : Answer :=
  .next (match crossingOf m.toNat s with
    | none => s
    | some a =>
      let s := setAll 0 [(.CHAIN_TO_ADDR, a.req.addr.toNat), (.CHAIN_TO_MTAG, m.toNat), (.CHAIN_TO_DONE, 0),
        (.CHAIN_TO_LANDED, 0), (.CHAIN_TO_VALID, 1)] s
      settle (endCrossing m.toNat (fun s => answer a.req a.op 6 0 { s with timedOut := s.timedOut ++ [a] }) s))

/-- CROSSING_RESOLVED (R45): one of the timed-out crossings, counted from the oldest, once its clock runs again. -/
def execCrossingResolved (r : Landing) (s : State) : Answer :=
  .next (if clocked s then settle (resolveTimedOut r.which r.landed s) else s)

/-- DOMAIN_SWITCH_DONE (R374): crossings into a domain that has turned off end at once. -/
def execDomainSwitchDone (s : State) : Answer := .next (settle (domainSwitched s))

/-- MODE_COMMIT_T (R71). -/
def execModeCommitT (s : State) : Answer := .next (settle (modeAtT s))

/-! ### Accesses that reach their register at once -/

/-- An access can arrive from where it comes: on the chain, a device that acts and holds an address (R48, R441); in-band,
a lane that is up (R340). (DEDUCED, log 25) -/
def reaches (src : Src) (s : State) : Bool :=
  match src with
  | .chain _ => s.acting && chainAddr s != 0
  | .inband lane => laneUp lane.val s

/-- The frame of an access consumed: an IDLE frame goes on in its place (R34), and FRAMES_IN counts.
(DEDUCED, log 26) -/
def consumeFrame (src : Src) (s : State) : State :=
  match src with
  | .chain side => count 0 .CHAIN_FRAMES_IN (when s.forwarding (emit (.chain (Side.other side) idleFrame)) s)
  | .inband _ => s

/-- The request of an access. -/
def reqOf (w : Acc) (a : Nat) : Req :=
  { src := w.src, dest := 0, mtag := w.mtag, tag := w.tag, addr := BitVec.ofNat 24 a, data := w.data }

/-- An access of a row of one register, in the order of its master's accesses (R44). (DEDUCED, log 25) -/
def regAccess (w : Acc) (op a : Nat) (act : Act) (s : State) : State :=
  if reaches w.src s then settle (submit { req := reqOf w a, op := op, crossing := false, act := act } (consumeFrame w.src s))
  else s

/-- A write at the moment it reaches its register. -/
def regWrite (w : Acc) (a : Nat) (s : State) : State := regAccess w opWrite a (.ext (extOf s)) s

/-- A read at the moment it reaches its register. -/
def regRead (w : Acc) (a : Nat) (s : State) : State := regAccess w opRead a (.ext (extOf s)) s

end Sys2Proof.Machine
end

