-- ==== Sys2Proof/Machine/Chain.lean ====
section
/-! DEFINITION. The Xarn chain (R33 to R48, R64 to R68, R70, R88, R441): frames that arrive, broadcast operations, events,
hop measurement, chain time, scrubbing. -/

namespace Sys2Proof.Machine

/-! ### Forwarding (R34, R41, R441) -/

/-- Something leaves on the output away from where a frame arrived, once the outputs run. -/
def forward (side : Side) (f : Frame) (s : State) : State := when s.forwarding (emit (.chain (Side.other side) f)) s


/-- A broadcast frame processed: it goes on as `out`, and the tail returns it toward the head as a RESP that carries the
DATA last forwarded (R35). (DEDUCED, log 27) -/
def passOn (side : Side) (f out : Frame) (s : State) : State :=
  let s := forward side out s
  if isTail s && side == .A then respond (.chain side) f.mtag.toNat f.tag.toNat f.op.toNat f.addr.toNat 0 out.data.toNat s
  else s

/-- A frame with DATA replaced and its CRC computed again. -/
def withData (f : Frame) (data : Nat) : Frame := reFrame { f with data := BitVec.ofNat 32 data }

/-- The device acts on a broadcast operation only with DEST = 31 (R39), and only when it acts at all (R441). -/
def actsOn (f : Frame) (s : State) : Bool := s.acting && f.dest.toNat == 31

/-- An addressed request whose frame arrives on a chain input, or an in-band record: the device consumes what is
addressed to it and forwards the rest (R34, R39, R48). -/
def arriveRequest (r : Req) (op : Nat) (s : State) : State :=
  match r.src with
  | .inband _ => settle (submit { req := r, op := op, crossing := false } s)
  | .chain side =>
    if s.acting && r.dest.toNat == chainAddr s && chainAddr s != 0 then
      settle (submit { req := r, op := op, crossing := false } (consumeFrame r.src s))
    else forward side (mkFrame r.dest.toNat r.mtag.toNat op r.tag.toNat r.addr.toNat r.data.toNat) s

/-- CHAIN_FRAME_FORWARD (R34). -/
def execChainFrameForward (side : Side) (f : Frame) (s : State) : Answer := .next (forward side f s)

/-- READ (R42, R44). -/
def execRead (r : Req) (s : State) : Answer := .next (arriveRequest r opRead s)

/-- WRITE (R82). -/
def execWrite (r : Req) (s : State) : Answer := .next (arriveRequest r opWrite s)

/-- CLAIM (R51). -/
def execClaim (r : Req) (s : State) : Answer := .next (arriveRequest r opClaim s)

/-- BWRITE (R40): executed in every device, answered by the tail alone. -/
def execBwrite (side : Side) (f : Frame) (s : State) : Answer :=
  .next (if !actsOn f s then forward side f s
    else settle (submit { req := ⟨.chain side, f.dest, f.mtag, f.tag, f.addr, f.data⟩, op := opBwrite, crossing := false }
      (passOn side f f s)))

/-! ### Enumeration (R47) -/

/-- ENUM at a device: the COUNTER it forwards, and the device after it. With RESTART from a master that is not its Keeper
a device keeps what it has and forwards the frame unchanged, an address or none. (DEDUCED, log 28) -/
def enumerate (m data : Nat) (s : State) : Nat × State :=
  let counter := data % 32
  let restart := bitOf data 31
  let allowed := match keeper s with | some k => k == m | none => true
  let s := if restart && allowed then setF 0 .CHAIN_ADDR 0 s else s
  if (restart && !allowed) || chainAddr s != 0 then (counter, s)
  else if 1 ≤ counter ∧ counter ≤ 30 then (counter + 1, setF 0 .CHAIN_ADDR counter s)
  else if counter = 31 then (counter, sticky .CHAIN_ENUM_FULL 0 s)
  else (counter, s)

/-- ENUM (R47). -/
def execEnum (side : Side) (f : Frame) (s : State) : Answer :=
  .next (if !actsOn f s then forward side f s
    else
      let d := f.data.toNat
      let t := enumerate f.mtag.toNat d s
      passOn side f (withData f (d - d % 32 + t.1)) t.2)

/-! ### Mode change (R68, R70) -/

/-- PREPARE (R68). -/
def execPrepare (side : Side) (f : Frame) (s : State) : Answer :=
  .next (if !actsOn f s then forward side f s
    else (let t := onPrepare f.mtag.toNat f.data.toNat s; passOn side f (withData f t.1) t.2))

/-- COMMIT (R70). -/
def execCommit (side : Side) (f : Frame) (s : State) : Answer :=
  .next (if !actsOn f s then forward side f s
    else passOn side f f (onCommit f.mtag.toNat f.addr.toNat f.data.toNat s))

/-! ### Time (R65 to R67) -/

/-- The hop delay in force, in eighths of a nanosecond (R65). (DEDUCED, log 30) -/
def hopDelay (s : State) : Nat := if isSet 0 .CHAIN_USE s then getF 0 .CHAIN_HOP_A_SET s else getF 0 .CHAIN_HOP_A s

/-- Device time set by a TIMESET of the Keeper (R66); a SET or STEP of the same cycle ends ABORTED (R100).
(DEDUCED, log 30) -/
def takeTime (addr data : Nat) (s : State) : State :=
  let hop := hopDelay s
  let sec := getF 0 .CHAIN_TS_SEC_HI s * 2 ^ 24 + addr
  let s := setNow (sec * 1000000000 + data % 2 ^ 30 + hop / 8) (hop % 8 * 8192) s
  let s := modClk (fun c => { c with timesetAt := some s.cycles }) s
  let s := cmdStop 0 .TIME_STEP ocAborted (cmdStop 0 .TIME_SET ocAborted s)
  sticky .TIME_TIME_SET 0 (setAll 0 [(.TIME_TIME_VALID, 1), (.TIME_TIME_SRC, 1)] s)

/-- The TIMESET that goes on: the device's own time when the comma leaves, the fraction dropped (R66).
(DESIGN CHOICE, log 14) -/
def timeFrame (f : Frame) (s : State) : Frame :=
  let t := (nowNs s * 8 + s.frac / 8192 + Config.fwdLat) / 8
  reFrame { f with addr := BitVec.ofNat 24 (t / 1000000000), data := BitVec.ofNat 32 (t % 1000000000) }

/-- TIMESET (R66). -/
def execTimeset (side : Side) (f : Frame) (s : State) : Answer :=
  .next (if !actsOn f s then forward side f s
    else if !isKeeper f.mtag.toNat s then passOn side f f s
    else (let t := takeTime f.addr.toNat f.data.toNat s; passOn side f (timeFrame f t) t))

/-- HOP_MEASURE (R65): at port A lock and every 100 ms. -/
def startHop (s : State) : State :=
  if s.forwarding && isSet 0 .CHAIN_LINK_A s then emit (.hopSet .A true) { s with hopWait := true } else s

/-- HOP_MEASURE (R65). -/
def execHopMeasure (s : State) : Answer := .next (startHop s)

/-- HOP_REQUEST_RX (R65): a set from downstream is reflected on XCB_O. -/
def execHopRequestRx (s : State) : Answer := .next (when s.forwarding (emit (.hopSet .B false)) s)

/-- HOP_REFLECTION_RX (R65): `rtt` is the measured round trip in quarters of a nanosecond, so that half of it counts
eighths. (DEDUCED, log 31) -/
def execHopReflectionRx (rtt : Nat) (s : State) : Answer :=
  .next (if !s.hopWait then s
    else setAll 0 [(.CHAIN_HOP_A, min (rtt - 256) 65535), (.CHAIN_HOP_A_VALID, 1)] { s with hopWait := false })

/-- HOP_REFLECT_TIMEOUT (R65). -/
def execHopReflectTimeout (s : State) : Answer :=
  .next (if !s.hopWait then s
    else setAll 0 [(.CHAIN_HOP_A, 0), (.CHAIN_HOP_A_VALID, 0)] { s with hopWait := false })

/-! ### Frames that the device does not act on -/

/-- RESERVED_OP_FRAME (R38): an IDLE frame goes on in its place. (DEDUCED, log 26; DEDUCED, log 29) -/
def execReservedOpFrame (side : Side) (f : Frame) (s : State) : Answer :=
  .next (forward side (if s.acting then idleFrame else f) s)

/-- The device was already sending an IDLE frame in the frame's place when the error showed (R34, R41). -/
def replaced (f : Frame) (s : State) : Bool :=
  (10 ≤ f.op.toNat && f.op.toNat ≤ 14) ||
    (f.dest.toNat == chainAddr s && chainAddr s != 0 && [opRead, opWrite, opClaim].contains f.op.toNat)

/-- CRC_ERROR_FRAME (R41). (DEDUCED, log 29) -/
def execCrcErrorFrame (side : Side) (f : Frame) (s : State) : Answer :=
  .next (if !s.acting then forward side f s
    else
      let s := if replaced f s then forward side idleFrame s else when s.forwarding (emit (.void (Side.other side))) s
      sticky .CHAIN_CRC_SEEN 0 (count 0 (match side with | .A => .CHAIN_CRC_ERR_A | .B => .CHAIN_CRC_ERR_B) s))

/-- VOID_FRAME (R41). -/
def execVoidFrame (side : Side) (s : State) : Answer := .next (when s.forwarding (emit (.void (Side.other side))) s)

/-- RESP (R39). -/
def execResp (side : Side) (f : Frame) (s : State) : Answer := .next (forward side f s)

/-- EVENT (R39). -/
def execEvent (side : Side) (f : Frame) (s : State) : Answer := .next (forward side f s)

/-! ### Events (R64) -/

/-- An EVENT as an in-band frame (R349): VERSION 1, COUNT 1, one record. -/
def eventFrame (p : Nat) (e : EventEntry) (s : State) : List Byte :=
  ownFrame (s.port p).lane.ibSrc (srcMac p s) 0x88B5
    ([1, 1, 0x60] ++ beBytes 3 e.addr ++ beBytes 4 e.data)

/-- The output an EVENT leaves on: toward the head, or XCB_O in ring mode while port A is down. -/
def eventSide (s : State) : Side := if isSet 0 .CHAIN_RING s && !isSet 0 .CHAIN_LINK_A s then .B else .A

/-- The oldest queued EVENT leaves. (DEDUCED, log 32) -/
def sendEvent (s : State) : State :=
  match s.events with
  | [] => s
  | e :: rest =>
    let s := { s with events := rest }
    if 8 ≤ e.mtag then
      when (laneUp (e.mtag - 8) s) (emit (.host (e.mtag - 8) 2 (eventFrame (e.mtag - 8) e s))) s
    else
      when (s.acting && chainAddr s != 0)
        (emit (.chain (eventSide s) (mkFrame (chainAddr s) e.mtag 6 0 e.addr e.data))) s

/-- EVENT_TRANSMIT (R64). -/
def execEventTransmit (s : State) : Answer := .next (sendEvent s)

/-! ### Link state and scrubbing -/

/-- CHAIN_LOCK_CHANGE (R35, R65, R73). -/
def execChainLockChange (side : Side) (locked : Bool) (s : State) : Answer :=
  let f : Fld := match side with | .A => .CHAIN_LINK_A | .B => .CHAIN_LINK_B
  let lost : Sticky := match side with | .A => .CHAIN_LINK_A_LOST | .B => .CHAIN_LINK_B_LOST
  .next (if isSet 0 f s == locked then s
    else
      let s := setF 0 f (ofBool locked) s
      if !locked then sticky lost 0 s else if side = .A then startHop s else s)

/-- One triplicated field visited by the scrubber (R88): each copy that disagrees with the majority is rewritten.
(DEDUCED, log 35) -/
def scrubField (u : Nat) (f : Fld) (s : State) : State :=
  match mapGet s.tmr (f.key u) with
  | none => s
  | some c =>
    let v := getF u f s
    let bad := ([c.1, c.2.1, c.2.2].filter fun x => x != v).length
    let s := setF u f v s
    if bad = 0 then s
    else
      let s := setAll 0 [(.TMRS_LAST_ADDR, f.addr u), (.TMRS_LAST_VALID, 1)] (countBy 0 .TMRS_CORRECTED bad s)
      correctedFault .TMRS 0 0x10 (f.addr u / 4096 % 256) s

/-- TMR_SCRUB (R88): a pass over every TMR field. (DEDUCED, log 35) -/
def execTmrScrub (s : State) : Answer :=
  .next (count 0 .TMRS_PASSES (if s.tmr.isEmpty then s
    else forAll allBlks (fun x => forAll ((blkFlds x.1).filter fun f => f.tmr) (scrubField x.2)) s))

end Sys2Proof.Machine
end

