-- ==== Sys2Proof/Machine/HostLane.lean ====
section
/-! DEFINITION. Frames from the host (R341, R343, R347 to R349): FCS, MAC control, in-band management, traffic; lane lock. -/

namespace Sys2Proof.Machine

/-! ### MAC control (R343) -/

/-- A received MAC control frame: PAUSE stops every class egress queue, PFC the classes it names. (DEDUCED, log 90) -/
def macControl (p opcode enable : Nat) (quanta : List Nat) (s : State) : State :=
  let s := count p .HOST_CTRL_RX s
  let old := getF p .HOST_PAUSED s
  if rwF p .HOST_RX_FC_EN s = 0 then s
  else if opcode = 1 then setF p .HOST_PAUSED (if quanta.headD 0 = 0 then 0 else 255) s
  else if opcode = 0x0101 then
    setF p .HOST_PAUSED ((List.range 8).foldl (fun a c =>
      a + (if bitOf enable c then (if quanta.getD c 0 = 0 then 0 else 2 ^ c) else old / 2 ^ c % 2 * 2 ^ c)) 0) s
  else s

/-- MAC_CONTROL_FRAME (R343). -/
def execMacControlFrame (p : Fin 8) (opcode : BitVec 16) (enable : Byte) (quanta : List (BitVec 16)) (s : State) : Answer :=
  .next (portEvent p (fun s => if laneUp p s && getF p .HOST_LB_ACTIVE s != 1 then
      macControl p opcode.toNat enable.toNat (quanta.map (·.toNat)) s
    else s) s)

/-- PAUSE_QUANTA_EXPIRY (R343): the pause of a class ends. -/
def execPauseQuantaExpiry (p : Fin 8) (cls : Fin 8) (s : State) : Answer :=
  .next (portEvent p (fun s => let v := getF p .HOST_PAUSED s
    setF p .HOST_PAUSED (v - v / 2 ^ cls.val % 2 * 2 ^ cls.val) s) s)

/-! ### In-band management (R348, R349) -/

/-- A record of a request: OP, TAG, ADDR, DATA. -/
def ibRecord (r : List Byte) : Nat × Nat × Nat × Nat :=
  let b := beNat (r.take 1)
  (b / 16, b % 8, beNat ((r.drop 1).take 3), beNat ((r.drop 4).take 4))

/-- A request is well formed (R348). -/
def ibGood (version count : Nat) (records : List (List Byte)) : Bool :=
  version == 1 && 1 ≤ count && count ≤ 16 && count ≤ records.length &&
    (records.take count).all fun r => r.length == 8 && [opRead, opWrite, opClaim].contains (ibRecord r).1

/-- A management request arrives: its records execute in order once those of earlier requests have (R348). -/
def onInband (p src version count : Nat) (records : List (List Byte)) (s : State) : State :=
  if !ibGood version count records then sticky .HOST_IB_ERR p (Machine.count p .HOST_IB_ERR s)
  else
    let q : IbReq := { src := src, count := count, todo := (records.take count).map ibRecord, done := [] }
    settle (modLane p (fun l => { l with ib := l.ib ++ [q], ibSrc := src }) s)

/-- The lane takes management requests (R340, R347, R348). -/
def takesInband (p : Nat) (s : State) : Bool := laneUp p s && rwF p .HOST_IB_EN s == 1 && getF p .HOST_LB_ACTIVE s != 1

/-- INBAND_REQUEST (R348). -/
def execInbandRequest (p : Fin 8) (srcMac : BitVec 48) (version count : Byte) (records : List (List Byte)) (s : State) :
    Answer :=
  .next (portEvent p (fun s => if takesInband p s then onInband p srcMac.toNat version.toNat count.toNat records s else s) s)

/-- The response to the request at the head of a lane, once its last record has completed (R349). (DEDUCED, log 32) -/
def sendResponse (p : Nat) (s : State) : State :=
  match (s.port p).lane.ib with
  | [] => s
  | q :: rest =>
    if !q.todo.isEmpty || q.done.length != q.count then s
    else
      let bytes := ownFrame q.src (srcMac p s) 0x88B5 ([1, BitVec.ofNat 8 q.count] ++ q.done.flatMap id)
      let s := count p .HOST_IB_RX (modLane p (fun l => { l with ib := rest }) s)
      settle (when (laneUp p s) (emit (.host p 2 bytes)) s)

/-- INBAND_RESPONSE (R349). -/
def execInbandResponse (p : Fin 8) (s : State) : Answer := .next (portEvent p (fun s => sendResponse p s) s)

/-! ### Frames from HSIn -/

/-- Eight-byte groups of a payload. -/
def groups8 : Nat → List Byte → List (List Byte)
  | 0, _ => []
  | n + 1, bs => bs.take 8 :: groups8 n (bs.drop 8)

/-- The payload of a frame after its EtherType and at most one tag, FCS left out. -/
def payloadOf (bs : List Byte) : List Byte :=
  (bs.take (bs.length - 4)).drop (if tagged bs then 18 else 14)

/-- The RS-FEC counters of a 25GBASE-R lane with FEC_EN = 1 (R339, R351). -/
def noteFec (p : Nat) (f : EthFrame) (s : State) : State :=
  if laneUp p s && getF p .HOST_HOST_RATE s == 1 && rwF p .HOST_FEC_EN s == 1 then
    countBy p .HOST_RSFEC_CORR f.fecCorr (countBy p .HOST_RSFEC_UNCORR f.fecUncorr s)
  else s

/-- A frame from HSIn (R341, R343, R347, R348): HOST_NEAR returns it, a failing FCS discards it, MAC control and in-band
frames are taken, everything else goes to the classifier. (DEDUCED, log 93) -/
def fromHost (p : Nat) (f : EthFrame) (s : State) : State :=
  let s := noteFec p f s
  if !laneUp p s then s
  else if getF p .HOST_LB_ACTIVE s = 1 then emit (.host p 0 f.bytes) s
  else if !fcsRight f.bytes then sticky .HOST_FCS_ERR p (count p .HOST_FCS_ERR s)
  else
    let body := payloadOf f.bytes
    if beNat ((f.bytes.drop 12).take 2) = 0x8808 then
      let quanta := (List.range 8).map fun c => beNat ((body.drop (4 + 2 * c)).take 2)
      let op := beNat (body.take 2)
      if op = 1 then macControl p op 0 [beNat ((body.drop 2).take 2)] s
      else macControl p op (beNat ((body.drop 2).take 2)) quanta s
    else if etherType f.bytes = 0x88B5 ∧ rwF p .HOST_IB_EN s = 1 then
      onInband p (beNat ((f.bytes.drop 6).take 6)) (beNat (body.take 1)) (beNat ((body.drop 1).take 1))
        (groups8 16 (body.drop 2)) s
    else offerFrame p f.bytes s

/-- HOST_FRAME (R238, R341). -/
def execHostFrame (p : Fin 8) (f : EthFrame) (s : State) : Answer := .next (portEvent p (fun s => fromHost p f s) s)

/-- HOST_LOCK_CHANGE (R340). -/
def execHostLockChange (p : Fin 8) (locked : Bool) (s : State) : Answer :=
  .next (portEvent p (fun s => laneRefresh p (modLane p (fun l => { l with lock := locked }) s)) s)

end Sys2Proof.Machine
end

