-- ==== Sys2Proof/Machine/Registers.lean ====
section
/-! DEFINITION. The rows of single registers: an access of a master at the moment it reaches the register its row names
(R52 to R60, R84 to R101, R106 to R126, R153 to R201, R267, R324 to R352, R358 to R419). -/

namespace Sys2Proof.Machine

/-- The address of a register of a block. -/
def regAt (b : Blk) (u off : Nat) : Nat := blkBase b u + off

/-! ### KEEPER and POST -/

/-- HEARTBEAT (R53). -/
def execHeartbeat (w : Acc) (s : State) : Answer := .next (regWrite w (regAt .KEEPER 0 0x028) s)

/-- NOMINATE (R54). -/
def execNominate (w : Acc) (s : State) : Answer := .next (regWrite w (regAt .KEEPER 0 0x030) s)

/-- ACCEPT (R54, R55). -/
def execAccept (w : Acc) (s : State) : Answer := .next (regWrite w (regAt .KEEPER 0 0x034) s)

/-- NONCE_REQ (R55). -/
def execNonceReq (w : Acc) (rand : BitVec 128) (s : State) : Answer :=
  .next (regAccess w opWrite (regAt .KEEPER 0 0x038) (.ext { extOf s with rand := rand.toNat }) s)

/-- KEY_PROGRAM (R56). -/
def execKeyProgram (w : Acc) (s : State) : Answer := .next (regWrite w (regAt .KEEPER 0 0x0C0) s)

/-- CMD_PUT (R60, R75). -/
def execCmdPut (ring : Fin 16) (w : Acc) (s : State) : Answer := .next (regWrite w (regAt .POST 0 (0x020 + 16 * ring.val)) s)

/-- EVT_GET (R60, R75). -/
def execEvtGet (ring : Fin 16) (w : Acc) (s : State) : Answer := .next (regWrite w (regAt .POST 0 (0x02C + 16 * ring.val)) s)

/-! ### Every block -/

/-- BLK_STS_CLEAR (R85). -/
def execBlkStsClear (b : Blk) (u : Fin 8) (w : Acc) (s : State) : Answer := .next (regWrite w (regAt b u 0x004) s)

/-- BLK_FIRST_CLEAR (R86). -/
def execBlkFirstClear (b : Blk) (u : Fin 8) (w : Acc) (s : State) : Answer := .next (regWrite w (regAt b u 0x00C) s)

/-- BLK_IGN_CLEAR (R84). -/
def execBlkIgnClear (b : Blk) (u : Fin 8) (w : Acc) (s : State) : Answer := .next (regWrite w (regAt b u 0x010) s)

/-- COUNTER_LOW_READ (R94). -/
def execCounterLowRead (addr : BitVec 24) (r : Acc) (s : State) : Answer := .next (regRead r addr.toNat s)

/-- TABLE_DATA_READ (R97, R98). -/
def execTableDataRead (addr : BitVec 24) (r : Acc) (s : State) : Answer := .next (regRead r addr.toNat s)

/-- TABLE_DATA_WRITE (R97, R98). -/
def execTableDataWrite (addr : BitVec 24) (w : Acc) (s : State) : Answer := .next (regWrite w addr.toNat s)

/-- The offset of SNAP_CLR of a block that has one (R95); an offset of no register where it has none. -/
def snapClrAt (b : Blk) : Nat :=
  match (cmdFlds b).getLast? with
  | some f => if isSnapClr f then f.off else 0xFFC
  | none => 0xFFC

/-- SNAP_CLR (R95). -/
def execSnapClr (b : Blk) (u : Fin 8) (w : Acc) (s : State) : Answer := .next (regWrite w (regAt b u (snapClrAt b)) s)

/-- FIRE (R80, R416). -/
def execFire (b : Blk) (u : Fin 8) (w : Acc) (s : State) : Answer := .next (regWrite w (regAt b u 0x018) s)

/-- INJ_ARM (R415). -/
def execInjArm (w : Acc) (s : State) : Answer := .next (regWrite w (regAt .INJ 0 0x020) s)

/-! ### TIME -/

/-- NOW_NS_READ (R94, R101). -/
def execNowNsRead (r : Acc) (s : State) : Answer := .next (regRead r (regAt .TIME 0 0x020) s)

/-- SET_TIME (R100, R101). -/
def execSetTime (w : Acc) (s : State) : Answer := .next (regWrite w (regAt .TIME 0 0x03C) s)

/-- STEP_TIME (R100, R101). -/
def execStepTime (w : Acc) (s : State) : Answer := .next (regWrite w (regAt .TIME 0 0x044) s)

/-! ### LAYOUT and BOOTF -/

/-- LOAD_DATA (R110). -/
def execLoadData (w : Acc) (s : State) : Answer := .next (regWrite w (regAt .LAYOUT 0 0x024) s)

/-- VERIFY (R112). -/
def execVerify (w : Acc) (s : State) : Answer := .next (regWrite w (regAt .LAYOUT 0 0x02C) s)

/-- STAGE (R113). -/
def execStage (w : Acc) (s : State) : Answer := .next (regWrite w (regAt .LAYOUT 0 0x030) s)

/-- APPLY (R114). -/
def execApply (w : Acc) (s : State) : Answer := .next (regWrite w (regAt .LAYOUT 0 0x034) s)

/-- FW_ACTIVATE (R120). -/
def execFwActivate (w : Acc) (s : State) : Answer := .next (regWrite w (regAt .LAYOUT 0 0x038) s)

/-- FW_CONFIRM (R121): written by a master, or issued by the firmware itself. -/
def execFwConfirm (w : Option Acc) (s : State) : Answer :=
  .next (match w with
    | some w => regWrite w (regAt .LAYOUT 0 0x03C) s
    | none => if s.loader.fwRunning && coreRuns s then confirm s else s)

/-- ROLLBACK_RAISE (R108). -/
def execRollbackRaise (w : Acc) (s : State) : Answer := .next (regWrite w (regAt .LAYOUT 0 0x040) s)

/-- OEM_PROGRAM (R106). -/
def execOemProgram (w : Acc) (s : State) : Answer := .next (regWrite w (regAt .LAYOUT 0 0x0E0) s)

/-- FLASH_PROG (R111, R126). -/
def execFlashProg (w : Acc) (s : State) : Answer := .next (regWrite w (regAt .BOOTF 0 0x028) s)

/-! ### Pavilions -/

/-- PAV_ENABLE (R30). -/
def execPavEnable (n : Fin 4) (w : Acc) (s : State) : Answer := .next (regWrite w (regAt .PAV_CTL n 0x000) s)

/-- PAV_DISABLE (R30). -/
def execPavDisable (n : Fin 4) (w : Acc) (s : State) : Answer := .next (regWrite w (regAt .PAV_CTL n 0x000) s)

/-- PEAK_CLR (R267). -/
def execPeakClr (n : Fin 4) (w : Acc) (s : State) : Answer := .next (regWrite w (regAt .LAYBY n 0x02C) s)

/-! ### Ports -/

/-- The address whose write mutes a line (R153). -/
def muteAt (p : Nat) (by_ : MuteBy) : Nat :=
  match by_ with
  | .txshEn => regAt .TXSH p 0x000
  | .tonesEn => regAt .TONES p 0x000
  | .txAllow => regAt .TXSH p 0x020

/-- MUTE (R153). -/
def execMute (p : Fin 8) (by_ : MuteBy) (w : Acc) (s : State) : Answer := .next (regWrite w (muteAt p by_) s)

/-- PORT_ENABLE (R157). -/
def execPortEnable (p : Fin 8) (w : Acc) (s : State) : Answer := .next (regWrite w (regAt .PORT_CTL p 0x000) s)

/-- PORT_DISABLE (R158). -/
def execPortDisable (p : Fin 8) (w : Acc) (s : State) : Answer := .next (regWrite w (regAt .PORT_CTL p 0x000) s)

/-- RECONF_GO (R188). -/
def execReconfGo (p : Fin 8) (w : Acc) (s : State) : Answer := .next (regWrite w (regAt .PORT_CTL p 0x02C) s)

/-- RETRAIN (R195). -/
def execRetrain (p : Fin 8) (w : Acc) (s : State) : Answer := .next (regWrite w (regAt .PORT_CTL p 0x02C) s)

/-- TX_SYM_CNT_READ (R94, R156). -/
def execTxSymCntRead (p : Fin 8) (r : Acc) (s : State) : Answer := .next (regRead r (regAt .TONES p 0x040) s)

/-- SEND (R192, R201). -/
def execSend (p : Fin 8) (w : Acc) (s : State) : Answer := .next (regWrite w (regAt .OAM p 0x030) s)

/-- RX_RELEASE (R201). -/
def execRxRelease (p : Fin 8) (w : Acc) (s : State) : Answer := .next (regWrite w (regAt .OAM p 0x034) s)

/-- CL45_DATA read or written (R198). -/
def execCl45Data (p : Fin 8) (isWrite : Bool) (w : Acc) (s : State) : Answer :=
  .next (if isWrite then regWrite w (regAt .LINKUP p 0x05C) s else regRead w (regAt .LINKUP p 0x05C) s)

/-- STORE_CLR (R179, R200). -/
def execStoreClr (p : Fin 8) (w : Acc) (s : State) : Answer := .next (regWrite w (regAt .LINKUP p 0x050) s)

/-- STREAM_ENABLE (R239). -/
def execStreamEnable (p : Fin 8) (stream : BitVec 12) (sen : Bool) (w : Acc) (s : State) : Answer :=
  .next (regAccess w opWrite (regAt .STREAM p 0x038) (.sen stream.toNat sen) s)

/-- TDR_RUN (R324): whether the partner still transmits at the first chirp comes from the line. -/
def execTdrRun (p : Fin 8) (w : Acc) (partnerPower : Bool) (s : State) : Answer :=
  .next (regAccess w opWrite (regAt .DIAG p 0x020) (.ext { extOf s with power := partnerPower }) s)

/-- SV_BASE_SAVE (R330). -/
def execSvBaseSave (p : Fin 8) (w : Acc) (s : State) : Answer := .next (regWrite w (regAt .SURVEY p 0x02C) s)

/-- LB_MODE (R347). -/
def execLbMode (p : Fin 8) (w : Acc) (s : State) : Answer := .next (regWrite w (regAt .HOST p 0x034) s)

/-- TX_POP (R346). -/
def execTxPop (p : Fin 8) (w : Acc) (s : State) : Answer := .next (regWrite w (regAt .TSU p 0x040) s)

/-- RX_POP (R346). -/
def execRxPop (p : Fin 8) (w : Acc) (s : State) : Answer := .next (regWrite w (regAt .TSU p 0x060) s)

/-- TS_HEAD_READ (R94, R346). -/
def execTsHeadRead (p : Fin 8) (rx : Bool) (r : Acc) (s : State) : Answer :=
  .next (regRead r (regAt .TSU p (if rx then 0x050 else 0x030)) s)

/-- TSU_EN_CLEAR (TSU block). -/
def execTsuEnClear (p : Fin 8) (w : Acc) (s : State) : Answer := .next (regWrite w (regAt .TSU p 0x000) s)

/-- HYB_RECAL (R389). -/
def execHybRecal (p : Fin 8) (w : Acc) (s : State) : Answer := .next (regWrite w (regAt .CAL p 0x024) s)

/-! ### Reset, clocks, power, NVM -/

/-- RST_GO (R358). -/
def execRstGo (w : Acc) (s : State) : Answer := .next (regWrite w (regAt .RSTC 0 0x02C) s)

/-- STATE_GO (R374). -/
def execStateGo (w : Acc) (s : State) : Answer := .next (regWrite w (regAt .PWRC 0 0x020) s)

/-- GATE (R375). -/
def execGate (d : Fin 38) (w : Acc) (s : State) : Answer := .next (regWrite w (regAt .PWRC 0 (0x040 + 4 * d.val)) s)

/-- WAKE_CLR (R322). -/
def execWakeClr (w : Acc) (s : State) : Answer := .next (regWrite w (regAt .PWRC 0 0x028) s)

/-- MEAS_GO (R373); whether the ring oscillator gives edges is noted first. -/
def execMeasGo (w : Acc) (boscRuns : Bool) (s : State) : Answer :=
  .next (regWrite w (regAt .CLKC 0 0x034) (modClk (fun c => { c with boscRuns := boscRuns }) s))

/-- SAVE (R392). -/
def execSave (w : Acc) (s : State) : Answer := .next (regWrite w (regAt .NVMC 0 0x028) s)

end Sys2Proof.Machine
end

