-- ==== Sys2Proof/Machine/Dispatch.lean ====
section
/-! DEFINITION. The dispatch: one arm per command, each one call of its meaning. -/

namespace Sys2Proof.Machine

/-- The effect of a command on everything but the queue. -/
def exec (i : Instr) (s : State) : Host.Outcome State Fault Refusal :=
  match i with
  | .chainFrameForward side f => Sys2Proof.Machine.execChainFrameForward side f s
  | .read r => Sys2Proof.Machine.execRead r s
  | .write r => Sys2Proof.Machine.execWrite r s
  | .bwrite side f => Sys2Proof.Machine.execBwrite side f s
  | .enum side f => Sys2Proof.Machine.execEnum side f s
  | .claim r => Sys2Proof.Machine.execClaim r s
  | .prepare side f => Sys2Proof.Machine.execPrepare side f s
  | .commit side f => Sys2Proof.Machine.execCommit side f s
  | .timeset side f => Sys2Proof.Machine.execTimeset side f s
  | .reservedOpFrame side f => Sys2Proof.Machine.execReservedOpFrame side f s
  | .crcErrorFrame side f => Sys2Proof.Machine.execCrcErrorFrame side f s
  | .voidFrame side => Sys2Proof.Machine.execVoidFrame side s
  | .resp side f => Sys2Proof.Machine.execResp side f s
  | .event side f => Sys2Proof.Machine.execEvent side f s
  | .eventTransmit => Sys2Proof.Machine.execEventTransmit s
  | .domainCrossingDone m => Sys2Proof.Machine.execDomainCrossingDone m s
  | .domainTimeout m => Sys2Proof.Machine.execDomainTimeout m s
  | .crossingResolved r => Sys2Proof.Machine.execCrossingResolved r s
  | .chainLockChange side locked => Sys2Proof.Machine.execChainLockChange side locked s
  | .hopMeasure => Sys2Proof.Machine.execHopMeasure s
  | .hopRequestRx => Sys2Proof.Machine.execHopRequestRx s
  | .hopReflectionRx rtt => Sys2Proof.Machine.execHopReflectionRx rtt s
  | .hopReflectTimeout => Sys2Proof.Machine.execHopReflectTimeout s
  | .heartbeat w => Sys2Proof.Machine.execHeartbeat w s
  | .leaseExpiry => Sys2Proof.Machine.execLeaseExpiry s
  | .nominate w => Sys2Proof.Machine.execNominate w s
  | .accept w => Sys2Proof.Machine.execAccept w s
  | .nominateTimeout => Sys2Proof.Machine.execNominateTimeout s
  | .nonceReq w rand => Sys2Proof.Machine.execNonceReq w rand s
  | .nonceExpiry m refusal => Sys2Proof.Machine.execNonceExpiry m refusal s
  | .keyProgram w => Sys2Proof.Machine.execKeyProgram w s
  | .keyProgramDone matched => Sys2Proof.Machine.execKeyProgramDone matched s
  | .cmdPut ring w => Sys2Proof.Machine.execCmdPut ring w s
  | .evtGet ring w => Sys2Proof.Machine.execEvtGet ring w s
  | .commandTake m => Sys2Proof.Machine.execCommandTake m s
  | .commandComplete m pos outcome changes results => Sys2Proof.Machine.execCommandComplete m pos outcome changes results s
  | .stagingComplete => Sys2Proof.Machine.execStagingComplete s
  | .modeCommitT => Sys2Proof.Machine.execModeCommitT s
  | .blkStsClear b u w => Sys2Proof.Machine.execBlkStsClear b u w s
  | .blkFirstClear b u w => Sys2Proof.Machine.execBlkFirstClear b u w s
  | .blkIgnClear b u w => Sys2Proof.Machine.execBlkIgnClear b u w s
  | .counterLowRead addr r => Sys2Proof.Machine.execCounterLowRead addr r s
  | .tableDataRead addr r => Sys2Proof.Machine.execTableDataRead addr r s
  | .tableDataWrite addr w => Sys2Proof.Machine.execTableDataWrite addr w s
  | .snapClr b u w => Sys2Proof.Machine.execSnapClr b u w s
  | .peakClr n w => Sys2Proof.Machine.execPeakClr n w s
  | .tmrScrub => Sys2Proof.Machine.execTmrScrub s
  | .nowNsRead r => Sys2Proof.Machine.execNowNsRead r s
  | .txSymCntRead p r => Sys2Proof.Machine.execTxSymCntRead p r s
  | .setTime w => Sys2Proof.Machine.execSetTime w s
  | .stepTime w => Sys2Proof.Machine.execStepTime w s
  | .loadData w => Sys2Proof.Machine.execLoadData w s
  | .verify w => Sys2Proof.Machine.execVerify w s
  | .verifyDone contents => Sys2Proof.Machine.execVerifyDone contents s
  | .stage w => Sys2Proof.Machine.execStage w s
  | .stageCopyDone => Sys2Proof.Machine.execStageCopyDone s
  | .apply w => Sys2Proof.Machine.execApply w s
  | .applyCommit => Sys2Proof.Machine.execApplyCommit s
  | .pavEnableDeferred n => Sys2Proof.Machine.execPavEnableDeferred n s
  | .fwActivate w => Sys2Proof.Machine.execFwActivate w s
  | .fwActivateDone => Sys2Proof.Machine.execFwActivateDone s
  | .fwConfirm w => Sys2Proof.Machine.execFwConfirm w s
  | .fwTrialExpiry => Sys2Proof.Machine.execFwTrialExpiry s
  | .rollbackRaise w => Sys2Proof.Machine.execRollbackRaise w s
  | .oemProgram w => Sys2Proof.Machine.execOemProgram w s
  | .flashProg w => Sys2Proof.Machine.execFlashProg w s
  | .flashSectorDone => Sys2Proof.Machine.execFlashSectorDone s
  | .pavilionBringup n => Sys2Proof.Machine.execPavilionBringup n s
  | .pavEnable n w => Sys2Proof.Machine.execPavEnable n w s
  | .pavEnableDone n => Sys2Proof.Machine.execPavEnableDone n s
  | .pavDisable n w => Sys2Proof.Machine.execPavDisable n w s
  | .pavDisableDone n => Sys2Proof.Machine.execPavDisableDone n s
  | .symbolTx p => Sys2Proof.Machine.execSymbolTx p s
  | .symbolRx p o => Sys2Proof.Machine.execSymbolRx p o s
  | .superframeBoundary p alignErr => Sys2Proof.Machine.execSuperframeBoundary p alignErr s
  | .syncSymbolRx p m o => Sys2Proof.Machine.execSyncSymbolRx p m o s
  | .overheadRx p field => Sys2Proof.Machine.execOverheadRx p field s
  | .impulseHoldMax p => Sys2Proof.Machine.execImpulseHoldMax p s
  | .mute p by_ w => Sys2Proof.Machine.execMute p by_ w s
  | .portEnable p w => Sys2Proof.Machine.execPortEnable p w s
  | .portDisable p w => Sys2Proof.Machine.execPortDisable p w s
  | .linkupStart p => Sys2Proof.Machine.execLinkupStart p s
  | .hsListenTimeout p => Sys2Proof.Machine.execHsListenTimeout p s
  | .seekCycle p gap => Sys2Proof.Machine.execSeekCycle p gap s
  | .seek x uid port draw => Sys2Proof.Machine.execSeek x uid port draw s
  | .dmePageDetect p => Sys2Proof.Machine.execDmePageDetect p s
  | .hsTimeout p => Sys2Proof.Machine.execHsTimeout p s
  | .cap x c draw => Sys2Proof.Machine.execCap x c draw s
  | .capAck x seq fullReq draw => Sys2Proof.Machine.execCapAck x seq fullReq draw s
  | .capRepeat p => Sys2Proof.Machine.execCapRepeat p s
  | .hsCapTimeout p => Sys2Proof.Machine.execHsCapTimeout p s
  | .start x => Sys2Proof.Machine.execStart x s
  | .t1WindowEnd p o => Sys2Proof.Machine.execT1WindowEnd p o s
  | .echoVerdict p v erle => Sys2Proof.Machine.execEchoVerdict p v erle s
  | .slaveLock p => Sys2Proof.Machine.execSlaveLock p s
  | .countMarkRx p => Sys2Proof.Machine.execCountMarkRx p s
  | .rangingMark p rtt => Sys2Proof.Machine.execRangingMark p rtt s
  | .taAnnounce p ta symbol => Sys2Proof.Machine.execTaAnnounce p ta symbol s
  | .probeEnd p first last => Sys2Proof.Machine.execProbeEnd p first last s
  | .t3End p storeId => Sys2Proof.Machine.execT3End p storeId s
  | .tones p last entries crcOk => Sys2Proof.Machine.execTones p last entries crcOk s
  | .mask p bps notches => Sys2Proof.Machine.execMask p bps notches s
  | .trainingMessageResend p => Sys2Proof.Machine.execTrainingMessageResend p s
  | .phaseTimeout b => Sys2Proof.Machine.execPhaseTimeout b s
  | .showtimeEntry p => Sys2Proof.Machine.execShowtimeEntry p s
  | .linkFailTimeout p => Sys2Proof.Machine.execLinkFailTimeout p s
  | .taAdj p seq delta sf => Sys2Proof.Machine.execTaAdj p seq delta sf s
  | .swapReq p seq sf => Sys2Proof.Machine.execSwapReq p seq sf s
  | .reconfReq p seq arg => Sys2Proof.Machine.execReconfReq p seq arg s
  | .drained p seq => Sys2Proof.Machine.execDrained p seq s
  | .drainComplete p => Sys2Proof.Machine.execDrainComplete p s
  | .rcCommit p seq sf => Sys2Proof.Machine.execRcCommit p seq sf s
  | .calPause p seq arg sf => Sys2Proof.Machine.execCalPause p seq arg sf s
  | .rcAck p seq op => Sys2Proof.Machine.execRcAck p seq op s
  | .rcNak p seq op reason => Sys2Proof.Machine.execRcNak p seq op reason s
  | .reconfGo p w => Sys2Proof.Machine.execReconfGo p w s
  | .reconfTimeout p => Sys2Proof.Machine.execReconfTimeout p s
  | .oamMessageRx p mid type payload crcOk => Sys2Proof.Machine.execOamMessageRx p mid type payload crcOk s
  | .oamAck p mid => Sys2Proof.Machine.execOamAck p mid s
  | .ackTimeout p => Sys2Proof.Machine.execAckTimeout p s
  | .send p w => Sys2Proof.Machine.execSend p w s
  | .rxRelease p w => Sys2Proof.Machine.execRxRelease p w s
  | .retrain p w => Sys2Proof.Machine.execRetrain p w s
  | .retrainMargin p => Sys2Proof.Machine.execRetrainMargin p s
  | .retrainPilot p => Sys2Proof.Machine.execRetrainPilot p s
  | .retrainSfSync p => Sys2Proof.Machine.execRetrainSfSync p s
  | .retrainCwFail p => Sys2Proof.Machine.execRetrainCwFail p s
  | .fastRetrainNoSignal p => Sys2Proof.Machine.execFastRetrainNoSignal p s
  | .fastRetrainTimeout p => Sys2Proof.Machine.execFastRetrainTimeout p s
  | .anResolved p partner tie => Sys2Proof.Machine.execAnResolved p partner tie s
  | .compatLinkFail p => Sys2Proof.Machine.execCompatLinkFail p s
  | .cl45Data p isWrite w => Sys2Proof.Machine.execCl45Data p isWrite w s
  | .storeClr p w => Sys2Proof.Machine.execStoreClr p w s
  | .erleShowUpdate p erle => Sys2Proof.Machine.execErleShowUpdate p erle s
  | .marginUpdate p il => Sys2Proof.Machine.execMarginUpdate p il s
  | .impulseEventEnd p blocks => Sys2Proof.Machine.execImpulseEventEnd p blocks s
  | .hostFrame p f => Sys2Proof.Machine.execHostFrame p f s
  | .fcRefresh p => Sys2Proof.Machine.execFcRefresh p s
  | .admission p cls => Sys2Proof.Machine.execAdmission p cls s
  | .codewordDecoded p c => Sys2Proof.Machine.execCodewordDecoded p c s
  | .deadlineExpiry p node cls milestone => Sys2Proof.Machine.execDeadlineExpiry p node cls milestone s
  | .tailResend p node cls => Sys2Proof.Machine.execTailResend p node cls s
  | .gapLimitExpiry p node cls milestone => Sys2Proof.Machine.execGapLimitExpiry p node cls milestone s
  | .frameRelease p r => Sys2Proof.Machine.execFrameRelease p r s
  | .egressFrameTx p => Sys2Proof.Machine.execEgressFrameTx p s
  | .streamEnable p stream sen w => Sys2Proof.Machine.execStreamEnable p stream sen w s
  | .laybyEccError p corrected bank row rx node cls milestone => Sys2Proof.Machine.execLaybyEccError p corrected bank row rx node cls milestone s
  | .cycleStart p => Sys2Proof.Machine.execCycleStart p s
  | .scheduleRx p sched cycleNo sender => Sys2Proof.Machine.execScheduleRx p sched cycleNo sender s
  | .scheduleMiss p => Sys2Proof.Machine.execScheduleMiss p s
  | .grantStart p slot => Sys2Proof.Machine.execGrantStart p slot s
  | .grantMiss p node => Sys2Proof.Machine.execGrantMiss p node s
  | .knockSend p backoff => Sys2Proof.Machine.execKnockSend p backoff s
  | .knockRx p uid node port => Sys2Proof.Machine.execKnockRx p uid node port s
  | .energyDetect p => Sys2Proof.Machine.execEnergyDetect p s
  | .burstDetect p frozen => Sys2Proof.Machine.execBurstDetect p frozen s
  | .syncFound p lvl afc preamble => Sys2Proof.Machine.execSyncFound p lvl afc preamble s
  | .syncSearchClose p above => Sys2Proof.Machine.execSyncSearchClose p above s
  | .energyRise p above => Sys2Proof.Machine.execEnergyRise p above s
  | .lateStartLoss p => Sys2Proof.Machine.execLateStartLoss p s
  | .captured p above => Sys2Proof.Machine.execCaptured p above s
  | .headerRx p slot crcOk h snrBlock => Sys2Proof.Machine.execHeaderRx p slot crcOk h snrBlock s
  | .burstEnd p above => Sys2Proof.Machine.execBurstEnd p above s
  | .spListenTimeout p => Sys2Proof.Machine.execSpListenTimeout p s
  | .tableRx p sender dest gen loads => Sys2Proof.Machine.execTableRx p sender dest gen loads s
  | .tableSend p node => Sys2Proof.Machine.execTableSend p node s
  | .tableResend p node => Sys2Proof.Machine.execTableResend p node s
  | .idleSlotNoise p power => Sys2Proof.Machine.execIdleSlotNoise p power s
  | .watchIntervalEnd p => Sys2Proof.Machine.execWatchIntervalEnd p s
  | .wakeBurst p => Sys2Proof.Machine.execWakeBurst p s
  | .wakeDetect p => Sys2Proof.Machine.execWakeDetect p s
  | .lpiMismatch p => Sys2Proof.Machine.execLpiMismatch p s
  | .deepWakeDetect p => Sys2Proof.Machine.execDeepWakeDetect p s
  | .tdrRun p w partnerPower => Sys2Proof.Machine.execTdrRun p w partnerPower s
  | .tdrSilenceEnd p partnerPower peaks ilPre => Sys2Proof.Machine.execTdrSilenceEnd p partnerPower peaks ilPre s
  | .surveyProfile p rho => Sys2Proof.Machine.execSurveyProfile p rho s
  | .svBaseSave p w => Sys2Proof.Machine.execSvBaseSave p w s
  | .svBaseSaveDone p => Sys2Proof.Machine.execSvBaseSaveDone p s
  | .hostLockChange p locked => Sys2Proof.Machine.execHostLockChange p locked s
  | .macControlFrame p opcode enable quanta => Sys2Proof.Machine.execMacControlFrame p opcode enable quanta s
  | .inbandRequest p srcMac version count records => Sys2Proof.Machine.execInbandRequest p srcMac version count records s
  | .inbandResponse p => Sys2Proof.Machine.execInbandResponse p s
  | .lbMode p w => Sys2Proof.Machine.execLbMode p w s
  | .txPop p w => Sys2Proof.Machine.execTxPop p w s
  | .rxPop p w => Sys2Proof.Machine.execRxPop p w s
  | .tsHeadRead p rx r => Sys2Proof.Machine.execTsHeadRead p rx r s
  | .tsuEnClear p w => Sys2Proof.Machine.execTsuEnClear p w s
  | .powerOnReset lodgeIntact => Sys2Proof.Machine.execPowerOnReset lodgeIntact s
  | .brownOut rail lodgeIntact => Sys2Proof.Machine.execBrownOut rail lodgeIntact s
  | .resetN lowNs taken => Sys2Proof.Machine.execResetN lowNs taken s
  | .rstGo w => Sys2Proof.Machine.execRstGo w s
  | .rstAssert => Sys2Proof.Machine.execRstAssert s
  | .wdtKick en time => Sys2Proof.Machine.execWdtKick en time s
  | .watchdogExpiry => Sys2Proof.Machine.execWatchdogExpiry s
  | .resetEpisodeEnd => Sys2Proof.Machine.execResetEpisodeEnd s
  | .boscQualified strapCount => Sys2Proof.Machine.execBoscQualified strapCount s
  | .rootQualified => Sys2Proof.Machine.execRootQualified s
  | .pllLock => Sys2Proof.Machine.execPllLock s
  | .nvmReadDone areaA areaB started corrected duty flashId => Sys2Proof.Machine.execNvmReadDone areaA areaB started corrected duty flashId s
  | .firmwareStart => Sys2Proof.Machine.execFirmwareStart s
  | .rootSwitchB => Sys2Proof.Machine.execRootSwitchB s
  | .rootEdgeLoss => Sys2Proof.Machine.execRootEdgeLoss s
  | .rootMonitorBad => Sys2Proof.Machine.execRootMonitorBad s
  | .safeEntry => Sys2Proof.Machine.execSafeEntry s
  | .rootReturn => Sys2Proof.Machine.execRootReturn s
  | .rootHoldExpiry => Sys2Proof.Machine.execRootHoldExpiry s
  | .boscQualTimeout => Sys2Proof.Machine.execBoscQualTimeout s
  | .linePllLockLoss => Sys2Proof.Machine.execLinePllLockLoss s
  | .stateGo w => Sys2Proof.Machine.execStateGo w s
  | .domainSwitchDone => Sys2Proof.Machine.execDomainSwitchDone s
  | .gate d w => Sys2Proof.Machine.execGate d w s
  | .wakeClr w => Sys2Proof.Machine.execWakeClr w s
  | .measGo w boscRuns => Sys2Proof.Machine.execMeasGo w boscRuns s
  | .measDone count => Sys2Proof.Machine.execMeasDone count s
  | .measTimeout => Sys2Proof.Machine.execMeasTimeout s
  | .dbgReset => Sys2Proof.Machine.execDbgReset s
  | .supplyFault rail => Sys2Proof.Machine.execSupplyFault rail s
  | .bgCalRun p => Sys2Proof.Machine.execBgCalRun p s
  | .bgCalDone p power kurt impulse statDev varRatio trims => Sys2Proof.Machine.execBgCalDone p power kurt impulse statDev varRatio trims s
  | .hybRecal p w => Sys2Proof.Machine.execHybRecal p w s
  | .hybRecalDone p gain10 hybR hybC coefs => Sys2Proof.Machine.execHybRecalDone p gain10 hybR hybC coefs s
  | .save w => Sys2Proof.Machine.execSave w s
  | .saveDone sectorFailed => Sys2Proof.Machine.execSaveDone sectorFailed s
  | .wearMeasure n drift tj => Sys2Proof.Machine.execWearMeasure n drift tj s
  | .autoSubstitution n e detail => Sys2Proof.Machine.execAutoSubstitution n e detail s
  | .substitutionDone n => Sys2Proof.Machine.execSubstitutionDone n s
  | .faultDetect b u src detail => Sys2Proof.Machine.execFaultDetect b u src detail s
  | .fatalFault b src detail => Sys2Proof.Machine.execFatalFault b src detail s
  | .injArm w => Sys2Proof.Machine.execInjArm w s
  | .armTimeExpiry => Sys2Proof.Machine.execArmTimeExpiry s
  | .fire b u w => Sys2Proof.Machine.execFire b u w s
  | .injectionWindowEnd b u => Sys2Proof.Machine.execInjectionWindowEnd b u s
  | .compatLinkUp p => Sys2Proof.Machine.execCompatLinkUp p s
  | .pauseQuantaExpiry p cls => Sys2Proof.Machine.execPauseQuantaExpiry p cls s
  | .reArm p => Sys2Proof.Machine.execReArm p s
  | .selftestKernelDone n e index passed => Sys2Proof.Machine.execSelftestKernelDone n e index passed s
  | .tapTckEdge tms tdi trst => Sys2Proof.Machine.execTapTckEdge tms tdi trst s
  | .rootSwitchA => Sys2Proof.Machine.execRootSwitchA s

end Sys2Proof.Machine
end

