-- ==== Sys2Proof/Machine/Idle.lean ====
section
/-! DEFINITION. What the device does while no command waits: 8 ns pass (R100, R53, R369, R415). -/

namespace Sys2Proof.Machine

/-- A ROOT cycle of device time while it runs (R100): it advances by 8 ns; a running SET loads its value instead, and a running
STEP adds to either. (DESIGN CHOICE, log 2; DEDUCED, log 50; DEDUCED, log 57) -/
def advanceTime (s : State) : State :=
  if !s.clk.timeRun then s
  else
    let sec := getF 0 .TIME_SET_SEC_LO s + getF 0 .TIME_SET_SEC_HI s * 2 ^ 32
    let s := if cmdRuns 0 .TIME_SET s then
        cmdEnd 0 .TIME_SET ocDone (sticky .TIME_TIME_SET 0 (setAll 0 [(.TIME_TIME_VALID, 1), (.TIME_TIME_SRC, 0)]
          (setNow (sec * 1000000000 + getF 0 .TIME_SET_NS s) 0 s)))
      else setNow (nowNs s + 8) s.frac s
    if cmdRuns 0 .TIME_STEP s then
      cmdEnd 0 .TIME_STEP ocDone (setNow ((nowNs s : Int) + signedOf 32 (getF 0 .TIME_STEP_NS s)).toNat s.frac s)
    else s

/-- Every 96 ns a new frame time begins on the chain outputs, and an output on which nothing was sent in the one that ends
sent an IDLE frame (R36). (DEDUCED, log 136) -/
def fillIdle (s : State) : State :=
  if s.cycles % 12 ≠ 0 then s
  else
    let new := s.sent.take (s.sent.length - s.slotMark)
    let used := fun (side : Side) => new.any fun e => match e with
      | .chain d _ | .void d | .hopSet d _ => d == side
      | _ => false
    let put := fun (side : Side) (s : State) =>
      when (s.forwarding && s.clk.rootPresent && !used side) (emit (.chain side idleFrame)) s
    let s := put .B (put .A s)
    { s with slotMark := s.sent.length }

/-- One ROOT period: device time, the lease, the arm and the root hold count on, and the chain outputs send IDLE; the events
that end the counts are commands of their own. Crossings into domains that are off end. (DESIGN CHOICE, log 2) -/
def idle (s : State) : State :=
  let s := fillIdle (advanceTime s)
  settle { s with
    cycles := s.cycles + 1, leaseLeft := s.leaseLeft - 1, armLeft := s.armLeft - 1
    clk := { s.clk with holdLeft := if s.clk.holdRun then s.clk.holdLeft - 1 else s.clk.holdLeft } }

end Sys2Proof.Machine
end

