-- ==== Sys2Proof/Machine/Pins.lean ====
section
/-! DEFINITION. What the pins show (R13, R29, R87, R273, R340, R364, R369, R372, R382, R414, R441). -/

namespace Sys2Proof.Machine

/-- What a pin does: weak pull-up, low, released (open drain), high-impedance, electrical idle, driven by its function,
running at a clock of 1,000 MHz ÷ `div` with `depth` and `rate` of spread, driven by the boundary register. -/
inductive Pad where
  | pullUp
  | low
  | released
  | highZ
  | electricalIdle
  | driven
  | clock (div depth rate : Nat)
  | scanned
deriving DecidableEq, Repr

/-- EXTEST is the current instruction: the boundary register drives the digital pins (R382). -/
def extest (s : State) : Bool := domainOn 5 s && getF 0 .DEBUG_TAP_IR s == 0

/-- EXTEST_PULSE or EXTEST_TRAIN is: it drives the host lanes (R382). -/
def extestLanes (s : State) : Bool :=
  domainOn 5 s && (getF 0 .DEBUG_TAP_IR s == 3 || getF 0 .DEBUG_TAP_IR s == 4)

/-- A digital pin, unless EXTEST drives it. -/
def digital (x : Pad) (s : State) : Pad := if extest s then .scanned else x

/-- IRQ_N (R87, R369, R414): an open drain. -/
def irqPin (s : State) : Pad := digital (if irqLow s then .low else .released) s

/-- WAKE_N (R322): an open drain, low while WAKE_SRC names a port. -/
def wakePin (s : State) : Pad := digital (if getF 0 .PWRC_WAKE_SRC s = 0 then .released else .low) s

/-- Divisor, depth and rate of spread, and output enable of a clock output. -/
def clkOutSet (n : Nat) (s : State) : Nat × Nat × Nat × Nat :=
  if n = 0 then (rwF 0 .CLKC_CO0_DIV s, rwF 0 .CLKC_CO0_DEPTH s, rwF 0 .CLKC_CO0_RATE s, getF 0 .CLKC_CO0_OE s)
  else (rwF 0 .CLKC_CO1_DIV s, rwF 0 .CLKC_CO1_DEPTH s, rwF 0 .CLKC_CO1_RATE s, getF 0 .CLKC_CO1_OE s)

/-- CLKOUTn (R364, R372): weak pull-up until CLKC EN puts the configuration in force; then it runs while its OE = 1 and
ROOT is present, and is low otherwise. (DEDUCED, log 162) -/
def clkOut (n : Nat) (s : State) : Pad :=
  let c := clkOutSet n s
  digital (if getF 0 (.en .CLKC) s ≠ 1 then .pullUp
    else if c.2.2.2 = 1 ∧ s.clk.rootPresent = true then .clock c.1 c.2.1 c.2.2.1 else .low) s

/-- The mean frequency of a clock output in MHz: the nominal frequency less half the depth of its down-spread (R372). -/
def clkMean (div depth : Nat) : Rat := 1000 / (div : Rat) * (1 - (depth : Rat) * 5 / 10000 / 2)

/-- The xSPI chip select (R364). -/
def flashPin (s : State) : Pad := digital (if getF 0 (.en .BOOTF) s = 1 then .driven else .pullUp) s

/-- In SAFE the chain and the host lanes are silent (R369). (DEDUCED, log 162) -/
def silent (s : State) : Bool := isSet 0 .CLKC_SAFE s

/-- XCA_O and XCB_O (R364, R369, R441). -/
def chainPin (s : State) : Pad := if s.forwarding && !silent s then .driven else .electricalIdle

/-- HSOn (R340, R364): electrical idle until HOST EN is 1 and while it is 0; PCS idle, or the lane's frames, otherwise. -/
def lanePin (p : Nat) (s : State) : Pad :=
  if extestLanes s then .scanned
  else if getF p (.en .HOST) s == 1 && domainOn (30 + p) s && !silent s then .driven else .electricalIdle

/-- LNp (R29, R153, R273, R364): high-impedance while muted; a spur node drives it in its own bursts alone, which the
record of what was sent holds. -/
def linePin (p : Nat) (s : State) : Pad :=
  if isSet p .TXSH_MUTED s || isSpur p s then .highZ else .driven

/-- A spur node ends the bus with 100 Ω, rather than presenting at least 2 kΩ (R273). -/
def lineTerminated (p : Nat) (s : State) : Bool := isSpur p s && latched p .BURST_TERM s == 1

end Sys2Proof.Machine
end

