-- ==== Sys2Proof/WellFormed.lean ====
section
/-! DEFINITION. Which commands can occur: the operands that the spec's rules rule out are refused here, one check each. -/

namespace Sys2Proof

open Sys2Proof.Machine

/-- A master tag that can come from a source: 0 to 7 on the chain, 8 + n from lane n (R49). -/
def tagOk (src : Src) (mtag : BitVec 4) : Bool :=
  match src with
  | .chain _ => mtag.toNat < 8
  | .inband lane => mtag.toNat == 8 + lane.val

/-- An addressed request: its tag, and on the chain a destination of 1 to 30 (R37, R39). -/
def reqOk (r : Req) : Bool :=
  tagOk r.src r.mtag &&
    match r.src with
    | .chain _ => 1 ≤ r.dest.toNat && r.dest.toNat ≤ 30
    | .inband _ => true

/-- A frame whose CRC is right (R37). -/
def crcOk (f : Frame) : Bool := reFrame f == f

/-- A frame of an operation with a right CRC and a chain master's tag (R36 to R38, R49). -/
def frameOk (op : Nat) (f : Frame) : Bool := f.op.toNat == op && crcOk f && f.mtag.toNat < 8

/-- A block has a unit (R77). -/
def unitOk (b : Blk) (u : Fin 8) : Bool := u.val < blkUnits b

/-- An access to a unit of a block. -/
def blkOk (b : Blk) (u : Fin 8) (w : Acc) : Bool := unitOk b u && tagOk w.src w.mtag

/-- The address of a counter's low word (R93). -/
def counterAt (a : Nat) : Bool :=
  match target a with
  | .reg b _ off => (counterFlds b).any fun f => f.off == off
  | _ => false

/-- The address of a table window's data register (R97). -/
def windowAt (a : Nat) : Bool :=
  match target a with
  | .reg b _ off => (fldsAt b off).any fun f => f.ty == .win
  | _ => false

/-- Tones of a normal symbol (R127). -/
def tonesOk (l : List Nat) : Bool := l.all fun k => decide (k < 16384)

/-- A command can occur. -/
def Instr.wf : Instr → Bool
  | .chainFrameForward _ f => crcOk f
  | .read r => reqOk r
  | .write r => reqOk r
  | .claim r => reqOk r
  | .bwrite _ f => frameOk 3 f
  | .enum _ f => frameOk 4 f
  | .prepare _ f => frameOk 7 f
  | .commit _ f => frameOk 8 f
  | .timeset _ f => frameOk 9 f
  | .reservedOpFrame _ f => crcOk f && 10 ≤ f.op.toNat && f.op.toNat ≤ 14
  | .crcErrorFrame _ f => !crcOk f
  | .resp _ f => f.op.toNat == 15 && crcOk f
  | .event _ f => f.op.toNat == 6 && crcOk f
  | .heartbeat w | .nominate w | .accept w | .nonceReq w _ | .keyProgram w | .cmdPut _ w | .evtGet _ w => tagOk w.src w.mtag
  | .blkStsClear b u w | .blkFirstClear b u w | .blkIgnClear b u w | .snapClr b u w | .fire b u w => blkOk b u w
  | .counterLowRead a r => tagOk r.src r.mtag && counterAt a.toNat
  | .tableDataRead a r => tagOk r.src r.mtag && windowAt a.toNat
  | .tableDataWrite a w => tagOk w.src w.mtag && windowAt a.toNat
  | .faultDetect b u _ _ => unitOk b u
  | .injectionWindowEnd b u => unitOk b u
  | .symbolRx _ o | .syncSymbolRx _ _ o => tonesOk (o.tones.map (·.tone))
  | .tones _ _ l _ => tonesOk (l.map (·.1))
  | .overheadRx _ field => field.length == 64
  | .inbandRequest _ _ _ _ l => l.all fun r => r.length == 8
  | .brownOut _ _ | .resetN _ _ => true
  | _ => true

end Sys2Proof
end

