-- ==== Sys2Proof/Safety.lean ====
section
/-! DEFINITION. The terms in which claims speak of runs: a command that completes, what stays as it was, when an access
reaches its register, and the invariants of the machine. -/

namespace Sys2Proof.Machine

/-! ### Completion and frames -/

/-- A command answers a next state, and that state is as `P` says. -/
def Completes (c : Instr) (s : State) (P : State → Prop) : Prop := ∃ t, exec c s = .next t ∧ P t

/-- What a device has sent once a broadcast frame has gone on as `out`: the tail also returns it toward the head, from the
address it then holds (R35). `s` is the state before, `t` the one after. -/
def goesOn (side : Side) (f out : Frame) (s t : State) : List Emission :=
  (if isTail s && side == .A then
    [.chain .A (respFrame t f.mtag.toNat f.tag.toNat f.op.toNat f.addr.toNat 0 out.data.toNat)] else []) ++
    .chain (Side.other side) out :: s.sent

/-- Every register field whose key is not listed reads in `t` as in `s`. -/
def KeepsFields (l : List Nat) (s t : State) : Prop :=
  ∀ (u : Nat) (f : Fld), f.key u ∉ l → getF u f t = getF u f s

/-- The byte memories read in `t` as in `s`: the post office (R58) and both areas of the image buffer (R109). -/
def KeepsMemory (s t : State) : Prop :=
  (∀ a, readByte t.post a = readByte s.post a) ∧
    ∀ i a, readByte (t.loader.mem.getD i []) a = readByte (s.loader.mem.getD i []) a

/-- Nothing but register fields differs, and of these only the ones listed. -/
def OnlyFields (l : List Nat) (s t : State) : Prop :=
  KeepsFields l s t ∧ { t with fields := s.fields, tmr := s.tmr } = s

/-! ### Accesses -/

/-- No access is under way, in any domain or in any in-band request. -/
def Quiet (s : State) : Prop :=
  s.access = [] ∧ s.timedOut = [] ∧ ∀ p < 8, ∀ q ∈ (s.port p).lane.ib, q.todo = []

/-- The clock of a block's registers runs: the chain's own does, any other while ROOT is present (R45, R369). -/
def Clocked (b : Blk) (u : Nat) (s : State) : Prop := blkDomain b u = 3 ∨ clocked s = true

/-- A write reaches a register with the right to write it, its domain on and its clock running (R43, R45, R48, R52). -/
def Writes (w : Acc) (b : Blk) (u off : Nat) (s : State) : Prop :=
  reaches w.src s = true ∧ Quiet s ∧ Clocked b u s ∧ target (blkBase b u + off) = .reg b u off ∧
    earlyCode (reqOf w (blkBase b u + off)) opWrite (consumeFrame w.src s) = none

/-- A read reaches a register, its domain on and its clock running (R43, R45, R48). -/
def Reads (r : Acc) (b : Blk) (u off : Nat) (s : State) : Prop :=
  reaches r.src s = true ∧ Quiet s ∧ Clocked b u s ∧ target (blkBase b u + off) = .reg b u off ∧
    earlyCode (reqOf r (blkBase b u + off)) opRead (consumeFrame r.src s) = none

/-- The written word asks a command field that reads 0 to start, and gives every other field that a write could change
the value it already has (R82, R90). -/
def AsksStart (m u : Nat) (f : Fld) (data : Nat) (s : State) : Prop :=
  bitsOf data f.lo 1 = 1 ∧ presentF m u f s = 0 ∧
    ∀ g ∈ fldsAt f.blk f.off, g ≠ f → g.ty = .rw ∨ g.ty = .lrw ∨ g.ty = .wo1 ∨ g.ty = .cmd →
      bitsOf data g.lo g.width = presentF m u g s

/-- A master's write starts a command field. -/
def Starts (w : Acc) (u : Nat) (f : Fld) (s : State) : Prop :=
  Writes w f.blk u f.off s ∧ AsksStart w.mtag.toNat u f w.data.toNat (consumeFrame w.src s)

/-- The written word gives one field the value `v`, other than the one it has, and every other field that a write could
change the value it already has (R82). -/
def Changes (m u : Nat) (f : Fld) (v data : Nat) (s : State) : Prop :=
  bitsOf data f.lo f.width = v ∧ presentF m u f s ≠ v ∧
    ∀ g ∈ fldsAt f.blk f.off, g ≠ f → g.ty = .rw ∨ g.ty = .lrw ∨ g.ty = .wo1 ∨ g.ty = .cmd →
      bitsOf data g.lo g.width = presentF m u g s

/-- A master's write gives one field another value. -/
def Sets (w : Acc) (u : Nat) (f : Fld) (v : Nat) (s : State) : Prop :=
  Writes w f.blk u f.off s ∧ Changes w.mtag.toNat u f v w.data.toNat (consumeFrame w.src s)

/-- A master's write starts a command field of a port, in a cycle in which no disable of its pavilion falls (R28). -/
def StartsAt (w : Acc) (p : Nat) (f : Fld) (s : State) : Prop := Starts w p f s ∧ disableMeets (pavOf p) s = false

/-- An event of a port acts: its clocks run, and no disable of its pavilion falls in the same cycle (R27, R28, R369). -/
def Live (p : Nat) (s : State) : Prop := clocked s = true ∧ disableMeets (pavOf p) s = false

/-- A command field runs: it reads 1 with OUTCOME RUNNING (R90, R91). -/
def Runs (u : Nat) (f : Fld) (t : State) : Prop := getF u f t = 1 ∧ getF u f.outcome t = 1

/-- A command field has ended with an OUTCOME (R90, R91). -/
def Ended (u : Nat) (f : Fld) (oc : Nat) (t : State) : Prop := getF u f t = 0 ∧ getF u f.outcome t = oc

/-- A named sticky bit reads 1. -/
def StsSet (k : Sticky) (u : Nat) (t : State) : Prop := bitOf (getF u (.sts k.blk) t) k.bit = true

/-- A 48-bit counter advanced by one; at its largest value it stays (R93). -/
def Counted (u : Nat) (f : Fld) (s t : State) : Prop := getF u f t = min (getF u f s + 1) (2 ^ 48 - 1)

/-- The enable whose fall mutes a line (R153). -/
def muteFld : MuteBy → Fld
  | .txshEn => .en .TXSH
  | .tonesEn => .en .TONES
  | .txAllow => .TXSH_TX_ALLOW

/-- The answer in a port's overhead field: ACK, or NAK with a reason (R183, R184). -/
def RcAnswers (p op seq : Nat) (nak : Option Nat) (t : State) : Prop :=
  (t.port p).rc.resp = some (match nak with | none => ⟨7, seq, op, 0⟩ | some c => ⟨8, seq, op * 16 + c, 0⟩, 4)

/-- The port of an event on its line or host lane that carries no register access and stores nothing in NVM. -/
def linePort : Instr → Option (Fin 8)
  | .symbolTx p | .symbolRx p _ | .superframeBoundary p _ | .syncSymbolRx p _ _ | .overheadRx p _ | .impulseHoldMax p
  | .linkupStart p | .hsListenTimeout p | .seekCycle p _ | .seek ⟨p, _⟩ _ _ _ | .dmePageDetect p | .hsTimeout p | .cap ⟨p, _⟩ _ _
  | .capAck ⟨p, _⟩ _ _ _ | .capRepeat p | .hsCapTimeout p | .echoVerdict p _ _ | .slaveLock p | .countMarkRx p
  | .rangingMark p _ | .taAnnounce p _ _ | .probeEnd p _ _ | .t3End p _ | .tones p _ _ _ | .mask p _ _
  | .trainingMessageResend p | .phaseTimeout ⟨p, _⟩ | .showtimeEntry p | .linkFailTimeout p | .taAdj p _ _ _ | .swapReq p _ _
  | .reconfReq p _ _ | .drained p _ | .drainComplete p | .rcCommit p _ _ | .calPause p _ _ _ | .rcAck p _ _
  | .rcNak p _ _ _ | .reconfTimeout p | .oamMessageRx p _ _ _ _ | .oamAck p _ | .ackTimeout p | .retrainMargin p
  | .retrainPilot p | .retrainSfSync p | .retrainCwFail p | .fastRetrainNoSignal p | .fastRetrainTimeout p
  | .anResolved p _ _ | .compatLinkFail p | .compatLinkUp p | .erleShowUpdate p _ | .marginUpdate p _
  | .impulseEventEnd p _ | .fcRefresh p | .admission p _ | .codewordDecoded p _ | .deadlineExpiry p _ _ _
  | .tailResend p _ _ | .gapLimitExpiry p _ _ _ | .frameRelease p _ | .egressFrameTx p | .cycleStart p
  | .scheduleRx p _ _ _ | .scheduleMiss p | .grantStart p _ | .grantMiss p _ | .knockSend p _ | .knockRx p _ _ _
  | .energyDetect p | .burstDetect p _ | .syncFound p _ _ _ | .syncSearchClose p _ | .energyRise p _ | .lateStartLoss p
  | .captured p _ | .headerRx p _ _ _ _ | .burstEnd p _ | .reArm p | .spListenTimeout p | .tableRx p _ _ _ _
  | .tableSend p _ | .tableResend p _ | .idleSlotNoise p _ | .watchIntervalEnd p | .wakeBurst p | .wakeDetect p
  | .lpiMismatch p | .tdrSilenceEnd p _ _ _ | .surveyProfile p _ | .hostLockChange p _ | .macControlFrame p _ _ _
  | .pauseQuantaExpiry p _ | .bgCalRun p | .hybRecalDone p _ _ _ _ => some p
  | _ => none

/-- The events of the chain, of clocks, power, layouts, spares and calibration that carry no register access, reset nothing
and complete no command of the post office. -/
def deviceEvent : Instr → Bool
  | .chainFrameForward _ _ | .enum _ _ | .prepare _ _ | .commit _ _ | .timeset _ _ | .reservedOpFrame _ _ | .crcErrorFrame _ _
  | .voidFrame _ | .resp _ _ | .event _ _ | .eventTransmit | .chainLockChange _ _ | .hopMeasure | .hopRequestRx
  | .hopReflectionRx _ | .hopReflectTimeout | .leaseExpiry | .nominateTimeout | .nonceExpiry _ _ | .keyProgramDone _
  | .stagingComplete | .modeCommitT | .tmrScrub | .verifyDone _ | .stageCopyDone | .applyCommit | .flashSectorDone
  | .pavEnableDeferred _ | .pavilionBringup _ | .pavEnableDone _ | .pavDisableDone _ | .deepWakeDetect _ | .wdtKick _ _
  | .boscQualified _ | .rootQualified | .pllLock | .rootSwitchB | .rootSwitchA | .rootEdgeLoss | .rootMonitorBad | .safeEntry
  | .rootReturn | .linePllLockLoss | .measDone _ | .measTimeout | .tapTckEdge _ _ _ | .bgCalDone _ _ _ _ _ _ _ | .saveDone _
  | .svBaseSaveDone _ | .wearMeasure _ _ _ | .autoSubstitution _ _ _ | .substitutionDone _ | .selftestKernelDone _ _ _ _
  | .armTimeExpiry | .laybyEccError _ _ _ _ _ _ _ _ => true
  | _ => false

/-- The rows that are a write of 1 to one command field, with the field's unit. -/
def commandRows (p : Fin 8) (n : Fin 4) : List ((Acc → Instr) × Nat × Fld) :=
  [(.nominate, 0, .KEEPER_NOMINATE), (.accept, 0, .KEEPER_ACCEPT), (.keyProgram, 0, .KEEPER_KEY_PROGRAM),
    (.setTime, 0, .TIME_SET), (.stepTime, 0, .TIME_STEP), (.verify, 0, .LAYOUT_VERIFY), (.stage, 0, .LAYOUT_STAGE),
    (.apply, 0, .LAYOUT_APPLY), (.fwActivate, 0, .LAYOUT_FW_ACTIVATE), (fun w => .fwConfirm (some w), 0, .LAYOUT_FW_CONFIRM),
    (.rollbackRaise, 0, .LAYOUT_ROLLBACK_RAISE), (.oemProgram, 0, .LAYOUT_OEM_PROGRAM), (.flashProg, 0, .BOOTF_FLASH_PROG),
    (.peakClr n, n, .LAYBY_PEAK_CLR), (.reconfGo p, p, .PORT_CTL_RECONF_GO), (.retrain p, p, .PORT_CTL_RETRAIN),
    (.send p, p, .OAM_SEND), (.rxRelease p, p, .OAM_RX_RELEASE), (.storeClr p, p, .LINKUP_STORE_CLR),
    (.svBaseSave p, p, .SURVEY_SV_BASE_SAVE), (.txPop p, p, .TSU_TX_POP), (.rxPop p, p, .TSU_RX_POP),
    (.hybRecal p, p, .CAL_HYB_RECAL), (.rstGo, 0, .RSTC_RST_GO), (.stateGo, 0, .PWRC_STATE_GO),
    (.wakeClr, 0, .PWRC_WAKE_CLR), (.save, 0, .NVMC_SAVE)]

/-! ### Invariants -/

/-- The byte memories are in canonical form. -/
def CanonicalMemory (s : State) : Prop := Memory.wf s.post ∧ ∀ m ∈ s.loader.mem, Memory.wf m

end Sys2Proof.Machine
end

