-- ==== Sys2Proof/Certificates/Slice0/Obligations.lean ====
section
/-! DEFINITION. The statements about the machine that the provers are asked to settle. State.sent, which many of them
name, is the record of what leaves the pins, newest first (DESIGN CHOICE, log 19). -/

open Sys2Proof Sys2Proof.Machine

/-! ### The queue, the register file, memory -/

/-- A step takes the command at the front of the queue; with no command waiting 8 ns pass; every command answers a next
state, and none a fault or a refusal. (The model's own choices: log 1, 2.) -/
def Obligations.StepRunsFrontCommand : Prop :=
  ∀ (c : Instr) (rest : List Instr) (s : State),
    (s.pending = c :: rest → step s = exec c { s with pending := rest }) ∧ (s.pending = [] → step s = .next (idle s)) ∧
      ∃ t, exec c s = .next t

/-- The register file behaves as one register for each field of the maps: after any writes a field reads the value last
written to it, cut to its width, and a field not written reads as before. -/
def Obligations.RegisterFileIndependent : Prop :=
  ∀ (ws : List ((Blk × Nat) × Fld × Nat)) (b : Blk × Nat) (g : Fld) (s : State),
    (∀ w ∈ ws, w.1 ∈ allBlks ∧ w.2.1 ∈ blkFlds w.1.1) → b ∈ allBlks → g ∈ blkFlds b.1 →
    getF b.2 g (ws.foldl (fun a w => setF w.1.2 w.2.1 w.2.2 a) s) =
      match (ws.filter fun w => w.1 == b && w.2.1 == g).getLast? with
      | some w => w.2.2 % 2 ^ g.width
      | none => getF b.2 g s

/-- No two fields of a block's map share a bit of a word, and every field lies in its words. -/
def Obligations.FieldsShareNoBit : Prop :=
  ∀ b : Blk, (blkFlds b).Pairwise (fun f g => f.off = g.off → f.lo + f.width ≤ g.lo ∨ g.lo + g.width ≤ f.lo) ∧
    ∀ f ∈ blkFlds b, 0 < f.width ∧ f.off % 4 = 0 ∧ f.off < 4096 ∧ f.lo + f.width ≤ if f.ty = .snap then 48 else 32

/-- The machine after reset holds its memories in canonical form. (The model's own choice: log 10.) -/
def Obligations.ResetMemoryCanonical : Prop := CanonicalMemory State.reset

/-- Every step keeps the memories in canonical form. (The model's own choice: log 10.) -/
def Obligations.StepKeepsMemoryCanonical : Prop :=
  ∀ s t : State, CanonicalMemory s → step s = .next t → CanonicalMemory t

/-- No command and no passing of time clears SEALED (R56). -/
def Obligations.SealedIsForGood : Prop :=
  ∀ s t : State, getF 0 .KEEPER_SEALED s = 1 → step s = .next t → getF 0 .KEEPER_SEALED t = 1

/-- A byte stored is read back and every other byte reads as before, a zero byte like any other; a word stored lies most
significant byte first and changes only its four bytes (R7). (The model's own choice: log 10.) -/
def Obligations.MemoryReadsBackBigEndian : Prop :=
  (∀ (m : Memory) (a : Nat) (b : Byte), Memory.wf m →
     Memory.wf (writeByte m a b) ∧ readByte (writeByte m a b) a = b ∧
       ∀ x, x ≠ a → readByte (writeByte m a b) x = readByte m x) ∧
  (∀ (m : Memory) (a w : Nat), w < 2 ^ 32 →
     readWord (writeWord m a w) a = w ∧
     (∀ i < 4, readByte (writeWord m a w) (a + i) = BitVec.ofNat 8 (w / 2 ^ (8 * (3 - i)))) ∧
     ∀ x, (x < a ∨ a + 4 ≤ x) → readByte (writeWord m a w) x = readByte m x)

/-! ### The chain -/

/-- What a device forwards unchanged changes nothing but the record of what leaves (R34, R39): frames it does not consume,
RESP and EVENT frames, void frames, and hop-measurement sets, which it reflects (R65). Nothing leaves while the outputs do not
forward yet (R441), and then these commands change nothing at all. (The model's own choice: log 29.) -/
def Obligations.ForwardingChangesNothing : Prop :=
  (∀ (side : Side) (f : Frame) (s : State), s.forwarding = true →
     let on := fun (f : Frame) => Host.Outcome.next (φ := Fault) (ρ := Refusal) { s with sent := .chain (Side.other side) f :: s.sent }
     exec (.chainFrameForward side f) s = on f ∧ exec (.resp side f) s = on f ∧ exec (.event side f) s = on f ∧
     exec (.voidFrame side) s = .next { s with sent := .void (Side.other side) :: s.sent } ∧
     exec .hopRequestRx s = .next { s with sent := .hopSet .B false :: s.sent } ∧
     (s.acting = true → exec (.reservedOpFrame side f) s = on idleFrame)) ∧
  (∀ (side : Side) (f : Frame) (s : State), s.forwarding = false →
     ∀ c ∈ [Instr.chainFrameForward side f, .resp side f, .event side f, .voidFrame side, .reservedOpFrame side f,
       .hopRequestRx], exec c s = .next s)

/-- ENUM (R47): with RESTART a device first drops its address when it has no Keeper or its Keeper sent the frame, and
otherwise forwards the frame unchanged. A device without an address then takes a COUNTER of 1 to 30 and forwards it counted
up; with 31 it sets ENUM_FULL, with 0 it does nothing; in both cases, and when it holds an address, it forwards DATA as it
came. -/
def Obligations.EnumAssignsAddress : Prop :=
  ∀ (side : Side) (f : Frame) (s : State), actsOn f s = true → s.forwarding = true →
    let counter := f.data.toNat % 32
    let restart := bitOf f.data.toNat 31 = true
    let bare := (restart → keeper s = none ∨ keeper s = some f.mtag.toNat) ∧ (restart ∨ chainAddr s = 0)
    let out := fun (d : Nat) => goesOn side f (withData f d) s
    (bare → 1 ≤ counter → counter ≤ 30 → Completes (.enum side f) s fun t =>
      chainAddr t = counter ∧ t.sent = out (f.data.toNat + 1) t) ∧
    (bare → counter = 31 → Completes (.enum side f) s fun t =>
      chainAddr t = 0 ∧ StsSet .CHAIN_ENUM_FULL 0 t ∧ t.sent = out f.data.toNat t) ∧
    (bare → counter = 0 → Completes (.enum side f) s fun t =>
      chainAddr t = 0 ∧ getF 0 (.sts .CHAIN) t = getF 0 (.sts .CHAIN) s ∧ t.sent = out f.data.toNat t) ∧
    (¬bare → exec (.enum side f) s = .next { s with sent := out f.data.toNat s })

/-- A request that names no other device is judged and answered on the side it came from: one refused has no effect but its
count, one in the chain's own domain is carried out at once, and any other waits in its crossing (R34, R43, R45). A BWRITE
goes on, from the tail with its answer, and is judged and carried out the same way (R35, R40). What `settle` adds to an
access carried out is that crossings into domains it turned off end and that in-band records go on. (The model's own choices:
log 21, 22, 25.) -/
def Obligations.RequestIsAnsweredOrCrosses : Prop :=
  let runs := fun (c : Instr) (r : Req) (op : Nat) (s t : State) =>
    (∀ k, earlyCode r op t = some k → exec c s = .next (answer r op k 0 t)) ∧
    (earlyCode r op t = none → accessDomain op r.addr.toNat ≠ 3 →
      exec c s = .next { t with access := [{ req := r, op := op, crossing := true }] }) ∧
    (earlyCode r op t = none → accessDomain op r.addr.toNat = 3 → ∀ code data u,
      performOp { req := r, op := op, crossing := false } t = (code, data, u) →
      exec c s = .next (settle (answer r op code data u)) ∧
      (Quiet (answer r op code data u) → exec c s = .next (answer r op code data u)))
  (∀ (r : Req) (side : Side) (op : Nat) (s t : State) (c : Instr),
    (c, op) ∈ [(Instr.read r, opRead), (.write r, opWrite), (.claim r, opClaim)] →
    r.src = .chain side → s.acting = true → r.dest.toNat = chainAddr s → chainAddr s ≠ 0 → Quiet s →
    t = consumeFrame r.src s → runs c r op s t) ∧
  (∀ (f : Frame) (side : Side) (s : State), s.forwarding = true →
    (actsOn f s = false → exec (.bwrite side f) s = .next { s with sent := .chain (Side.other side) f :: s.sent }) ∧
    (actsOn f s = true → Quiet s →
      runs (.bwrite side f) ⟨.chain side, f.dest, f.mtag, f.tag, f.addr, f.data⟩ opBwrite s
        { s with sent := goesOn side f f s s }))

/-- An access that has crossed is carried out in the target domain and answered, and the master's next ones start; a
timed-out one is answered with code 6 and recorded; a timed-out read that resolves has no effect, and neither has a write
withdrawn in time, while a write that landed takes its effect and is recorded so (R45). The clock of the target runs.
(The model's own choices: log 22, 23.) -/
def Obligations.CrossingsEnd : Prop :=
  (∀ (a : Access) (s : State), s.access = [a] → a.crossing = true → s.timedOut = [] →
     (∀ p < 8, ∀ q ∈ (s.port p).lane.ib, q.todo = []) → domainOn (accessDomain a.op a.req.addr.toNat) s = true →
     (clocked s = true → ∀ u, u = landAccess a { s with access := [] } →
       exec (.domainCrossingDone a.req.mtag) s = .next (settle (startNext a.req.mtag.toNat (u.access.length + 1) u)) ∧
       (Quiet u → exec (.domainCrossingDone a.req.mtag) s = .next u)) ∧
     Completes (.domainTimeout a.req.mtag) s (fun t =>
       getF 0 .CHAIN_TO_ADDR t = a.req.addr.toNat ∧ getF 0 .CHAIN_TO_MTAG t = a.req.mtag.toNat ∧
       getF 0 .CHAIN_TO_VALID t = 1 ∧ getF 0 .CHAIN_TO_DONE t = 0 ∧ t.access = [] ∧ t.timedOut = [a])) ∧
  (∀ (a : Access) (landed : Bool) (s : State), s.timedOut = [a] → s.access = [] → clocked s = true →
     (∀ p < 8, ∀ q ∈ (s.port p).lane.ib, q.todo = []) →
     (a.op = opRead ∨ landed = false → Completes (.crossingResolved ⟨0, landed⟩) s fun t =>
       t.timedOut = [] ∧ getF 0 .CHAIN_TO_DONE t = 1 ∧ getF 0 .CHAIN_TO_LANDED t = 0 ∧ StsSet .CHAIN_TO_RESOLVED 0 t ∧
       KeepsMemory s t) ∧
     (a.op ≠ opRead → landed = true → domainOn (accessDomain a.op a.req.addr.toNat) s = true →
       ∀ u, u = (performOp a { s with timedOut := [] }).2.2 →
       exec (.crossingResolved ⟨0, landed⟩) s = .next (settle (sticky .CHAIN_TO_RESOLVED 0
         (setAll 0 [(.CHAIN_TO_DONE, 1), (.CHAIN_TO_LANDED, 1)] u)))))

/-! ### The Keeper -/

/-- The first CLAIM wins, when there is no Keeper or its lease has run out: its master becomes Keeper with a lease clamped to
10 to 10,000 ms and gets OK; a CLAIM of the Keeper renews the lease; any other, in sealed mode one without a valid nonce and
its right response, and one that a valid CLAIM of a lower tag meets in its cycle, gets NOT_KEEPER and changes nothing of the
ownership (R51, R55, R57). Power-on and system reset leave no Keeper, core reset leaves it as it is (R51). (The model's own
choices: log 45, 132.) -/
def Obligations.ClaimMakesKeeper : Prop :=
  (∀ (r : Req) (side : Side) (s : State), r.src = .chain side → s.acting = true → r.dest.toNat = chainAddr s →
    chainAddr s ≠ 0 → Quiet s →
    let m := r.mtag.toNat
    let ms := r.data.toNat % 2 ^ 14
    let lease := if ms = 0 then getF 0 .KEEPER_LEASE s else clampLease ms
    let passed := getF 0 .KEEPER_SEALED s ≠ 1 ∨ m ∈ s.nonces ∧ responseOk m s = true
    let answers := fun (code : Nat) (t : State) =>
      t.sent = .chain side (respFrame s m r.tag.toNat opClaim r.addr.toNat code 0) :: (consumeFrame r.src s).sent
    let unowned := keeper s = none ∨ s.leaseLeft = 0
    (passed → (unowned ∧ claimBeaten m s = false) ∨ (¬unowned ∧ keeper s = some m) → Completes (.claim r) s fun t =>
      keeper t = some m ∧ getF 0 .KEEPER_LEASE t = lease ∧ t.leaseLeft = lease * 125000 ∧ answers 0 t ∧
      (unowned → StsSet .KEEPER_KEEPER_CHANGED 0 t)) ∧
    (¬passed ∨ (¬unowned ∧ keeper s ≠ some m) ∨ (unowned ∧ claimBeaten m s = true) → Completes (.claim r) s fun t =>
      (¬unowned → keeper t = keeper s) ∧ (unowned → keeper t = none) ∧ t.leaseLeft = s.leaseLeft ∧
        getF 0 .KEEPER_LEASE t = getF 0 .KEEPER_LEASE s ∧ answers 3 t ∧
      Counted 0 (.KEEPER_VISIT_REJ m) s t) ∧
    (getF 0 .KEEPER_SEALED s = 1 → Completes (.claim r) s fun t => m ∉ t.nonces ∧
      (¬passed → m ∈ t.refused ∧ Counted 0 .KEEPER_SEAL_FAIL s t))) ∧
  (∀ (lodge : Bool) (s : State),
    Completes (.powerOnReset lodge) s (fun t => keeper t = none) ∧
    (s.clk.rstPend = some 2 → Completes .rstAssert s fun t => keeper t = none) ∧
    (s.clk.rstPend = some 1 → 6 ≤ s.clk.boot → Completes .rstAssert s fun t =>
      keeper t = keeper s ∧ t.leaseLeft = s.leaseLeft ∧ t.nominee = s.nominee))

/-- The lease (R53): HEARTBEAT of the Keeper restarts it; when it runs out the device has no Keeper, a nomination under way
ends TIMEOUT, and KEEPER_LOST sets, unless a HEARTBEAT or the nominee's ACCEPT falls in the same cycle (R57; the model's own
choices: log 132, 134). Handover (R54): NOMINATE starts for NTAG; ACCEPT of the nominee passes ownership and starts a new
lease, in sealed mode with a valid nonce and its right response alone (R55); any other ACCEPT ends REJECTED; 10 ms without
acceptance end NOMINATE TIMEOUT and the Keeper stays. -/
def Obligations.OwnershipLapsesOrPassesOn : Prop :=
  (∀ (w : Acc) (s : State),
     (Writes w .KEEPER 0 0x028 s → keeper s = some w.mtag.toNat → Completes (.heartbeat w) s fun t =>
       keeper t = keeper s ∧ t.leaseLeft = getF 0 .KEEPER_LEASE s * 125000) ∧
     ((keeper s).isSome = true → s.leaseLeft = 0 → heartbeatMeets s = false → acceptMeets s = false →
       Completes .leaseExpiry s fun t =>
       keeper t = none ∧ t.leaseLeft = 0 ∧ t.nominee = none ∧ getF 0 .KEEPER_KTAG t = 0 ∧ StsSet .KEEPER_KEEPER_LOST 0 t ∧
       (getF 0 .KEEPER_NOMINATE s = 1 → Ended 0 .KEEPER_NOMINATE ocTimeout t) ∧
       t.ports = s.ports ∧ t.pavs = s.pavs ∧ t.nvm = s.nvm ∧ KeepsMemory s t)) ∧
  (∀ (w : Acc) (s : State),
     let m := w.mtag.toNat
     let passed := getF 0 .KEEPER_SEALED s ≠ 1 ∨ m ∈ s.nonces ∧ responseOk m s = true
     (Starts w 0 .KEEPER_NOMINATE s → Completes (.nominate w) s fun t =>
       t.nominee = some (getF 0 .KEEPER_NTAG s) ∧ Runs 0 .KEEPER_NOMINATE t ∧ keeper t = keeper s) ∧
     (Starts w 0 .KEEPER_ACCEPT s → s.nominee = some m → passed → Completes (.accept w) s fun t =>
       keeper t = some m ∧ t.nominee = none ∧ t.leaseLeft = getF 0 .KEEPER_LEASE s * 125000 ∧
       getB m 0 Fld.KEEPER_ACCEPT.outcome t = ocDone ∧
       (getF 0 .KEEPER_NOMINATE s = 1 → Ended 0 .KEEPER_NOMINATE ocDone t)) ∧
     (Starts w 0 .KEEPER_ACCEPT s → s.nominee ≠ some m ∨ ¬passed → Completes (.accept w) s fun t =>
       keeper t = keeper s ∧ t.nominee = s.nominee ∧ t.leaseLeft = s.leaseLeft ∧
       getB m 0 Fld.KEEPER_ACCEPT.outcome t = ocRejected) ∧
     (s.nominee.isSome = true → Completes .nominateTimeout s fun t =>
       keeper t = keeper s ∧ t.nominee = none ∧ t.leaseLeft = s.leaseLeft ∧
       (getF 0 .KEEPER_NOMINATE s = 1 → Ended 0 .KEEPER_NOMINATE ocTimeout t)))

/-- Nonces (R55): NONCE_REQ places the fresh number in the master's own NONCE registers and binds it to that tag, unless a
failed check is less than 100 ms old; both run out. The device key (R56): KEY_PROGRAM takes KEY0 to KEY7 only while SEALED =
0; the matching read-back sets SEALED and ends DONE, a failed write ends FAILED_PLAUSIBILITY and leaves SEALED 0. (The
model's own choice: log 46.) -/
def Obligations.KeeperSecretsAreBound : Prop :=
  (∀ (w : Acc) (rand : BitVec 128) (m : BitVec 4) (s : State),
     (Starts w 0 .KEEPER_NONCE_REQ s → w.mtag.toNat ∉ s.refused → Completes (.nonceReq w rand) s fun t =>
       w.mtag.toNat ∈ t.nonces ∧ getB w.mtag.toNat 0 Fld.KEEPER_NONCE_REQ.outcome t = ocDone ∧
       ∀ i < 4, getB w.mtag.toNat 0 (.KEEPER_NONCE i) t = rand.toNat / 2 ^ (32 * (3 - i)) % 2 ^ 32) ∧
     (Starts w 0 .KEEPER_NONCE_REQ s → w.mtag.toNat ∈ s.refused → Completes (.nonceReq w rand) s fun t =>
       t.nonces = s.nonces ∧ getB w.mtag.toNat 0 Fld.KEEPER_NONCE_REQ.outcome t = ocRejected) ∧
     Completes (.nonceExpiry m false) s (fun t => m.toNat ∉ t.nonces ∧ { t with nonces := s.nonces } = s) ∧
     Completes (.nonceExpiry m true) s (fun t => m.toNat ∉ t.refused ∧ { t with refused := s.refused } = s)) ∧
  (∀ (w : Acc) (s : State),
     (Starts w 0 .KEEPER_KEY_PROGRAM s → getF 0 .KEEPER_SEALED s ≠ 1 → Completes (.keyProgram w) s fun t =>
       Runs 0 .KEEPER_KEY_PROGRAM t ∧ t.nvm.key = (List.range 8).map fun i => getF 0 (.KEEPER_KEY i) s) ∧
     (Starts w 0 .KEEPER_KEY_PROGRAM s → getF 0 .KEEPER_SEALED s = 1 → Completes (.keyProgram w) s fun t =>
       Ended 0 .KEEPER_KEY_PROGRAM ocRejected t ∧ t.nvm = s.nvm) ∧
     (getF 0 .KEEPER_KEY_PROGRAM s = 1 → Completes (.keyProgramDone true) s fun t =>
       getF 0 .KEEPER_SEALED t = 1 ∧ Ended 0 .KEEPER_KEY_PROGRAM ocDone t) ∧
     (getF 0 .KEEPER_KEY_PROGRAM s = 1 → Completes (.keyProgramDone false) s fun t =>
       getF 0 .KEEPER_SEALED t = getF 0 .KEEPER_SEALED s ∧ Ended 0 .KEEPER_KEY_PROGRAM ocImplausible t))

/-! ### Register rows -/

/-- A write of 1 to a command field that reads 0 starts that command alone and is answered OK, whatever becomes of the
command (R42, R82, R90); a command of a port is abandoned by a disable of its pavilion in the same cycle (R28).
(The model's own choices: log 25, 37, 132.) -/
def Obligations.CommandRowsStartTheirCommand : Prop :=
  ∀ (p : Fin 8) (n : Fin 4), ∀ row ∈ commandRows p n, ∀ (w : Acc) (s t : State),
    Starts w row.2.1 row.2.2 s → (row.2.2.blk ∈ portBlks → disableMeets (pavOf row.2.1) s = false) →
    t = startOwnCmd w.mtag.toNat row.2.1 row.2.2 (extOf (consumeFrame w.src s)) (consumeFrame w.src s) →
    exec (row.1 w) s =
      .next (settle (answer (reqOf w (blkBase row.2.2.blk row.2.1 + row.2.2.off)) opWrite 0 0 t))

/-- How a write meets a field (R82, R83), for fields on which a write acts by its value alone; a field given the value it has
is never ignored and takes no action, whatever its type. (The model's own choice: log 38.) -/
def Obligations.WriteIsJudgedByFieldType : Prop :=
  (∀ (m u : Nat) (f : Fld) (v : Nat) (s : State), actsAlways f = false → gateFixed f = false → v ≠ presentF m u f s →
     f.blk ≠ .DEBUG →
     let lock := getF u (.lock f.blk) s = 1
     (f.ty = .rw → lock → judgeF m u f v s = .locked) ∧
     (f.ty = .rw → ¬lock → enOf f.blk u s = 1 → judgeF m u f v s = .enabled) ∧
     (f.ty = .rw → ¬lock → enOf f.blk u s ≠ 1 → judgeF m u f v s = .store) ∧
     (f.ty = .lrw → f.off ≠ 0 → judgeF m u f v s = .store) ∧
     (f.ty = .lrw → f.off = 0 → judgeF m u f v s = if lock ∧ v = 0 then .locked else .store) ∧
     (f.ty = .wo1 → judgeF m u f v s = if getF u f s = f.base then .store else .locked) ∧
     (f.ty = .ro ∨ f.ty = .snap → judgeF m u f v s = .keep) ∧
     (f.ty = .cmd → judgeF m u f v s = if v = 1 then .start else .abort)) ∧
  (∀ (m u : Nat) (f : Fld) (s : State), actsAlways f = false → judgeF m u f (presentF m u f s) s = .keep)

/-- A write with an ignored field counts in COUNT, sets IGN_WRITE and records the first such write alone (R84). Hardware that
sets sticky bits advances SEQ, also for a bit that is set already (R85). Clears of BLK_STS, BLK_FIRST and BLK_IGN take effect
only with the present SEQ or COUNT; else CLR_MISS counts (R84, R85, R86). -/
def Obligations.IgnoredWritesAndClearsAreExact : Prop :=
  (∀ (b : Blk) (u mask : Nat) (s : State), u < blkUnits b → mask < 2 ^ 24 →
     getF u (.sts b) (setStsBits b u mask s) = (getF u (.sts b) s ||| mask) % 2 ^ 24 ∧
     getF u (.seq b) (setStsBits b u mask s) = (getF u (.seq b) s + 1) % 256) ∧
  (∀ (b : Blk) (u off m reason : Nat) (s : State), u < blkUnits b → off < 4096 → m < 16 → reason < 4 →
     let t := recordIgnored b u off m reason s
     getF u (.ignCount b) t = min (getF u (.ignCount b) s + 1) 255 % 256 ∧ bitOf (getF u (.sts b) t) 22 = true ∧
     (getF u (.ignValid b) s ≠ 1 → getF u (.ignValid b) t = 1 ∧ getF u (.ignReason b) t = reason ∧
       getF u (.ignMtag b) t = m ∧ getF u (.ignOffset b) t = off) ∧
     (getF u (.ignValid b) s = 1 → getF u (.ignOvf b) t = 1 ∧ getF u (.ignReason b) t = getF u (.ignReason b) s ∧
       getF u (.ignMtag b) t = getF u (.ignMtag b) s ∧ getF u (.ignOffset b) t = getF u (.ignOffset b) s)) ∧
  (∀ (b : Blk) (u : Fin 8) (w : Acc) (s : State), u.val < blkUnits b →
     let d := w.data.toNat
     let t0 := consumeFrame w.src s
     let miss := fun (t : State) => getF u (.clrMiss b) t = min (getF u (.clrMiss b) t0 + 1) 255 % 256 ∧
       getF u (.sts b) t = getF u (.sts b) t0 ∧ getF u (.seq b) t = getF u (.seq b) t0 ∧
       getF u (.firstValid b) t = getF u (.firstValid b) t0 ∧
       getF u (.ignValid b) t = getF u (.ignValid b) t0
     (Writes w b u 0x004 s → (irqLevel b u t0 = true → blkBase b u ∈ t0.irqOut) → Completes (.blkStsClear b u w) s fun t =>
       if d / 2 ^ 24 = getF u (.seq b) t0 then
         getF u (.sts b) t = (getF u (.sts b) t0 &&& (2 ^ 24 - 1 - d % 2 ^ 24)) % 2 ^ 24 ∧
           getF u (.seq b) t = getF u (.seq b) t0
       else miss t) ∧
     (Writes w b u 0x00C s → bitOf d 31 = true → Completes (.blkFirstClear b u w) s fun t =>
       if bitsOf d 8 8 = getF u (.seq b) t0 then getF u (.firstValid b) t = 0 ∧ getF u (.firstOvf b) t = 0 else miss t) ∧
     (Writes w b u 0x010 s → bitOf d 31 = true → Completes (.blkIgnClear b u w) s fun t =>
       if bitsOf d 16 8 = getF u (.ignCount b) t0 then
         getF u (.ignValid b) t = 0 ∧ getF u (.ignOvf b) t = 0 ∧ getF u (.ignCount b) t = 0
       else miss t))

/-- SNAP_CLR clears every counter of its block and CLR_MISS in one step and ends DONE (R95). A read of a counter's low word
captures the counter for that master alone, and leaves the counter as it is (R93, R94); a read of TX_SYM_CNT captures both
superframe counters for the master (R156). -/
def Obligations.CountersClearAndCapture : Prop :=
  (∀ (b : Blk) (u : Fin 8) (w : Acc) (f : Fld) (s : State), u.val < blkUnits b → f ∈ cmdFlds b →
     isSnapClr f = true → Starts w u f s → Completes (.snapClr b u w) s fun t =>
       (∀ c ∈ counterFlds b, getF u c t = 0) ∧ getF u (.clrMiss b) t = 0 ∧ Ended u f ocDone t) ∧
  (∀ (b : Blk) (u : Fin 8) (r : Acc) (f : Fld) (s : State), u.val < blkUnits b → f ∈ counterFlds b →
     Reads r b u f.off s → Completes (.counterLowRead (BitVec.ofNat 24 (blkBase b u + f.off)) r) s fun t =>
       let n := getF u f (consumeFrame r.src s)
       mapGet t.snaps (blkBase b u * 16 + r.mtag.toNat) = some (f.off, n) ∧ getF u f t = n ∧
       ∀ k, k ≠ blkBase b u * 16 + r.mtag.toNat → mapGet t.snaps k = mapGet s.snaps k) ∧
  (∀ (p : Fin 8) (r : Acc) (s : State), Reads r .TONES p 0x040 s → Completes (.txSymCntRead p r) s fun t =>
     getF p .TONES_TX_SYM_CNT t = getF p .TONES_TX_SYM_CNT s ∧
     mapGet t.caps (Fld.TONES_TX_SF_CNT.key p * 16 + r.mtag.toNat) = some (getF p .TONES_TX_SF_CNT s) ∧
     mapGet t.caps (Fld.TONES_RX_SF_CNT.key p * 16 + r.mtag.toNat) = some (getF p .TONES_RX_SF_CNT s))

/-- A table window (R97, R98): a read of word 0 captures the whole entry for the master and answers its first word; a word
other than the last is buffered on a write; the last one makes the entry take all its words; each access moves the
master's index on. -/
def Obligations.TableWindowsMoveTheirIndex : Prop :=
  ∀ (b : Blk) (u : Fin 8) (off entries words : Nat) (w : Acc) (s : State), u.val < blkUnits b →
    winShape b off = some (entries, words) →
    let m := w.mtag.toNat
    let t0 := consumeFrame w.src s
    let idx := getB m u (winIdx b off) s
    let e := bitsOf idx 0 16
    let i := bitsOf idx 16 4
    let next := fun (t : State) => getB m u (winIdx b off) t = nextIdx idx entries words % 2 ^ 32
    e < entries → i < words →
    (Reads w b u off s → i = 0 → Completes (.tableDataRead (BitVec.ofNat 24 (blkBase b u + off)) w) s fun t =>
      next t ∧ mapGet t.wcap (winKey m b u off) = some (e, entryWords b u off e t0)) ∧
    (Writes w b u off s → i + 1 < words → Completes (.tableDataWrite (BitVec.ofNat 24 (blkBase b u + off)) w) s fun t =>
      next t ∧ mapGet t.wbuf ((winKey m b u off * 65536 + e) * 16 + i) = some w.data.toNat ∧
      ∀ p, (t.port p).streams = (s.port p).streams ∧ (t.port p).oam = (s.port p).oam ∧ (t.port p).sig = (s.port p).sig) ∧
    (Writes w b u off s → i + 1 = words → b = .OAM → off = 0x024 →
      Completes (.tableDataWrite (BitVec.ofNat 24 (blkBase b u + off)) w) s fun t =>
        next t ∧ mapGet (t.port u).oam.txBuf (16 * e + i) = some w.data.toNat)

/-! ### Time and the hop delay -/

/-- SET and STEP start and run until the next ROOT cycle, or end ABORTED in the cycle of a TIMESET; a value out of range is
REJECTED. In that cycle SET loads the time with fraction 0 and ends DONE, and STEP adds its signed nanoseconds. A read of
NOW_NS answers the nanoseconds and captures the rest of the time for that master (R100, R101). (The model's own choices: log
2, 50.) -/
def Obligations.DeviceTimeSetSteppedRead : Prop :=
  (∀ s : State, s.pending = [] → Quiet s → s.clk.timeRun = true →
    (getF 0 .TIME_SET s = 1 → getF 0 .TIME_STEP s ≠ 1 → getF 0 .TIME_SET_NS s ≤ 999999999 → ∃ t, step s = .next t ∧
      t.secs = (getF 0 .TIME_SET_SEC_LO s + getF 0 .TIME_SET_SEC_HI s * 2 ^ 32) % 2 ^ 48 ∧
      t.nanos = getF 0 .TIME_SET_NS s ∧ t.frac = 0 ∧ getF 0 .TIME_TIME_VALID t = 1 ∧ getF 0 .TIME_TIME_SRC t = 0 ∧
      StsSet .TIME_TIME_SET 0 t ∧ Ended 0 .TIME_SET ocDone t) ∧
    (∀ d : Int, d = signedOf 32 (getF 0 .TIME_STEP_NS s) → getF 0 .TIME_STEP s = 1 → getF 0 .TIME_SET s ≠ 1 →
      0 ≤ (nowNs s : Int) + 8 + d → (nowNs s : Int) + 8 + d < 2 ^ 48 * 1000000000 → nowNs s + 8 < 2 ^ 48 * 1000000000 →
      ∃ t, step s = .next t ∧ (nowNs t : Int) = nowNs s + 8 + d ∧ t.frac = s.frac % 2 ^ 16 ∧ Ended 0 .TIME_STEP ocDone t)) ∧
  ∀ (w : Acc) (s : State),
    (Starts w 0 .TIME_SET s → getF 0 .TIME_SET_NS s ≤ 999999999 → Completes (.setTime w) s fun t =>
      nowNs t = nowNs s ∧ t.frac = s.frac ∧ (s.clk.timesetAt ≠ some s.cycles → Runs 0 .TIME_SET t) ∧
      (s.clk.timesetAt = some s.cycles → Ended 0 .TIME_SET ocAborted t)) ∧
    (Starts w 0 .TIME_SET s → 999999999 < getF 0 .TIME_SET_NS s → Completes (.setTime w) s fun t =>
      nowNs t = nowNs s ∧ t.frac = s.frac ∧ Ended 0 .TIME_SET ocRejected t) ∧
    (∀ d : Int, d = signedOf 32 (getF 0 .TIME_STEP_NS s) → Starts w 0 .TIME_STEP s → d.natAbs < 1000000000 →
      0 ≤ (nowNs s : Int) + d → Completes (.stepTime w) s fun t =>
        nowNs t = nowNs s ∧ t.frac = s.frac ∧ (s.clk.timesetAt ≠ some s.cycles → Runs 0 .TIME_STEP t) ∧
        (s.clk.timesetAt = some s.cycles → Ended 0 .TIME_STEP ocAborted t)) ∧
    (∀ side, w.src = .chain side → Reads w .TIME 0 0x020 s → Completes (.nowNsRead w) s fun t =>
      t.sent = .chain side (respFrame s w.mtag.toNat w.tag.toNat opRead 0x9020 0 (s.nanos % 2 ^ 30)) ::
        (consumeFrame w.src s).sent ∧
      mapGet t.caps (Fld.TIME_NOW_SEC_LO.key 0 * 16 + w.mtag.toNat) = some (s.secs % 2 ^ 32) ∧
      mapGet t.caps (Fld.TIME_NOW_SEC_HI.key 0 * 16 + w.mtag.toNat) = some (s.secs / 2 ^ 32 % 2 ^ 16) ∧
      mapGet t.caps (Fld.TIME_NOW_FRAC.key 0 * 16 + w.mtag.toNat) = some s.frac ∧ nowNs t = nowNs s)

/-- A TIMESET of the Keeper sets the device's time to its value plus the hop delay in force, the part below 1 ns as fraction
(R66); another master's sets nothing and goes on unchanged. The hop delay (R65): a measurement leaves on XCA_O; its reflection
sets HOP_A to half the round trip less 32 ns; none within 2 µs clears it; lock that is lost sets the sticky bit of its side.
(The model's own choices: log 14, 31.) -/
def Obligations.ChainTimeAddsTheHopDelay : Prop :=
  (∀ (side : Side) (f : Frame) (s : State), actsOn f s = true → s.forwarding = true →
     (isKeeper f.mtag.toNat s = true →
       ∀ hop ns, hop = (if getF 0 .CHAIN_USE s = 1 then getF 0 .CHAIN_HOP_A_SET s else getF 0 .CHAIN_HOP_A s) →
       ns = (getF 0 .CHAIN_TS_SEC_HI s * 2 ^ 24 + f.addr.toNat) * 1000000000 + f.data.toNat % 2 ^ 30 + hop / 8 →
       Completes (.timeset side f) s fun t =>
         t.secs = ns / 1000000000 % 2 ^ 48 ∧ t.nanos = ns % 1000000000 ∧ t.frac = hop % 8 * 8192 ∧
         getF 0 .TIME_TIME_VALID t = 1 ∧ getF 0 .TIME_TIME_SRC t = 1 ∧ StsSet .TIME_TIME_SET 0 t ∧
         ∃ g, t.sent = goesOn side f g s t ∧ g.dest = f.dest ∧ g.mtag = f.mtag ∧ g.op = f.op ∧
           let left := (nowNs t * 8 + t.frac / 8192 + Config.fwdLat) / 8
           g.addr.toNat = left / 1000000000 % 2 ^ 24 ∧ g.data.toNat = left % 1000000000) ∧
     (isKeeper f.mtag.toNat s = false → exec (.timeset side f) s = .next { s with sent := goesOn side f f s s })) ∧
  (∀ (rtt : Nat) (side : Side) (s : State),
     (s.forwarding = true → getF 0 .CHAIN_LINK_A s = 1 →
       exec .hopMeasure s = .next { s with hopWait := true, sent := .hopSet .A true :: s.sent }) ∧
     (s.hopWait = true → 256 ≤ rtt → rtt < 65536 → Completes (.hopReflectionRx rtt) s fun t =>
       getF 0 .CHAIN_HOP_A t + 256 = rtt ∧ getF 0 .CHAIN_HOP_A_VALID t = 1 ∧ t.hopWait = false ∧
       OnlyFields [Fld.CHAIN_HOP_A.key 0, Fld.CHAIN_HOP_A_VALID.key 0] { s with hopWait := false } t) ∧
     (s.hopWait = true → Completes .hopReflectTimeout s fun t =>
       getF 0 .CHAIN_HOP_A t = 0 ∧ getF 0 .CHAIN_HOP_A_VALID t = 0 ∧ t.hopWait = false ∧
       OnlyFields [Fld.CHAIN_HOP_A.key 0, Fld.CHAIN_HOP_A_VALID.key 0] { s with hopWait := false } t) ∧
     (let link : Fld := match side with | .A => .CHAIN_LINK_A | .B => .CHAIN_LINK_B
      let lost : Sticky := match side with | .A => .CHAIN_LINK_A_LOST | .B => .CHAIN_LINK_B_LOST
      (getF 0 link s = 1 → Completes (.chainLockChange side false) s fun t => getF 0 link t = 0 ∧ StsSet lost 0 t) ∧
      (getF 0 link s ≠ 1 → Completes (.chainLockChange side true) s fun t =>
        getF 0 link t = 1 ∧ (side = .B → OnlyFields [link.key 0] s t))))

/-- A queued EVENT leaves as a frame that names the device, its Keeper and the block, toward the head (R64). A frame with a CRC
error is voided or completes the IDLE frame in its place, is counted on its input, and nothing else of it has an effect; a void
frame goes on as one (R41). (The model's own choice: log 29.) -/
def Obligations.EventsLeaveAndErrorsAreVoided : Prop :=
  (∀ (e : EventEntry) (rest : List EventEntry) (s : State), s.events = e :: rest → e.mtag < 8 → s.acting = true →
     chainAddr s ≠ 0 → isSet 0 .CHAIN_RING s = false →
     exec .eventTransmit s = .next { s with
       events := rest, sent := .chain .A (mkFrame (chainAddr s) e.mtag 6 0 e.addr e.data) :: s.sent }) ∧
  (∀ (side : Side) (f : Frame) (s : State), s.acting = true → s.forwarding = true →
     Completes (.crcErrorFrame side f) s fun t =>
       let err : Fld := match side with | .A => .CHAIN_CRC_ERR_A | .B => .CHAIN_CRC_ERR_B
       t.sent = (if replaced f s then .chain (Side.other side) idleFrame else .void (Side.other side)) :: s.sent ∧
       Counted 0 err s t ∧ StsSet .CHAIN_CRC_SEEN 0 t ∧
       (∀ b u g, (b, u) ∈ allBlks → g ∈ blkFlds b → b ≠ .CHAIN → getF u g t = getF u g s) ∧
       { t with fields := s.fields, tmr := s.tmr, irqOut := s.irqOut, events := s.events, injOpen := s.injOpen,
                latchAt := s.latchAt, faultAt := s.faultAt, sent := s.sent } = s) ∧
  (∀ (side : Side) (s : State), s.forwarding = true →
     exec (.voidFrame side) s = .next { s with sent := .void (Side.other side) :: s.sent })

/-! ### The post office and mode change -/

/-- Only a master's own write moves its CMD_PUT and EVT_GET; firmware takes a POSTED entry as EXECUTING and rejects any other
unexecuted (R52, R60). It completes an executing command: state DONE, a completion entry with its OUTCOME in the master's event
ring, EVT_PUT moved on; a command of a master that is not Keeper and would change something is REJECTED; as it goes firmware
writes the command's LEDGER (R59, R60, R63). (The model's own choices: log 48, 163.) -/
def Obligations.PostCommandsAreTakenAndCompleted : Prop :=
  (∀ (m : Fin 16) (w : Acc) (v : Nat) (s : State),
     (Sets w 0 (.POST_CMD_PUT m) v s → Completes (.cmdPut m w) s fun t => w.mtag.toNat = m ∧
       getF 0 (.POST_CMD_PUT m) t = v) ∧
     (Sets w 0 (.POST_EVT_GET m) v s → Completes (.evtGet m w) s fun t => w.mtag.toNat = m ∧
       getF 0 (.POST_EVT_GET m) t = v) ∧
     (coreRuns s = true → s.loader.fwRunning = true → getF 0 (.POST_CMD_GET m) s ≠ getF 0 (.POST_CMD_PUT m) s →
       (cmdsIn m 2 s).length < evtFree m s →
       let get := getF 0 (.POST_CMD_GET m) s
       let pos := get % 64
       (cmdState m pos s = 1 → Completes (.commandTake m) s fun t =>
         getF 0 (.POST_CMD_GET m) t = (get + 1) % 128 ∧ cmdState m pos t = 2 ∧
         ∀ a, (a < entryAt (2 * m.val) pos ∨ entryAt (2 * m.val) pos + 4 ≤ a) → readByte t.post a = readByte s.post a) ∧
       (cmdState m pos s ≠ 1 → Completes (.commandTake m) s fun t =>
         getF 0 (.POST_CMD_GET m) t = (get + 1) % 128 ∧ cmdState m pos t = 3 ∧
         getF 0 (.POST_EVT_PUT m) t = (getF 0 (.POST_EVT_PUT m) s + 1) % 128 ∧
         entryWord (2 * m.val + 1) (getF 0 (.POST_EVT_PUT m) s) 2 t = ocRejected))) ∧
  (∀ (m : Fin 16) (pos : Fin 64) (oc : BitVec 4) (changes : Bool) (results : List Word) (s : State),
     coreRuns s = true → s.loader.fwRunning = true → cmdState m pos s = 2 →
     Completes (.commandComplete m pos none changes results) s (fun t =>
       (ledgerOf m pos t = ((results.map BitVec.toNat ++ List.replicate 13 0).drop 9).take 4) ∧
       cmdState m pos t = 2 ∧ getF 0 (.POST_EVT_PUT m) t = getF 0 (.POST_EVT_PUT m) s ∧
       OnlyFields [] { s with post := t.post } t) ∧
     (evtFree m s ≠ 0 →
     let put := getF 0 (.POST_EVT_PUT m) s
     Completes (.commandComplete m pos (some oc) changes results) s fun t =>
       cmdState m pos t = 3 ∧ getF 0 (.POST_EVT_PUT m) t = (put + 1) % 128 ∧
       entryWord (2 * m.val + 1) put 0 t = 2 ^ 28 + entryWord (2 * m.val) pos 0 s % 2 ^ 16 ∧
       entryWord (2 * m.val + 1) put 2 t = (if changes = true ∧ isKeeper m s = false then ocRejected else oc.toNat) ∧
       ∀ a, (∀ ring ∈ [2 * m.val, 2 * m.val + 1], a < ring * 4096 ∨ (ring + 1) * 4096 ≤ a) →
         readByte t.post a = readByte s.post a))

/-- A mode change (R68 to R71): PREPARE of the Keeper begins the staging and goes on as it came; another master's makes
the frame not READY; COMMIT at least 1 ms ahead arms, a later one is missed; at T a complete staging is applied and one
that is not complete is missed. -/
def Obligations.ModeChangeStagesArmsApplies : Prop :=
  ∀ (side : Side) (f : Frame) (s : State), s.forwarding = true →
    (∀ gen, gen = f.data.toNat / 2 ^ 16 → actsOn f s = true → getF 0 .CHAIN_APPLIED_GEN s ≠ gen → s.staging = none →
      modeStageValid s = true → isKeeper f.mtag.toNat s = true → Completes (.prepare side f) s fun t =>
        (t.staging.map fun g => (g.gen, g.mask, g.complete, g.armed)) = some (gen, getF 0 .CHAIN_PORT_MASK s, false, none) ∧
        getF 0 .CHAIN_STAGED_GEN t = gen ∧ getF 0 .CHAIN_STAGED t = 0 ∧
        t.sent = goesOn side f (withData f f.data.toNat) s t) ∧
    (∀ gen, gen = f.data.toNat / 2 ^ 16 → actsOn f s = true → getF 0 .CHAIN_APPLIED_GEN s ≠ gen →
      isKeeper f.mtag.toNat s = false → Completes (.prepare side f) s fun t =>
        t.staging = s.staging ∧ ∃ g, t.sent = goesOn side f g s t ∧ bitOf g.data.toNat 0 = false ∧
          bitOf g.data.toNat 1 = true) ∧
    (∀ g d, s.staging = some g → g.dead = false → g.gen = bitsOf f.addr.toNat 8 16 → actsOn f s = true →
      getF 0 .CHAIN_APPLIED_GEN s ≠ g.gen → isKeeper f.mtag.toNat s = true →
      untilT (f.addr.toNat % 256) (f.data.toNat % 2 ^ 30) s = some d →
      (1000000 * 65536 ≤ d → Completes (.commit side f) s fun t => getF 0 .CHAIN_ARMED t = 1 ∧
        t.staging = some { g with armed := some (f.addr.toNat % 256, f.data.toNat % 2 ^ 30) }) ∧
      (d < 1000000 * 65536 → Completes (.commit side f) s fun t => t.staging = s.staging ∧
        StsSet .CHAIN_MODE_MISSED 0 t ∧ getF 0 .CHAIN_MISSED_GEN t = g.gen)) ∧
    (∀ g, coreRuns s = true → s.staging = some g → g.complete = false → g.dead = false →
      Completes .stagingComplete s fun t =>
      getF 0 .CHAIN_STAGED t = 1 ∧ t.staging = some { g with complete := true } ∧
      OnlyFields [Fld.CHAIN_STAGED.key 0] { s with staging := t.staging } t) ∧
    (∀ g, s.staging = some g → g.armed.isSome = true → g.dead = false → Quiet s → Completes .modeCommitT s fun t =>
      t.staging = none ∧ getF 0 .CHAIN_ARMED t = 0 ∧
      (g.complete = true → getF 0 .CHAIN_APPLIED_GEN t = g.gen % 2 ^ 16) ∧
      (g.complete = false → StsSet .CHAIN_MODE_MISSED 0 t ∧ getF 0 .CHAIN_MISSED_GEN t = g.gen % 2 ^ 16))

/-! ### Injection and faults -/

/-- Injection (R415, R416): writing INJ_ARM 1 starts ARM_TIME; its expiry clears INJ_ARM with DISARMED; FIRE opens a window
only while INJ_ARM is set and the block has the source with that class, else it ends REJECTED. A window of a corrected-class
fault ends: with nothing latched the fault is latched with INJ = 1, its source and detail, INJ_FIRED sets, and FIRE ends
DONE. -/
def Obligations.InjectionNeedsArmingAndIsRecorded : Prop :=
  (∀ (b : Blk) (u : Fin 8) (w : Acc) (s : State), u.val < blkUnits b →
     let src := getF u (.injSrc b) s
     let cls := getF u (.injClass b) s
     let detail := getF u (.injDetail b) s
     (Sets w 0 .INJ_INJ_ARM 1 s → Completes (.injArm w) s fun t =>
       getF 0 .INJ_INJ_ARM t = 1 ∧ t.armLeft = getF 0 .INJ_ARM_TIME s * 125000000) ∧
     (getF 0 .INJ_INJ_ARM s = 1 → Completes .armTimeExpiry s fun t =>
       getF 0 .INJ_INJ_ARM t = 0 ∧ t.armLeft = 0 ∧ StsSet .INJ_DISARMED 0 t) ∧
     (Starts w u (.fire b) s → getF 0 .INJ_INJ_ARM s = 1 → faultClass b src = some cls → detailOk b src detail = true →
       Completes (.fire b u w) s fun t => Runs u (.fire b) t ∧
         t.injOpen = (consumeFrame w.src s).injOpen ++ [(blkBase b u, cls, src, detail,
           mapGet (consumeFrame w.src s).faultAt (blkBase b u) == some s.cycles)] ∧
         getF 0 .INJ_LAST_BLOCK t = blkBase b u ∧ getF 0 .INJ_LAST_VALID t = 1) ∧
     (Starts w u (.fire b) s → getF 0 .INJ_INJ_ARM s ≠ 1 → Completes (.fire b u w) s fun t =>
       Ended u (.fire b) ocRejected t ∧ t.injOpen = (consumeFrame w.src s).injOpen)) ∧
  (∀ (b : Blk) (u : Fin 8) (src detail : Nat) (s : State), u.val < blkUnits b → b ≠ .INJ → faultClass b src = some 0 →
    src < 256 → detail < 256 →
     s.injOpen = [(blkBase b u, 0, src, detail, false)] → getF u (.firstValid b) s ≠ 1 → getF u (.fire b) s = 1 →
     Completes (.injectionWindowEnd b u) s fun t =>
       t.injOpen = [] ∧ getF u (.firstValid b) t = 1 ∧ getF u (.firstInj b) t = 1 ∧ getF u (.firstSrc b) t = src ∧
       getF u (.firstDetail b) t = detail ∧ getF u (.firstClass b) t = 0 ∧
       bitOf (getF u (.sts b) t) (faultBit b src) = true ∧ StsSet .INJ_INJ_FIRED 0 t ∧ Ended u (.fire b) ocDone t)

/-- A corrected fault of a listed source latches BLK_FIRST when nothing is latched and sets OVF otherwise, of two faults of
one cycle and class the lower SRC standing; it sets its sticky bit, and changes no other state than registers, interrupt
outputs, events and open injection windows (R406, R412). A fatal fault (R408) latches, RSTC records its block; routed nowhere
else it resets the system, so that the device has no Keeper and does not act on the chain until ROOT qualifies again (R441).
(The model's own choice: log 132.) -/
def Obligations.FaultsActByTheirClass : Prop :=
  (∀ (b : Blk) (u : Fin 8) (src detail : Byte) (s : State), u.val < blkUnits b → domainOn (blkDomain b u) s = true →
     faultClass b src.toNat = some 0 → (b ≠ .NVMC ∨ src.toNat ≠ 0x12) →
     Completes (.faultDetect b u src detail) s fun t =>
       bitOf (getF u (.sts b) t) (faultBit b src.toNat) = true ∧
       (getF u (.firstValid b) s ≠ 1 → getF u (.firstValid b) t = 1 ∧
         (getF u (.firstSrc b) t = src.toNat ∨ getF u (.firstSrc b) t = 1)) ∧
       (getF u (.firstValid b) s = 1 → mapGet s.latchAt (blkBase b u) ≠ some s.cycles →
         getF u (.firstOvf b) t = 1 ∧ getF u (.firstSrc b) t = getF u (.firstSrc b) s) ∧
       (getF u (.firstValid b) s = 1 → mapGet s.latchAt (blkBase b u) = some s.cycles → getF u (.firstClass b) s = 0 →
         src.toNat < getF u (.firstSrc b) s →
         getF u (.firstOvf b) t = 1 ∧ (getF u (.firstSrc b) t = src.toNat ∨ getF u (.firstSrc b) t = 1)) ∧
       { t with fields := s.fields, tmr := s.tmr, irqOut := s.irqOut, events := s.events, injOpen := s.injOpen,
                latchAt := s.latchAt, faultAt := s.faultAt } = s) ∧
  (∀ (b : Blk) (src detail : Byte) (s : State), faultClass b src.toNat = some 2 → domainOn (blkDomain b 0) s = true →
     routedToCore b src.toNat s = false → Completes (.fatalFault b src detail) s fun t =>
       getF 0 .RSTC_FATAL_BLOCK t = blkBase b 0 ∧ getF 0 .RSTC_FATAL_VALID t = 1 ∧
       bitOf (getF 0 .RSTC_CAUSE_MASK t) 6 = true ∧ t.clk.episode = true ∧ keeper t = none ∧ t.acting = false ∧
       t.forwarding = s.forwarding)

/-- Spares (R396, R397, R399, R21): a contained engine fault with AUTO_SUB = 1 marks the element and starts the
substitution; its end lets LOADING fall; a self-test counts, a second failure in a row marks the element, and the hourly
measurement shows DRIFT and its grade. All this runs on clocks derived from ROOT (R369). (The model's own choice: log 119.) -/
def Obligations.SparesServePavilions : Prop :=
  ∀ (n : Fin 4) (detail : Fin 3) (index : Nat) (drift tj : BitVec 8) (s : State), domainOn (6 + n.val) s = true →
    clocked s = true → disableMeets n s = false →
    (getF n .PAV_WEAR_AUTO_SUB s = 1 → getF n .PAV_CTL_ENABLED s = 1 → (s.pav n).disabling = false →
      Completes (.autoSubstitution n .engine detail) s fun t =>
        getF n .PAV_CTL_LOADING t = 1 ∧ (t.pav n).subRun = true) ∧
    ((s.pav n).subRun = true → Completes (.substitutionDone n) s fun t =>
      getF n .PAV_CTL_LOADING t = 0 ∧ (t.pav n).subRun = false) ∧
    (index < getF n .ENGPOOL_ENG_IDLE s → Completes (.selftestKernelDone n .engine index true) s fun t =>
      Counted n .PAV_WEAR_SELFTESTS s t ∧
      (.engine, index) ∉ (t.pav n).fails ∧ t.nvm = s.nvm) ∧
    (index < getF n .ENGPOOL_ENG_IDLE s → (.engine, index) ∈ (s.pav n).fails →
      Completes (.selftestKernelDone n .engine index false) s fun t =>
        Counted n .PAV_WEAR_SELFTEST_FAILS s t ∧ ∃ m ∈ t.nvm.marks, m.pav = n ∧ m.elem = .engine ∧ m.index = some index) ∧
    Completes (.wearMeasure n drift tj) s (fun t =>
      getF n .PAV_WEAR_DRIFT t = drift.toNat ∧ getF n .PAV_WEAR_TJ t = tj.toNat ∧
      getF n .PAV_WEAR_WEAR_GRADE t = if drift.toNat < 20 then 0 else if drift.toNat < 40 then 1
        else if drift.toNat < 60 then 2 else 3)

/-! ### Loader and firmware -/

/-- The image buffer (R110): LOAD_DATA stores its word at LOAD_OFS of the area, most significant byte first, and LOAD_OFS
moves on by 4; outside the area or while the area is read the word is lost with BUF_WRITE_LOST. VERIFY (R112) starts on a
RECEIVED area; with every check passed the area becomes VERIFIED and VERIFY ends DONE, otherwise the code of the first failed
check stands in VERIFY_REASON and VERIFY ends FAILED_PLAUSIBILITY. (The model's own choices: log 51, 163.) -/
def Obligations.ImagesAreLoadedAndVerified : Prop :=
  (∀ (w : Acc) (a ofs : Nat) (s : State), Writes w .LAYOUT 0 0x024 s → getF 0 (.en .LAYOUT) s = 1 →
     a = getF 0 .LAYOUT_LOAD_AREA s → ofs = getF 0 .LAYOUT_LOAD_OFS s →
     (a < s.loader.mem.length → ofs < areaSize a → areaRead a s = false → Completes (.loadData w) s fun t =>
       readWord (areaMem a t) ofs = w.data.toNat ∧ getF 0 .LAYOUT_LOAD_OFS t = (ofs + 4) % 2 ^ 23 ∧
       ∀ x, (x < ofs ∨ ofs + 4 ≤ x) → readByte (areaMem a t) x = readByte (areaMem a s) x) ∧
     (areaSize a ≤ ofs ∨ areaRead a s = true → Completes (.loadData w) s fun t =>
       StsSet .LAYOUT_BUF_WRITE_LOST 0 t ∧ t.loader = s.loader ∧ getF 0 .LAYOUT_LOAD_OFS t = ofs)) ∧
  (∀ (w : Acc) (contents : Option Layout) (s : State),
     (Starts w 0 .LAYOUT_VERIFY s → getF 0 (.en .LAYOUT) s = 1 → areaState (getF 0 .LAYOUT_VER_AREA s) s = 1 →
       loaderBusy s = false → Completes (.verify w) s fun t =>
         Runs 0 .LAYOUT_VERIFY t ∧ t.loader.verArea = getF 0 .LAYOUT_VER_AREA s) ∧
     (coreRuns s = true → getF 0 .LAYOUT_VERIFY s = 1 → Completes (.verifyDone contents) s fun t =>
       let r := judgeImage s.loader.verArea (areaMem s.loader.verArea s) contents s
       (r = 0 → Ended 0 .LAYOUT_VERIFY ocDone t ∧ areaState s.loader.verArea t = 2) ∧
       (r ≠ 0 → Ended 0 .LAYOUT_VERIFY ocImplausible t ∧ getF 0 .LAYOUT_VERIFY_REASON t = r % 16 ∧
         StsSet .LAYOUT_VERIFY_FAIL 0 t ∧ areaState s.loader.verArea t = areaState s.loader.verArea s)))

/-- STAGE and APPLY (R113, R114, R115): each starts on the masked pavilions in ascending order, APPLY where EN was 0 before
this cycle, an EN written in it waiting; the last copy ends STAGE DONE with its pavilion STAGED; the last commit makes the
staged bank active, the ledger APPLIED, and ends APPLY DONE. (The model's own choices: log 52, 163.) -/
def Obligations.StageAndApplyInOrder : Prop :=
  ∀ (w : Acc) (n : Fin 4) (img : Nat × Nat × Layout) (s : State), getF 0 (.en .LAYOUT) s = 1 →
    (Starts w 0 .LAYOUT_STAGE s → areaState 0 s = 2 → loaderBusy s = false →
      (∀ k ∈ masked (getF 0 .LAYOUT_STG_MASK s), domainOn (6 + k) s = true) → masked (getF 0 .LAYOUT_STG_MASK s) ≠ [] →
      Completes (.stage w) s fun t => Runs 0 .LAYOUT_STAGE t ∧ t.loader.stageLeft = masked (getF 0 .LAYOUT_STG_MASK s)) ∧
    (Starts w 0 .LAYOUT_APPLY s → loaderBusy s = false → masked (getF 0 .LAYOUT_APP_MASK s) ≠ [] →
      (∀ k ∈ masked (getF 0 .LAYOUT_APP_MASK s),
        (getF k (.en .PAV_CTL) s ≠ 1 ∨ (s.pav k).enCycle = s.cycles) ∧ getF 0 (.LAYOUT_PHASE k) s = 3) →
      Completes (.apply w) s fun t => Runs 0 .LAYOUT_APPLY t ∧ t.loader.applyLeft = masked (getF 0 .LAYOUT_APP_MASK s) ∧
        ∀ k ∈ masked (getF 0 .LAYOUT_APP_MASK s), getF k (.en .PAV_CTL) s = 1 → (t.pav k).deferred = true) ∧
    (coreRuns s = true → s.loader.stageLeft = [n.val] → bufferLayout s = some img → domainOn (6 + n.val) s = true →
      Completes .stageCopyDone s fun t => (t.pav n).staged = some img ∧ getF 0 (.LAYOUT_PHASE n) t = 3 ∧
        t.loader.stageLeft = [] ∧ Ended 0 .LAYOUT_STAGE ocDone t) ∧
    (coreRuns s = true → s.loader.applyLeft = [n.val] → (s.pav n).staged = some img → Completes .applyCommit s fun t =>
      (t.pav n).active = some img ∧ (t.pav n).staged = none ∧ getF 0 (.LAYOUT_PHASE n) t = 4 ∧
      getF 0 (.LAYOUT_APPLIED_ID_LO n) t = img.1 % 2 ^ 32 ∧ getF 0 (.LAYOUT_APPLIED_SVN n) t = img.2.1 % 2 ^ 16 ∧
      t.loader.applyLeft = [] ∧ Ended 0 .LAYOUT_APPLY ocDone t)

/-- Firmware (R120, R121): FW_ACTIVATE of a VERIFIED area takes a core reset; the new firmware then runs on trial;
FW_CONFIRM ends the trial, and its expiry is a core reset. (The model's own choices: log 56, 163.) -/
def Obligations.FirmwareRunsOnTrial : Prop :=
  ∀ (w : Acc) (s : State), getF 0 (.en .LAYOUT) s = 1 →
    (Starts w 0 .LAYOUT_FW_ACTIVATE s → areaState 1 s = 2 → 6 ≤ s.clk.boot → s.clk.episode = false →
      Completes (.fwActivate w) s fun t => t.loader.actPending = true ∧ t.loader.fwRunning = false ∧
        t.clk.episode = true ∧ getF 0 .RSTC_CAUSE_MASK t = 2 ^ 9 ∧ keeper t = keeper s) ∧
    (coreRuns s = true → s.loader.actPending = true → s.clk.episode = false → Completes .fwActivateDone s fun t =>
      t.loader.fwRunning = true ∧ getF 0 .LAYOUT_TRIAL t = 1 ∧ t.loader.trialLeft = getF 0 .LAYOUT_FW_TRIAL s ∧
      getF 0 .BOOTF_FW_SRC t = 3 ∧ (getF 0 .LAYOUT_FW_ACTIVATE s = 1 → Ended 0 .LAYOUT_FW_ACTIVATE ocDone t)) ∧
    (Starts w 0 .LAYOUT_FW_CONFIRM s → getF 0 .LAYOUT_TRIAL s = 1 → Completes (.fwConfirm (some w)) s fun t =>
      getF 0 .LAYOUT_TRIAL t = 0 ∧ Ended 0 .LAYOUT_FW_CONFIRM ocDone t) ∧
    (coreRuns s = true → getF 0 .LAYOUT_TRIAL s = 1 → 6 ≤ s.clk.boot → Completes .fwTrialExpiry s fun t =>
      getF 0 .LAYOUT_TRIAL t = 0 ∧ t.loader.fwRunning = false ∧ bitOf (getF 0 .RSTC_CAUSE_MASK t) 10 = true)

/-- The rollback counter never falls and rises to the lowest SVN in use; the OEM key is programmed once (R106, R108).
FLASH_PROG (R111): the region is erased at once; each sector is an abort point, and the last makes the region hold the image
and ends DONE, with ABORT_LATE where an abort waits. (The model's own choices: log 51, 163.) -/
def Obligations.RollbackRisesAndFlashHoldsWholeImages : Prop :=
  (∀ (w : Acc) (s : State), getF 0 (.en .LAYOUT) s = 1 → loaderBusy s = false →
     (Starts w 0 .LAYOUT_ROLLBACK_RAISE s → getF 0 .BOOTF_FW_SRC s ≠ 0 → getF 0 .LAYOUT_FW_SVN s < 2 ^ 16 →
       Completes (.rollbackRaise w) s fun t =>
         let low := (((List.range 4).filter fun n => getF 0 (.LAYOUT_PHASE n) s != 0).map fun n =>
           getF 0 (.LAYOUT_APPLIED_SVN n) s).foldl min (getF 0 .LAYOUT_FW_SVN s)
         getF 0 .LAYOUT_RB_COUNTER t = max (getF 0 .LAYOUT_RB_COUNTER s) low ∧ Ended 0 .LAYOUT_ROLLBACK_RAISE ocDone t) ∧
     (Starts w 0 .LAYOUT_OEM_PROGRAM s → getF 0 .LAYOUT_OEM_SET s ≠ 1 → Completes (.oemProgram w) s fun t =>
       getF 0 .LAYOUT_OEM_SET t = 1 ∧ Ended 0 .LAYOUT_OEM_PROGRAM ocDone t ∧
       t.nvm.oemHash = (List.range 8).map fun i => getF 0 (.LAYOUT_OEM_HASH i) s) ∧
     (Starts w 0 .LAYOUT_OEM_PROGRAM s → getF 0 .LAYOUT_OEM_SET s = 1 → Completes (.oemProgram w) s fun t =>
       Ended 0 .LAYOUT_OEM_PROGRAM ocRejected t ∧ t.nvm = s.nvm)) ∧
  (∀ (w : Acc) (s : State),
     (Starts w 0 .BOOTF_FLASH_PROG s → getF 0 (.en .BOOTF) s = 1 → areaState (getF 0 .BOOTF_PROG_AREA s) s = 2 →
       let dest := 2 * getF 0 .BOOTF_PROG_SLOT s + getF 0 .BOOTF_PROG_AREA s
       Completes (.flashProg w) s fun t => Runs 0 .BOOTF_FLASH_PROG t ∧ mapGet t.loader.flash dest = none ∧
         t.loader.flashDest = dest) ∧
     (coreRuns s = true → getF 0 .BOOTF_FLASH_PROG s = 1 → s.loader.flashSector ≤ 1 → Completes .flashSectorDone s fun t =>
       (mapGet t.loader.flash s.loader.flashDest).map (·.bytes) = some (areaMem (s.loader.flashDest % 2) s) ∧
       Ended 0 .BOOTF_FLASH_PROG ocDone t ∧
       (s.loader.flashAbort = true → getF 0 Fld.BOOTF_FLASH_PROG.abortLate t = 1)) ∧
     (coreRuns s = true → getF 0 .BOOTF_FLASH_PROG s = 1 → 1 < s.loader.flashSector → s.loader.flashAbort = false →
       Completes .flashSectorDone s fun t => t.loader.flash = s.loader.flash ∧
         (∃ k, t.sent = .flash (flashBase s.loader.flashDest) k :: s.sent) ∧
         t.loader.flashSector + 1 = s.loader.flashSector ∧ getF 0 .BOOTF_FLASH_PROG t = 1) ∧
     (coreRuns s = true → getF 0 .BOOTF_FLASH_PROG s = 1 → 1 < s.loader.flashSector → s.loader.flashAbort = true →
       Completes .flashSectorDone s fun t => t.loader.flash = s.loader.flash ∧ Ended 0 .BOOTF_FLASH_PROG ocAborted t))

/-! ### Resets -/

/-- System and power-on reset leave no Keeper, and the device does not act on the chain until ROOT qualifies again; system
reset leaves the forwarding outputs as they are, power-on reset stops them; each source records its bit (R51, R354, R355,
R441). (The model's own choice: log 61.) -/
def Obligations.ResetsForgetTheKeeper : Prop :=
  ∀ (lodge taken : Bool) (rail : Rail) (ns : Nat) (s : State),
    let gone := fun (bit : Nat) (t : State) => keeper t = none ∧ t.acting = false ∧ t.clk.episode = true ∧
      bitOf (getF 0 .RSTC_CAUSE_MASK t) bit = true ∧ t.pending = s.pending ∧ t.access = [] ∧ t.ports = [] ∧ t.pavs = []
    Completes (.powerOnReset lodge) s (fun t => gone 0 t ∧ t.forwarding = false) ∧
    (rail ≠ .vbak → Completes (.brownOut rail lodge) s fun t => gone 1 t ∧ t.forwarding = false) ∧
    (4000 ≤ ns → Completes (.resetN ns taken) s fun t => gone 2 t ∧ t.forwarding = s.forwarding) ∧
    (1000 ≤ ns → taken = true → Completes (.resetN ns taken) s fun t => gone 2 t ∧ t.forwarding = s.forwarding) ∧
    (ns < 1000 → exec (.resetN ns taken) s = .next s) ∧
    (s.clk.rstPend = some 2 → Completes .rstAssert s fun t => gone 3 t ∧ t.forwarding = s.forwarding ∧
      (getF 0 .RSTC_RST_GO s = 1 → Ended 0 .RSTC_RST_GO ocDone t)) ∧
    (getF 0 .DEBUG_DBG_RST_EN s = 1 → s.clk.tap = 1 → getF 0 .DEBUG_TAP_IR s = 0xE0 →
      Completes .dbgReset s fun t => gone 8 t ∧ t.forwarding = s.forwarding)

/-- A core reset stops firmware and its commands, discards a staging that is not complete, and leaves the Keeper, the ports
and the chain as they are (R51, R69, R354, R359). RST_GO answers first and asserts later; the watchdog's words are written by
firmware alone; the end of an episode enters it in the Lodge's cause ring and sets RESET_SEEN (R357, R358, R359, R365), and
FW_REVERTED where a trial failed in it (R121). (The model's own choices: log 56, 62, 125, 163.) -/
def Obligations.CoreResetsAndEpisodes : Prop :=
  (∀ s : State, 6 ≤ s.clk.boot →
     let core := fun (bit : Nat) (t : State) => keeper t = keeper s ∧ t.nominee = s.nominee ∧ t.acting = s.acting ∧
       t.loader.fwRunning = false ∧ t.clk.boot = 6 ∧ getF 0 .INJ_INJ_ARM t ≠ 1 ∧
       (∀ g, s.staging = some g → g.complete = false → g.armed = none → t.staging = none) ∧
       bitOf (getF 0 .RSTC_CAUSE_MASK t) bit = true ∧ (getF 0 .LAYOUT_VERIFY s = 1 → Ended 0 .LAYOUT_VERIFY ocInterrupted t)
     (getF 0 .RSTC_WDT_EN s = 1 → domainOn 1 s = true → Completes .watchdogExpiry s (core 5)) ∧
     (s.clk.rstPend = some 1 → Completes .rstAssert s (core 4))) ∧
  (∀ (w : Acc) (en : Bool) (time : BitVec 12) (s : State),
     (Starts w 0 .RSTC_RST_GO s → (getF 0 .RSTC_RST_LEVEL s = 1 ∨ getF 0 .RSTC_RST_LEVEL s = 2) →
       Completes (.rstGo w) s fun t => Runs 0 .RSTC_RST_GO t ∧ t.clk.rstPend = some (getF 0 .RSTC_RST_LEVEL s) ∧
         t.clk.episode = s.clk.episode) ∧
     (coreRuns s = true → s.loader.fwRunning = true →
       Completes (.wdtKick en time) s fun t => getF 0 .RSTC_WDT_EN t = ofBool en ∧
       getF 0 .RSTC_WDT_TIME t = time.toNat ∧ OnlyFields [Fld.RSTC_WDT_EN.key 0, Fld.RSTC_WDT_TIME.key 0] s t) ∧
     (s.clk.episode = true → getF 0 .RSTC_WIDEST s ≠ 1 → Completes .resetEpisodeEnd s fun t =>
       t.clk.episode = false ∧ t.clk.boot = 1 ∧ StsSet .RSTC_RESET_SEEN 0 t ∧
       (getF 0 .RSTC_CAUSE_MASK s + getF 0 .RSTC_WIDEST s * 2 ^ 16, getF 0 .LODGE_RESET_COUNT s) ∈ t.causes) ∧
     (s.clk.episode = true → getF 0 .RSTC_WIDEST s = 1 → s.clk.fatalCore = false → Completes .resetEpisodeEnd s fun t =>
       t.clk.episode = false ∧ StsSet .RSTC_RESET_SEEN 0 t ∧ t.loader.reverted = false ∧
       (s.loader.reverted = true → StsSet .LAYOUT_FW_REVERTED 0 t) ∧
       (getF 0 .RSTC_CAUSE_MASK s + 2 ^ 16, getF 0 .LODGE_RESET_COUNT s) ∈ t.causes))

/-! ### Start-up, clocks, power -/

/-- Start-up step by step (R360, R362, R391): BOSC qualifies and at power-on the strap is measured; ROOT qualifies and the
device acts on the chain; the PLLs lock; NVM is read and the boot ROM enables LAYOUT; firmware starts from the preferred
slot. (The model's own choices: log 53, 55, 57, 60, 163.) -/
def Obligations.StartUpInOrder : Prop :=
  ∀ (count : BitVec 6) (a b started : Bool) (n : Nat) (duty : Nat × Nat) (id : BitVec 24) (c : Nat × CalSet)
    (f : FlashImage) (s : State), s.clk.episode = false →
    (s.clk.boscStarting = true → s.clk.boot = 1 → s.clk.widest = 3 → Completes (.boscQualified count) s fun t =>
      getF 0 .CLKC_BOSC_QUAL t = 1 ∧ t.clk.boot = 3 ∧ getF 0 .RSTC_STRAP_COUNT t = count.toNat ∧
      getF 0 .RSTC_STRAP_CODE t = strapOf count.toNat) ∧
    (s.clk.boot = 3 → getF 0 .CHAIN_LINK_A s = 1 → Completes .rootQualified s fun t =>
      getF 0 .CLKC_ROOT_OK t = 1 ∧ t.acting = true ∧ t.forwarding = true ∧ t.clk.timeRun = true ∧ t.clk.boot = 4 ∧
      getF 0 .CHAIN_ROOT_SRC t = 0) ∧
    (4 ≤ s.clk.boot → getF 0 .PWRC_DEV_STATE s ≠ 3 → s.clk.rootPresent = true → Completes .pllLock s fun t =>
      getF 0 .CLKC_LPLL_LOCK t = 1 ∧ getF 0 .CLKC_HPLL_LOCK t = 1 ∧ t.clk.boot = max s.clk.boot 5 ∧
      getF 0 .CLKC_LPLL_SEL t = 1 - getF 0 .SPARE_LPLL_LEFT s ∧
      OnlyFields [Fld.CLKC_LPLL_SEL.key 0, Fld.CLKC_LPLL_LOCK.key 0, Fld.CLKC_HPLL_LOCK.key 0] { s with clk := t.clk } t) ∧
    (s.clk.boot = 5 → chooseSet a b s = some c → Completes (.nvmReadDone a b started n duty id) s fun t =>
      t.clk.boot = 6 ∧ getF 0 .NVMC_CAL_GEN t = c.2.gen % 2 ^ 32 ∧ getF 0 .NVMC_CAL_DEFAULTS t = 0 ∧
      getF 0 (.en .LAYOUT) t = 1 ∧ t.nvm.current = c.1) ∧
    (6 ≤ s.clk.boot → coreRuns s = true → s.loader.fwRunning = false → s.loader.actPending = false → strapFlash s = true →
      getF 0 .BOOTF_SLOT_PREF s = 0 → flashValid 0 1 s = some f → imgId f.bytes ∉ s.loader.fwFailed →
      Completes .firmwareStart s fun t => t.loader.fwRunning = true ∧ getF 0 .BOOTF_FW_SRC t = 1 ∧
        getF 0 .LAYOUT_FW_SVN t = imgSvn f.bytes % 2 ^ 16)

/-- Loss of ROOT (R368, R369, R370): device time stops and TIME_VALID falls; with BOSC qualified management enters SAFE; the
return restores ROOT_OK; past ROOT_HOLD, or with BOSC failing, a fatal fault of CLKC resets the system. Switches (R371): in
ring mode the root moves to port B and back to port A, each forced and counted; a line PLL that loses lock is replaced by its
spare. (The model's own choices: log 58, 59.) -/
def Obligations.RootLossReturnAndSwitches : Prop :=
  (∀ s : State,
     (s.clk.rootPresent = true → Completes .rootEdgeLoss s fun t => t.clk.rootPresent = false ∧ t.clk.timeRun = false ∧
       getF 0 .CLKC_ROOT_OK t = 0 ∧ getF 0 .TIME_TIME_VALID t = 0 ∧ StsSet .TIME_TIME_INVALID 0 t ∧
       Counted 0 .CLKC_ROOT_LOSSES s t) ∧
     (s.clk.rootPresent = true → getF 0 .CLKC_BOSC_QUAL s = 1 → Completes .rootMonitorBad s fun t =>
       t.clk.rootPresent = false ∧ t.clk.timeRun = false ∧ getF 0 .CLKC_ROOT_OK t = 0 ∧ getF 0 .TIME_TIME_VALID t = 0) ∧
     (s.clk.holdRun = true → s.clk.rootPresent = false → getF 0 .CLKC_BOSC_QUAL s = 1 → getF 0 .PWRC_DEV_STATE s ≠ 3 →
       Completes .safeEntry s fun t => getF 0 .CLKC_SAFE t = 1 ∧ StsSet .CLKC_CLK_LOSS 0 t) ∧
     (s.clk.holdRun = true → Completes .rootReturn s fun t => t.clk.holdRun = false ∧ t.clk.timeRun = true ∧
       getF 0 .CLKC_ROOT_OK t = 1 ∧ getF 0 .CLKC_SAFE t = 0 ∧ StsSet .CLKC_ROOT_RETURNED 0 t) ∧
     (s.clk.holdRun = true → s.clk.rootPresent = false → Completes .rootHoldExpiry s fun t =>
       getF 0 .RSTC_FATAL_BLOCK t = blkBase .CLKC 0 ∧ bitOf (getF 0 .RSTC_CAUSE_MASK t) 6 = true ∧ keeper t = none) ∧
     (s.clk.boscStarting = true → s.clk.episode = false → Completes .boscQualTimeout s fun t =>
       t.clk.boscSel = 1 - s.clk.boscSel ∧ getF 0 .RSTC_FATAL_BLOCK t = blkBase .CLKC 0 ∧ keeper t = none)) ∧
  (∀ s : State,
     (getF 0 .CHAIN_RING s = 1 → s.clk.rootPresent = true →
       (getF 0 .CHAIN_ROOT_SRC s = 0 → getF 0 .CHAIN_LINK_B s = 1 → Completes .rootSwitchB s fun t =>
         getF 0 .CHAIN_ROOT_SRC t = 1 ∧ StsSet .CHAIN_ROOT_ON_B 0 t ∧ StsSet .CLKC_CLK_FORCED 0 t ∧
         Counted 0 .CLKC_FORCED_SW s t) ∧
       (getF 0 .CHAIN_ROOT_SRC s = 1 → getF 0 .CHAIN_LINK_A s = 1 → Completes .rootSwitchA s fun t =>
         getF 0 .CHAIN_ROOT_SRC t = 0 ∧ StsSet .CLKC_CLK_FORCED 0 t)) ∧
     (getF 0 .CLKC_LPLL_LOCK s = 1 → getF 0 .SPARE_LPLL_LEFT s = 1 → Completes .linePllLockLoss s fun t =>
       getF 0 .CLKC_LPLL_SEL t = 1 ∧ getF 0 .SPARE_LPLL_LEFT t = 0 ∧ StsSet .SPARE_SPARE_USED 0 t ∧
       ∀ p < 8, stOf p s = stShow → s.clk.muted = false → stOf p t ≠ stShow))

/-- Power (R322, R373, R374, R375, R377): STATE_GO enters STATE_REQ and ends DONE once the domains have switched, ABORTED in
the cycle of a COMMIT's change of state; a gate of a pavilion, port or lane switches its domain; a wake detector latches
WAKE_SRC in DEEP, also one that fires in the cycle in which DEEP is entered, and WAKE_CLR clears it; a clock measurement runs
to its count or to TIMEOUT, and without its reference is REJECTED. The TAP (R382): TRST_N and five TCK edges with TMS high
lead to Test-Logic-Reset, where the instruction is IDCODE and TAP_RESET reads 1; the bits of IDCODE leave at TDO. The pins
(R322, R364, R369, R372): CLKOUTn runs only with CLKC EN, its OE and ROOT; the chain, the host lanes and a muted line drive
nothing; WAKE_N is low while WAKE_SRC names a port. (The model's own choices: log 65, 132, 162, 166.) -/
def Obligations.PowerStatesGatesAndTheTap : Prop :=
  (∀ (w : Acc) (d : Fin 38) (p : Fin 8) (v : Nat) (n : Word) (s : State),
     (Starts w 0 .PWRC_STATE_GO s → getF 0 .PWRC_STATE_REQ s ≠ 0 → s.clk.stateAt ≠ some s.cycles →
       (∀ m, s.clk.wakeWas ≠ some (m, s.cycles)) → Completes (.stateGo w) s fun t =>
       getF 0 .PWRC_DEV_STATE t = getF 0 .PWRC_STATE_REQ s % 4 ∧ Runs 0 .PWRC_STATE_GO t ∧ t.clk.switching = true) ∧
     (Starts w 0 .PWRC_STATE_GO s → getF 0 .PWRC_STATE_REQ s ≠ 0 → s.clk.stateAt = some s.cycles →
       Completes (.stateGo w) s fun t => getF 0 .PWRC_DEV_STATE t = getF 0 .PWRC_DEV_STATE s ∧
         Ended 0 .PWRC_STATE_GO ocAborted t) ∧
     (Starts w 0 .PWRC_STATE_GO s → getF 0 .PWRC_STATE_REQ s = 3 → s.clk.stateAt ≠ some s.cycles →
       s.clk.wakeWas = some (2 ^ p.val, s.cycles) → getF 0 .PWRC_WAKE_AUTO s ≠ 1 → Completes (.stateGo w) s fun t =>
         getF 0 .PWRC_DEV_STATE t = 3 ∧ bitOf (getF 0 .PWRC_WAKE_SRC t) p = true) ∧
     (s.clk.switching = true → Quiet s → gateWants 3 s = true → domainOn 3 s = true → getF 0 .PWRC_STATE_GO s = 1 →
       Completes .domainSwitchDone s fun t => t.clk.switching = false ∧ Ended 0 .PWRC_STATE_GO ocDone t) ∧
     (6 ≤ d.val → Sets w 0 (.PWRC_RUN_EN d) v s → Completes (.gate d w) s fun t =>
       getF 0 (.PWRC_RUN_EN d) t = v ∧ domainOn d t = gateWants d t) ∧
     (getF 0 .PWRC_DEV_STATE s = 3 → bitOf (getF 0 .PWRC_WAKE_EN s) p = true → Completes (.deepWakeDetect p) s fun t =>
       bitOf (getF 0 .PWRC_WAKE_SRC t) p = true ∧ StsSet .PWRC_WAKE 0 t) ∧
     (Starts w 0 .PWRC_WAKE_CLR s → Completes (.wakeClr w) s fun t =>
       getF 0 .PWRC_WAKE_SRC t = 0 ∧ Ended 0 .PWRC_WAKE_CLR ocDone t) ∧
     (∀ (runs : Bool) (u : State), u = modClk (fun c => { c with boscRuns := runs }) s → Starts w 0 .CLKC_MEAS_GO u →
       (measRef u = true → Completes (.measGo w runs) s fun t => Runs 0 .CLKC_MEAS_GO t ∧ t.clk.measRun = true) ∧
       (measRef u = false → Completes (.measGo w runs) s fun t =>
         Ended 0 .CLKC_MEAS_GO ocRejected t ∧ t.clk = u.clk)) ∧
     (s.clk.measRun = true → getF 0 .CLKC_MEAS_GO s = 1 →
       Completes (.measDone n) s (fun t => getF 0 .CLKC_MEAS_COUNT t = n.toNat ∧ Ended 0 .CLKC_MEAS_GO ocDone t) ∧
       Completes .measTimeout s (fun t => getF 0 .CLKC_MEAS_COUNT t = getF 0 .CLKC_MEAS_COUNT s ∧
         Ended 0 .CLKC_MEAS_GO ocTimeout t))) ∧
  (∀ (tms tdi : Bool) (s : State), domainOn 5 s = true →
     Completes (.tapTckEdge tms tdi true) s (fun t => t.clk.tap = 0 ∧ getF 0 .DEBUG_TAP_RESET t = 1 ∧
       getF 0 .DEBUG_TAP_IR t = 1 ∧
       OnlyFields [Fld.DEBUG_TAP_RESET.key 0, Fld.DEBUG_TAP_IR.key 0] { s with clk := { s.clk with tap := 0, tapShift := t.clk.tapShift } } t) ∧
     (∀ st ≤ 15, tapNext (tapNext (tapNext (tapNext (tapNext st true) true) true) true) true = 0) ∧
     Completes (.tapTckEdge tms tdi false) s (fun t => t.clk.tap = tapNext s.clk.tap tms ∧
       (s.clk.tap = 0 → tms = false → StsSet .DEBUG_TAP_ACTIVE 0 t ∧ getF 0 .DEBUG_TAP_RESET t = 0) ∧
       (s.clk.tap = 3 → getF 0 .DEBUG_TAP_IR s = 1 →
         t.clk.tapDr = (List.range 32).map fun i => bitOf (getF 0 .DEBUG_JTAG_IDCODE s) i) ∧
       (s.clk.tap = 4 → tdo s = some (s.clk.tapDr.headD false) ∧ t.clk.tapDr = s.clk.tapDr.tail ++ [tdi]))) ∧
  (∀ (p : Fin 8) (n : Fin 2) (s : State),
     (∀ div depth rate, clkOut n s = .clock div depth rate →
       getF 0 (.en .CLKC) s = 1 ∧ s.clk.rootPresent = true ∧ (div, depth, rate, 1) = clkOutSet n s) ∧
     (getF 0 (.en .CLKC) s = 1 → s.clk.rootPresent = false → extest s = false → clkOut n s = .low) ∧
     (wakePin s = .low → getF 0 .PWRC_WAKE_SRC s ≠ 0) ∧ (irqPin s = .low → irqLow s = true) ∧
     (getF 0 .CLKC_SAFE s = 1 → chainPin s = .electricalIdle ∧ lanePin p s ≠ .driven) ∧
     (getF p .TXSH_MUTED s = 1 → linePin p s = .highZ))

/-! ### Pavilions -/

/-- A pavilion (R30, R115, R117): EN written 1 with an image starts the load; its end sets ENABLED and counts; EN written 0
stops it and ENABLED falls when the disable is done; a deferred enable takes effect after the operation it waited for; a
pavilion without any image reports NOMATCH. (The model's own choices: log 54, 141, 143, 163.) -/
def Obligations.PavilionEnablesAndDisables : Prop :=
  ∀ (n : Fin 4) (w : Acc) (s : State),
    (Sets w n (.en .PAV_CTL) 1 s → getF n .PAV_CTL_ENABLED s ≠ 1 → (s.pav n).active.isSome = true →
      (s.pav n).disabling = false → applyRuns n s = false → (s.pav n).tiles = false →
      Completes (.pavEnable n w) s fun t => getF n (.en .PAV_CTL) t = 1 ∧ getF n .PAV_CTL_LOADING t = 1 ∧
        getF n .PAV_CTL_NO_IMAGE t = 0 ∧ getF n .PAV_CTL_ENABLED t ≠ 1) ∧
    (clocked s = true → getF n (.en .PAV_CTL) s = 1 → getF n .PAV_CTL_ENABLED s ≠ 1 → (s.pav n).active.isSome = true →
      (s.pav n).disabling = false → (s.pav n).deferred = false → domainOn (6 + n.val) s = true →
      gateWants (6 + n.val) s = true → domainOn (10 + n.val) s = true → applyRuns n s = false →
      getF n .PAV_CTL_NO_IMAGE s ≠ 1 →
      Completes (.pavEnableDone n) s fun t => getF n .PAV_CTL_ENABLED t = 1 ∧ getF n .PAV_CTL_LOADING t = 0 ∧
        StsSet .PAV_CTL_ENABLED_EVT n t ∧
        Counted n .PAV_CTL_ENABLES s t) ∧
    (Sets w n (.en .PAV_CTL) 0 s → getF n (.en .PAV_CTL) s = 1 → getF n (.lock .PAV_CTL) s ≠ 1 →
      Completes (.pavDisable n w) s fun t => getF n (.en .PAV_CTL) t = 0 ∧ (t.pav n).disabling = true ∧
        stOf (2 * n.val) t = stDisabled ∧ stOf (2 * n.val + 1) t = stDisabled) ∧
    (clocked s = true → (s.pav n).disabling = true → Completes (.pavDisableDone n) s fun t => getF n .PAV_CTL_ENABLED t = 0 ∧
      (t.pav n).disabling = false ∧ OnlyFields [Fld.PAV_CTL_ENABLED.key n] { s with pavs := t.pavs } t) ∧
    (clocked s = true → (s.pav n).deferred = true → (s.pav n).disabling = false → applyRuns n s = false →
      Completes (.pavEnableDeferred n) s fun t => (t.pav n).deferred = false ∧
        (getF n (.en .PAV_CTL) s = 1 → getF n .PAV_CTL_ENABLED s ≠ 1 → (s.pav n).active = none →
          getF n .PAV_CTL_NO_IMAGE t = 1)) ∧
    (coreRuns s = true → s.loader.fwRunning = true → domainOn (6 + n.val) s = true → (s.pav n).active = none →
      (findLayout n s = none → Completes (.pavilionBringup n) s fun t => getF 0 (.LAYOUT_NOMATCH n) t = 1 ∧
        StsSet .LAYOUT_LEDGER_NOMATCH 0 t ∧ (t.pav n).active = none) ∧
      ∀ img, findLayout n s = some img → Completes (.pavilionBringup n) s fun t => getF 0 (.LAYOUT_NOMATCH n) t = 0 ∧
        (t.pav n).active = some img.2)

/-! ### Ports and their links -/

/-- A port starts and stops (R153, R157, R158, R159): EN = 1 takes a port that may leave DISABLED to LINK_DOWN with cause 1;
a trunk port with its enables begins the link-up in HS_LISTEN; EN = 0 takes it to DISABLED; a transmit enable set to 0 mutes
the line and takes it to LINK_DOWN with cause 2; LINK_FAIL ends in LINK_DOWN while an enable is 0. (The model's own choices:
log 71, 72.) -/
def Obligations.PortsStartStopAndMute : Prop :=
  ∀ (p : Fin 8) (w : Acc) (by_ : MuteBy) (s : State),
    (Sets w p (.en .PORT_CTL) 1 s → getF p (.en .PORT_CTL) s ≠ 1 → stOf p s = stDisabled →
      mayLeaveDisabled p (setF p (.en .PORT_CTL) 1 s) = true → Completes (.portEnable p w) s fun t =>
        getF p (.en .PORT_CTL) t = 1 ∧ stOf p t = stLinkDown ∧ getF p .PORT_CTL_DOWN_CAUSE t = 1 ∧
        getF p .TXSH_MUTED t = 1) ∧
    (Sets w p (.en .PORT_CTL) 0 s → getF p (.en .PORT_CTL) s = 1 → getF p (.lock .PORT_CTL) s ≠ 1 →
      Completes (.portDisable p w) s fun t => getF p (.en .PORT_CTL) t = 0 ∧ stOf p t = stDisabled ∧
        getF p .PORT_CTL_ROLE t = 0 ∧ getF p .TXSH_MUTED t = 1) ∧
    (Sets w p (muteFld by_) 0 s → getF p (muteFld by_) s = 1 → getF p (.lock (muteFld by_).blk) s ≠ 1 →
      stOf p s ≠ stDisabled → stOf p s ≠ stLinkDown → Completes (.mute p by_ w) s fun t =>
        stOf p t = stLinkDown ∧ getF p .PORT_CTL_DOWN_CAUSE t = 2 ∧ StsSet .TXSH_MUTE_EVENT p t ∧
        getF p .TXSH_MUTED t = 1 ∧ getF p (muteFld by_) t = 0) ∧
    (Live p s → stOf p s = stLinkDown → txEnabled p s = true → s.clk.muted = false → (s.port p).link.waitSub = false →
      lineMode p s = 1 → getF p (.en .LINKUP) s = 1 → Completes (.linkupStart p) s fun t =>
        stOf p t = stListen ∧ Counted p .LINKUP_HS_STARTS s t ∧ getF p .TXSH_MUTED t = 1 ∧ getF p .PORT_CTL_ROLE t = 0) ∧
    (stOf p s = stLinkDown → txEnabled p s = false → exec (.linkupStart p) s = .next s) ∧
    (Live p s → stOf p s = stFail → txEnabled p s = false → Completes (.linkFailTimeout p) s fun t =>
      stOf p t = stLinkDown ∧ getF p .PORT_CTL_DOWN_CAUSE t = getF p .PORT_CTL_DOWN_CAUSE s)

/-- The handshake up to HS_CAP (R157, R159, R160, R162 to R167): frames go out on 24 tones of set A or B; HS_LISTEN turns to
HS_SEEK; a seek cycle sends the alert symbol and SEEK frames; a SEEK or CAP heard on a set the port listens to leads to
HS_CAP with the port's own CAP; a CAP is acknowledged; FULL_REQ is answered with a new CAP; a responder that hears set B
returns to HS_SEEK; a frame with a bad CRC does nothing; the bounds of both states end in LINK_FAIL. (The model's own
choices: log 73, 156, 168.) -/
def Obligations.HandshakeListensSeeksExchanges : Prop :=
  ∀ (p : Fin 8) (gap : Fin 7) (h : HsHead) (c : Cap) (uid port : Nat) (draw : BitVec 16) (s : State), Live p s →
    let l := (s.port p).link
    (∀ setB type seq payload, ∃ f tones bits, hsEmission p setB type seq payload s = .handshake p setB f tones bits ∧
      tones.map (·.1) = (List.range 24).map fun i => i + if setB then 77 else 43) ∧
    (stOf p s = stListen → Completes (.hsListenTimeout p) s fun t => stOf p t = stSeek ∧
      OnlyFields [Fld.PORT_CTL_STATE.key p, Fld.TXSH_MUTED.key p] s t) ∧
    (stOf p s = stSeek → getF p .TXSH_MUTED s ≠ 1 → Completes (.seekCycle p gap) s fun t => t.fields = s.fields ∧
      (t.port p).link.seekGap = some (s.cycles + 125576, s.cycles + 125576 + (2 + gap.val) * 15625) ∧
      ∃ sym, sym.kind = kAlert ∧ t.sent =
        List.replicate 15 (hsEmission p false 4 l.capSeq (beBytes 8 ownUid ++ beBytes 1 (p % 8)) s) ++ .symbol p sym :: s.sent) ∧
    (stOf p s = stSeek → Completes (.hsTimeout p) s fun t =>
      stOf p t = stFail ∧ getF p .PORT_CTL_DOWN_CAUSE t = 3 ∧ StsSet .LINKUP_HS_TIMEOUT p t) ∧
    (stOf p s = stCap → Completes (.hsCapTimeout p) s fun t =>
      stOf p t = stFail ∧ getF p .PORT_CTL_DOWN_CAUSE t = 7) ∧
    (stOf p s = stListen ∨ stOf p s = stSeek → listens p h.setB s = true → s.clk.muted = false → l.waitSub = false →
      (¬(uid = ownUid ∧ port = p.val) → hsOk h 4 (seekBytes uid port) = true →
        Completes (.seek ⟨p, h⟩ uid port draw) s fun t => stOf p t = stCap ∧ (t.port p).link.draw = draw.toNat ∧
          (t.port p).link.capSeq = (l.capSeq + 1) % 256 ∧ (t.port p).link.initiator = h.setB ∧
          t.sent = hsEmission p (!h.setB) 1 ((l.capSeq + 1) % 256) (capBytes (ownCap p t)) s :: s.sent) ∧
      (¬(c.uid = ownUid ∧ c.port = p.val) → hsOk h 1 (capBytes c) = true → Completes (.cap ⟨p, h⟩ c draw) s fun t =>
        stOf p t = stCap ∧ (t.port p).link.partner.isSome = true ∧
        getF p .LINKUP_PARTNER_UID_LO t = c.uid % 2 ^ 32 ∧ getF p .LINKUP_PARTNER_PERMIT t = c.permit % 2 ^ 4 ∧
        ∃ full own, t.sent = hsEmission p (!h.setB) 2 ((l.capSeq + 1) % 256) (ackBytes h.seq.toNat full) s ::
          hsEmission p (!h.setB) 1 ((l.capSeq + 1) % 256) own s :: s.sent)) ∧
    (hsOk h 1 (capBytes c) = false → exec (.cap ⟨p, h⟩ c draw) s = .next s) ∧
    (stOf p s = stListen ∨ (stOf p s = stSeek ∧ inGap p s = true) →
      (getF p .PORT_CTL_COMPAT_PERMIT s ≠ 0 → Completes (.dmePageDetect p) s fun t => stOf p t = stAn) ∧
      (getF p .PORT_CTL_COMPAT_PERMIT s = 0 → Completes (.dmePageDetect p) s fun t =>
        stOf p t = stOf p s ∧ StsSet .LINKUP_DME_SEEN p t)) ∧
    (stOf p s = stCap → l.capAcked = false → getF p .TXSH_MUTED s ≠ 1 → Completes (.capRepeat p) s fun t =>
      t.sent = hsEmission p (!l.initiator) 1 l.capSeq (capBytes (ownCap p s)) s :: s.sent ∧
      t.fields = s.fields ∧ (t.port p).link.capSeq = l.capSeq) ∧
    (stOf p s = stCap → listens p h.setB s = true → l.capSent = true → l.capSeq < 256 → getF p .TXSH_MUTED s ≠ 1 →
      hsOk h 2 (ackBytes (l.capSeq % 256) true) = true →
      Completes (.capAck ⟨p, h⟩ (BitVec.ofNat 8 l.capSeq) true draw) s fun t =>
        (t.port p).link.capFull = true ∧ (t.port p).link.capAcked = false ∧
        (t.port p).link.capSeq = (l.capSeq + 1) % 256 ∧
        t.sent = hsEmission p (!l.initiator) 1 ((l.capSeq + 1) % 256) (capBytes (ownCap p t)) s :: s.sent) ∧
    (stOf p s = stCap → l.initiator = false → h.setB = true → ¬(c.uid = ownUid ∧ c.port = p.val) →
      hsOk h 1 (capBytes c) = true → Completes (.cap ⟨p, h⟩ c draw) s fun t =>
        stOf p t = stSeek ∧ (t.port p).link.seekGap.isSome = true ∧ t.sent = s.sent)

/-- The end with the higher ROLE_PRI becomes master, with equal ones and no warm start the end with the higher DRAW; the master
takes the agreed profile and sends four STARTs; the other becomes slave and sends none; with no common profile the link fails
with cause 4 (R168 to R170). -/
def Obligations.CapabilitiesGiveRoleAndProfile : Prop :=
  ∀ (p : Fin 8) (h : HsHead) (c : Cap) (q : Nat) (draw : BitVec 16) (s : State), Live p s →
    let l := (s.port p).link
    let ce := max (rwF p .TXSH_CE_MIN s) c.ceMin
    let mine := permitOf (getF p .PORT_CTL_PERMIT s) ce
    let his := permitOf c.permit ce
    let pri := rwF p .LINKUP_ROLE_PRI s
    let ack := Instr.capAck ⟨p, h⟩ (BitVec.ofNat 8 l.capSeq) false draw
    stOf p s = stCap → l.capSent = true → l.heard = true → l.capSeq < 256 → l.partner = some c →
    c.listsOmitted = false → getF p .PORT_CTL_ROLE s = 0 → getF p .TXSH_MUTED s ≠ 1 → listens p h.setB s = true →
    hsOk h 2 (ackBytes (l.capSeq % 256) false) = true →
    (c.rolePri < pri ∨ (c.rolePri = pri ∧ warmOk p c s = false ∧ c.draw < l.draw) →
      agreeProfile mine (profileOf p s) his c.req = some q → Completes ack s fun t =>
      getF p .PORT_CTL_ROLE t = 1 ∧ profileOf p t = q % 4 ∧ getF p .PORT_CTL_PROF_VALID t = 1 ∧
      t.sent = List.replicate 4 (hsEmission p (!l.initiator) 3 l.capSeq [] s) ++ s.sent) ∧
    (pri < c.rolePri ∨ (c.rolePri = pri ∧ warmOk p c s = false ∧ l.draw < c.draw) →
      agreeProfile his c.req mine (profileOf p s) = some q → Completes ack s fun t =>
      getF p .PORT_CTL_ROLE t = 2 ∧ profileOf p t = q % 4 ∧ t.sent = s.sent) ∧
    (c.rolePri < pri → agreeProfile mine (profileOf p s) his c.req = none → Completes ack s fun t =>
      stOf p t = stFail ∧ getF p .PORT_CTL_DOWN_CAUSE t = 4)

/-- T1 and T2 (R170, R173 to R177, R205, R219): START begins T1 with nothing measured; windows follow one another, the hybrid
search in the first of the port's own; the last window leads to T2 with the verdict; a frequency off range and a partner that
failed fail the link; the slave's lock makes its next symbol a count mark, and a ranging mark is answered 16 symbols later;
eight equal round trips give the master TA, which it announces; the announced TA is taken by the slave; the probe gives COVER
and the CE, which both take at the symbol named. (The model's own choices: log 154, 155, 159.) -/
def Obligations.TrainingMeasuresEchoAndRange : Prop :=
  ∀ (p : Fin 8) (h : HsHead) (o : T1Meas) (x : RxSymbol) (erle : BitVec 12) (warmOk : Bool) (rtt ta sym first last his n code : Nat)
    (s : State), Live p s →
    let spread := last + 1 - first
    let l := (s.port p).link
    let g := (s.port p).sig
    let posts := fun (kind : Nat) (payload : List Byte) (t : State) => (s.port p).oam.cur = none →
      (s.port p).oam.queue = [] →
      (t.port p).oam.cur.map (fun m => (m.type, m.payload)) = some (trainType kind, payload)
    let next := (getF p .TONES_TX_SYM_CNT s + 1) % 2 ^ 24
    let puts := fun (kind : Nat) (t : State) => ∃ y, y.kind = kind ∧ t.sent = .symbol p y :: s.sent
    (stOf p s = stCap → getF p .PORT_CTL_ROLE s ≠ 0 → l.warm = false → s.nvm.portMarks = [] → s.nvm.portOos = [] →
      isMaster p s = true ∨ (hsOk h 3 [] = true ∧ listens p h.setB s = true) →
      Completes (.start ⟨p, h⟩) s fun t => stOf p t = stT1 ∧ (t.port p).link.window = 0 ∧ getF p .LINKUP_TA t = 0 ∧
        getF p .LINKUP_TA_VALID t = 0 ∧ getF p .TXSH_CE t = 3) ∧
    (stOf p s = stT1 → l.warm = false → l.window = 0 → isMaster p s = true → Completes (.t1WindowEnd p o) s fun t =>
      stOf p t = stT1 ∧ (t.port p).link.window = 1 ∧ (t.port p).sig.winSym = 0) ∧
    (stOf p s = stT1 → l.warm = false → l.window < 2 → ownWindow p s = true →
      (∀ b, g.winSym = 15 → g.hybBest = some b → Completes (.symbolRx p x) s fun t => getF p .AFE_HYB_R t =
        if g.hyb + x.adc < b then getF p .AFE_HYB_R s else getF p .AFE_HYB_R s - 32) ∧
      (g.winSym = 255 → Completes (.symbolRx p x) s fun t => getF p .AFE_HYB_VALID t = 1 ∧ (t.port p).sig.winSym = 256 ∧
        getF p .AFE_HYB_R t = getF p .AFE_HYB_R s ∧ getF p .AFE_HYB_C t = getF p .AFE_HYB_C s)) ∧
    (stOf p s = stT1 → l.window < 2 → ownWindow p s = false → 2600 < o.fofs.natAbs → Completes (.t1WindowEnd p o) s fun t =>
      stOf p t = stFail ∧ getF p .PORT_CTL_DOWN_CAUSE t = 6) ∧
    (stOf p s = stT1 → l.warm = false → l.window = 3 → Completes (.t1WindowEnd p o) s fun t =>
      stOf p t = stT2 ∧ (t.port p).link.markDue = isMaster p s ∧
      (∃ verdict, posts 1 (beBytes 1 verdict ++ beBytes 2 (getF p .ECHO_ERLE_B1 t)) t) ∧
      (isMaster p s = false → getF p .ECHO_ERLE_B1 t = o.erleB1 % 2 ^ 12 ∧
        (t.port p).link.ownPass = some (decide (550 ≤ o.erleB1)) ∧
        (o.erleB1 < 550 → StsSet .ECHO_ECHO_FAIL p t))) ∧
    (stOf p s = stT2 →
      Completes (.echoVerdict p ⟨true, true⟩ erle) s (fun t => (t.port p).link.partnerPass = some true ∧
        getF p .ECHO_PARTNER_ERLE t = erle.toNat ∧ getF p .ECHO_PARTNER_PASS t = 1 ∧ stOf p t = stT2) ∧
      Completes (.echoVerdict p ⟨false, warmOk⟩ erle) s (fun t => stOf p t = stFail ∧ getF p .PORT_CTL_DOWN_CAUSE t = 5) ∧
      (isSlave p s = true → Completes (.slaveLock p) s fun t => (t.port p).link.slaveLocked = true ∧
        (t.port p).link.markDue = true ∧ t.fields = s.fields ∧ t.sent = s.sent) ∧
      (isSlave p s = true → l.slaveLocked = true → getF p .TXSH_MUTED s ≠ 1 →
        (l.markDue = true → Completes (.symbolTx p) s fun t => getF p .TONES_TX_SYM_CNT t = 0 ∧ puts kCount t) ∧
        (l.markDue = false → next ∈ l.replyAt → l.reject = false → Completes (.symbolTx p) s fun t =>
          getF p .TONES_TX_SYM_CNT t = next ∧ puts kRange t ∧ next ∉ (t.port p).link.replyAt)) ∧
      Completes (.countMarkRx p) s (fun t => (t.port p).link.markFound = true ∧ (t.port p).sig.rxSym = 0 ∧
        t.fields = s.fields ∧ t.sent = s.sent) ∧
      (isSlave p s = true → l.warm = false → Completes (.rangingMark p rtt) s fun t =>
        (t.port p).link.replyAt = l.replyAt ++ [(getF p .TONES_TX_SYM_CNT s + 16) % 2 ^ 24] ∧ t.fields = s.fields) ∧
      (isMaster p s = true → l.warm = false → l.partnerPass = some true → l.rtts = List.replicate 7 rtt →
        (8 * rtt + 8) / 16 ≤ 8191 → Completes (.rangingMark p rtt) s fun t =>
          getF p .LINKUP_TA t = (8 * rtt + 8) / 16 ∧ getF p .LINKUP_TA_VALID t = 1 ∧ (t.port p).link.rtts = [] ∧
          (t.port p).link.taSet = true ∧ ∃ at_, posts 2 (beBytes 2 ((8 * rtt + 8) / 16) ++ beBytes 3 at_) t) ∧
      (isSlave p s = true → l.warm = false → ta < 8192 → Completes (.taAnnounce p ta sym) s fun t =>
        getF p .LINKUP_TA t = ta ∧ getF p .LINKUP_TA_VALID t = 1 ∧ (t.port p).link.taSet = true ∧
        (t.port p).link.taFrom = some (sym % 2 ^ 24)) ∧
      (l.warm = false → l.taSet = true →
        let cover := getF p .LINKUP_TA s + max spread his
        let ce := chooseCe (profileOf p s) cover (max (rwF p .TXSH_CE_MIN s) ((l.partner.map (·.ceMin)).getD 0))
        (isMaster p s = false → Completes (.probeEnd p first last) s fun t => stOf p t = stT2 ∧
          (t.port p).link.spread = some spread ∧ posts 3 (beBytes 2 spread) t) ∧
        (isMaster p s = true → l.hisSpread = some his → l.ownPass ≠ some false → l.ceFrom = none → cover < 8192 →
          Completes (.probeEnd p first last) s fun t => stOf p t = stT2 ∧ getF p .TXSH_COVER t = cover ∧
            (ce.2 = false → StsSet .TXSH_CE_UNCOVERED p t) ∧
            ∃ at_, (t.port p).link.ceFrom = some (at_, ce.1) ∧ posts 4 (beBytes 1 ce.1 ++ beBytes 3 at_) t)) ∧
      (l.ceFrom = some (n, code) → l.reject = false →
        (isMaster p s = true → l.markDue = false → getF p .TXSH_MUTED s ≠ 1 → reached next n = true →
          Completes (.symbolTx p) s fun t => stOf p t = stT3 ∧ getF p .TXSH_CE t = code % 4) ∧
        (isSlave p s = true → x.turn ≠ 1 → reached ((g.rxSym + 1) % 2 ^ 24) n = true →
          Completes (.symbolRx p x) s fun t => stOf p t = stT3 ∧ getF p .TXSH_CE t = code % 4)))

/-- T3 to showtime (R171, R175, R178, R179, R180): the receive table decides between T4 and a failed link; the partner's last
TONES message gives the transmit table and, with its own acknowledged, T5; from T5 the port enters SHOWTIME at the boundary
named, with its counters at 0 and its profile's code rate; messages are repeated; the bounds fail the link, and a rejected
warm start becomes a cold one. (The model's own choices: log 79, 149, 155, 157.) -/
def Obligations.TrainingLoadsAndEntersShowtime : Prop :=
  ∀ (p : Fin 8) (entries : List (Nat × Nat × Int)) (id : Word) (gone : Bool) (s : State), Live p s →
    let l := (s.port p).link
    let tab := t3Table p s
    let tx := applyTones (tonesBase p entries s) entries
    (stOf p s = stT3 → Completes (.t3End p id) s fun t =>
      if (pilotTones tab).length < 8 then
        stOf p t = stFail ∧ getF p .PORT_CTL_DOWN_CAUSE t = 8 ∧ StsSet .TONES_PILOT_SHORT p t
      else if quadrantBits tab < 512 then stOf p t = stFail ∧ getF p .PORT_CTL_DOWN_CAUSE t = 9
      else stOf p t = stT4 ∧ tableOf p 2 t = tab ∧ tableOf p 3 t = tab ∧
        (isMaster p s = true → (t.port p).link.storeId = max 1 id.toNat)) ∧
    (stOf p s = stT4 → 8 ≤ (pilotTones tx).length → txHolds p tx s = true →
      Completes (.tones p true entries true) s fun t => tableOf p 0 t = tx ∧ tableOf p 1 t = tx ∧
        (t.port p).link.tablesIn = true ∧ Counted p .OAM_MSG_RX s t ∧
        stOf p t = if l.tablesOut = true then stT5 else stT4) ∧
    (stOf p s = stT4 → 8 ≤ (pilotTones tx).length → txHolds p tx s = false →
      Completes (.tones p true entries true) s fun t => stOf p t = stFail ∧ getF p .PORT_CTL_DOWN_CAUSE t = 9) ∧
    (∀ last, exec (.tones p last entries false) s = .next s) ∧
    (∀ m, stT2 ≤ stOf p s → stOf p s ≤ stT5 → (s.port p).oam.cur = some m → Completes (.trainingMessageResend p) s fun t =>
      (t.port p).oam.cur = some { m with segs := 0 } ∧ t.fields = s.fields ∧ t.sent = s.sent) ∧
    (stOf p s = stT4 ∨ stOf p s = stT5 ∨ (stOf p s = stT2 ∧ (l.reject = false ∨ l.ownPass = some false)) →
      Completes (.phaseTimeout ⟨p, gone⟩) s fun t => stOf p t = stFail ∧
        getF p .PORT_CTL_DOWN_CAUSE t = if stOf p s = stT2 ∧ l.ownPass = some false then 5 else if gone then 11 else 7) ∧
    (stOf p s = stT2 → l.reject = true → l.ownPass ≠ some false → Completes (.phaseTimeout ⟨p, gone⟩) s fun t =>
      stOf p t = stT1 ∧ (t.port p).link.warm = false ∧ StsSet .LINKUP_WARM_REJECTED p t) ∧
    (stOf p s = stT5 → atBoundary p s = true → Completes (.showtimeEntry p) s fun t => stOf p t = stShow ∧
      getF p .TONES_TX_SYM_CNT t = 0 ∧ getF p .TONES_TX_SF_CNT t = 0 ∧ getF p .TONES_RX_SF_CNT t = 0 ∧
      codeRate p t = profRate (profileOf p s) ∧ getF p .LINKUP_STORED t = 1 ∧ (t.port p).stored.isSome = true ∧
      getF p .LINKUP_START_KIND t = (if l.warm = true then 2 else 1) ∧ Counted p .PORT_CTL_LINK_UPS s t ∧
      StsSet .PORT_CTL_LINK_UP p t) ∧
    (stOf p s = stT5 → atBoundary p s = false → exec (.showtimeEntry p) s = .next s)

/-- Compatibility modes (R157, R159, R179, R196 to R198): AN resolves to the common ability as advertised, 1000BASE-T1 first,
or fails with NO_COMMON; the link of the standard sets T1_LINK, a forced mode with type and role of the standard's control
register; its loss leads back with COMPAT_LOSS; CL45_DATA reaches the registers of the standard; STORE_CLR forgets the stored
channel profile. (The model's own choices: log 18, 164.) -/
def Obligations.CompatibilityLinksFollowTheStandard : Prop :=
  ∀ (p : Fin 8) (w : Acc) (abilities : BitVec 2) (eee master tie : Bool) (pages : Fin 4) (s : State),
    let adv := cl45Of p regAnAdv s
    let ctl := cl45Of p regPmaCtl s
    let common := bitsOf adv 0 2 &&& abilities.toNat
    let at_ := getF p .LINKUP_CL45_MMD s * 65536 + getF p .LINKUP_CL45_REG s
    (Live p s →
      (stOf p s = stAn → common ≠ 0 → getF p .TXSH_MUTED s ≠ 1 →
        Completes (.anResolved p ⟨abilities, eee, master, pages⟩ tie) s fun t => stOf p t = stCompat ∧
          getF p .LINKUP_AN_DONE t = 1 ∧ getF p .LINKUP_T1_RES t = (if bitOf common 0 then 1 else 2) ∧
          getF p .PORT_CTL_MODE t = (if bitOf common 0 then 3 else 4) ∧
          (bitOf adv 4 = true → master = false → getF p .PORT_CTL_ROLE t = 1) ∧
          (bitOf adv 4 = false → master = true → getF p .PORT_CTL_ROLE t = 2) ∧
          t.sent = List.replicate pages (.anPage p 0 false false true) ++ s.sent) ∧
      (stOf p s = stAn → common = 0 → Completes (.anResolved p ⟨abilities, eee, master, pages⟩ tie) s fun t =>
        stOf p t = stFail ∧ getF p .PORT_CTL_DOWN_CAUSE t = 4) ∧
      (stOf p s = stCompat → Completes (.compatLinkUp p) s fun t =>
        getF p .LINKUP_T1_LINK t = 1 ∧ stOf p t = stCompat ∧
        (getF p .LINKUP_AN_DONE s = 1 → getF p .LINKUP_T1_RES t = getF p .LINKUP_T1_RES s) ∧
        (getF p .LINKUP_AN_DONE s ≠ 1 → getF p .LINKUP_T1_RES t = (if bitOf ctl 0 then 1 else 2) ∧
          getF p .PORT_CTL_MODE t = (if bitOf ctl 0 then 3 else 4) ∧
          getF p .PORT_CTL_ROLE t = (if bitOf ctl 14 then 1 else 2))) ∧
      (stOf p s = stCompat → Completes (.compatLinkFail p) s fun t => getF p .LINKUP_T1_LINK t = 0 ∧
        getF p .PORT_CTL_DOWN_CAUSE t = 12 ∧
        stOf p t = if lineMode p s = 4 ∧ bitOf (cl45Of p regAnCtl s) 12 = false then stCompat else stAn)) ∧
    (Writes w .LINKUP p 0x05C s → Completes (.cl45Data p true w) s fun t =>
      getF p .LINKUP_CL45_ERR t = ofBool (!cl45Has p s) ∧
      (t.port p).cl45 = if cl45Has p s then mapPut (s.port p).cl45 at_ (w.data.toNat % 2 ^ 16) else (s.port p).cl45) ∧
    (Reads w .LINKUP p 0x05C s → Completes (.cl45Data p false w) s fun t =>
      getF p .LINKUP_CL45_ERR t = ofBool (!cl45Has p s) ∧ (t.port p).cl45 = (s.port p).cl45) ∧
    (StartsAt w p .LINKUP_STORE_CLR s → Completes (.storeClr p w) s fun t => getF p .LINKUP_STORED t = 0 ∧
      getF p .LINKUP_STORE_ID t = 0 ∧ (t.port p).stored = none ∧ Ended p .LINKUP_STORE_CLR ocDone t)

/-- The trigger conditions of a fast retrain lead to FAST_RETRAIN, or with FAST_EN = 0 to a full one from HS_LISTEN, and
their commands do nothing while the condition does not hold; the lay-by stays and waiting FIXED frames go; RETRAIN of
software does the same and ends REJECTED outside showtime; a fast retrain that fails becomes a full one (R193 to R195, R260).
(The model's own choice: log 74.) -/
def Obligations.RetrainsKeepTheLayby : Prop :=
  ∀ (p : Fin 8) (w : Acc) (s : State), s.clk.muted = false → Live p s → (s.port p).rc.admHeld = false →
    let rows := [(Instr.retrainMargin p, marginTrigger p s), (.retrainPilot p, pilotTrigger p s),
      (.retrainSfSync p, sfTrigger p s), (.retrainCwFail p, cwTrigger p s)]
    (∀ c ∈ rows, c.2 = true → stOf p s = stShow →
      (rwF p .LINKUP_FAST_EN s = 1 → getF p .PORT_CTL_RETRAIN_FULL s ≠ 1 → Completes c.1 s fun t =>
        stOf p t = stFast ∧ Counted p .PORT_CTL_FAST_RETRAINS s t ∧ (t.port p).sig.retrainReq = 8 ∧
        getF p .PORT_CTL_DOWN_CAUSE t = 10 ∧ StsSet .PORT_CTL_RETRAIN p t ∧ (t.port p).cws = (s.port p).cws ∧
        (t.port p).rxCws = (s.port p).rxCws ∧ (t.port p).fixedQ = []) ∧
      (rwF p .LINKUP_FAST_EN s ≠ 1 → Completes c.1 s fun t => stOf p t = stListen ∧
        Counted p .PORT_CTL_FULL_RETRAINS s t ∧ getF p .PORT_CTL_DOWN_CAUSE t = 10 ∧
        (t.port p).cws = (s.port p).cws ∧ (t.port p).fixedQ = [])) ∧
    (∀ c ∈ rows, c.2 = false ∨ trunkShow p s = false → exec c.1 s = .next s) ∧
    (StartsAt w p .PORT_CTL_RETRAIN s → trunkShow p s = true → rwF p .LINKUP_FAST_EN s = 1 →
      getF p .PORT_CTL_RETRAIN_FULL s ≠ 1 → Completes (.retrain p w) s fun t =>
        stOf p t = stFast ∧ Runs p .PORT_CTL_RETRAIN t ∧ (t.port p).cws = (s.port p).cws) ∧
    (StartsAt w p .PORT_CTL_RETRAIN s → trunkShow p s = false → Completes (.retrain p w) s fun t =>
      stOf p t = stOf p s ∧ Ended p .PORT_CTL_RETRAIN ocRejected t) ∧
    (∀ c ∈ [Instr.fastRetrainNoSignal p, .fastRetrainTimeout p], stOf p s = stFast →
      (s.port p).link.waitSub = false → Completes c s fun t =>
        stOf p t = stListen ∧ Counted p .PORT_CTL_FULL_RETRAINS s t)

/-! ### Reconfiguration and OAM -/

/-- Requests of the partner in the overhead field are answered with ACK, and their change waits for its superframe; or with
NAK and the reason: BUSY, TOO_LATE, no TONES, a table or an argument that is not permitted (R182 to R189, R389).
(The model's own choices: log 75, 149.) -/
def Obligations.ReconfigurationRequestsAreAnswered : Prop :=
  ∀ (p : Fin 8) (seq : BitVec 4) (delta arg : BitVec 8) (sf : Word) (bps : List (Nat × Int)) (notches : List (Nat × Nat))
    (s : State), Live p s → trunkShow p s = true →
    let late := tooLate p sf.toNat s
    let r := (s.port p).rc
    let n := seq.toNat
    (isSlave p s = true → late = false → Completes (.taAdj p seq delta sf) s fun t =>
      RcAnswers p 5 n none t ∧ (t.port p).rc.taAdj = some (sf.toNat, signedOf 8 delta.toNat)) ∧
    (isSlave p s = true → late = true → Completes (.taAdj p seq delta sf) s fun t =>
      RcAnswers p 5 n (some 3) t ∧ (t.port p).rc.taAdj = r.taAdj) ∧
    (getF p .TONES_TX_PENDING s = 1 ∨ r.running = true → Completes (.swapReq p seq sf) s fun t =>
      RcAnswers p 1 n (some 1) t) ∧
    (getF p .TONES_TX_PENDING s ≠ 1 → r.running = false →
      (late = true → Completes (.swapReq p seq sf) s fun t => RcAnswers p 1 n (some 3) t) ∧
      (late = false → r.delivered = false → Completes (.swapReq p seq sf) s fun t => RcAnswers p 1 n (some 4) t) ∧
      (late = false → r.delivered = true → txHolds p (tableOf p 5 s) s = false →
        Completes (.swapReq p seq sf) s fun t => RcAnswers p 1 n (some 5) t ∧ tableOf p 1 t = tableOf p 1 s) ∧
      (late = false → r.delivered = true → txHolds p (tableOf p 5 s) s = true →
        Completes (.swapReq p seq sf) s fun t => RcAnswers p 1 n none t ∧ getF p .TONES_TX_PENDING t = 1 ∧
          getF p .TONES_TX_SW_SF t = sf.toNat ∧ tableOf p 1 t = tableOf p 5 s)) ∧
    (rcBusy p s = false → bitOf (getF p .PORT_CTL_PERMIT s) (bitsOf arg.toNat 0 2) = false →
      Completes (.reconfReq p seq arg) s fun t => RcAnswers p 2 n (some 2) t ∧ (t.port p).rc.running = false) ∧
    (rcBusy p s = false → bitOf (getF p .PORT_CTL_PERMIT s) (bitsOf arg.toNat 0 2) = true →
      bitsOf arg.toNat 0 2 = profileOf p s → bitsOf arg.toNat 2 2 < getF p .TXSH_MASKS s →
      bitsOf arg.toNat 4 2 < getF p .TXSH_NOTCH_SETS s → Completes (.reconfReq p seq arg) s fun t =>
        RcAnswers p 2 n none t ∧ (t.port p).rc.running = true ∧ (t.port p).rc.accepted = true ∧
        (t.port p).rc.initiator = false ∧ (t.port p).rc.psd = bitsOf arg.toNat 2 2) ∧
    (r.running = true → r.initiator = true → r.accepted = false → isMaster p s = true →
      Completes (.reconfReq p seq arg) s fun t => RcAnswers p 2 n (some 6) t ∧ (t.port p).rc.initiator = true) ∧
    (r.running = true → Completes (.drained p seq) s fun t => RcAnswers p 3 n none t ∧ (t.port p).rc.drainedRx = true) ∧
    (getF p .TONES_TX_PENDING s ≠ 1 → getF p .TONES_RX_PENDING s ≠ 1 → late = false →
      (r.running = false → Completes (.rcCommit p seq sf) s fun t => RcAnswers p 4 n (some 4) t) ∧
      (r.running = true → r.tablesIn = true → shadowHolds p s = true →
        Completes (.rcCommit p seq sf) s fun t => RcAnswers p 4 n none t ∧ getF p .TONES_TX_PENDING t = 1 ∧
          getF p .TONES_RX_PENDING t = 1 ∧ getF p .TONES_TX_SW_SF t = sf.toNat ∧
          getF p .TONES_RX_SW_SF t = sf.toNat)) ∧
    (rcBusy p s = false → r.pauseSf = none → late = false → Completes (.calPause p seq arg sf) s fun t =>
      RcAnswers p 6 n none t ∧ (t.port p).rc.pauseSf = some sf.toNat) ∧
    Completes (.mask p bps notches) s (fun t => (t.port p).rc.maskIn = some (bps, notches) ∧ Counted p .OAM_MSG_RX s t)

/-- The port's own requests (R183, R185, R187 to R189): RECONF_GO of a valid stage sends RECONF_REQ and ends REJECTED
otherwise; the ACK of a swap or a COMMIT makes the switch pending at the superframe it named; a NAK of a change ends it
REJECTED, and ends only the RECONF_GO of a slave whose request met its master's; DRAINED goes out once nothing awaits
acknowledgement, and with both DRAINED the master's COMMIT follows; no end within its bound ends the change TIMEOUT. (The
model's own choice: log 158.) -/
def Obligations.ReconfigurationsRunTheirSteps : Prop :=
  ∀ (p : Fin 8) (w : Acc) (q : RcReq) (seq op reason : BitVec 4) (s : State),
    let r := (s.port p).rc
    (StartsAt w p .PORT_CTL_RECONF_GO s → stageValid p s = true → r.req = none → r.todo = [] →
      getF p .PORT_CTL_STG_PSD s = getF p .TXSH_PSD_ACT s → getF p .PORT_CTL_STG_NOTCH s = getF p .TXSH_NOTCH_ACT s →
      Completes (.reconfGo p w) s fun t => Runs p .PORT_CTL_RECONF_GO t ∧ (t.port p).rc.running = true ∧
        (t.port p).rc.initiator = true ∧ (t.port p).rc.req.map (·.op) = some 2 ∧
        (t.port p).rc.seq = (r.seq + 1) % 16) ∧
    (StartsAt w p .PORT_CTL_RECONF_GO s → stageValid p s = false → Completes (.reconfGo p w) s fun t =>
      Ended p .PORT_CTL_RECONF_GO ocRejected t ∧ (t.port p).rc = r) ∧
    (Live p s → r.req = some q → q.seq = seq.toNat → q.op = op.toNat → r.todo = [] →
      (q.op = 1 → Completes (.rcAck p seq op) s fun t => (t.port p).rc.req = none ∧
        getF p .TONES_RX_PENDING t = 1 ∧ getF p .TONES_RX_SW_SF t = q.sf % 2 ^ 32) ∧
      (q.op = 2 → r.initiator = true → r.abortReq = false → Completes (.rcAck p seq op) s fun t =>
        (t.port p).rc.req = none ∧ (t.port p).rc.accepted = true) ∧
      (q.op = 4 → Completes (.rcAck p seq op) s fun t => (t.port p).rc.req = none ∧
        getF p .TONES_TX_PENDING t = 1 ∧ getF p .TONES_RX_PENDING t = 1 ∧
        getF p .TONES_TX_SW_SF t = q.sf % 2 ^ 32 ∧ getF p .TONES_RX_SW_SF t = q.sf % 2 ^ 32) ∧
      (q.op = 2 → getF p .PORT_CTL_RECONF_GO s = 1 → Completes (.rcNak p seq op reason) s fun t =>
        (t.port p).rc.req = none ∧ (t.port p).rc.running = (r.running && !r.initiator) ∧
        getF p .PORT_CTL_NAK_REASON t = reason.toNat ∧ Counted p .OAM_RC_NAK_RX s t ∧
        Ended p .PORT_CTL_RECONF_GO ocRejected t)) ∧
    (Live p s → r.running = true → r.accepted = true → r.tablesOut = true → r.drainedSent = false → r.admHeld = false →
      r.req = none → r.todo = [] → Completes (.drainComplete p) s fun t => (t.port p).rc.drainedSent = true ∧
        (t.port p).rc.req.map (·.op) = some 3 ∧
        (t.port p).rc.todo = if isMaster p s && r.drainedRx && r.tablesIn && shadowHolds p s then [(4, 0)] else []) ∧
    (Live p s → r.running = true → getF p .PORT_CTL_RECONF_GO s = 1 → Completes (.reconfTimeout p) s fun t =>
      (t.port p).rc.running = false ∧ getF p .TONES_TX_PENDING t = 0 ∧ getF p .TONES_RX_PENDING t = 0 ∧
      StsSet .PORT_CTL_RECONF_FAIL p t ∧ Ended p .PORT_CTL_RECONF_GO ocTimeout t)

/-- OAM messages (R175, R190 to R192, R201): a mailbox message is taken while RX_FULL = 0, acknowledged, and refused without
ACK while it is 1; a training message acts as its kind says and is acknowledged; a bad CRC has no effect; an ACK ends SEND
DONE; a missing one repeats the message up to TRIES sends and then ends SEND TIMEOUT, as does a retrain that discarded it;
SEND starts a message of its length; RX_RELEASE frees the buffer. (The model's own choice: log 155.) -/
def Obligations.OamMessagesAreDelivered : Prop :=
  ∀ (p : Fin 8) (w : Acc) (mid : BitVec 4) (type : Byte) (payload : List Byte) (m : OamMsg) (ce sym : Nat) (s : State),
    let o := (s.port p).oam
    (Live p s →
      (mid ≠ 0 → payload.length ≤ 256 → trunkShow p s = true → 0x10 ≤ type.toNat → type.toNat < 0x20 →
        o.lastRx ≠ some mid.toNat → enOf .OAM p s = 1 →
        (getF p .OAM_RX_FULL s ≠ 1 → Completes (.oamMessageRx p mid type payload true) s fun t =>
          getF p .OAM_RX_FULL t = 1 ∧ getF p .OAM_RX_TYPE t = type.toNat - 0x10 ∧
          getF p .OAM_RX_LEN t = payload.length ∧ (t.port p).oam.rxBuf = payload ∧
          (t.port p).oam.acks = o.acks ++ [mid.toNat] ∧ StsSet .OAM_RX_READY p t) ∧
        (getF p .OAM_RX_FULL s = 1 → Completes (.oamMessageRx p mid type payload true) s fun t =>
          (t.port p).oam = o ∧ StsSet .OAM_RX_DROPPED p t ∧ Counted p .OAM_RX_BUSY s t)) ∧
      (mid ≠ 0 → stOf p s = stT2 → isSlave p s = true → o.lastRx ≠ some mid.toNat → ce < 4 → sym < 2 ^ 24 →
        Completes (.oamMessageRx p mid (BitVec.ofNat 8 (trainType 4)) (beBytes 1 ce ++ beBytes 3 sym) true) s fun t =>
          (t.port p).link.ceFrom = some (sym, ce) ∧ (t.port p).oam.acks = o.acks ++ [mid.toNat] ∧
          Counted p .OAM_MSG_RX s t) ∧
      (o.cur = some m → 0x10 ≤ m.type → m.mid ≠ 0 →
        (m.mid = mid.toNat → getF p .OAM_SEND s = 1 → (s.port p).link.reject = false → Completes (.oamAck p mid) s fun t =>
          Counted p .OAM_MSG_TX s t ∧ Ended p .OAM_SEND ocDone t) ∧
        (o.stale = none → inShow p s = true → m.sends < getF p .OAM_TRIES s → Completes (.ackTimeout p) s fun t =>
          (t.port p).oam.cur = some { m with sends := m.sends + 1, segs := 0 } ∧ Counted p .OAM_RESENDS s t) ∧
        (o.stale = none → inShow p s = true → getF p .OAM_TRIES s ≤ m.sends → getF p .OAM_SEND s = 1 →
          Completes (.ackTimeout p) s fun t =>
          StsSet .OAM_UNDELIVERED p t ∧ Ended p .OAM_SEND ocTimeout t)) ∧
      (o.stale = some m → 0x10 ≤ m.type → getF p .OAM_SEND s = 1 → Completes (.ackTimeout p) s fun t =>
        (t.port p).oam.stale = none ∧ Counted p .OAM_UNDELIVERED s t ∧ StsSet .OAM_UNDELIVERED p t ∧
        Ended p .OAM_SEND ocTimeout t)) ∧
    exec (.oamMessageRx p mid type payload false) s = .next s ∧
    (StartsAt w p .OAM_SEND s → enOf .OAM p s = 1 → trunkShow p s = true → 1 ≤ getF p .OAM_SEND_LEN s →
      getF p .OAM_SEND_LEN s ≤ 256 → o.cur = none → o.queue = [] → Completes (.send p w) s fun t =>
        Runs p .OAM_SEND t ∧ (t.port p).oam.cur.map (fun m => (m.type, m.payload.length)) =
          some (0x10 + getF p .OAM_SEND_TYPE s, getF p .OAM_SEND_LEN s)) ∧
    (StartsAt w p .OAM_SEND s → trunkShow p s = false → Completes (.send p w) s fun t =>
      (t.port p).oam = o ∧ Ended p .OAM_SEND ocRejected t) ∧
    (StartsAt w p .OAM_RX_RELEASE s → Completes (.rxRelease p w) s fun t => getF p .OAM_RX_FULL t = 0 ∧
      (t.port p).oam.rxBuf = [] ∧ Ended p .OAM_RX_RELEASE ocDone t)

/-! ### Symbols, quality, diagnostics -/

/-- Symbols and superframes (R131, R132, R139, R141, R145, R202, R220, R226, R252): position 0 sends a sync symbol, the 256
others data symbols, each with the next number; a received symbol is numbered, its clipped samples and its mark are noted; at
a boundary the superframe counter advances and a pending switch of that superframe is made, with the received one at the sync
symbol; a field with a bad CRC changes nothing of the lay-by; a hold ends at its bound. (The model's own choice: log 154.) -/
def Obligations.SymbolsAndSuperframesAdvance : Prop :=
  ∀ (p : Fin 8) (o : RxSymbol) (e : Int) (inverted : Bool) (field : List Byte) (s : State), Live p s →
    let g := (s.port p).sig
    (stOf p s = stShow → getF p .TXSH_MUTED s ≠ 1 → g.paused = false → g.txPos ≤ 256 →
      Completes (.symbolTx p) s fun t => (t.port p).sig.txPos = g.txPos + 1 ∧
        getF p .TONES_TX_SYM_CNT t = ((getF p .TONES_TX_SYM_CNT s + if g.txFirst then 0 else 1) % 2 ^ 24) ∧
        ∃ y : LineSymbol, y.kind = (if g.txPos = 0 then kSync else kData) ∧ t.sent = .symbol p y :: s.sent) ∧
    (stOf p s = stShow → getF p .TXSH_MUTED s = 1 → exec (.symbolTx p) s = .next s) ∧
    (stOf p s = stShow → o.turn ≠ 1 → Completes (.symbolRx p o) s fun t =>
      let n := (g.rxSym + 1) % 2 ^ 24
      (t.port p).sig.rxSym = n ∧ stOf p t = stShow ∧
      (o.clipped ≠ 0 → StsSet .AFE_ADC_CLIPPED p t) ∧
      ∃ marked, (t.port p).sig.marks = ((n, marked) :: g.marks).take 256 ∧
        (latched p .AFE_CLIP_LIMIT s ≤ o.clipped → marked = true ∧ Counted p .AFE_CLIP_SYMS s t) ∧
        (marked = true → Counted p .EQ_IMP_SYMS s t ∧ Counted p .ECHO_ADAPT_SKIPS s t)) ∧
    (stOf p s = stShow → isMaster p s = false → (s.port p).rc.req = none → (s.port p).rc.running = false →
      Completes (.superframeBoundary p e) s fun t =>
        let n := (getF p .TONES_TX_SF_CNT s + 1) % 2 ^ 32
        getF p .TONES_TX_SF_CNT t = n ∧ (t.port p).sig.txPos = 0 ∧
        (getF p .TONES_TX_PENDING s = 1 → getF p .TONES_TX_SW_SF s = n → getF p .TONES_TX_PENDING t = 0 ∧
          tableOf p 0 t = tableOf p 1 s ∧ (t.port p).sig.invert = true)) ∧
    (stOf p s = stShow → g.rxFirst = false → (s.port p).rc.running = false →
      Completes (.syncSymbolRx p ⟨true, inverted⟩ o) s fun t =>
        let n := (getF p .TONES_RX_SF_CNT s + 1) % 2 ^ 32
        getF p .TONES_RX_SF_CNT t = n ∧ (t.port p).sig.rxPos = 0 ∧ (t.port p).sig.rxSym = (g.rxSym + 1) % 2 ^ 24 ∧
        (getF p .TONES_RX_PENDING s = 1 → getF p .TONES_RX_SW_SF s = n → getF p .TONES_RX_PENDING t = 0 ∧
          tableOf p 2 t = tableOf p 3 s ∧ StsSet .TONES_SWITCHED p t ∧
          (inverted = false → StsSet .TONES_SYNC_FLAG_MISS p t)) ∧
        (getF p .TONES_RX_PENDING s ≠ 1 → inverted = true → StsSet .TONES_SYNC_FLAG_UNEXP p t)) ∧
    (stOf p s = stShow → overheadOk field = false → Completes (.overheadRx p field) s fun t =>
      (t.port p).sig.ohLost = true ∧ StsSet .TONES_OH_ERR p t ∧ Counted p .TONES_OH_ERR s t ∧
      (t.port p).cws = (s.port p).cws ∧ (t.port p).rc = (s.port p).rc ∧ stOf p t = stShow) ∧
    (stOf p s = stShow → overheadOk field = true → Completes (.overheadRx p field) s fun t =>
      (t.port p).sig.gradeRx = bitsOf (beNat ((field.drop 1).take 1)) 5 3 ∧ (t.port p).sig.ohLost = false) ∧
    (getF p .LAYBY_P_IN_HOLD s = 1 → Completes (.impulseHoldMax p) s fun t => getF p .LAYBY_P_IN_HOLD t = 0 ∧
      StsSet .LAYBY_P_HOLD_MAX p t ∧ (t.port p).sig.holdBar = true)

/-- The watch on a link (R214, R222, R224, R310 to R312, R317 to R319): ERLE_SHOW and its warning; the margins after a
completed block of 1,024 symbols, and nothing before; an impulse event ends 125 clean blocks after its last one, counted in
the bin of its length; the grade of an interval as the least of its components; each way out of LPI_QUIET. (The model's own
choices: log 82, 106, 132.) -/
def Obligations.LinkQualityIsWatched : Prop :=
  ∀ (p : Fin 8) (erle : BitVec 12) (blocks : Nat) (il : List (Nat × BitVec 12)) (s : State), Live p s →
    let v := (s.port p).watch
    let g := (s.port p).sig
    (stOf p s = stShow → Completes (.erleShowUpdate p erle) s fun t => getF p .ECHO_ERLE_SHOW t = erle.toNat ∧
      (erle.toNat < getF p .ECHO_ERLE_WARN s → v.erleLow = false → StsSet .ECHO_ECHO_LOW p t)) ∧
    (let l := toneMargins p (modSig p (fun g => { g with snr := mapPutAll g.snr (measuredSnr p s) }) s)
     stOf p s = stShow → g.paused = false → 1024 ≤ g.noiseN → l ≠ [] → Completes (.marginUpdate p il) s fun t =>
       getF p .EQ_MARGIN_VALID t = 1 ∧ getS p .EQ_LINK_MARGIN t = satSigned 12 (linkMarginOf (l.map (·.2))) ∧
       (t.port p).sig.noiseN = 0) ∧
    (g.noiseN < 1024 → exec (.marginUpdate p il) s = .next s) ∧
    (g.inImpulse = true →
      (125 ≤ g.impRun + blocks → Completes (.impulseEventEnd p blocks) s fun t =>
        (t.port p).sig.inImpulse = false ∧ Counted p .EQ_IMP_EVENTS s t ∧ Counted p (impulseBin g.impLen) s t ∧
        (125000 ≤ g.impLen → StsSet .WATCH_IMPULSE_LONG p t)) ∧
      (g.impRun + blocks < 125 → Completes (.impulseEventEnd p blocks) s fun t =>
        (t.port p).sig.inImpulse = true ∧ (t.port p).sig.impRun = g.impRun + blocks ∧ t.fields = s.fields)) ∧
    (v.running = true → getF p (.en .WATCH) s = 1 → stOf p s = stShow → getF p .WATCH_PRED_EN s ≠ 1 →
      Completes (.watchIntervalEnd p) s fun t => getF p .WATCH_GRADE_VALID t = 1 ∧
        getF p .WATCH_INT_CW t = v.cw % 2 ^ 32 ∧ (t.port p).watch.cw = 0 ∧
        getF p .WATCH_GRADE t = min (gradeMargin (v.marginMin.getD (watchMargin p s)))
          (min (gradeErr v.fail v.cw) (gradeDrop v.expRx v.long))) ∧
    (stOf p s = stQuiet → retrainMeets p s = false →
      (wakeDue p s = true → getF p .TXSH_MUTED s ≠ 1 → Completes (.wakeBurst p) s fun t => stOf p t = stShow ∧
        Counted p .WATCH_WAKES_TX s t ∧ t.sent = .wake p (wakePts p s) :: s.sent) ∧
      (wakeDue p s = false → exec (.wakeBurst p) s = .next s) ∧
      Completes (.wakeDetect p) s (fun t => stOf p t = stShow ∧ Counted p .WATCH_WAKES_RX s t) ∧
      (detectMeets p s = false → Completes (.lpiMismatch p) s fun t => stOf p t = stShow ∧ StsSet .WATCH_LPI_MISMATCH p t ∧
        Counted p .WATCH_LPI_MISMATCH s t ∧ (t.port p).cws = (s.port p).cws ∧ (t.port p).rxCws = (s.port p).rxCws)) ∧
    (stOf p s = stQuiet → retrainMeets p s = true → exec (.wakeBurst p) s = .next s ∧ exec (.wakeDetect p) s = .next s ∧
      exec (.lpiMismatch p) s = .next s)

/-- Reflectometry and survey (R90, R324, R327, R330, R335): TDR_RUN enters DIAG with the first chirp, ends INPUT_UNFIT where
the partner transmits, and REJECTED where it may not run; each silence is an abort point, and the last ends DONE, with
ABORT_LATE where an abort had been asked for; a profile is kept and counted; the baseline of enough profiles is stored in
NVM. (The model's own choice: log 132.) -/
def Obligations.ReflectometryAndSurveyRun : Prop :=
  ∀ (p : Fin 8) (w : Acc) (power : Bool) (peaks : List Reflection) (loss : List (Nat × Nat)) (rho : List Int) (s : State),
    let v := (s.port p).watch
    (StartsAt w p .DIAG_TDR_RUN s → mayTdr p s = true →
      (s.clk.muted = false → (s.port p).link.waitSub = false → Completes (.tdrRun p w false) s fun t =>
        stOf p t = stDiag ∧ Runs p .DIAG_TDR_RUN t ∧ (∃ lo hi mask, .chirp p.val lo hi mask ∈ t.sent) ∧
        (t.port p).watch.sweeps = getF p .DIAG_TDR_SWEEPS s) ∧
      Completes (.tdrRun p w true) s (fun t => stOf p t ≠ stDiag ∧ Ended p .DIAG_TDR_RUN ocUnfit t ∧
        StsSet .DIAG_TDR_UNFIT p t)) ∧
    (StartsAt w p .DIAG_TDR_RUN s → mayTdr p s = false → Completes (.tdrRun p w power) s fun t =>
      stOf p t = stOf p s ∧ Ended p .DIAG_TDR_RUN ocRejected t) ∧
    (Live p s → stOf p s = stDiag → getF p .DIAG_TDR_RUN s = 1 →
      Completes (.tdrSilenceEnd p true peaks loss) s (fun t => Ended p .DIAG_TDR_RUN ocUnfit t ∧ stOf p t ≠ stDiag) ∧
      (1 < v.sweeps → v.tdrAbort = true → Completes (.tdrSilenceEnd p false peaks loss) s fun t =>
        Ended p .DIAG_TDR_RUN ocAborted t ∧ stOf p t ≠ stDiag) ∧
      (1 < v.sweeps → v.tdrAbort = false → getF p .TXSH_MUTED s ≠ 1 →
        Completes (.tdrSilenceEnd p false peaks loss) s fun t =>
        (∃ lo hi mask, t.sent = .chirp p lo hi mask :: s.sent) ∧ (t.port p).watch.sweeps + 1 = v.sweeps ∧
        t.fields = s.fields) ∧
      (v.sweeps ≤ 1 → Completes (.tdrSilenceEnd p false peaks loss) s fun t =>
        Ended p .DIAG_TDR_RUN ocDone t ∧ getF p .DIAG_TDR_VALID t = 1 ∧ StsSet .DIAG_TDR_DONE p t ∧
        Counted p .DIAG_TDR_RUNS s t ∧ (t.port p).watch.tdr.length ≤ 8 ∧
        (v.tdrAbort = true → getF p Fld.DIAG_TDR_RUN.abortLate t = 1))) ∧
    (Live p s → stOf p s = stShow → (stepExp p 0 s).isSome = true → v.profAt ≠ some s.cycles →
      Completes (.surveyProfile p rho) s fun t =>
      (t.port p).watch.prof = some ((List.range 256).map (rhoAt rho)) ∧ Counted p .SURVEY_PROFILES s t ∧
      getF p .SURVEY_CUR_SRC t = 0) ∧
    (StartsAt w p .SURVEY_SV_BASE_SAVE s → trunkShow p s = true → getF p (.en .SURVEY) s = 1 →
      Completes (.svBaseSave p w) s fun t => Runs p .SURVEY_SV_BASE_SAVE t ∧ (t.port p).watch.acc = []) ∧
    (StartsAt w p .SURVEY_SV_BASE_SAVE s → trunkShow p s = false → Completes (.svBaseSave p w) s fun t =>
      Ended p .SURVEY_SV_BASE_SAVE ocRejected t ∧ (t.port p).watch = v) ∧
    (Live p s → getF p .SURVEY_SV_BASE_SAVE s = 1 → v.acc ≠ [] → getF p .SURVEY_SV_AVG s ≤ v.acc.length →
      v.baseAbort = false ∨ (∀ r, s.pending.head? ≠ some (.surveyProfile p r)) →
      Completes (.svBaseSaveDone p) s fun t => getF p .SURVEY_BASE_VALID t = 1 ∧
        getF p .SURVEY_BASE_GEN t = (getF p .SURVEY_BASE_GEN s + 1) % 2 ^ 16 ∧
        (mapGet t.nvm.bases p).isSome = true ∧ Ended p .SURVEY_SV_BASE_SAVE ocDone t ∧ StsSet .SURVEY_SV_BASE_SAVED p t)

/-! ### Lay-by, frames, host lanes -/

/-- Toward the line (R4, R22, R196, R238, R239, R243, R247, R253, R344, R347): a stream is enabled or refused, and disabled
with its frames; a frame with a bad FCS or a bad size is counted and goes nowhere, HOST_NEAR returns it, a standard link
sends it; admission opens a codeword with the next milestone of its class; a codeword past its deadline is given up with a
notice; a tail is resent; pressure is refreshed. (The model's own choices: log 93, 132.) -/
def Obligations.FramesEnterTheLayby : Prop :=
  ∀ (p : Fin 8) (w : Acc) (i : BitVec 12) (f : EthFrame) (q : QFrame) (c : TxCw) (cls : Fin 8) (node : Fin 16) (ms : BitVec 16)
    (s : State),
    let x := s.port p
    let e := streamOf p i.toNat s
    (Writes w .STREAM p 0x038 s → e.cfg.sen = false → Completes (.streamEnable p i true w) s fun t =>
      (streamOf p i.toNat t).cfg.sen = true ∧ (e.cfg.fixed = true → (streamOf p i.toNat t).st = 1) ∧
      ((streamOf p i.toNat t).st ≠ 1 → StsSet .STREAM_GUAR_REFUSED p t)) ∧
    (Writes w .STREAM p 0x038 s → e.cfg.sen = true → Completes (.streamEnable p i false w) s fun t =>
      (streamOf p i.toNat t).cfg.sen = false ∧ (streamOf p i.toNat t).st = 0 ∧
      ∀ l ∈ (t.port p).inq, ∀ f ∈ l, f.stream ≠ i.toNat) ∧
    (Live p s →
      (laneUp p s = true →
        (getF p .HOST_LB_ACTIVE s = 1 → Completes (.hostFrame p f) s fun t =>
          t.sent = .host p 0 f.bytes :: s.sent ∧ t.ports = s.ports) ∧
        (getF p .HOST_LB_ACTIVE s ≠ 1 → fcsRight f.bytes = false → Completes (.hostFrame p f) s fun t =>
          StsSet .HOST_FCS_ERR p t ∧ Counted p .HOST_FCS_ERR s t ∧ t.ports = s.ports) ∧
        (getF p .HOST_LB_ACTIVE s = 0 → fcsRight f.bytes = true → etherType f.bytes ∉ [0x8808, 0x88B5] →
          beNat ((f.bytes.drop 12).take 2) ≠ 0x8808 →
          (lineMode p s = 4 ∨ stOf p s = stCompat → getF p .LINKUP_T1_LINK s = 1 → getF p .TXSH_MUTED s ≠ 1 →
            Completes (.hostFrame p f) s fun t => t.sent = .t1 p f.bytes :: s.sent ∧ t.ports = s.ports ∧
              Counted p .STATS_TX_FRAMES s t) ∧
          (lineMode p s ≠ 4 → stOf p s ≠ stCompat →
            (getF p (.en .STREAM) s ≠ 1 → Completes (.hostFrame p f) s fun t =>
              Counted p .STREAM_OFF_DROP s t ∧ t.ports = s.ports) ∧
            (getF p (.en .STREAM) s = 1 → f.bytes.length < 64 ∨ 16000 < f.bytes.length →
              Completes (.hostFrame p f) s fun t => StsSet .STREAM_SIZE_DROP p t ∧ Counted p .STREAM_SIZE_DROP s t ∧
                t.ports = s.ports) ∧
            (getF p (.en .STREAM) s = 1 → 64 ≤ f.bytes.length → f.bytes.length ≤ 16000 →
              (let d := streamOf p (classify p f.bytes s) s
               d.st = 1 → d.cfg.fixed = false → queueBytes (classQ x d.cfg.cls) + f.bytes.length ≤ 32768 →
               Completes (.hostFrame p f) s fun t => Counted p .STATS_TX_FRAMES s t ∧
                 (t.port p).nextFrame = x.nextFrame + 1))))) ∧
      ((classQ x cls).head? = some q → mayAdmit p s = true → hasOpen x q.stream = false → canTake p q.stream s = true →
        disableMeetsStream p q.stream s = false →
        (let d := destOf p q.stream s
         let k := (streamOf p q.stream s).cfg.cls
         d ≠ 31 → Completes (.admission p cls) s fun t =>
           (pmsOf p d k t).txNext = ((pmsOf p d k s).txNext + 1) % 65536 ∧
           ∃ v ∈ (t.port p).cws, v.node = d ∧ v.cls = k ∧ v.ms = (pmsOf p d k s).txNext ∧ v.stream = q.stream)) ∧
      (let mine := fun (v : TxCw) => v.node == node.val && v.cls == cls.val && v.ms == ms.toNat
       x.cws.find? mine = some c → x.notices.length < 1024 → ackMeets p c s = false →
       Completes (.deadlineExpiry p node cls ms) s fun t =>
         (∀ v ∈ (t.port p).cws, mine v = false) ∧ StsSet .LAYBY_P_GIVEUP p t ∧
         Counted p .LAYBY_P_GIVEUP_DEADLINE s t ∧ ⟨node, cls, c.stream, ms.toNat, none⟩ ∈ (t.port p).notices) ∧
      (let m := pmsOf p node cls s
       let mine := fun (v : TxCw) => v.node == node.val && v.cls == cls.val && v.ms == m.txAck
       x.cws.find? (fun v => mine v && v.st != .queued) = some c → 0 < m.tailRun →
       c.sends < triesOf (streamOf p c.stream s) → Completes (.tailResend p node cls) s fun t =>
         Counted p .LAYBY_P_TAIL_RESENDS s t ∧ ∀ v ∈ (t.port p).cws, mine v = true → v.st = .resend) ∧
      (laneUp p s = true → rwF p .HOST_PFC_EN s = 1 → getF p .STREAM_PRESSURE s ≠ 0 → Completes (.fcRefresh p) s fun t =>
        Counted p .HOST_PFC_TX s t ∧ t.sent = .host p 1 (flowFrame p 0 s) :: s.sent))

/-- Toward the host (R22, R231, R237, R255, R259, R342): the codeword at the head of the decoder queue ends, counted by its
result; a missing milestone is given up at the gap limit; a complete frame goes to the egress queue of its class, or is
discarded while the lane is down; a frame of the standard link goes to the same lane; the fixed queue goes out first, and
nothing while ROOT is lost or every class is paused. (The model's own choice: log 145.) -/
def Obligations.FramesLeaveTheLayby : Prop :=
  ∀ (p : Fin 8) (c : DecodedCw) (d : DqCw) (rest : List DqCw) (node : Fin 16) (cls : Fin 8) (ms : BitVec 16) (i : BitVec 12)
    (w : RxCw) (bs phy : List Byte) (used : List Nat) (last : Nat) (s : State),
    let x := s.port p
    let fits := fun (k : Nat) (bs : List Byte) => k < x.lane.egress.length ∧
      ((x.lane.egress.getD k []).map fun f => f.2.length).sum + bs.length ≤ 20480
    let lands := fun (k i : Nat) (bs : List Byte) (t : State) =>
      (t.port p).lane.egress.getD k [] = x.lane.egress.getD k [] ++ [(i, bs)]
    (Live p s →
      (x.sig.dq = d :: rest → x.sig.noticeHeld = [] → Completes (.codewordDecoded p c) s fun t =>
        (t.port p).sig.dq = rest ∧
        (c.converged = false ∨ iterLimit p s < c.iterations → StsSet .FEC_CW_FAIL p t ∧ Counted p .FEC_CW_FAIL s t ∧
          (t.port p).rxCws = x.rxCws) ∧
        (c.converged = true → c.iterations ≤ iterLimit p s →
          (cwCrcOk c.info = false → StsSet .FEC_CRC_FAIL p t ∧ Counted p .FEC_CRC_FAIL s t ∧
            (t.port p).rxCws = x.rxCws) ∧
          (cwCrcOk c.info = true → Counted p .FEC_CW_RX_OK s t))) ∧
      (let m := pmsOf p node cls s
       inShow p s = true → m.rxAny = true → msBelow ms.toNat m.rxHigh = true →
       resolved x node cls m.rxA ms.toNat = false → Completes (.gapLimitExpiry p node cls ms) s fun t =>
         StsSet .LAYBY_P_GAP_TIMEOUT p t ∧ Counted p .LAYBY_P_GAP_TIMEOUTS s t) ∧
      (isSpur p s = false → stOf p s ≠ stCompat → releasable p 0 i.toNat s = some (w, bs, used, last) →
        getF p .HOST_LB_ACTIVE s = 0 →
        (laneUp p s = true → fits w.cls bs → Completes (.frameRelease p ⟨i, phy⟩) s fun t => lands w.cls i.toNat bs t ∧
          (streamOf p i.toNat t).ldRx = some last ∧
          (streamOf p i.toNat t).frDeliv = satAdd 48 (streamOf p i.toNat s).frDeliv 1) ∧
        (laneUp p s = false → Completes (.frameRelease p ⟨i, phy⟩) s fun t => Counted p .HOST_LANE_DROP s t ∧
          (streamOf p i.toNat t).ldRx = some last)) ∧
      (stOf p s = stCompat → getF p .LINKUP_T1_LINK s = 1 → getF p .HOST_LB_ACTIVE s = 0 → laneUp p s = true → fits 0 phy →
        Completes (.frameRelease p ⟨i, phy⟩) s fun t => lands 0 0 phy t ∧ t.fields = s.fields) ∧
      (laneUp p s = true → ∀ f q, x.lane.egFixed = f :: q → Completes (.egressFrameTx p) s fun t =>
        t.sent = .host p 0 f :: s.sent ∧ (t.port p).lane.egFixed = q ∧ Counted p .STATS_RX_FRAMES s t)) ∧
    (x.sig.dq = [] → exec (.codewordDecoded p c) s = .next s) ∧
    (isSpur p s = false → stOf p s ≠ stCompat → releasable p 0 i.toNat s = none → exec (.frameRelease p ⟨i, phy⟩) s = .next s) ∧
    (x.lane.egFixed = [] → getF p .HOST_PAUSED s = 255 → exec (.egressFrameTx p) s = .next s) ∧
    (clocked s = false → exec (.egressFrameTx p) s = .next s)

/-- The host lane (R339, R340, R343, R346 to R349): its lock decides HOST_UP; PAUSE and PFC stop classes and their expiry
frees one; the codewords that the lane's RS-FEC corrected or lost are counted; a request that is not well formed is counted,
one with a single READ of nothing is answered code 4 and its response leaves; loopbacks start by their precondition; time
stamps are read from the head and popped; TSU EN = 0 empties both FIFOs. (The model's own choices: log 90, 91, 132, 161.) -/
def Obligations.HostLanesServeTheHost : Prop :=
  ∀ (p : Fin 8) (w : Acc) (mac : BitVec 48) (version count enable : Byte) (quanta : List (BitVec 16)) (cls : Fin 8)
    (records : List (List Byte)) (f : EthFrame) (q : IbReq) (rest : List IbReq) (s : State),
    let l := (s.port p).lane
    let taken := takesInband p s
    (Live p s →
      (laneUp p s = false → getF p (.en .HOST) s = 1 → domainOn (30 + p.val) s = true → getF p .HOST_HOST_RATE s ≠ 0 →
        Completes (.hostLockChange p true) s fun t => laneUp p t = true) ∧
      (laneUp p s = true → Completes (.hostLockChange p false) s fun t => laneUp p t = false ∧
        StsSet .HOST_LANE_DOWN p t ∧ (t.port p).lane.egFixed = [] ∧ ∀ e ∈ (t.port p).lane.egress, e = []) ∧
      (laneUp p s = true → getF p .HOST_LB_ACTIVE s = 1 → getF p .HOST_HOST_RATE s = 1 → rwF p .HOST_FEC_EN s = 1 →
        Completes (.hostFrame p f) s fun t =>
          getF p .HOST_RSFEC_CORR t = min (getF p .HOST_RSFEC_CORR s + f.fecCorr) (2 ^ 48 - 1) ∧
          getF p .HOST_RSFEC_UNCORR t = min (getF p .HOST_RSFEC_UNCORR s + f.fecUncorr) (2 ^ 48 - 1)) ∧
      (laneUp p s = true → getF p .HOST_LB_ACTIVE s ≠ 1 → rwF p .HOST_RX_FC_EN s = 1 →
        ((quanta.map (·.toNat)).headD 0 ≠ 0 → Completes (.macControlFrame p 1 enable quanta) s fun t =>
          getF p .HOST_PAUSED t = 255 ∧ Counted p .HOST_CTRL_RX s t) ∧
        Completes (.macControlFrame p 0x0101 enable quanta) s (fun t => Counted p .HOST_CTRL_RX s t ∧
          ∀ c < 8, bitOf (getF p .HOST_PAUSED t) c =
            if bitOf enable.toNat c then (quanta.map (·.toNat)).getD c 0 != 0 else bitOf (getF p .HOST_PAUSED s) c)) ∧
      Completes (.pauseQuantaExpiry p cls) s (fun t => bitOf (getF p .HOST_PAUSED t) cls = false ∧
        (∀ c < 8, c ≠ cls.val → bitOf (getF p .HOST_PAUSED t) c = bitOf (getF p .HOST_PAUSED s) c) ∧
        OnlyFields [Fld.HOST_PAUSED.key p] s t) ∧
      (taken = true → ibGood version.toNat count.toNat records = false →
        Completes (.inbandRequest p mac version count records) s fun t =>
          StsSet .HOST_IB_ERR p t ∧ Counted p .HOST_IB_ERR s t ∧ t.ports = s.ports ∧ t.access = s.access) ∧
      (∀ tag addr, taken = true → Quiet s → l.ib = [] → tag < 8 → addr < 2 ^ 24 → target addr = .nothing →
        Completes (.inbandRequest p mac 1 1 [beBytes 1 (16 + tag) ++ beBytes 3 addr ++ beBytes 4 0]) s fun t =>
          (t.port p).lane.ib = [{ src := mac.toNat, count := 1, todo := [], done := [respRecord tag opRead addr 4 0] }]) ∧
      (l.ib = q :: rest → q.done.length = q.count → Quiet s → laneUp p s = true →
        Completes (.inbandResponse p) s fun t => (t.port p).lane.ib = rest ∧ Counted p .HOST_IB_RX s t ∧
          t.sent = .host p 2 (ownFrame q.src (srcMac p s) 0x88B5 ([1, BitVec.ofNat 8 q.count] ++ q.done.flatMap id)) ::
            s.sent)) ∧
    (∀ v, 1 ≤ v → v ≤ 4 → Sets w p .HOST_LB_MODE v s → getF p .HOST_LB_ACTIVE s = 0 →
      (mayLoop p v s = true → retrainMeets p s = false → Completes (.lbMode p w) s fun t => getF p .HOST_LB_ACTIVE t = v ∧
        (v = 2 ∨ v = 3 → stOf p t = stLoop)) ∧
      (mayLoop p v s = false → Completes (.lbMode p w) s fun t => getF p .HOST_LB_ACTIVE t = 0 ∧
        StsSet .HOST_LB_REFUSED p t)) ∧
    (StartsAt w p .TSU_TX_POP s → Completes (.txPop p w) s fun t => (t.port p).lane.tsTx = l.tsTx.drop 1 ∧
      Ended p .TSU_TX_POP (if l.tsTx = [] then ocRejected else ocDone) t) ∧
    (StartsAt w p .TSU_RX_POP s → Completes (.rxPop p w) s fun t => (t.port p).lane.tsRx = l.tsRx.drop 1 ∧
      Ended p .TSU_RX_POP (if l.tsRx = [] then ocRejected else ocDone) t) ∧
    (Reads w .TSU p 0x030 s → Completes (.tsHeadRead p false w) s fun t => ∀ k ∈ [1, 2, 3],
      mapGet t.caps ((Fld.TSU_TX_TS k).key p * 16 + w.mtag.toNat) = some ((tsHead p false s).getD k 0)) ∧
    (Reads w .TSU p 0x050 s → Completes (.tsHeadRead p true w) s fun t => ∀ k ∈ [1, 2, 3],
      mapGet t.caps ((Fld.TSU_RX_TS k).key p * 16 + w.mtag.toNat) = some ((tsHead p true s).getD k 0)) ∧
    (Sets w p (.en .TSU) 0 s → getF p (.en .TSU) s = 1 → getF p (.lock .TSU) s ≠ 1 →
      Completes (.tsuEnClear p w) s fun t => getF p (.en .TSU) t = 0 ∧ (t.port p).lane.tsTx = [] ∧
        (t.port p).lane.tsRx = [])

/-! ### Spur mode -/

/-- Acquisition (R288 to R294, R305, R318): energy, detection with its level, the sync symbol; a search that closes or a rise
is a false detection and starts again; a late receiver loses a burst it did not hear from its preamble on; a stronger burst
captures; a header with a bad CRC ends the reception, one of a reserved kind or against the schedule discards its burst, any
other is shown; the end of a burst gives its codewords to the decoders where the table is held; quiet re-arms. (The model's
own choices: log 101, 132.) -/
def Obligations.SpurReceiversAcquireBursts : Prop :=
  ∀ (p : Fin 8) (lvl : BitVec 12) (afc : BitVec 16) (preamble slot : Nat) (above : Bool) (h : Header)
    (snr : Option (List (Nat × Int))) (s : State), Live p s →
    let a := (s.port p).spur.acq
    let x := s.port p
    let again := fun (t : State) => (t.port p).spur.acq = { st := if above = true then 1 else 0, late := above }
    (detects p s = true →
      (a.st = 0 → Completes (.energyDetect p) s fun t => (t.port p).spur.acq.st = 1 ∧ t.fields = s.fields) ∧
      (a.st = 4 → Completes (.reArm p) s fun t => (t.port p).spur.acq = {} ∧ t.fields = s.fields)) ∧
    (stOf p s = stQuiet → a.late = false →
      (a.st = 1 → Completes (.burstDetect p lvl) s fun t => (t.port p).spur.acq.st = 2 ∧ t.fields = s.fields) ∧
      (a.st = 2 → riseMeets p s = false → Completes (.syncSearchClose p above) s fun t => again t ∧
        StsSet .WATCH_WAKE_FALSE p t ∧ Counted p .WATCH_WAKE_FALSE s t)) ∧
    (spurOn p s = true →
      (a.st = 1 → Completes (.burstDetect p lvl) s fun t => (t.port p).spur.acq.st = 2 ∧
        getF p .BURST_FROZEN_LVL t = lvl.toNat ∧ Counted p .BURST_DETECTS s t) ∧
      (a.st = 2 →
        (a.late = false → Completes (.syncFound p lvl afc preamble) s fun t => (t.port p).spur.acq.st = 3 ∧
          getF p .BURST_SYNC_LVL t = lvl.toNat ∧ getF p .BURST_AFC t = afc.toNat) ∧
        (a.late = true → preamble < 2048 → Completes (.syncFound p lvl afc preamble) s fun t =>
          (t.port p).spur.acq.st = 4 ∧ StsSet .BURST_LATE_START_LOSS p t ∧ Counted p .BURST_LATE_START_LOSS s t) ∧
        (a.late = false → riseMeets p s = false → Completes (.syncSearchClose p above) s fun t => again t ∧
          StsSet .BURST_FALSE_DETECT p t ∧ Counted p .BURST_FALSE_DETECT s t) ∧
        (syncMeets p s = false → Completes (.energyRise p above) s fun t => again t ∧ StsSet .BURST_FALSE_DETECT p t)) ∧
      (a.st = 1 → a.late = true → Completes (.lateStartLoss p) s fun t => (t.port p).spur.acq.st = 4 ∧
        StsSet .BURST_LATE_START_LOSS p t) ∧
      (a.st = 3 → endMeets p s = false → Completes (.captured p above) s fun t => again t ∧ StsSet .BURST_CAPTURED p t ∧
        Counted p .BURST_CAPTURED s t ∧ (t.port p).sig.dq = x.sig.dq ∧ (t.port p).rxCws = x.rxCws) ∧
      (a.st = 3 → a.hdr = none →
        Completes (.headerRx p slot false h snr) s (fun t => (t.port p).spur.acq.st = 4 ∧ StsSet .BURST_HDR_ERR p t ∧
          Counted p .BURST_HDR_ERR s t) ∧
        (3 ≤ h.kind → Completes (.headerRx p slot true h snr) s fun t =>
          (t.port p).spur.acq = { a with hdr := some { h with kind := 7 } } ∧ Counted p .BURST_BURSTS_RX s t) ∧
        (h.kind < 3 → breaksSchedule p slot h s = true → Completes (.headerRx p slot true h snr) s fun t =>
          (t.port p).spur.acq = { a with hdr := some { h with kind := 7 } } ∧ StsSet .BURST_SCHEDULE_VIOLATION p t) ∧
        (h.kind < 3 → breaksSchedule p slot h s = false → Completes (.headerRx p slot true h snr) s fun t =>
          (t.port p).spur.acq.hdr = some h ∧ getF p .BURST_LAST_SENDER t = h.sender % 2 ^ 4 ∧
          getF p .BURST_LAST_DEST t = h.dest % 2 ^ 5 ∧ getF p .BURST_LAST_LEN t = h.len % 2 ^ 5 ∧
          getF p .BURST_LAST_KIND t = h.kind ∧ getF p .BURST_LAST_VALID t = 1)) ∧
      (a.st = 3 → a.hdr = none ∨ a.hdr = some { h with kind := 7 } → Completes (.burstEnd p above) s fun t =>
        again t ∧ t.fields = s.fields ∧ (t.port p).sig.dq = x.sig.dq) ∧
      (a.st = 3 → a.hdr = some h → h.kind = 0 → h.len ≠ 0 → spurShow p s = true → h.dest = ownNode p s →
        (rxLoads p h.sender h.dest h.tableGen s = none → Completes (.burstEnd p above) s fun t => again t ∧
          StsSet .BURST_GEN_MISS p t ∧ (t.port p).sig.dq = x.sig.dq) ∧
        ∀ loads n, rxLoads p h.sender h.dest h.tableGen s = some loads → n = h.len * loadSum loads / 2304 →
          dqWaiting p s + n ≤ 256 → Completes (.burstEnd p above) s fun t => again t ∧
            (t.port p).sig.dq.length = x.sig.dq.length + n))

/-- Membership (R279, R280, R285, R295 to R298, R305): a gatehouse that hears nobody founds the spur, a member fails; the
schedule of a cycle gives grants that do not overlap and stay between the schedule and the contention slot; a knock is
answered in the welcomes; a member joins, leaves and is dropped as the schedules say; a grant is used with bursts. (The
model's own choices: log 103, 132.) -/
def Obligations.SpurMembersFollowTheSchedule : Prop :=
  ∀ (p : Fin 8) (c : Schedule) (no : Word) (wel : Welcome) (g : Grant) (slot backoff uid : Nat) (node : Fin 16) (port : Fin 8)
    (s : State), Live p s →
    let x := (s.port p).spur
    let mem := getF p .ROUNDABOUT_MEMBERS s
    (stOf p s = stSpListen → lineMode p s = 2 → Completes (.spListenTimeout p) s fun t => stOf p t = stSpGate ∧
      getF p .ROUNDABOUT_MEMBERS t = 1 ∧ getF p .TONES_TX_SF_CNT t = 0 ∧ StsSet .PORT_CTL_LINK_UP p t) ∧
    (stOf p s = stSpListen → lineMode p s = 3 → Completes (.spListenTimeout p) s fun t =>
      stOf p t = stFail ∧ getF p .PORT_CTL_DOWN_CAUSE t = 3) ∧
    (stOf p s = stSpGate → Completes (.cycleStart p) s fun t => (t.port p).spur.haveSched = true ∧
      Counted p .ROUNDABOUT_CYCLES s t ∧
      (getF p .TXSH_MUTED s ≠ 1 → ∃ head body, .burst p.val 1 head body ∈ t.sent) ∧
      (t.port p).spur.grants.Pairwise (fun a b => a.first + a.len ≤ b.first) ∧ (t.port p).spur.grants.length ≤ 32 ∧
      ∀ a ∈ (t.port p).spur.grants, 4 ≤ a.first ∧ 2 ≤ a.len ∧
        a.first + a.len < slotsOf (latched p .ROUNDABOUT_CYCLE s) ∧ bitOf mem a.node = true) ∧
    (lineMode p s = 2 → stOf p s = stSpGate → Completes (.scheduleRx p c no 0) s fun t => stOf p t = stFail ∧
      getF p .PORT_CTL_DOWN_CAUSE t = 15 ∧ StsSet .ROUNDABOUT_GATEHOUSE_CLASH p t) ∧
    (lineMode p s ≠ 2 →
      (stOf p s = stSpKnock → (c.welcomes.find? fun w => w.uid == ownUid) = some wel →
        (wel.result = 0 → Completes (.scheduleRx p c no 0) s fun t => stOf p t = stSpMember ∧
          StsSet .ROUNDABOUT_JOINED p t ∧ Counted p .ROUNDABOUT_JOINS s t ∧
          getF p .ROUNDABOUT_MEMBERS t = c.members % 2 ^ 16 ∧ (t.port p).spur.grants = c.grants) ∧
        (wel.result ≠ 0 → Completes (.scheduleRx p c no 0) s fun t => stOf p t = stFail ∧
          getF p .PORT_CTL_DOWN_CAUSE t = 13)) ∧
      (stOf p s = stSpMember → bitOf c.members (ownNode p s) = false → Completes (.scheduleRx p c no 0) s fun t =>
        stOf p t = stSpListen ∧ getF p .PORT_CTL_DOWN_CAUSE t = 14) ∧
      (stOf p s = stSpMember → latched p .ROUNDABOUT_MISS_LIMIT s ≤ x.missRun + 1 →
        Completes (.scheduleMiss p) s fun t => stOf p t = stSpListen ∧ getF p .PORT_CTL_DOWN_CAUSE t = 14 ∧
          StsSet .ROUNDABOUT_SCHED_LOST p t) ∧
      (stOf p s = stSpMember → x.missRun + 1 < latched p .ROUNDABOUT_MISS_LIMIT s →
        Completes (.scheduleMiss p) s fun t => stOf p t = stSpMember ∧ (t.port p).spur.haveSched = false ∧
          (t.port p).spur.missRun = x.missRun + 1 ∧ Counted p .ROUNDABOUT_SCHED_LOST s t)) ∧
    (spurShow p s = true → grantAt p slot s = some g → 2 ≤ g.len → getF p .TXSH_MUTED s ≠ 1 →
      Completes (.grantStart p slot) s fun t => ∃ kind head body, .burst p.val kind head body ∈ t.sent) ∧
    (spurShow p s = true → grantAt p slot s = none → exec (.grantStart p slot) s = .next s) ∧
    (stOf p s = stSpGate → node.val ≠ 0 → bitOf mem node = true → (nodeOf p node s).knockAt = none →
      ((nodeOf p node s).misses + 1 < latched p .ROUNDABOUT_MISS_LIMIT s → Completes (.grantMiss p node) s fun t =>
        (nodeOf p node t).misses = (nodeOf p node s).misses + 1 ∧ getF p .ROUNDABOUT_MEMBERS t = mem) ∧
      (latched p .ROUNDABOUT_MISS_LIMIT s ≤ (nodeOf p node s).misses + 1 → Completes (.grantMiss p node) s fun t =>
        bitOf (getF p .ROUNDABOUT_MEMBERS t) node = false ∧ StsSet .ROUNDABOUT_MEMBER_DROPPED p t ∧
        Counted p .ROUNDABOUT_DROPS s t ∧ Counted p .ROUNDABOUT_GRANT_MISSES s t)) ∧
    (∀ misses, stOf p s = stSpGate → node.val ≠ 0 → bitOf mem node = true →
      (nodeOf p node s).knockAt = some (s.cycles, misses) → latched p .ROUNDABOUT_MISS_LIMIT s ≤ misses + 1 →
      Completes (.grantMiss p node) s fun t => getF p .ROUNDABOUT_MEMBERS t = mem ∧
        StsSet .ROUNDABOUT_MEMBER_DROPPED p t ∧ Counted p .ROUNDABOUT_DROPS s t) ∧
    (stOf p s = stSpKnock → x.haveSched = true → x.answer = false → x.backoff = 0 →
      Completes (.knockSend p backoff) s fun t => (t.port p).spur.knocks = x.knocks + 1 ∧
        (t.port p).spur.answer = true ∧ Counted p .ROUNDABOUT_KNOCKS_TX s t ∧
        (getF p .TXSH_MUTED s ≠ 1 → ∃ head, .burst p.val 8 head [] ∈ t.sent)) ∧
    (stOf p s = stSpGate → node.val ≠ 0 →
      (bitOf mem node = false → Completes (.knockRx p uid node port) s fun t =>
        bitOf (getF p .ROUNDABOUT_MEMBERS t) node = true ∧ StsSet .ROUNDABOUT_JOINED p t ∧
        (t.port p).spur.welcomes = x.welcomes ++ [⟨uid, node, 0⟩]) ∧
      (bitOf mem node = true → (nodeOf p node s).uid ≠ uid → Completes (.knockRx p uid node port) s fun t =>
        getF p .ROUNDABOUT_MEMBERS t = mem ∧ StsSet .ROUNDABOUT_KNOCK_REFUSED p t ∧
        ∃ r, r ≠ 0 ∧ (t.port p).spur.welcomes = x.welcomes ++ [⟨uid, node, r⟩]))

/-- Spur tables and noise (R299 to R301, R303): a table received for this node is the one its bursts toward that partner use;
a new table goes out in a TABLE burst under the port's grant and again while the partner names the old one; the noise of a
group moves by a sixteenth of the difference. -/
def Obligations.SpurTablesAndNoise : Prop :=
  ∀ (p : Fin 8) (node : Fin 16) (dest : BitVec 5) (gen : BitVec 8) (loads : List (Nat × Nat)) (tab : SpTable) (k : Nat)
    (old x q : Int) (at_ : Nat) (s : State), Live p s → node.val ≠ ownNode p s →
    (spurOn p s = true → dest.toNat = ownNode p s → Completes (.tableRx p node dest gen loads) s fun t =>
      (nodeOf p node t).txTab = some ⟨gen.toNat, mapPutAll [] (loads.filter fun e => e.2 != 0)⟩) ∧
    (hasGrant p s = true → (nodeOf p node s).newTab = some tab → getF p .TXSH_MUTED s ≠ 1 →
      ((nodeOf p node s).dirty = true → Completes (.tableSend p node) s fun t => (nodeOf p node t).dirty = false ∧
        (nodeOf p node t).newTab = some tab ∧ Counted p .BURST_BURSTS_TX s t ∧
        ∃ head body, .burst p.val 2 head body ∈ t.sent) ∧
      ((nodeOf p node s).dirty = false →
        2 ≤ ((s.port p).spur.cycleNo + 2 ^ 32 - (nodeOf p node s).newTabCycle) % 2 ^ 32 →
        Completes (.tableResend p node) s fun t => (nodeOf p node t).newTabCycle = (s.port p).spur.cycleNo ∧
          ∃ head body, .burst p.val 2 head body ∈ t.sent)) ∧
    (spurOn p s = true → k < 64 → mapGet (s.port p).spur.noise k = some (old, at_) → 15 * old + x = 16 * q →
      Completes (.idleSlotNoise p [(k, x)]) s fun t => mapGet (t.port p).spur.noise k = some (q, s.cycles) ∧
        Counted p .ROUNDABOUT_IDLE_SLOTS s t)

/-! ### Calibration, scrubbing, lay-by ECC -/

/-- Calibration (R386 to R389, R392, R393): a background run starts and stores its trims or reports why not; HYB_RECAL asks
for a pause and its end takes the new trims only for a gain of 1 dB; SAVE starts unless write protection is strapped, and its
end makes the written area current. (The model's own choice: log 132.) -/
def Obligations.CalibrationRunsAndSaves : Prop :=
  ∀ (p : Fin 8) (w : Acc) (power gain10 : Int) (kurt dev ratio hybR hybC : Nat) (trim : Nat × Int × Int × Int) (c : CalSet)
    (s : State),
    (Live p s → mayBg p s = true → Completes (.bgCalRun p) s fun t => (t.port p).cal.bgRun = true ∧ t.fields = s.fields) ∧
    (Live p s → (s.port p).cal.bgRun = true →
      (power < -350 → Completes (.bgCalDone p power kurt false dev ratio [trim]) s fun t =>
        (t.port p).cal.bgRun = false ∧ (t.port p).cal.trims = (s.port p).cal.trims ∧
        getF p .CAL_LAST_OUTCOME t = ocUnfit ∧ getF p .CAL_LAST_REASON t = 1 ∧ Counted p .CAL_RUNS_UNFIT s t) ∧
      (unfitReason power kurt false dev ratio = 0 → (s.port p).sig.paused = false → (s.port p).cal.bgPaused = false →
        trim.1 < 32 → s.nvm.portMarks = [] → trimInRange trim = true →
        trimInStep trim (mapGetD (s.port p).cal.trims trim.1 0) = true →
        Completes (.bgCalDone p power kurt false dev ratio [trim]) s fun t => (t.port p).cal.bgRun = false ∧
          mapGet (t.port p).cal.trims trim.1 = some (packTrim trim.2.1 trim.2.2.1 trim.2.2.2) ∧
          getF p .CAL_LAST_OUTCOME t = ocDone)) ∧
    (StartsAt w p .CAL_HYB_RECAL s → mayHyb p s = true → (s.port p).rc.todo = [] → Completes (.hybRecal p w) s fun t =>
      Runs p .CAL_HYB_RECAL t ∧ (t.port p).rc.req.map (·.op) = some 6) ∧
    (StartsAt w p .CAL_HYB_RECAL s → mayHyb p s = false → Completes (.hybRecal p w) s fun t =>
      Ended p .CAL_HYB_RECAL ocRejected t ∧ (t.port p).rc = (s.port p).rc) ∧
    (Live p s → (s.port p).rc.pauseOwn = true → getF p .CAL_HYB_RECAL s = 1 → retrainMeets p s = false →
      (10 ≤ gain10 → Completes (.hybRecalDone p gain10 hybR hybC []) s fun t => getF p .AFE_HYB_R t = hybR % 2 ^ 6 ∧
        getF p .AFE_HYB_C t = hybC % 2 ^ 6 ∧ StsSet .AFE_HYB_CHANGED p t ∧ Counted p .CAL_HYB_RECALS s t ∧
        Ended p .CAL_HYB_RECAL ocDone t) ∧
      (gain10 < 10 → Completes (.hybRecalDone p gain10 hybR hybC []) s fun t =>
        getF p .AFE_HYB_R t = getF p .AFE_HYB_R s ∧ Ended p .CAL_HYB_RECAL ocImplausible t)) ∧
    (Starts w 0 .NVMC_SAVE s → getF 0 .RSTC_STRAP_WP s ≠ 1 → (∀ k < 8, fullRuns k s = false) →
      Completes (.save w) s fun t => Runs 0 .NVMC_SAVE t ∧ getF 0 .NVMC_WRITING t = 1 ∧
        t.nvm.saving.map (·.gen) = some (getF 0 .NVMC_CAL_GEN s + 1)) ∧
    (Starts w 0 .NVMC_SAVE s → getF 0 .RSTC_STRAP_WP s = 1 → Completes (.save w) s fun t =>
      Ended 0 .NVMC_SAVE ocRejected t ∧ t.nvm = s.nvm) ∧
    (s.nvm.saving = some c → getF 0 .NVMC_SAVE s = 1 → gateWants 2 s = true → domainOn 2 s = true →
      Completes (.saveDone false) s fun t => t.nvm.saving = none ∧ t.nvm.current = (if s.nvm.current = 0 then 1 else 0) ∧
        getF 0 .NVMC_WRITING t = 0 ∧ getF 0 .NVMC_CAL_GEN t = c.gen % 2 ^ 32 ∧ Ended 0 .NVMC_SAVE ocDone t)

/-- Upsets of memories (R88, R266, R267, R423, R425): a scrubbing pass leaves the three copies of every triplicated field
alike and is counted; a corrected word of the lay-by reports and loses nothing, an uncorrectable one gives its transmit
codeword up; PEAK_CLR takes the present use; a supply fault of a monitored rail is fatal, VDDIO has none. (The model's own
choice: log 122.) -/
def Obligations.UpsetsAreScrubbedAndReported : Prop :=
  ∀ (b : Blk × Nat) (f : Fld) (p : Fin 8) (n : Fin 4) (w : Acc) (bank : Byte) (row : Nat) (node : Fin 16) (cls : Fin 8)
    (ms : BitVec 16) (c : TxCw) (s : State),
    (b ∈ allBlks → f ∈ blkFlds b.1 → f.tmr = true → Completes .tmrScrub s fun t =>
      mapGet t.tmr (f.key b.2) = none ∧ Counted 0 .TMRS_PASSES s t) ∧
    (Live p s → domainOn (10 + pavOf p) s = true →
      Completes (.laybyEccError p true bank row false node cls ms) s (fun t =>
        (t.port p).cws = (s.port p).cws ∧ bitOf (getF (pavOf p) (.sts .LAYBY) t) 0 = true ∧
        Counted (pavOf p) .LAYBY_ECC_CORR s t) ∧
      (let mine := fun (v : TxCw) => v.node == node.val && v.cls == cls.val && v.ms == ms.toNat
       (s.port p).cws.find? mine = some c → (s.port p).notices.length < 1024 →
       Completes (.laybyEccError p false bank row false node cls ms) s fun t =>
         (∀ v ∈ (t.port p).cws, mine v = false) ∧ bitOf (getF (pavOf p) (.sts .LAYBY) t) 1 = true ∧
         ⟨node, cls, c.stream, ms.toNat, none⟩ ∈ (t.port p).notices)) ∧
    (Starts w n .LAYBY_PEAK_CLR s → Completes (.peakClr n w) s fun t =>
      getF n .LAYBY_PEAK_EVEN t = usedSlots (2 * n.val) s % 2 ^ 14 ∧
        getF n .LAYBY_PEAK_ODD t = usedSlots (2 * n.val + 1) s % 2 ^ 14 ∧
      Ended n .LAYBY_PEAK_CLR ocDone t) ∧
    (∀ rail ∈ [Rail.core, .nvm], s.clk.episode = false → Completes (.supplyFault rail) s fun t =>
      getF 0 .RSTC_FATAL_BLOCK t = blkBase .PWRC 0 ∧ t.clk.episode = true ∧ keeper t = none) ∧
    exec (.supplyFault .vddio) s = .next s ∧ exec (.supplyFault .vbak) s = .next s

/-! ### What line events leave alone -/

/-- Nothing that happens on a line or a host lane reaches the other ports, the memories, the Keeper, the loader, the layouts,
NVM contents, clocks or resets: of the registers only those of its own port, of its pavilion's pools and lay-by, CHAIN (a
dropped EVENT) and LODGE (the survey log) change. (The model's own choice: log 127.) -/
def Obligations.LineEventsTouchTheirPortAlone : Prop :=
  ∀ (c : Instr) (p : Fin 8) (s t : State), linePort c = some p → exec c s = .next t →
    (∀ k, k ≠ p.val → t.port k = s.port k) ∧
    (∀ b u f, (b, u) ∈ allBlks → f ∈ blkFlds b → b ∉ [Blk.CHAIN, .LODGE] → (b ∈ portBlks → u ≠ p.val) →
      (b ∈ [Blk.DECPOOL, .ENGPOOL, .LAYBY] → u ≠ pavOf p) → getF u f t = getF u f s) ∧
    { t with fields := s.fields, tmr := s.tmr, irqOut := s.irqOut, events := s.events, latchAt := s.latchAt,
             faultAt := s.faultAt, injOpen := s.injOpen, ports := s.ports, sent := s.sent, fresh := s.fresh,
             log := s.log } = s

/-- The events of the chain, clocks, power, layouts, spares and calibration store no byte of memory, take no access and put
no command into the queue; what the device has sent before them stays sent. A mode change may switch a domain off and so end
accesses that were under way there (R45, R71). -/
def Obligations.DeviceEventsStoreNothing : Prop :=
  ∀ (c : Instr) (s t : State), deviceEvent c = true → (c = .modeCommitT → Quiet s) → exec c s = .next t →
    KeepsMemory s t ∧ t.pending = s.pending ∧ t.access = s.access ∧ t.timedOut = s.timedOut ∧ ∃ l, t.sent = l ++ s.sent
end

