-- ==== Sys2Proof/Laws/Map.lean ====
section
/-! SUPPORT. What reading a finite map answers after an update, and that updates keep its keys rising. -/

namespace Sys2Proof.Machine

variable {α : Type}

theorem mapGet_nil (k : Nat) : mapGet ([] : NMap α) k = none := rfl

theorem mapGet_cons (e : Nat × α) (m : NMap α) (k : Nat) :
    mapGet (e :: m) k = if e.1 = k then some e.2 else mapGet m k := by
  by_cases h : e.1 = k <;> simp [mapGet, h]

/-- A key set reads its value. -/
@[simp] theorem mapGet_mapPut_same (m : NMap α) (k : Nat) (v : α) : mapGet (mapPut m k v) k = some v := by
  induction m with
  | nil => simp [mapPut, mapGet_cons]
  | cons e m ih =>
    simp only [mapPut]
    split
    · simp [mapGet_cons]
    · split
      · simp [mapGet_cons]
      · rw [mapGet_cons, if_neg (by omega), ih]

/-- Setting one key leaves the others. -/
theorem mapGet_mapPut_other (m : NMap α) {j k : Nat} (v : α) (h : j ≠ k) : mapGet (mapPut m k v) j = mapGet m j := by
  have hk : k ≠ j := fun e => h e.symm
  induction m with
  | nil => simp [mapPut, mapGet_cons, hk]
  | cons e m ih =>
    simp only [mapPut]
    split
    · simp [mapGet_cons, hk]
    · split
      · rename_i he
        simp [mapGet_cons, hk, show e.1 ≠ j from he ▸ hk]
      · simp [mapGet_cons, ih]

/-- A key deleted reads nothing. -/
@[simp] theorem mapGet_mapDel_same (m : NMap α) (k : Nat) : mapGet (mapDel m k) k = none := by
  induction m with
  | nil => rfl
  | cons e m ih =>
    by_cases h : e.1 = k
    · simpa [mapDel, h] using ih
    · simpa [mapDel, h, mapGet_cons] using ih

/-- Deleting one key leaves the others. -/
theorem mapGet_mapDel_other (m : NMap α) {j k : Nat} (h : j ≠ k) : mapGet (mapDel m k) j = mapGet m j := by
  have hk : k ≠ j := fun e => h e.symm
  induction m with
  | nil => rfl
  | cons e m ih =>
    by_cases he : e.1 = k
    · simp only [mapDel] at ih
      simp [mapDel, he, mapGet_cons, hk, ih]
    · simp only [mapDel] at ih
      simp [mapDel, he, mapGet_cons, ih]

theorem mem_mapPut {m : NMap α} {k : Nat} {v : α} {e : Nat × α} (h : e ∈ mapPut m k v) : e = (k, v) ∨ e ∈ m := by
  induction m with
  | nil => simpa [mapPut] using h
  | cons d m ih =>
    simp only [mapPut] at h
    split at h
    · simpa using h
    · split at h
      · rcases List.mem_cons.mp h with h | h
        · exact .inl h
        · exact .inr (List.mem_cons_of_mem _ h)
      · rcases List.mem_cons.mp h with h | h
        · exact .inr (by simp [h])
        · exact (ih h).imp id (List.mem_cons_of_mem _)

/-- Setting a key keeps the keys rising. -/
theorem mapPut_rising {m : NMap α} (k : Nat) (v : α) (h : m.Pairwise fun x y => x.1 < y.1) :
    (mapPut m k v).Pairwise fun x y => x.1 < y.1 := by
  induction m with
  | nil => simp [mapPut]
  | cons e m ih =>
    obtain ⟨he, hm⟩ := List.pairwise_cons.mp h
    simp only [mapPut]
    split
    · refine List.pairwise_cons.mpr ⟨fun y hy => ?_, h⟩
      rcases List.mem_cons.mp hy with rfl | hy
      · assumption
      · have := he y hy
        simp only at *
        omega
    · split
      · subst_vars
        exact List.pairwise_cons.mpr ⟨he, hm⟩
      · refine List.pairwise_cons.mpr ⟨fun y hy => ?_, ih hm⟩
        rcases mem_mapPut hy with rfl | hy
        · simp only at *
          omega
        · exact he y hy

/-- Deleting a key keeps the keys rising. -/
theorem mapDel_rising {m : NMap α} (k : Nat) (h : m.Pairwise fun x y => x.1 < y.1) :
    (mapDel m k).Pairwise fun x y => x.1 < y.1 := h.filter _

end Sys2Proof.Machine
end

