-- ==== Sys2Proof/Laws/State.lean ====
section
/-! SUPPORT. One lemma for each field of State under each named update, so that no proof unfolds a record update. -/

namespace Sys2Proof.Machine

/-! ### setF -/

@[simp] theorem setF_pending (u : Nat) (f : Fld) (v : Nat) (s : State) : (setF u f v s).pending = s.pending := rfl
@[simp] theorem setF_banked (u : Nat) (f : Fld) (v : Nat) (s : State) : (setF u f v s).banked = s.banked := rfl
@[simp] theorem setF_snaps (u : Nat) (f : Fld) (v : Nat) (s : State) : (setF u f v s).snaps = s.snaps := rfl
@[simp] theorem setF_caps (u : Nat) (f : Fld) (v : Nat) (s : State) : (setF u f v s).caps = s.caps := rfl
@[simp] theorem setF_wcap (u : Nat) (f : Fld) (v : Nat) (s : State) : (setF u f v s).wcap = s.wcap := rfl
@[simp] theorem setF_wbuf (u : Nat) (f : Fld) (v : Nat) (s : State) : (setF u f v s).wbuf = s.wbuf := rfl
@[simp] theorem setF_post (u : Nat) (f : Fld) (v : Nat) (s : State) : (setF u f v s).post = s.post := rfl
@[simp] theorem setF_access (u : Nat) (f : Fld) (v : Nat) (s : State) : (setF u f v s).access = s.access := rfl
@[simp] theorem setF_timedOut (u : Nat) (f : Fld) (v : Nat) (s : State) : (setF u f v s).timedOut = s.timedOut := rfl
@[simp] theorem setF_events (u : Nat) (f : Fld) (v : Nat) (s : State) : (setF u f v s).events = s.events := rfl
@[simp] theorem setF_irqOut (u : Nat) (f : Fld) (v : Nat) (s : State) : (setF u f v s).irqOut = s.irqOut := rfl
@[simp] theorem setF_sent (u : Nat) (f : Fld) (v : Nat) (s : State) : (setF u f v s).sent = s.sent := rfl
@[simp] theorem setF_acting (u : Nat) (f : Fld) (v : Nat) (s : State) : (setF u f v s).acting = s.acting := rfl
@[simp] theorem setF_forwarding (u : Nat) (f : Fld) (v : Nat) (s : State) : (setF u f v s).forwarding = s.forwarding := rfl
@[simp] theorem setF_hopWait (u : Nat) (f : Fld) (v : Nat) (s : State) : (setF u f v s).hopWait = s.hopWait := rfl
@[simp] theorem setF_slotMark (u : Nat) (f : Fld) (v : Nat) (s : State) : (setF u f v s).slotMark = s.slotMark := rfl
@[simp] theorem setF_abortAt (u : Nat) (f : Fld) (v : Nat) (s : State) : (setF u f v s).abortAt = s.abortAt := rfl
@[simp] theorem setF_latchAt (u : Nat) (f : Fld) (v : Nat) (s : State) : (setF u f v s).latchAt = s.latchAt := rfl
@[simp] theorem setF_faultAt (u : Nat) (f : Fld) (v : Nat) (s : State) : (setF u f v s).faultAt = s.faultAt := rfl
@[simp] theorem setF_cycles (u : Nat) (f : Fld) (v : Nat) (s : State) : (setF u f v s).cycles = s.cycles := rfl
@[simp] theorem setF_secs (u : Nat) (f : Fld) (v : Nat) (s : State) : (setF u f v s).secs = s.secs := rfl
@[simp] theorem setF_nanos (u : Nat) (f : Fld) (v : Nat) (s : State) : (setF u f v s).nanos = s.nanos := rfl
@[simp] theorem setF_frac (u : Nat) (f : Fld) (v : Nat) (s : State) : (setF u f v s).frac = s.frac := rfl
@[simp] theorem setF_leaseLeft (u : Nat) (f : Fld) (v : Nat) (s : State) : (setF u f v s).leaseLeft = s.leaseLeft := rfl
@[simp] theorem setF_nominee (u : Nat) (f : Fld) (v : Nat) (s : State) : (setF u f v s).nominee = s.nominee := rfl
@[simp] theorem setF_nonces (u : Nat) (f : Fld) (v : Nat) (s : State) : (setF u f v s).nonces = s.nonces := rfl
@[simp] theorem setF_refused (u : Nat) (f : Fld) (v : Nat) (s : State) : (setF u f v s).refused = s.refused := rfl
@[simp] theorem setF_armLeft (u : Nat) (f : Fld) (v : Nat) (s : State) : (setF u f v s).armLeft = s.armLeft := rfl
@[simp] theorem setF_injOpen (u : Nat) (f : Fld) (v : Nat) (s : State) : (setF u f v s).injOpen = s.injOpen := rfl
@[simp] theorem setF_staging (u : Nat) (f : Fld) (v : Nat) (s : State) : (setF u f v s).staging = s.staging := rfl
@[simp] theorem setF_interrupted (u : Nat) (f : Fld) (v : Nat) (s : State) : (setF u f v s).interrupted = s.interrupted := rfl
@[simp] theorem setF_loader (u : Nat) (f : Fld) (v : Nat) (s : State) : (setF u f v s).loader = s.loader := rfl
@[simp] theorem setF_nvm (u : Nat) (f : Fld) (v : Nat) (s : State) : (setF u f v s).nvm = s.nvm := rfl
@[simp] theorem setF_clk (u : Nat) (f : Fld) (v : Nat) (s : State) : (setF u f v s).clk = s.clk := rfl
@[simp] theorem setF_causes (u : Nat) (f : Fld) (v : Nat) (s : State) : (setF u f v s).causes = s.causes := rfl
@[simp] theorem setF_log (u : Nat) (f : Fld) (v : Nat) (s : State) : (setF u f v s).log = s.log := rfl
@[simp] theorem setF_pavs (u : Nat) (f : Fld) (v : Nat) (s : State) : (setF u f v s).pavs = s.pavs := rfl
@[simp] theorem setF_ports (u : Nat) (f : Fld) (v : Nat) (s : State) : (setF u f v s).ports = s.ports := rfl
@[simp] theorem setF_fresh (u : Nat) (f : Fld) (v : Nat) (s : State) : (setF u f v s).fresh = s.fresh := rfl
@[simp] theorem setF_port (u : Nat) (f : Fld) (v : Nat) (s : State) (k : Nat) : (setF u f v s).port k = s.port k := rfl
@[simp] theorem setF_pav (u : Nat) (f : Fld) (v : Nat) (s : State) (k : Nat) : (setF u f v s).pav k = s.pav k := rfl

/-! ### setB -/

@[simp] theorem setB_pending (m u : Nat) (f : Fld) (v : Nat) (s : State) : (setB m u f v s).pending = s.pending := rfl
@[simp] theorem setB_fields (m u : Nat) (f : Fld) (v : Nat) (s : State) : (setB m u f v s).fields = s.fields := rfl
@[simp] theorem setB_tmr (m u : Nat) (f : Fld) (v : Nat) (s : State) : (setB m u f v s).tmr = s.tmr := rfl
@[simp] theorem setB_snaps (m u : Nat) (f : Fld) (v : Nat) (s : State) : (setB m u f v s).snaps = s.snaps := rfl
@[simp] theorem setB_caps (m u : Nat) (f : Fld) (v : Nat) (s : State) : (setB m u f v s).caps = s.caps := rfl
@[simp] theorem setB_wcap (m u : Nat) (f : Fld) (v : Nat) (s : State) : (setB m u f v s).wcap = s.wcap := rfl
@[simp] theorem setB_wbuf (m u : Nat) (f : Fld) (v : Nat) (s : State) : (setB m u f v s).wbuf = s.wbuf := rfl
@[simp] theorem setB_post (m u : Nat) (f : Fld) (v : Nat) (s : State) : (setB m u f v s).post = s.post := rfl
@[simp] theorem setB_access (m u : Nat) (f : Fld) (v : Nat) (s : State) : (setB m u f v s).access = s.access := rfl
@[simp] theorem setB_timedOut (m u : Nat) (f : Fld) (v : Nat) (s : State) : (setB m u f v s).timedOut = s.timedOut := rfl
@[simp] theorem setB_events (m u : Nat) (f : Fld) (v : Nat) (s : State) : (setB m u f v s).events = s.events := rfl
@[simp] theorem setB_irqOut (m u : Nat) (f : Fld) (v : Nat) (s : State) : (setB m u f v s).irqOut = s.irqOut := rfl
@[simp] theorem setB_sent (m u : Nat) (f : Fld) (v : Nat) (s : State) : (setB m u f v s).sent = s.sent := rfl
@[simp] theorem setB_acting (m u : Nat) (f : Fld) (v : Nat) (s : State) : (setB m u f v s).acting = s.acting := rfl
@[simp] theorem setB_forwarding (m u : Nat) (f : Fld) (v : Nat) (s : State) : (setB m u f v s).forwarding = s.forwarding := rfl
@[simp] theorem setB_hopWait (m u : Nat) (f : Fld) (v : Nat) (s : State) : (setB m u f v s).hopWait = s.hopWait := rfl
@[simp] theorem setB_slotMark (m u : Nat) (f : Fld) (v : Nat) (s : State) : (setB m u f v s).slotMark = s.slotMark := rfl
@[simp] theorem setB_abortAt (m u : Nat) (f : Fld) (v : Nat) (s : State) : (setB m u f v s).abortAt = s.abortAt := rfl
@[simp] theorem setB_latchAt (m u : Nat) (f : Fld) (v : Nat) (s : State) : (setB m u f v s).latchAt = s.latchAt := rfl
@[simp] theorem setB_faultAt (m u : Nat) (f : Fld) (v : Nat) (s : State) : (setB m u f v s).faultAt = s.faultAt := rfl
@[simp] theorem setB_cycles (m u : Nat) (f : Fld) (v : Nat) (s : State) : (setB m u f v s).cycles = s.cycles := rfl
@[simp] theorem setB_secs (m u : Nat) (f : Fld) (v : Nat) (s : State) : (setB m u f v s).secs = s.secs := rfl
@[simp] theorem setB_nanos (m u : Nat) (f : Fld) (v : Nat) (s : State) : (setB m u f v s).nanos = s.nanos := rfl
@[simp] theorem setB_frac (m u : Nat) (f : Fld) (v : Nat) (s : State) : (setB m u f v s).frac = s.frac := rfl
@[simp] theorem setB_leaseLeft (m u : Nat) (f : Fld) (v : Nat) (s : State) : (setB m u f v s).leaseLeft = s.leaseLeft := rfl
@[simp] theorem setB_nominee (m u : Nat) (f : Fld) (v : Nat) (s : State) : (setB m u f v s).nominee = s.nominee := rfl
@[simp] theorem setB_nonces (m u : Nat) (f : Fld) (v : Nat) (s : State) : (setB m u f v s).nonces = s.nonces := rfl
@[simp] theorem setB_refused (m u : Nat) (f : Fld) (v : Nat) (s : State) : (setB m u f v s).refused = s.refused := rfl
@[simp] theorem setB_armLeft (m u : Nat) (f : Fld) (v : Nat) (s : State) : (setB m u f v s).armLeft = s.armLeft := rfl
@[simp] theorem setB_injOpen (m u : Nat) (f : Fld) (v : Nat) (s : State) : (setB m u f v s).injOpen = s.injOpen := rfl
@[simp] theorem setB_staging (m u : Nat) (f : Fld) (v : Nat) (s : State) : (setB m u f v s).staging = s.staging := rfl
@[simp] theorem setB_interrupted (m u : Nat) (f : Fld) (v : Nat) (s : State) : (setB m u f v s).interrupted = s.interrupted := rfl
@[simp] theorem setB_loader (m u : Nat) (f : Fld) (v : Nat) (s : State) : (setB m u f v s).loader = s.loader := rfl
@[simp] theorem setB_nvm (m u : Nat) (f : Fld) (v : Nat) (s : State) : (setB m u f v s).nvm = s.nvm := rfl
@[simp] theorem setB_clk (m u : Nat) (f : Fld) (v : Nat) (s : State) : (setB m u f v s).clk = s.clk := rfl
@[simp] theorem setB_causes (m u : Nat) (f : Fld) (v : Nat) (s : State) : (setB m u f v s).causes = s.causes := rfl
@[simp] theorem setB_log (m u : Nat) (f : Fld) (v : Nat) (s : State) : (setB m u f v s).log = s.log := rfl
@[simp] theorem setB_pavs (m u : Nat) (f : Fld) (v : Nat) (s : State) : (setB m u f v s).pavs = s.pavs := rfl
@[simp] theorem setB_ports (m u : Nat) (f : Fld) (v : Nat) (s : State) : (setB m u f v s).ports = s.ports := rfl
@[simp] theorem setB_fresh (m u : Nat) (f : Fld) (v : Nat) (s : State) : (setB m u f v s).fresh = s.fresh := rfl
@[simp] theorem setB_port (m u : Nat) (f : Fld) (v : Nat) (s : State) (k : Nat) : (setB m u f v s).port k = s.port k := rfl
@[simp] theorem setB_pav (m u : Nat) (f : Fld) (v : Nat) (s : State) (k : Nat) : (setB m u f v s).pav k = s.pav k := rfl

/-! ### modPort -/

@[simp] theorem modPort_pending (p : Nat) (f : Port → Port) (s : State) : (modPort p f s).pending = s.pending := rfl
@[simp] theorem modPort_fields (p : Nat) (f : Port → Port) (s : State) : (modPort p f s).fields = s.fields := rfl
@[simp] theorem modPort_tmr (p : Nat) (f : Port → Port) (s : State) : (modPort p f s).tmr = s.tmr := rfl
@[simp] theorem modPort_banked (p : Nat) (f : Port → Port) (s : State) : (modPort p f s).banked = s.banked := rfl
@[simp] theorem modPort_snaps (p : Nat) (f : Port → Port) (s : State) : (modPort p f s).snaps = s.snaps := rfl
@[simp] theorem modPort_caps (p : Nat) (f : Port → Port) (s : State) : (modPort p f s).caps = s.caps := rfl
@[simp] theorem modPort_wcap (p : Nat) (f : Port → Port) (s : State) : (modPort p f s).wcap = s.wcap := rfl
@[simp] theorem modPort_wbuf (p : Nat) (f : Port → Port) (s : State) : (modPort p f s).wbuf = s.wbuf := rfl
@[simp] theorem modPort_post (p : Nat) (f : Port → Port) (s : State) : (modPort p f s).post = s.post := rfl
@[simp] theorem modPort_access (p : Nat) (f : Port → Port) (s : State) : (modPort p f s).access = s.access := rfl
@[simp] theorem modPort_timedOut (p : Nat) (f : Port → Port) (s : State) : (modPort p f s).timedOut = s.timedOut := rfl
@[simp] theorem modPort_events (p : Nat) (f : Port → Port) (s : State) : (modPort p f s).events = s.events := rfl
@[simp] theorem modPort_irqOut (p : Nat) (f : Port → Port) (s : State) : (modPort p f s).irqOut = s.irqOut := rfl
@[simp] theorem modPort_sent (p : Nat) (f : Port → Port) (s : State) : (modPort p f s).sent = s.sent := rfl
@[simp] theorem modPort_acting (p : Nat) (f : Port → Port) (s : State) : (modPort p f s).acting = s.acting := rfl
@[simp] theorem modPort_forwarding (p : Nat) (f : Port → Port) (s : State) : (modPort p f s).forwarding = s.forwarding := rfl
@[simp] theorem modPort_hopWait (p : Nat) (f : Port → Port) (s : State) : (modPort p f s).hopWait = s.hopWait := rfl
@[simp] theorem modPort_slotMark (p : Nat) (f : Port → Port) (s : State) : (modPort p f s).slotMark = s.slotMark := rfl
@[simp] theorem modPort_abortAt (p : Nat) (f : Port → Port) (s : State) : (modPort p f s).abortAt = s.abortAt := rfl
@[simp] theorem modPort_latchAt (p : Nat) (f : Port → Port) (s : State) : (modPort p f s).latchAt = s.latchAt := rfl
@[simp] theorem modPort_faultAt (p : Nat) (f : Port → Port) (s : State) : (modPort p f s).faultAt = s.faultAt := rfl
@[simp] theorem modPort_cycles (p : Nat) (f : Port → Port) (s : State) : (modPort p f s).cycles = s.cycles := rfl
@[simp] theorem modPort_secs (p : Nat) (f : Port → Port) (s : State) : (modPort p f s).secs = s.secs := rfl
@[simp] theorem modPort_nanos (p : Nat) (f : Port → Port) (s : State) : (modPort p f s).nanos = s.nanos := rfl
@[simp] theorem modPort_frac (p : Nat) (f : Port → Port) (s : State) : (modPort p f s).frac = s.frac := rfl
@[simp] theorem modPort_leaseLeft (p : Nat) (f : Port → Port) (s : State) : (modPort p f s).leaseLeft = s.leaseLeft := rfl
@[simp] theorem modPort_nominee (p : Nat) (f : Port → Port) (s : State) : (modPort p f s).nominee = s.nominee := rfl
@[simp] theorem modPort_nonces (p : Nat) (f : Port → Port) (s : State) : (modPort p f s).nonces = s.nonces := rfl
@[simp] theorem modPort_refused (p : Nat) (f : Port → Port) (s : State) : (modPort p f s).refused = s.refused := rfl
@[simp] theorem modPort_armLeft (p : Nat) (f : Port → Port) (s : State) : (modPort p f s).armLeft = s.armLeft := rfl
@[simp] theorem modPort_injOpen (p : Nat) (f : Port → Port) (s : State) : (modPort p f s).injOpen = s.injOpen := rfl
@[simp] theorem modPort_staging (p : Nat) (f : Port → Port) (s : State) : (modPort p f s).staging = s.staging := rfl
@[simp] theorem modPort_interrupted (p : Nat) (f : Port → Port) (s : State) : (modPort p f s).interrupted = s.interrupted := rfl
@[simp] theorem modPort_loader (p : Nat) (f : Port → Port) (s : State) : (modPort p f s).loader = s.loader := rfl
@[simp] theorem modPort_nvm (p : Nat) (f : Port → Port) (s : State) : (modPort p f s).nvm = s.nvm := rfl
@[simp] theorem modPort_clk (p : Nat) (f : Port → Port) (s : State) : (modPort p f s).clk = s.clk := rfl
@[simp] theorem modPort_causes (p : Nat) (f : Port → Port) (s : State) : (modPort p f s).causes = s.causes := rfl
@[simp] theorem modPort_log (p : Nat) (f : Port → Port) (s : State) : (modPort p f s).log = s.log := rfl
@[simp] theorem modPort_pavs (p : Nat) (f : Port → Port) (s : State) : (modPort p f s).pavs = s.pavs := rfl
@[simp] theorem modPort_ports (p : Nat) (f : Port → Port) (s : State) : (modPort p f s).ports = mapPut s.ports p (f (s.port p)) := rfl
@[simp] theorem modPort_fresh (p : Nat) (f : Port → Port) (s : State) : (modPort p f s).fresh = s.fresh := rfl
@[simp] theorem modPort_pav (p : Nat) (f : Port → Port) (s : State) (k : Nat) : (modPort p f s).pav k = s.pav k := rfl

/-! ### modPav -/

@[simp] theorem modPav_pending (n : Nat) (f : Pav → Pav) (s : State) : (modPav n f s).pending = s.pending := rfl
@[simp] theorem modPav_fields (n : Nat) (f : Pav → Pav) (s : State) : (modPav n f s).fields = s.fields := rfl
@[simp] theorem modPav_tmr (n : Nat) (f : Pav → Pav) (s : State) : (modPav n f s).tmr = s.tmr := rfl
@[simp] theorem modPav_banked (n : Nat) (f : Pav → Pav) (s : State) : (modPav n f s).banked = s.banked := rfl
@[simp] theorem modPav_snaps (n : Nat) (f : Pav → Pav) (s : State) : (modPav n f s).snaps = s.snaps := rfl
@[simp] theorem modPav_caps (n : Nat) (f : Pav → Pav) (s : State) : (modPav n f s).caps = s.caps := rfl
@[simp] theorem modPav_wcap (n : Nat) (f : Pav → Pav) (s : State) : (modPav n f s).wcap = s.wcap := rfl
@[simp] theorem modPav_wbuf (n : Nat) (f : Pav → Pav) (s : State) : (modPav n f s).wbuf = s.wbuf := rfl
@[simp] theorem modPav_post (n : Nat) (f : Pav → Pav) (s : State) : (modPav n f s).post = s.post := rfl
@[simp] theorem modPav_access (n : Nat) (f : Pav → Pav) (s : State) : (modPav n f s).access = s.access := rfl
@[simp] theorem modPav_timedOut (n : Nat) (f : Pav → Pav) (s : State) : (modPav n f s).timedOut = s.timedOut := rfl
@[simp] theorem modPav_events (n : Nat) (f : Pav → Pav) (s : State) : (modPav n f s).events = s.events := rfl
@[simp] theorem modPav_irqOut (n : Nat) (f : Pav → Pav) (s : State) : (modPav n f s).irqOut = s.irqOut := rfl
@[simp] theorem modPav_sent (n : Nat) (f : Pav → Pav) (s : State) : (modPav n f s).sent = s.sent := rfl
@[simp] theorem modPav_acting (n : Nat) (f : Pav → Pav) (s : State) : (modPav n f s).acting = s.acting := rfl
@[simp] theorem modPav_forwarding (n : Nat) (f : Pav → Pav) (s : State) : (modPav n f s).forwarding = s.forwarding := rfl
@[simp] theorem modPav_hopWait (n : Nat) (f : Pav → Pav) (s : State) : (modPav n f s).hopWait = s.hopWait := rfl
@[simp] theorem modPav_slotMark (n : Nat) (f : Pav → Pav) (s : State) : (modPav n f s).slotMark = s.slotMark := rfl
@[simp] theorem modPav_abortAt (n : Nat) (f : Pav → Pav) (s : State) : (modPav n f s).abortAt = s.abortAt := rfl
@[simp] theorem modPav_latchAt (n : Nat) (f : Pav → Pav) (s : State) : (modPav n f s).latchAt = s.latchAt := rfl
@[simp] theorem modPav_faultAt (n : Nat) (f : Pav → Pav) (s : State) : (modPav n f s).faultAt = s.faultAt := rfl
@[simp] theorem modPav_cycles (n : Nat) (f : Pav → Pav) (s : State) : (modPav n f s).cycles = s.cycles := rfl
@[simp] theorem modPav_secs (n : Nat) (f : Pav → Pav) (s : State) : (modPav n f s).secs = s.secs := rfl
@[simp] theorem modPav_nanos (n : Nat) (f : Pav → Pav) (s : State) : (modPav n f s).nanos = s.nanos := rfl
@[simp] theorem modPav_frac (n : Nat) (f : Pav → Pav) (s : State) : (modPav n f s).frac = s.frac := rfl
@[simp] theorem modPav_leaseLeft (n : Nat) (f : Pav → Pav) (s : State) : (modPav n f s).leaseLeft = s.leaseLeft := rfl
@[simp] theorem modPav_nominee (n : Nat) (f : Pav → Pav) (s : State) : (modPav n f s).nominee = s.nominee := rfl
@[simp] theorem modPav_nonces (n : Nat) (f : Pav → Pav) (s : State) : (modPav n f s).nonces = s.nonces := rfl
@[simp] theorem modPav_refused (n : Nat) (f : Pav → Pav) (s : State) : (modPav n f s).refused = s.refused := rfl
@[simp] theorem modPav_armLeft (n : Nat) (f : Pav → Pav) (s : State) : (modPav n f s).armLeft = s.armLeft := rfl
@[simp] theorem modPav_injOpen (n : Nat) (f : Pav → Pav) (s : State) : (modPav n f s).injOpen = s.injOpen := rfl
@[simp] theorem modPav_staging (n : Nat) (f : Pav → Pav) (s : State) : (modPav n f s).staging = s.staging := rfl
@[simp] theorem modPav_interrupted (n : Nat) (f : Pav → Pav) (s : State) : (modPav n f s).interrupted = s.interrupted := rfl
@[simp] theorem modPav_loader (n : Nat) (f : Pav → Pav) (s : State) : (modPav n f s).loader = s.loader := rfl
@[simp] theorem modPav_nvm (n : Nat) (f : Pav → Pav) (s : State) : (modPav n f s).nvm = s.nvm := rfl
@[simp] theorem modPav_clk (n : Nat) (f : Pav → Pav) (s : State) : (modPav n f s).clk = s.clk := rfl
@[simp] theorem modPav_causes (n : Nat) (f : Pav → Pav) (s : State) : (modPav n f s).causes = s.causes := rfl
@[simp] theorem modPav_log (n : Nat) (f : Pav → Pav) (s : State) : (modPav n f s).log = s.log := rfl
@[simp] theorem modPav_pavs (n : Nat) (f : Pav → Pav) (s : State) : (modPav n f s).pavs = mapPut s.pavs n (f (s.pav n)) := rfl
@[simp] theorem modPav_ports (n : Nat) (f : Pav → Pav) (s : State) : (modPav n f s).ports = s.ports := rfl
@[simp] theorem modPav_fresh (n : Nat) (f : Pav → Pav) (s : State) : (modPav n f s).fresh = s.fresh := rfl
@[simp] theorem modPav_port (n : Nat) (f : Pav → Pav) (s : State) (k : Nat) : (modPav n f s).port k = s.port k := rfl

/-! ### modLoader -/

@[simp] theorem modLoader_pending (f : Loader → Loader) (s : State) : (modLoader f s).pending = s.pending := rfl
@[simp] theorem modLoader_fields (f : Loader → Loader) (s : State) : (modLoader f s).fields = s.fields := rfl
@[simp] theorem modLoader_tmr (f : Loader → Loader) (s : State) : (modLoader f s).tmr = s.tmr := rfl
@[simp] theorem modLoader_banked (f : Loader → Loader) (s : State) : (modLoader f s).banked = s.banked := rfl
@[simp] theorem modLoader_snaps (f : Loader → Loader) (s : State) : (modLoader f s).snaps = s.snaps := rfl
@[simp] theorem modLoader_caps (f : Loader → Loader) (s : State) : (modLoader f s).caps = s.caps := rfl
@[simp] theorem modLoader_wcap (f : Loader → Loader) (s : State) : (modLoader f s).wcap = s.wcap := rfl
@[simp] theorem modLoader_wbuf (f : Loader → Loader) (s : State) : (modLoader f s).wbuf = s.wbuf := rfl
@[simp] theorem modLoader_post (f : Loader → Loader) (s : State) : (modLoader f s).post = s.post := rfl
@[simp] theorem modLoader_access (f : Loader → Loader) (s : State) : (modLoader f s).access = s.access := rfl
@[simp] theorem modLoader_timedOut (f : Loader → Loader) (s : State) : (modLoader f s).timedOut = s.timedOut := rfl
@[simp] theorem modLoader_events (f : Loader → Loader) (s : State) : (modLoader f s).events = s.events := rfl
@[simp] theorem modLoader_irqOut (f : Loader → Loader) (s : State) : (modLoader f s).irqOut = s.irqOut := rfl
@[simp] theorem modLoader_sent (f : Loader → Loader) (s : State) : (modLoader f s).sent = s.sent := rfl
@[simp] theorem modLoader_acting (f : Loader → Loader) (s : State) : (modLoader f s).acting = s.acting := rfl
@[simp] theorem modLoader_forwarding (f : Loader → Loader) (s : State) : (modLoader f s).forwarding = s.forwarding := rfl
@[simp] theorem modLoader_hopWait (f : Loader → Loader) (s : State) : (modLoader f s).hopWait = s.hopWait := rfl
@[simp] theorem modLoader_slotMark (f : Loader → Loader) (s : State) : (modLoader f s).slotMark = s.slotMark := rfl
@[simp] theorem modLoader_abortAt (f : Loader → Loader) (s : State) : (modLoader f s).abortAt = s.abortAt := rfl
@[simp] theorem modLoader_latchAt (f : Loader → Loader) (s : State) : (modLoader f s).latchAt = s.latchAt := rfl
@[simp] theorem modLoader_faultAt (f : Loader → Loader) (s : State) : (modLoader f s).faultAt = s.faultAt := rfl
@[simp] theorem modLoader_cycles (f : Loader → Loader) (s : State) : (modLoader f s).cycles = s.cycles := rfl
@[simp] theorem modLoader_secs (f : Loader → Loader) (s : State) : (modLoader f s).secs = s.secs := rfl
@[simp] theorem modLoader_nanos (f : Loader → Loader) (s : State) : (modLoader f s).nanos = s.nanos := rfl
@[simp] theorem modLoader_frac (f : Loader → Loader) (s : State) : (modLoader f s).frac = s.frac := rfl
@[simp] theorem modLoader_leaseLeft (f : Loader → Loader) (s : State) : (modLoader f s).leaseLeft = s.leaseLeft := rfl
@[simp] theorem modLoader_nominee (f : Loader → Loader) (s : State) : (modLoader f s).nominee = s.nominee := rfl
@[simp] theorem modLoader_nonces (f : Loader → Loader) (s : State) : (modLoader f s).nonces = s.nonces := rfl
@[simp] theorem modLoader_refused (f : Loader → Loader) (s : State) : (modLoader f s).refused = s.refused := rfl
@[simp] theorem modLoader_armLeft (f : Loader → Loader) (s : State) : (modLoader f s).armLeft = s.armLeft := rfl
@[simp] theorem modLoader_injOpen (f : Loader → Loader) (s : State) : (modLoader f s).injOpen = s.injOpen := rfl
@[simp] theorem modLoader_staging (f : Loader → Loader) (s : State) : (modLoader f s).staging = s.staging := rfl
@[simp] theorem modLoader_interrupted (f : Loader → Loader) (s : State) : (modLoader f s).interrupted = s.interrupted := rfl
@[simp] theorem modLoader_loader (f : Loader → Loader) (s : State) : (modLoader f s).loader = f s.loader := rfl
@[simp] theorem modLoader_nvm (f : Loader → Loader) (s : State) : (modLoader f s).nvm = s.nvm := rfl
@[simp] theorem modLoader_clk (f : Loader → Loader) (s : State) : (modLoader f s).clk = s.clk := rfl
@[simp] theorem modLoader_causes (f : Loader → Loader) (s : State) : (modLoader f s).causes = s.causes := rfl
@[simp] theorem modLoader_log (f : Loader → Loader) (s : State) : (modLoader f s).log = s.log := rfl
@[simp] theorem modLoader_pavs (f : Loader → Loader) (s : State) : (modLoader f s).pavs = s.pavs := rfl
@[simp] theorem modLoader_ports (f : Loader → Loader) (s : State) : (modLoader f s).ports = s.ports := rfl
@[simp] theorem modLoader_fresh (f : Loader → Loader) (s : State) : (modLoader f s).fresh = s.fresh := rfl
@[simp] theorem modLoader_port (f : Loader → Loader) (s : State) (k : Nat) : (modLoader f s).port k = s.port k := rfl
@[simp] theorem modLoader_pav (f : Loader → Loader) (s : State) (k : Nat) : (modLoader f s).pav k = s.pav k := rfl

/-! ### modClk -/

@[simp] theorem modClk_pending (f : Clk → Clk) (s : State) : (modClk f s).pending = s.pending := rfl
@[simp] theorem modClk_fields (f : Clk → Clk) (s : State) : (modClk f s).fields = s.fields := rfl
@[simp] theorem modClk_tmr (f : Clk → Clk) (s : State) : (modClk f s).tmr = s.tmr := rfl
@[simp] theorem modClk_banked (f : Clk → Clk) (s : State) : (modClk f s).banked = s.banked := rfl
@[simp] theorem modClk_snaps (f : Clk → Clk) (s : State) : (modClk f s).snaps = s.snaps := rfl
@[simp] theorem modClk_caps (f : Clk → Clk) (s : State) : (modClk f s).caps = s.caps := rfl
@[simp] theorem modClk_wcap (f : Clk → Clk) (s : State) : (modClk f s).wcap = s.wcap := rfl
@[simp] theorem modClk_wbuf (f : Clk → Clk) (s : State) : (modClk f s).wbuf = s.wbuf := rfl
@[simp] theorem modClk_post (f : Clk → Clk) (s : State) : (modClk f s).post = s.post := rfl
@[simp] theorem modClk_access (f : Clk → Clk) (s : State) : (modClk f s).access = s.access := rfl
@[simp] theorem modClk_timedOut (f : Clk → Clk) (s : State) : (modClk f s).timedOut = s.timedOut := rfl
@[simp] theorem modClk_events (f : Clk → Clk) (s : State) : (modClk f s).events = s.events := rfl
@[simp] theorem modClk_irqOut (f : Clk → Clk) (s : State) : (modClk f s).irqOut = s.irqOut := rfl
@[simp] theorem modClk_sent (f : Clk → Clk) (s : State) : (modClk f s).sent = s.sent := rfl
@[simp] theorem modClk_acting (f : Clk → Clk) (s : State) : (modClk f s).acting = s.acting := rfl
@[simp] theorem modClk_forwarding (f : Clk → Clk) (s : State) : (modClk f s).forwarding = s.forwarding := rfl
@[simp] theorem modClk_hopWait (f : Clk → Clk) (s : State) : (modClk f s).hopWait = s.hopWait := rfl
@[simp] theorem modClk_slotMark (f : Clk → Clk) (s : State) : (modClk f s).slotMark = s.slotMark := rfl
@[simp] theorem modClk_abortAt (f : Clk → Clk) (s : State) : (modClk f s).abortAt = s.abortAt := rfl
@[simp] theorem modClk_latchAt (f : Clk → Clk) (s : State) : (modClk f s).latchAt = s.latchAt := rfl
@[simp] theorem modClk_faultAt (f : Clk → Clk) (s : State) : (modClk f s).faultAt = s.faultAt := rfl
@[simp] theorem modClk_cycles (f : Clk → Clk) (s : State) : (modClk f s).cycles = s.cycles := rfl
@[simp] theorem modClk_secs (f : Clk → Clk) (s : State) : (modClk f s).secs = s.secs := rfl
@[simp] theorem modClk_nanos (f : Clk → Clk) (s : State) : (modClk f s).nanos = s.nanos := rfl
@[simp] theorem modClk_frac (f : Clk → Clk) (s : State) : (modClk f s).frac = s.frac := rfl
@[simp] theorem modClk_leaseLeft (f : Clk → Clk) (s : State) : (modClk f s).leaseLeft = s.leaseLeft := rfl
@[simp] theorem modClk_nominee (f : Clk → Clk) (s : State) : (modClk f s).nominee = s.nominee := rfl
@[simp] theorem modClk_nonces (f : Clk → Clk) (s : State) : (modClk f s).nonces = s.nonces := rfl
@[simp] theorem modClk_refused (f : Clk → Clk) (s : State) : (modClk f s).refused = s.refused := rfl
@[simp] theorem modClk_armLeft (f : Clk → Clk) (s : State) : (modClk f s).armLeft = s.armLeft := rfl
@[simp] theorem modClk_injOpen (f : Clk → Clk) (s : State) : (modClk f s).injOpen = s.injOpen := rfl
@[simp] theorem modClk_staging (f : Clk → Clk) (s : State) : (modClk f s).staging = s.staging := rfl
@[simp] theorem modClk_interrupted (f : Clk → Clk) (s : State) : (modClk f s).interrupted = s.interrupted := rfl
@[simp] theorem modClk_loader (f : Clk → Clk) (s : State) : (modClk f s).loader = s.loader := rfl
@[simp] theorem modClk_nvm (f : Clk → Clk) (s : State) : (modClk f s).nvm = s.nvm := rfl
@[simp] theorem modClk_clk (f : Clk → Clk) (s : State) : (modClk f s).clk = f s.clk := rfl
@[simp] theorem modClk_causes (f : Clk → Clk) (s : State) : (modClk f s).causes = s.causes := rfl
@[simp] theorem modClk_log (f : Clk → Clk) (s : State) : (modClk f s).log = s.log := rfl
@[simp] theorem modClk_pavs (f : Clk → Clk) (s : State) : (modClk f s).pavs = s.pavs := rfl
@[simp] theorem modClk_ports (f : Clk → Clk) (s : State) : (modClk f s).ports = s.ports := rfl
@[simp] theorem modClk_fresh (f : Clk → Clk) (s : State) : (modClk f s).fresh = s.fresh := rfl
@[simp] theorem modClk_port (f : Clk → Clk) (s : State) (k : Nat) : (modClk f s).port k = s.port k := rfl
@[simp] theorem modClk_pav (f : Clk → Clk) (s : State) (k : Nat) : (modClk f s).pav k = s.pav k := rfl

/-! ### modNvm -/

@[simp] theorem modNvm_pending (f : Nvm → Nvm) (s : State) : (modNvm f s).pending = s.pending := rfl
@[simp] theorem modNvm_fields (f : Nvm → Nvm) (s : State) : (modNvm f s).fields = s.fields := rfl
@[simp] theorem modNvm_tmr (f : Nvm → Nvm) (s : State) : (modNvm f s).tmr = s.tmr := rfl
@[simp] theorem modNvm_banked (f : Nvm → Nvm) (s : State) : (modNvm f s).banked = s.banked := rfl
@[simp] theorem modNvm_snaps (f : Nvm → Nvm) (s : State) : (modNvm f s).snaps = s.snaps := rfl
@[simp] theorem modNvm_caps (f : Nvm → Nvm) (s : State) : (modNvm f s).caps = s.caps := rfl
@[simp] theorem modNvm_wcap (f : Nvm → Nvm) (s : State) : (modNvm f s).wcap = s.wcap := rfl
@[simp] theorem modNvm_wbuf (f : Nvm → Nvm) (s : State) : (modNvm f s).wbuf = s.wbuf := rfl
@[simp] theorem modNvm_post (f : Nvm → Nvm) (s : State) : (modNvm f s).post = s.post := rfl
@[simp] theorem modNvm_access (f : Nvm → Nvm) (s : State) : (modNvm f s).access = s.access := rfl
@[simp] theorem modNvm_timedOut (f : Nvm → Nvm) (s : State) : (modNvm f s).timedOut = s.timedOut := rfl
@[simp] theorem modNvm_events (f : Nvm → Nvm) (s : State) : (modNvm f s).events = s.events := rfl
@[simp] theorem modNvm_irqOut (f : Nvm → Nvm) (s : State) : (modNvm f s).irqOut = s.irqOut := rfl
@[simp] theorem modNvm_sent (f : Nvm → Nvm) (s : State) : (modNvm f s).sent = s.sent := rfl
@[simp] theorem modNvm_acting (f : Nvm → Nvm) (s : State) : (modNvm f s).acting = s.acting := rfl
@[simp] theorem modNvm_forwarding (f : Nvm → Nvm) (s : State) : (modNvm f s).forwarding = s.forwarding := rfl
@[simp] theorem modNvm_hopWait (f : Nvm → Nvm) (s : State) : (modNvm f s).hopWait = s.hopWait := rfl
@[simp] theorem modNvm_slotMark (f : Nvm → Nvm) (s : State) : (modNvm f s).slotMark = s.slotMark := rfl
@[simp] theorem modNvm_abortAt (f : Nvm → Nvm) (s : State) : (modNvm f s).abortAt = s.abortAt := rfl
@[simp] theorem modNvm_latchAt (f : Nvm → Nvm) (s : State) : (modNvm f s).latchAt = s.latchAt := rfl
@[simp] theorem modNvm_faultAt (f : Nvm → Nvm) (s : State) : (modNvm f s).faultAt = s.faultAt := rfl
@[simp] theorem modNvm_cycles (f : Nvm → Nvm) (s : State) : (modNvm f s).cycles = s.cycles := rfl
@[simp] theorem modNvm_secs (f : Nvm → Nvm) (s : State) : (modNvm f s).secs = s.secs := rfl
@[simp] theorem modNvm_nanos (f : Nvm → Nvm) (s : State) : (modNvm f s).nanos = s.nanos := rfl
@[simp] theorem modNvm_frac (f : Nvm → Nvm) (s : State) : (modNvm f s).frac = s.frac := rfl
@[simp] theorem modNvm_leaseLeft (f : Nvm → Nvm) (s : State) : (modNvm f s).leaseLeft = s.leaseLeft := rfl
@[simp] theorem modNvm_nominee (f : Nvm → Nvm) (s : State) : (modNvm f s).nominee = s.nominee := rfl
@[simp] theorem modNvm_nonces (f : Nvm → Nvm) (s : State) : (modNvm f s).nonces = s.nonces := rfl
@[simp] theorem modNvm_refused (f : Nvm → Nvm) (s : State) : (modNvm f s).refused = s.refused := rfl
@[simp] theorem modNvm_armLeft (f : Nvm → Nvm) (s : State) : (modNvm f s).armLeft = s.armLeft := rfl
@[simp] theorem modNvm_injOpen (f : Nvm → Nvm) (s : State) : (modNvm f s).injOpen = s.injOpen := rfl
@[simp] theorem modNvm_staging (f : Nvm → Nvm) (s : State) : (modNvm f s).staging = s.staging := rfl
@[simp] theorem modNvm_interrupted (f : Nvm → Nvm) (s : State) : (modNvm f s).interrupted = s.interrupted := rfl
@[simp] theorem modNvm_loader (f : Nvm → Nvm) (s : State) : (modNvm f s).loader = s.loader := rfl
@[simp] theorem modNvm_nvm (f : Nvm → Nvm) (s : State) : (modNvm f s).nvm = f s.nvm := rfl
@[simp] theorem modNvm_clk (f : Nvm → Nvm) (s : State) : (modNvm f s).clk = s.clk := rfl
@[simp] theorem modNvm_causes (f : Nvm → Nvm) (s : State) : (modNvm f s).causes = s.causes := rfl
@[simp] theorem modNvm_log (f : Nvm → Nvm) (s : State) : (modNvm f s).log = s.log := rfl
@[simp] theorem modNvm_pavs (f : Nvm → Nvm) (s : State) : (modNvm f s).pavs = s.pavs := rfl
@[simp] theorem modNvm_ports (f : Nvm → Nvm) (s : State) : (modNvm f s).ports = s.ports := rfl
@[simp] theorem modNvm_fresh (f : Nvm → Nvm) (s : State) : (modNvm f s).fresh = s.fresh := rfl
@[simp] theorem modNvm_port (f : Nvm → Nvm) (s : State) (k : Nat) : (modNvm f s).port k = s.port k := rfl
@[simp] theorem modNvm_pav (f : Nvm → Nvm) (s : State) (k : Nat) : (modNvm f s).pav k = s.pav k := rfl

/-! ### emit -/

@[simp] theorem emit_pending (e : Emission) (s : State) : (emit e s).pending = s.pending := rfl
@[simp] theorem emit_fields (e : Emission) (s : State) : (emit e s).fields = s.fields := rfl
@[simp] theorem emit_tmr (e : Emission) (s : State) : (emit e s).tmr = s.tmr := rfl
@[simp] theorem emit_banked (e : Emission) (s : State) : (emit e s).banked = s.banked := rfl
@[simp] theorem emit_snaps (e : Emission) (s : State) : (emit e s).snaps = s.snaps := rfl
@[simp] theorem emit_caps (e : Emission) (s : State) : (emit e s).caps = s.caps := rfl
@[simp] theorem emit_wcap (e : Emission) (s : State) : (emit e s).wcap = s.wcap := rfl
@[simp] theorem emit_wbuf (e : Emission) (s : State) : (emit e s).wbuf = s.wbuf := rfl
@[simp] theorem emit_post (e : Emission) (s : State) : (emit e s).post = s.post := rfl
@[simp] theorem emit_access (e : Emission) (s : State) : (emit e s).access = s.access := rfl
@[simp] theorem emit_timedOut (e : Emission) (s : State) : (emit e s).timedOut = s.timedOut := rfl
@[simp] theorem emit_events (e : Emission) (s : State) : (emit e s).events = s.events := rfl
@[simp] theorem emit_irqOut (e : Emission) (s : State) : (emit e s).irqOut = s.irqOut := rfl
@[simp] theorem emit_sent (e : Emission) (s : State) : (emit e s).sent = e :: s.sent := rfl
@[simp] theorem emit_acting (e : Emission) (s : State) : (emit e s).acting = s.acting := rfl
@[simp] theorem emit_forwarding (e : Emission) (s : State) : (emit e s).forwarding = s.forwarding := rfl
@[simp] theorem emit_hopWait (e : Emission) (s : State) : (emit e s).hopWait = s.hopWait := rfl
@[simp] theorem emit_slotMark (e : Emission) (s : State) : (emit e s).slotMark = s.slotMark := rfl
@[simp] theorem emit_abortAt (e : Emission) (s : State) : (emit e s).abortAt = s.abortAt := rfl
@[simp] theorem emit_latchAt (e : Emission) (s : State) : (emit e s).latchAt = s.latchAt := rfl
@[simp] theorem emit_faultAt (e : Emission) (s : State) : (emit e s).faultAt = s.faultAt := rfl
@[simp] theorem emit_cycles (e : Emission) (s : State) : (emit e s).cycles = s.cycles := rfl
@[simp] theorem emit_secs (e : Emission) (s : State) : (emit e s).secs = s.secs := rfl
@[simp] theorem emit_nanos (e : Emission) (s : State) : (emit e s).nanos = s.nanos := rfl
@[simp] theorem emit_frac (e : Emission) (s : State) : (emit e s).frac = s.frac := rfl
@[simp] theorem emit_leaseLeft (e : Emission) (s : State) : (emit e s).leaseLeft = s.leaseLeft := rfl
@[simp] theorem emit_nominee (e : Emission) (s : State) : (emit e s).nominee = s.nominee := rfl
@[simp] theorem emit_nonces (e : Emission) (s : State) : (emit e s).nonces = s.nonces := rfl
@[simp] theorem emit_refused (e : Emission) (s : State) : (emit e s).refused = s.refused := rfl
@[simp] theorem emit_armLeft (e : Emission) (s : State) : (emit e s).armLeft = s.armLeft := rfl
@[simp] theorem emit_injOpen (e : Emission) (s : State) : (emit e s).injOpen = s.injOpen := rfl
@[simp] theorem emit_staging (e : Emission) (s : State) : (emit e s).staging = s.staging := rfl
@[simp] theorem emit_interrupted (e : Emission) (s : State) : (emit e s).interrupted = s.interrupted := rfl
@[simp] theorem emit_loader (e : Emission) (s : State) : (emit e s).loader = s.loader := rfl
@[simp] theorem emit_nvm (e : Emission) (s : State) : (emit e s).nvm = s.nvm := rfl
@[simp] theorem emit_clk (e : Emission) (s : State) : (emit e s).clk = s.clk := rfl
@[simp] theorem emit_causes (e : Emission) (s : State) : (emit e s).causes = s.causes := rfl
@[simp] theorem emit_log (e : Emission) (s : State) : (emit e s).log = s.log := rfl
@[simp] theorem emit_pavs (e : Emission) (s : State) : (emit e s).pavs = s.pavs := rfl
@[simp] theorem emit_ports (e : Emission) (s : State) : (emit e s).ports = s.ports := rfl
@[simp] theorem emit_fresh (e : Emission) (s : State) : (emit e s).fresh = s.fresh := rfl
@[simp] theorem emit_port (e : Emission) (s : State) (k : Nat) : (emit e s).port k = s.port k := rfl
@[simp] theorem emit_pav (e : Emission) (s : State) (k : Nat) : (emit e s).pav k = s.pav k := rfl

/-! ### spend -/

@[simp] theorem spend_pending (s : State) : (spend s).pending = s.pending := rfl
@[simp] theorem spend_fields (s : State) : (spend s).fields = s.fields := rfl
@[simp] theorem spend_tmr (s : State) : (spend s).tmr = s.tmr := rfl
@[simp] theorem spend_banked (s : State) : (spend s).banked = s.banked := rfl
@[simp] theorem spend_snaps (s : State) : (spend s).snaps = s.snaps := rfl
@[simp] theorem spend_caps (s : State) : (spend s).caps = s.caps := rfl
@[simp] theorem spend_wcap (s : State) : (spend s).wcap = s.wcap := rfl
@[simp] theorem spend_wbuf (s : State) : (spend s).wbuf = s.wbuf := rfl
@[simp] theorem spend_post (s : State) : (spend s).post = s.post := rfl
@[simp] theorem spend_access (s : State) : (spend s).access = s.access := rfl
@[simp] theorem spend_timedOut (s : State) : (spend s).timedOut = s.timedOut := rfl
@[simp] theorem spend_events (s : State) : (spend s).events = s.events := rfl
@[simp] theorem spend_irqOut (s : State) : (spend s).irqOut = s.irqOut := rfl
@[simp] theorem spend_sent (s : State) : (spend s).sent = s.sent := rfl
@[simp] theorem spend_acting (s : State) : (spend s).acting = s.acting := rfl
@[simp] theorem spend_forwarding (s : State) : (spend s).forwarding = s.forwarding := rfl
@[simp] theorem spend_hopWait (s : State) : (spend s).hopWait = s.hopWait := rfl
@[simp] theorem spend_slotMark (s : State) : (spend s).slotMark = s.slotMark := rfl
@[simp] theorem spend_abortAt (s : State) : (spend s).abortAt = s.abortAt := rfl
@[simp] theorem spend_latchAt (s : State) : (spend s).latchAt = s.latchAt := rfl
@[simp] theorem spend_faultAt (s : State) : (spend s).faultAt = s.faultAt := rfl
@[simp] theorem spend_cycles (s : State) : (spend s).cycles = s.cycles := rfl
@[simp] theorem spend_secs (s : State) : (spend s).secs = s.secs := rfl
@[simp] theorem spend_nanos (s : State) : (spend s).nanos = s.nanos := rfl
@[simp] theorem spend_frac (s : State) : (spend s).frac = s.frac := rfl
@[simp] theorem spend_leaseLeft (s : State) : (spend s).leaseLeft = s.leaseLeft := rfl
@[simp] theorem spend_nominee (s : State) : (spend s).nominee = s.nominee := rfl
@[simp] theorem spend_nonces (s : State) : (spend s).nonces = s.nonces := rfl
@[simp] theorem spend_refused (s : State) : (spend s).refused = s.refused := rfl
@[simp] theorem spend_armLeft (s : State) : (spend s).armLeft = s.armLeft := rfl
@[simp] theorem spend_injOpen (s : State) : (spend s).injOpen = s.injOpen := rfl
@[simp] theorem spend_staging (s : State) : (spend s).staging = s.staging := rfl
@[simp] theorem spend_interrupted (s : State) : (spend s).interrupted = s.interrupted := rfl
@[simp] theorem spend_loader (s : State) : (spend s).loader = s.loader := rfl
@[simp] theorem spend_nvm (s : State) : (spend s).nvm = s.nvm := rfl
@[simp] theorem spend_clk (s : State) : (spend s).clk = s.clk := rfl
@[simp] theorem spend_causes (s : State) : (spend s).causes = s.causes := rfl
@[simp] theorem spend_log (s : State) : (spend s).log = s.log := rfl
@[simp] theorem spend_pavs (s : State) : (spend s).pavs = s.pavs := rfl
@[simp] theorem spend_ports (s : State) : (spend s).ports = s.ports := rfl
@[simp] theorem spend_fresh (s : State) : (spend s).fresh = s.fresh + 1 := rfl
@[simp] theorem spend_port (s : State) (k : Nat) : (spend s).port k = s.port k := rfl
@[simp] theorem spend_pav (s : State) (k : Nat) : (spend s).pav k = s.pav k := rfl

/-! ### setNow -/

@[simp] theorem setNow_pending (ns fr : Nat) (s : State) : (setNow ns fr s).pending = s.pending := rfl
@[simp] theorem setNow_fields (ns fr : Nat) (s : State) : (setNow ns fr s).fields = s.fields := rfl
@[simp] theorem setNow_tmr (ns fr : Nat) (s : State) : (setNow ns fr s).tmr = s.tmr := rfl
@[simp] theorem setNow_banked (ns fr : Nat) (s : State) : (setNow ns fr s).banked = s.banked := rfl
@[simp] theorem setNow_snaps (ns fr : Nat) (s : State) : (setNow ns fr s).snaps = s.snaps := rfl
@[simp] theorem setNow_caps (ns fr : Nat) (s : State) : (setNow ns fr s).caps = s.caps := rfl
@[simp] theorem setNow_wcap (ns fr : Nat) (s : State) : (setNow ns fr s).wcap = s.wcap := rfl
@[simp] theorem setNow_wbuf (ns fr : Nat) (s : State) : (setNow ns fr s).wbuf = s.wbuf := rfl
@[simp] theorem setNow_post (ns fr : Nat) (s : State) : (setNow ns fr s).post = s.post := rfl
@[simp] theorem setNow_access (ns fr : Nat) (s : State) : (setNow ns fr s).access = s.access := rfl
@[simp] theorem setNow_timedOut (ns fr : Nat) (s : State) : (setNow ns fr s).timedOut = s.timedOut := rfl
@[simp] theorem setNow_events (ns fr : Nat) (s : State) : (setNow ns fr s).events = s.events := rfl
@[simp] theorem setNow_irqOut (ns fr : Nat) (s : State) : (setNow ns fr s).irqOut = s.irqOut := rfl
@[simp] theorem setNow_sent (ns fr : Nat) (s : State) : (setNow ns fr s).sent = s.sent := rfl
@[simp] theorem setNow_acting (ns fr : Nat) (s : State) : (setNow ns fr s).acting = s.acting := rfl
@[simp] theorem setNow_forwarding (ns fr : Nat) (s : State) : (setNow ns fr s).forwarding = s.forwarding := rfl
@[simp] theorem setNow_hopWait (ns fr : Nat) (s : State) : (setNow ns fr s).hopWait = s.hopWait := rfl
@[simp] theorem setNow_slotMark (ns fr : Nat) (s : State) : (setNow ns fr s).slotMark = s.slotMark := rfl
@[simp] theorem setNow_abortAt (ns fr : Nat) (s : State) : (setNow ns fr s).abortAt = s.abortAt := rfl
@[simp] theorem setNow_latchAt (ns fr : Nat) (s : State) : (setNow ns fr s).latchAt = s.latchAt := rfl
@[simp] theorem setNow_faultAt (ns fr : Nat) (s : State) : (setNow ns fr s).faultAt = s.faultAt := rfl
@[simp] theorem setNow_cycles (ns fr : Nat) (s : State) : (setNow ns fr s).cycles = s.cycles := rfl
@[simp] theorem setNow_secs (ns fr : Nat) (s : State) : (setNow ns fr s).secs = ns / 1000000000 % 2 ^ 48 := rfl
@[simp] theorem setNow_nanos (ns fr : Nat) (s : State) : (setNow ns fr s).nanos = ns % 1000000000 := rfl
@[simp] theorem setNow_frac (ns fr : Nat) (s : State) : (setNow ns fr s).frac = fr % 2 ^ 16 := rfl
@[simp] theorem setNow_leaseLeft (ns fr : Nat) (s : State) : (setNow ns fr s).leaseLeft = s.leaseLeft := rfl
@[simp] theorem setNow_nominee (ns fr : Nat) (s : State) : (setNow ns fr s).nominee = s.nominee := rfl
@[simp] theorem setNow_nonces (ns fr : Nat) (s : State) : (setNow ns fr s).nonces = s.nonces := rfl
@[simp] theorem setNow_refused (ns fr : Nat) (s : State) : (setNow ns fr s).refused = s.refused := rfl
@[simp] theorem setNow_armLeft (ns fr : Nat) (s : State) : (setNow ns fr s).armLeft = s.armLeft := rfl
@[simp] theorem setNow_injOpen (ns fr : Nat) (s : State) : (setNow ns fr s).injOpen = s.injOpen := rfl
@[simp] theorem setNow_staging (ns fr : Nat) (s : State) : (setNow ns fr s).staging = s.staging := rfl
@[simp] theorem setNow_interrupted (ns fr : Nat) (s : State) : (setNow ns fr s).interrupted = s.interrupted := rfl
@[simp] theorem setNow_loader (ns fr : Nat) (s : State) : (setNow ns fr s).loader = s.loader := rfl
@[simp] theorem setNow_nvm (ns fr : Nat) (s : State) : (setNow ns fr s).nvm = s.nvm := rfl
@[simp] theorem setNow_clk (ns fr : Nat) (s : State) : (setNow ns fr s).clk = s.clk := rfl
@[simp] theorem setNow_causes (ns fr : Nat) (s : State) : (setNow ns fr s).causes = s.causes := rfl
@[simp] theorem setNow_log (ns fr : Nat) (s : State) : (setNow ns fr s).log = s.log := rfl
@[simp] theorem setNow_pavs (ns fr : Nat) (s : State) : (setNow ns fr s).pavs = s.pavs := rfl
@[simp] theorem setNow_ports (ns fr : Nat) (s : State) : (setNow ns fr s).ports = s.ports := rfl
@[simp] theorem setNow_fresh (ns fr : Nat) (s : State) : (setNow ns fr s).fresh = s.fresh := rfl
@[simp] theorem setNow_port (ns fr : Nat) (s : State) (k : Nat) : (setNow ns fr s).port k = s.port k := rfl
@[simp] theorem setNow_pav (ns fr : Nat) (s : State) (k : Nat) : (setNow ns fr s).pav k = s.pav k := rfl

end Sys2Proof.Machine
end

