-- ==== Sys2Proof/Laws/Registers.lean ====
section
/-! SUPPORT. Reading a register field after each named update of the state. -/

namespace Sys2Proof.Machine

/-! ### Fields -/

/-- A field depends on the field map and on the copies alone. -/
theorem getF_congr {s t : State} (hf : t.fields = s.fields) (ht : t.tmr = s.tmr) (u : Nat) (f : Fld) :
    getF u f t = getF u f s := by
  simp [getF, hf, ht]

/-- A field set reads the value cut to its width. -/
@[simp] theorem getF_setF_same (u : Nat) (f : Fld) (v : Nat) (s : State) : getF u f (setF u f v s) = v % 2 ^ f.width := by
  unfold getF setF
  cases hf : f.tmr <;> simp only [Bool.false_eq_true, if_true, if_false, mapGet_mapDel_same, mapGetD] <;>
    split <;> simp_all

/-- A field set leaves every field of another key. -/
theorem getF_setF_other {u u' : Nat} {f g : Fld} (v : Nat) (s : State) (h : g.key u' ≠ f.key u) :
    getF u' g (setF u f v s) = getF u' g s := by
  have hT : mapGet (if f.tmr then mapDel s.tmr (f.key u) else s.tmr) (g.key u') = mapGet s.tmr (g.key u') := by
    split
    · exact mapGet_mapDel_other _ h
    · rfl
  have hF : mapGetD (if v % 2 ^ f.width = f.base then mapDel s.fields (f.key u)
      else mapPut s.fields (f.key u) (v % 2 ^ f.width)) (g.key u') g.base = mapGetD s.fields (g.key u') g.base := by
    unfold mapGetD
    split
    · rw [mapGet_mapDel_other _ h]
    · rw [mapGet_mapPut_other _ _ h]
  unfold getF setF
  simp only [hT, hF]

/-- A one-bit field reads as a truth value what was set. -/
theorem isSet_setF_other {u u' : Nat} {f g : Fld} (v : Nat) (s : State) (h : g.key u' ≠ f.key u) :
    isSet u' g (setF u f v s) = isSet u' g s := by
  unfold isSet
  rw [getF_setF_other v s h]

@[simp] theorem setAll_nil (u : Nat) (s : State) : setAll u [] s = s := rfl

@[simp] theorem setAll_cons (u : Nat) (e : Fld × Nat) (l : List (Fld × Nat)) (s : State) :
    setAll u (e :: l) s = setAll u l (setF u e.1 e.2 s) := rfl

/-- Several fields set leave every field of another key. -/
theorem getF_setAll_other {u u' : Nat} {g : Fld} (l : List (Fld × Nat)) (s : State)
    (h : ∀ e ∈ l, g.key u' ≠ e.1.key u) : getF u' g (setAll u l s) = getF u' g s := by
  induction l generalizing s with
  | nil => rfl
  | cons e l ih =>
    rw [setAll_cons, ih _ fun d hd => h d (List.mem_cons_of_mem _ hd), getF_setF_other _ _ (h e List.mem_cons_self)]

/-- Setting fields changes nothing but fields and their copies. -/
theorem setAll_only (u : Nat) (l : List (Fld × Nat)) (s : State) :
    { setAll u l s with fields := s.fields, tmr := s.tmr } = s := by
  suffices ∀ s : State, ∃ F T, setAll u l s = { s with fields := F, tmr := T } by
    obtain ⟨F, T, h⟩ := this s
    rw [h]
  induction l with
  | nil => exact fun s => ⟨s.fields, s.tmr, rfl⟩
  | cons e l ih =>
    intro s
    obtain ⟨F, T, h⟩ := ih (setF u e.1 e.2 s)
    exact ⟨F, T, h⟩

/-! ### Banked fields -/

/-- A master's copy set reads the value cut to its width. -/
@[simp] theorem getB_setB_same (m u : Nat) (f : Fld) (v : Nat) (s : State) :
    getB m u f (setB m u f v s) = v % 2 ^ f.width := by
  unfold getB setB mapGetD
  split <;> simp_all

/-- A master's copy set leaves the copies of every other master and field. -/
theorem getB_setB_other {m m' u u' : Nat} {f g : Fld} (v : Nat) (s : State)
    (h : g.key u' * 16 + m' ≠ f.key u * 16 + m) : getB m' u' g (setB m u f v s) = getB m' u' g s := by
  unfold getB setB mapGetD
  simp only
  split
  · rw [mapGet_mapDel_other _ h]
  · rw [mapGet_mapPut_other _ _ h]

@[simp] theorem getF_setB (m u k : Nat) (f g : Fld) (v : Nat) (s : State) : getF k g (setB m u f v s) = getF k g s := rfl

@[simp] theorem getB_setF (m u k : Nat) (f g : Fld) (v : Nat) (s : State) : getB m k g (setF u f v s) = getB m k g s := rfl

/-! ### Fields under the other updates -/

@[simp] theorem getF_modPort (u : Nat) (g : Fld) (p : Nat) (f : Port → Port) (s : State) :
    getF u g (modPort p f s) = getF u g s := rfl

@[simp] theorem getF_modPav (u : Nat) (g : Fld) (n : Nat) (f : Pav → Pav) (s : State) :
    getF u g (modPav n f s) = getF u g s := rfl

@[simp] theorem getF_modLoader (u : Nat) (g : Fld) (f : Loader → Loader) (s : State) :
    getF u g (modLoader f s) = getF u g s := rfl

@[simp] theorem getF_modClk (u : Nat) (g : Fld) (f : Clk → Clk) (s : State) : getF u g (modClk f s) = getF u g s := rfl

@[simp] theorem getF_modNvm (u : Nat) (g : Fld) (f : Nvm → Nvm) (s : State) : getF u g (modNvm f s) = getF u g s := rfl

@[simp] theorem getF_emit (u : Nat) (g : Fld) (e : Emission) (s : State) : getF u g (emit e s) = getF u g s := rfl

@[simp] theorem getF_spend (u : Nat) (g : Fld) (s : State) : getF u g (spend s) = getF u g s := rfl

@[simp] theorem getF_setNow (u : Nat) (g : Fld) (ns fr : Nat) (s : State) : getF u g (setNow ns fr s) = getF u g s := rfl

/-! ### Ports and pavilions -/

/-- A port replaced is the image of what it was. -/
@[simp] theorem port_modPort_same (p : Nat) (f : Port → Port) (s : State) : (modPort p f s).port p = f (s.port p) := by
  simp [State.port, modPort, mapGetD]

/-- A port replaced leaves the other ports. -/
theorem port_modPort_other {p k : Nat} (f : Port → Port) (s : State) (h : k ≠ p) : (modPort p f s).port k = s.port k := by
  unfold State.port modPort mapGetD
  simp only
  rw [mapGet_mapPut_other _ _ h]

/-- A pavilion replaced is the image of what it was. -/
@[simp] theorem pav_modPav_same (n : Nat) (f : Pav → Pav) (s : State) : (modPav n f s).pav n = f (s.pav n) := by
  simp [State.pav, modPav, mapGetD]

/-- A pavilion replaced leaves the other pavilions. -/
theorem pav_modPav_other {n k : Nat} (f : Pav → Pav) (s : State) (h : k ≠ n) : (modPav n f s).pav k = s.pav k := by
  unfold State.pav modPav mapGetD
  simp only
  rw [mapGet_mapPut_other _ _ h]

end Sys2Proof.Machine
end

