-- ==== Sys2Proof/Laws/Flags.lean ====
section
/-! SUPPORT. Everything that status, fault latches, counters and command fields can do to the state. -/

namespace Sys2Proof.Machine

/-- `t` differs from `s` in register fields, interrupt outputs, queued EVENTs, the cycles of the latest latched and real
faults of each block, and the marks of open injection windows alone. -/
def StatusOnly (s t : State) : Prop :=
  ∃ F T I E L D J, t = { s with fields := F, tmr := T, irqOut := I, events := E, latchAt := L, faultAt := D, injOpen := J }

theorem StatusOnly.refl (s : State) : StatusOnly s s := ⟨_, _, _, _, _, _, _, rfl⟩

theorem StatusOnly.trans {s t u : State} (h : StatusOnly s t) (k : StatusOnly t u) : StatusOnly s u := by
  obtain ⟨F, T, I, E, L, D, J, rfl⟩ := h
  obtain ⟨F', T', I', E', L', D', J', rfl⟩ := k
  exact ⟨F', T', I', E', L', D', J', rfl⟩

/-- The same as an equation: with those seven parts put back, `t` is `s`. -/
theorem statusOnly_iff (s t : State) : StatusOnly s t ↔
    { t with fields := s.fields, tmr := s.tmr, irqOut := s.irqOut, events := s.events, latchAt := s.latchAt
             faultAt := s.faultAt, injOpen := s.injOpen } = s := by
  constructor
  · rintro ⟨F, T, I, E, L, D, J, rfl⟩
    rfl
  · intro h
    refine ⟨t.fields, t.tmr, t.irqOut, t.events, t.latchAt, t.faultAt, t.injOpen, ?_⟩
    conv => rhs; rw [← h]

theorem statusOnly_setF (u : Nat) (f : Fld) (v : Nat) (s : State) : StatusOnly s (setF u f v s) := ⟨_, _, _, _, _, _, _, rfl⟩

theorem statusOnly_setAll (u : Nat) (l : List (Fld × Nat)) (s : State) : StatusOnly s (setAll u l s) := by
  induction l generalizing s with
  | nil => exact .refl s
  | cons e l ih => exact (statusOnly_setF u e.1 e.2 s).trans (ih _)

theorem statusOnly_setStsBits (b : Blk) (u mask : Nat) (s : State) : StatusOnly s (setStsBits b u mask s) :=
  (statusOnly_setF u _ _ s).trans (statusOnly_setF u _ _ _)

theorem statusOnly_irqOut (l : List Nat) (s : State) : StatusOnly s { s with irqOut := l } := ⟨_, _, _, _, _, _, _, rfl⟩

theorem statusOnly_queueEvent (m : Nat) (b : Blk) (u : Nat) (s : State) : StatusOnly s (queueEvent m b u s) := by
  unfold queueEvent
  split
  · exact .refl s
  · split
    · exact ⟨_, _, _, _, _, _, _, rfl⟩
    · simp only
      split
      · exact ((statusOnly_setStsBits _ _ _ s).trans (statusOnly_irqOut _ _)).trans (statusOnly_setStsBits _ _ _ _)
      · exact statusOnly_setStsBits _ _ _ s

theorem statusOnly_irqUpdate (b : Blk) (u : Nat) (s : State) : StatusOnly s (irqUpdate b u s) := by
  unfold irqUpdate
  split
  · split
    · exact .refl s
    · simp only
      split
      · exact (statusOnly_irqOut _ s).trans (statusOnly_queueEvent _ _ _ _)
      · exact statusOnly_irqOut _ s
  · exact statusOnly_irqOut _ s

theorem statusOnly_sticky (k : Sticky) (u : Nat) (s : State) : StatusOnly s (sticky k u s) :=
  (statusOnly_setStsBits _ _ _ s).trans (statusOnly_irqUpdate _ _ _)

theorem statusOnly_latchFirst (b : Blk) (u cls src detail inj : Nat) (s : State) :
    StatusOnly s (latchFirst b u cls src detail inj s) := by
  unfold latchFirst
  simp only
  split
  · exact statusOnly_setF _ _ _ s
  · exact StatusOnly.trans (t := { s with latchAt := mapPut s.latchAt (blkBase b u) s.cycles })
      ⟨_, _, _, _, _, _, _, rfl⟩ (statusOnly_setAll _ _ _)

theorem statusOnly_recordFault (b : Blk) (u cls src detail inj : Nat) (s : State) :
    StatusOnly s (recordFault b u cls src detail inj s) :=
  ((statusOnly_setStsBits _ _ _ s).trans (statusOnly_latchFirst _ _ _ _ _ _ _)).trans (statusOnly_irqUpdate _ _ _)

theorem statusOnly_displaceWindow (b : Blk) (u : Nat) (s : State) : StatusOnly s (displaceWindow b u s) :=
  ⟨_, _, _, _, _, _, _, rfl⟩

theorem statusOnly_correctedFault (b : Blk) (u src detail : Nat) (s : State) :
    StatusOnly s (correctedFault b u src detail s) :=
  (statusOnly_recordFault _ _ _ _ _ _ s).trans (statusOnly_displaceWindow _ _ _)

theorem statusOnly_countBy (u : Nat) (f : Fld) (k : Nat) (s : State) : StatusOnly s (countBy u f k s) := by
  unfold countBy
  simp only
  split
  · exact (statusOnly_setF _ _ _ s).trans (statusOnly_correctedFault _ _ _ _ _)
  · exact statusOnly_setF _ _ _ s

theorem statusOnly_count (u : Nat) (f : Fld) (s : State) : StatusOnly s (count u f s) := statusOnly_countBy u f 1 s

theorem statusOnly_cmdStart (u : Nat) (f : Fld) (s : State) : StatusOnly s (cmdStart u f s) :=
  ((statusOnly_setF _ _ _ s).trans (statusOnly_setF _ _ _ _)).trans (statusOnly_setF _ _ _ _)

theorem statusOnly_cmdEnd (u : Nat) (f : Fld) (oc : Nat) (s : State) : StatusOnly s (cmdEnd u f oc s) :=
  (statusOnly_setF _ _ _ s).trans (statusOnly_setF _ _ _ _)

theorem statusOnly_cmdDoneLate (u : Nat) (f : Fld) (late : Bool) (s : State) : StatusOnly s (cmdDoneLate u f late s) := by
  unfold cmdDoneLate when
  split
  · exact (statusOnly_cmdEnd u f 2 s).trans (statusOnly_setF _ _ _ _)
  · exact statusOnly_cmdEnd u f 2 s

theorem statusOnly_cmdStop (u : Nat) (f : Fld) (oc : Nat) (s : State) : StatusOnly s (cmdStop u f oc s) := by
  unfold cmdStop
  split
  · exact .refl s
  · split
    · exact statusOnly_cmdDoneLate u f false s
    · exact statusOnly_cmdEnd u f oc s

theorem statusOnly_clearCounters (b : Blk) (u : Nat) (s : State) : StatusOnly s (clearCounters b u s) := by
  suffices ∀ (l : List Fld) (s : State), StatusOnly s (forAll l (fun f => setF u f 0) s) from
    (this _ s).trans (statusOnly_setF _ _ _ _)
  intro l
  induction l with
  | nil => exact fun s => .refl s
  | cons f l ih => exact fun s => (statusOnly_setF u f 0 s).trans (ih _)

/-- What a status change leaves: the queue, memories, ports, pavilions, loader, NVM contents, clocks, what has been sent. -/
theorem StatusOnly.frame {s t : State} (h : StatusOnly s t) :
    t.pending = s.pending ∧ t.post = s.post ∧ t.ports = s.ports ∧ t.pavs = s.pavs ∧ t.loader = s.loader ∧ t.nvm = s.nvm ∧
      t.clk = s.clk ∧ t.sent = s.sent ∧ t.access = s.access ∧ t.timedOut = s.timedOut ∧ t.banked = s.banked := by
  obtain ⟨F, T, I, E, L, D, J, rfl⟩ := h
  simp

end Sys2Proof.Machine
end

