-- ==== Sys2Proof/Laws/Access.lean ====
section
/-! SUPPORT. Completion, accesses at the moment they reach their register, and the step. -/

namespace Sys2Proof.Machine

/-! ### Completion -/

/-- A command that answers a state completes as that state is. -/
theorem completes_of_next {c : Instr} {s t : State} (h : exec c s = .next t) (P : State → Prop) :
    Completes c s P ↔ P t := by
  unfold Completes
  constructor
  · rintro ⟨u, hu, hp⟩
    rw [h] at hu
    cases hu
    exact hp
  · exact fun hp => ⟨t, h, hp⟩

theorem completes_mono {c : Instr} {s : State} {P Q : State → Prop} (h : Completes c s P) (k : ∀ t, P t → Q t) :
    Completes c s Q := by
  obtain ⟨t, ht, hp⟩ := h
  exact ⟨t, ht, k t hp⟩

theorem completes_and {c : Instr} {s : State} {P Q : State → Prop} (h : Completes c s P) (k : Completes c s Q) :
    Completes c s fun t => P t ∧ Q t := by
  obtain ⟨t, ht, hp⟩ := h
  exact ⟨t, ht, hp, (completes_of_next ht Q).mp k⟩

/-! ### The step -/

/-- A step with a command at the front of the queue. -/
theorem step_cons {c : Instr} {rest : List Instr} {s : State} (h : s.pending = c :: rest) :
    step s = exec c { s with pending := rest } := by
  unfold step
  rw [h]

/-- A step with no command waiting. -/
theorem step_nil {s : State} (h : s.pending = []) : step s = .next (idle s) := by
  unfold step
  rw [h]

/-! ### Nothing under way -/

theorem pumpLane_quiet {p n : Nat} {s : State} (h : ∀ q ∈ (s.port p).lane.ib, q.todo = []) : pumpLane p n s = s := by
  cases n with
  | zero => rfl
  | succ n =>
    unfold pumpLane
    split
    · rfl
    · rename_i q rest he
      rw [h q (by rw [he]; exact List.mem_cons_self)]

/-- With no access under way nothing follows an access. -/
theorem settle_quiet {s : State} (h : Quiet s) : settle s = s := by
  obtain ⟨ha, ht, hp⟩ := h
  have hd : dropTimedOut (s.timedOut.length + 1) (dropCrossings (s.access.length + 1) s) = s := by
    rw [ha, ht]
    simp [dropCrossings, ha, dropTimedOut, ht]
  unfold settle
  simp only [hd]
  have key : ∀ l : List Nat, (∀ p ∈ l, p < 8) → forAll l (fun p => pumpLane p 17) s = s := by
    intro l
    induction l with
    | nil => intro _; rfl
    | cons p l ih =>
      intro hl
      show forAll l (fun p => pumpLane p 17) (pumpLane p 17 s) = s
      rw [pumpLane_quiet (hp p (hl p List.mem_cons_self)), ih fun q hq => hl q (List.mem_cons_of_mem _ hq)]
  exact key _ fun p hp => List.mem_range.mp hp

/-! ### An access that reaches its register -/

/-- An address names what its low 24 bits name. -/
theorem target_mod (a : Nat) : target (a % 16777216) = target a := by
  have h1 : bitsOf (a % 16777216) 20 4 = bitsOf a 20 4 := by simp only [bitsOf]; omega
  have h2 : bitsOf (a % 16777216) 12 8 = bitsOf a 12 8 := by simp only [bitsOf]; omega
  have h3 : bitsOf (a % 16777216) 0 12 = bitsOf a 0 12 := by simp only [bitsOf]; omega
  simp only [target, h1, h2, h3]

/-- What a consumed frame leaves as it is. -/
theorem consumeFrame_frame (src : Src) (s : State) :
    (consumeFrame src s).access = s.access ∧ (consumeFrame src s).clk = s.clk := by
  cases src with
  | inband lane => exact ⟨rfl, rfl⟩
  | chain side =>
    have k := (statusOnly_count 0 .CHAIN_FRAMES_IN (when s.forwarding (emit (.chain (Side.other side) idleFrame)) s)).frame
    refine ⟨k.2.2.2.2.2.2.2.2.1.trans ?_, k.2.2.2.2.2.2.1.trans ?_⟩ <;> (unfold when; split <;> rfl)

/-- With no access under way, one that is not refused and whose clock runs lands at once. -/
theorem submit_lands {a : Access} {b : Blk} {u off : Nat} {s : State} (h : s.access = []) (hk : Clocked b u s)
    (ht : target a.req.addr.toNat = .reg b u off) (ho : a.op ≠ opClaim) (ha : a.act ≠ .plain)
    (he : earlyCode a.req a.op s = none) : submit a s = landAccess a s := by
  have hd : a.domain = blkDomain b u := by simp [Access.domain, accessDomain, ho, ht]
  have hc : (a.domain = 3 || (a.act != .plain && clocked s)) = true := by
    rcases hk with h3 | h3
    · simp [hd, h3]
    · simp [ha, h3]
  simp [submit, h, beginAccess, he, hc]

/-- The access of a master with the right to it, its domain on, is carried out and answered. -/
theorem regWrite_writes {w : Acc} {b : Blk} {u off : Nat} {s : State} (h : Writes w b u off s) :
    regWrite w (blkBase b u + off) s = settle (landAccess
      { req := reqOf w (blkBase b u + off), op := opWrite, crossing := false, act := .ext (extOf s) }
      (consumeFrame w.src s)) := by
  obtain ⟨hr, hq, hk, ht, he⟩ := h
  have k := consumeFrame_frame w.src s
  unfold regWrite regAccess
  rw [if_pos hr, submit_lands (b := b) (u := u) (off := off) (k.1.trans hq.1) (by simpa [Clocked, clocked, k.2] using hk)
    (by simpa [reqOf, target_mod] using ht) (by simp [opWrite, opClaim]) (by simp) he]

/-- The same for a read. -/
theorem regRead_reads {r : Acc} {b : Blk} {u off : Nat} {s : State} (h : Reads r b u off s) :
    regRead r (blkBase b u + off) s = settle (landAccess
      { req := reqOf r (blkBase b u + off), op := opRead, crossing := false, act := .ext (extOf s) }
      (consumeFrame r.src s)) := by
  obtain ⟨hr, hq, hk, ht, he⟩ := h
  have k := consumeFrame_frame r.src s
  unfold regRead regAccess
  rw [if_pos hr, submit_lands (b := b) (u := u) (off := off) (k.1.trans hq.1) (by simpa [Clocked, clocked, k.2] using hk)
    (by simpa [reqOf, target_mod] using ht) (by simp [opRead, opClaim]) (by simp) he]

/-- An access that does not reach the device changes nothing. -/
theorem regAccess_away {w : Acc} {op a : Nat} {x : Act} {s : State} (h : reaches w.src s = false) :
    regAccess w op a x s = s := by
  simp [regAccess, h]

/-- A frame consumed changes status and, while the outputs forward, puts one IDLE frame out. -/
theorem consumeFrame_chain (side : Side) (s : State) : ∃ l, l.length ≤ 1 ∧
    StatusOnly { s with sent := l ++ s.sent } (consumeFrame (.chain side) s) := by
  simp only [consumeFrame, when]
  by_cases h : s.forwarding = true
  · exact ⟨[.chain (Side.other side) idleFrame], by simp, by simpa [h, emit] using statusOnly_count 0 .CHAIN_FRAMES_IN _⟩
  · exact ⟨[], by simp, by rw [if_neg h]; exact statusOnly_count 0 .CHAIN_FRAMES_IN s⟩

/-- In-band accesses consume no frame. -/
@[simp] theorem consumeFrame_inband (lane : Fin 8) (s : State) : consumeFrame (.inband lane) s = s := rfl

/-! ### Frames -/

theorem KeepsMemory.refl (s : State) : KeepsMemory s s := ⟨fun _ => rfl, fun _ _ => rfl⟩

theorem KeepsMemory.trans {s t u : State} (h : KeepsMemory s t) (k : KeepsMemory t u) : KeepsMemory s u :=
  ⟨fun a => (k.1 a).trans (h.1 a), fun i a => (k.2 i a).trans (h.2 i a)⟩

theorem keepsMemory_of_eq {s t : State} (hp : t.post = s.post) (hl : t.loader = s.loader) : KeepsMemory s t :=
  ⟨fun a => by rw [hp], fun i a => by rw [hl]⟩

/-- A status change keeps the byte memories. -/
theorem StatusOnly.keepsMemory {s t : State} (h : StatusOnly s t) : KeepsMemory s t :=
  keepsMemory_of_eq h.frame.2.1 h.frame.2.2.2.2.1

/-- Fields set are the only fields that differ. -/
theorem keepsFields_setF (u : Nat) (f : Fld) (v : Nat) (s : State) : KeepsFields [f.key u] s (setF u f v s) :=
  fun _ _ h => getF_setF_other v s (by simpa using h)

theorem KeepsFields.trans {l k : List Nat} {s t u : State} (h : KeepsFields l s t) (j : KeepsFields k t u) :
    KeepsFields (l ++ k) s u := fun n g hg => by
  rw [List.mem_append, not_or] at hg
  rw [j n g hg.2, h n g hg.1]

end Sys2Proof.Machine
end

