-- ==== Sys2Proof/Laws/Memory.lean ====
section
/-! SUPPORT. Byte memories: reading after writing, and that every write keeps the canonical form. -/

namespace Sys2Proof.Machine

/-- A byte written is read back. -/
@[simp] theorem readByte_writeByte_same (m : Memory) (a : Nat) (b : Byte) : readByte (writeByte m a b) a = b := by
  unfold readByte writeByte mapGetD
  split <;> simp_all

/-- A byte written leaves every other byte. -/
theorem readByte_writeByte_other (m : Memory) {a x : Nat} (b : Byte) (h : x ≠ a) :
    readByte (writeByte m a b) x = readByte m x := by
  unfold readByte writeByte mapGetD
  split
  · rw [mapGet_mapDel_other m h]
  · rw [mapGet_mapPut_other m b h]

/-- A byte written keeps the canonical form. -/
theorem writeByte_wf {m : Memory} (a : Nat) (b : Byte) (h : Memory.wf m) : Memory.wf (writeByte m a b) := by
  unfold writeByte
  split
  · exact ⟨mapDel_rising a h.1, fun c hc => h.2 c (List.mem_filter.mp hc).1⟩
  · rename_i hb
    refine ⟨mapPut_rising a b h.1, fun c hc => ?_⟩
    rcases mem_mapPut hc with rfl | hc
    · exact hb
    · exact h.2 c hc

/-- A word written keeps the canonical form. -/
theorem writeWord_wf {m : Memory} (a w : Nat) (h : Memory.wf m) : Memory.wf (writeWord m a w) :=
  writeByte_wf _ _ (writeByte_wf _ _ (writeByte_wf _ _ (writeByte_wf _ _ h)))

/-- A word written leaves every byte outside its four. -/
theorem readByte_writeWord_other (m : Memory) {a x : Nat} (w : Nat) (h : x < a ∨ a + 4 ≤ x) :
    readByte (writeWord m a w) x = readByte m x := by
  unfold writeWord
  rw [readByte_writeByte_other _ _ (by omega), readByte_writeByte_other _ _ (by omega),
    readByte_writeByte_other _ _ (by omega), readByte_writeByte_other _ _ (by omega)]

/-- Memory with nothing listed is in canonical form, and so is the post office after reset. -/
theorem wf_nil : Memory.wf [] := ⟨List.Pairwise.nil, by simp⟩

theorem reset_post_wf : Memory.wf State.reset.post := wf_nil

end Sys2Proof.Machine
end

