-- ==== Sys2Proof/Laws/Tables.lean ====
section
/-! SUPPORT. What loading a bit-loading table does where nothing has been measured (R137, R141, R152, R178). -/

namespace Sys2Proof.Laws

open Sys2Proof.Machine

/-- Marking the overhead tones changes OH alone: a property of entries that does not see OH holds at the same tones (R141). -/
theorem markOverhead_keys (P : ToneEntry → Bool) (hP : ∀ (e : ToneEntry) (b : Bool), P { e with oh := b } = P e)
    (m : NMap ToneEntry) : ((markOverhead m).filter fun e => P e.2).map (·.1) = (m.filter fun e => P e.2).map (·.1) := by
  suffices k : ∀ (l : NMap ToneEntry) (a : List (Nat × ToneEntry) × Nat),
      ((l.foldl (fun (a : List (Nat × ToneEntry) × Nat) e =>
        if e.2.isData && a.2 < 512 then ((e.1, { e.2 with oh := true }) :: a.1, a.2 + min e.2.bits 2)
        else ((e.1, { e.2 with oh := false }) :: a.1, a.2)) a).1.reverse.filter fun e => P e.2).map (·.1) =
        (a.1.reverse.filter fun e => P e.2).map (·.1) ++ (l.filter fun e => P e.2).map (·.1) by
    simpa [markOverhead] using k m ([], 0)
  intro l
  induction l with
  | nil => simp
  | cons e l ih =>
    intro a
    have ht := hP e.2 true
    have hf := hP e.2 false
    rw [List.foldl_cons, ih]
    cases h : P e.2 <;> simp only [h] at ht hf <;> split <;> simp [h, ht, hf]

/-- Trimming takes nothing off tones that carry no bits (R20). -/
theorem trimBits_unloaded (m : NMap ToneEntry) (n : Nat) (h : ∀ e ∈ m, e.2.bits = 0 ∧ e.2.gain = 0) : trimBits m n = m := by
  suffices k : ∀ (l acc : NMap ToneEntry), (∀ e ∈ l, e.2.bits = 0 ∧ e.2.gain = 0) →
      l.foldl (fun (a : List (Nat × ToneEntry) × Nat) e =>
        let b := min e.2.bits a.2
        ((e.1, { e.2 with bits := b, gain := if b = 0 then 0 else e.2.gain }) :: a.1, a.2 - b)) (acc, n) = (l.reverse ++ acc, n) by
    simp only [trimBits]; rw [k m [] h]; simp
  intro l
  induction l with
  | nil => simp
  | cons e l ih =>
    intro acc hl
    obtain ⟨h1, h2⟩ := hl e (by simp)
    obtain ⟨k, v⟩ := e
    cases v
    simp only at h1 h2
    subst h1 h2
    simpa using ih _ fun x hx => hl x (by simp [hx])

/-- With nothing measured a table holds flags alone (R152). -/
theorem loadTable_unmeasured (q : TonePlan) (g t : Int) (c per tag : Nat) (lev : Nat → Int) :
    loadTable q [] g t c per tag lev = markOverhead
      (((List.range (tonesOf q.short)).map fun k => (k, q.entry ((placePilots q).filterMap id) k)).filter fun e =>
        e.2 != ({} : ToneEntry)) := by
  have h : ∀ e ∈ (List.range (tonesOf q.short)).map fun k => (k, q.entry ((placePilots q).filterMap id) k),
      e.2.bits = 0 ∧ e.2.gain = 0 := by
    simp [TonePlan.entry]
  have e : ∀ k, mapGet ([] : NMap Int) k = none := fun _ => rfl
  unfold loadTable
  simp only [e, List.map_id', ite_self]
  rw [trimBits_unloaded _ _ h]

/-- With nothing measured no tone carries data. -/
theorem loadTable_unmeasured_bits (q : TonePlan) (g t : Int) (c per tag : Nat) (lev : Nat → Int) :
    quadrantBits (loadTable q [] g t c per tag lev) = 0 := by
  have h := markOverhead_keys (·.isData) (by simp [ToneEntry.isData, ToneEntry.flagged])
    (((List.range (tonesOf q.short)).map fun k => (k, q.entry ((placePilots q).filterMap id) k)).filter fun e =>
        e.2 != ({} : ToneEntry))
  rw [← loadTable_unmeasured q g t c per tag lev] at h
  have z : (((((List.range (tonesOf q.short)).map fun k => (k, q.entry ((placePilots q).filterMap id) k)).filter fun e =>
        e.2 != ({} : ToneEntry))).filter fun e => e.2.isData) = [] := by
    simp [List.filter_eq_nil_iff, TonePlan.entry, ToneEntry.isData]
  rw [z] at h
  simp [quadrantBits, dataTones, List.map_eq_nil_iff.mp h]

/-- With nothing measured the pilots of a table are those its plan places (R135). -/
theorem loadTable_unmeasured_pilots (q : TonePlan) (g t : Int) (c per tag : Nat) (lev : Nat → Int) :
    pilotTones (loadTable q [] g t c per tag lev) =
      (List.range (tonesOf q.short)).filter ((placePilots q).filterMap id).contains := by
  have h := markOverhead_keys (·.pilot) (by simp)
    (((List.range (tonesOf q.short)).map fun k => (k, q.entry ((placePilots q).filterMap id) k)).filter fun e =>
        e.2 != ({} : ToneEntry))
  rw [← loadTable_unmeasured q g t c per tag lev] at h
  rw [pilotTones, h, List.filter_filter, List.filter_map, List.map_map]
  have f : (fun k => (k, q.entry ((placePilots q).filterMap id) k).2.pilot &&
      ((k, q.entry ((placePilots q).filterMap id) k).2 != ({} : ToneEntry))) = ((placePilots q).filterMap id).contains := by
    funext k
    cases hk : ((placePilots q).filterMap id).contains k <;>
      simp only [TonePlan.entry, hk, Bool.false_and, Bool.true_and, bne_iff_ne, ne_eq]
    intro hh; simp [ToneEntry.mk.injEq] at hh
  simp only [Function.comp_def] at *
  rw [f]; simp

end Sys2Proof.Laws
end

