-- ==== Sys2Proof/Tests/States.lean ====
section
/-! SUPPORT. Small states and operands of the tests. -/

namespace Sys2Proof.Tests

open Sys2Proof.Machine

/-- A device with ROOT that acts and forwards at address 5, with master 1 as its Keeper. -/
def live : State :=
  setAll 0 [(.CHAIN_ADDR, 5), (.KEEPER_KVALID, 1), (.KEEPER_KTAG, 1)]
    { State.reset with acting := true, forwarding := true, clk := { rootPresent := true } }

/-- The same device without a Keeper. -/
def free : State := setAll 0 [(.KEEPER_KVALID, 0)] live

/-- The same device between two others: port B in lock. -/
def mid : State := setAll 0 [(.CHAIN_LINK_B, 1)] live

/-- The same device without an address. -/
def bare : State := setAll 0 [(.CHAIN_ADDR, 0)] mid

/-- An access of a chain master. -/
def acc (m d : Nat) : Acc := ⟨.chain .A, BitVec.ofNat 4 m, 0, BitVec.ofNat 32 d⟩

/-- A write that gives one field a value and every other field of its word the value it has. -/
def ask (m u : Nat) (f : Fld) (v : Nat) (s : State) : Acc :=
  acc m (((fldsAt f.blk f.off).map fun g =>
    (if g = f then v else presentF m u g (consumeFrame (.chain .A) s)) * 2 ^ g.lo).foldl (· + ·) 0)

/-- A broadcast frame of master 1. -/
def bc (op addr data : Nat) : Frame := mkFrame 31 1 op 0 addr data

/-- A frame of master `m`. -/
def fr (dest m op addr data : Nat) : Frame := mkFrame dest m op 0 addr data

/-- A request to the device. -/
def rq (m addr data : Nat) : Req := ⟨.chain .A, 5, BitVec.ofNat 4 m, 0, BitVec.ofNat 24 addr, BitVec.ofNat 32 data⟩

/-- Fields of one unit set. -/
def sf (u : Nat) (l : List (Fld × Nat)) (s : State) : State := setAll u l s

/-- A device that does not forward yet. -/
def still : State := { live with forwarding := false }

/-- An access in its crossing. -/
def cross : State :=
  { live with access := [{ req := rq 1 (blkBase .PORT_CTL 0) 0, op := opRead, crossing := true }] }

/-- A timed-out read. -/
def late : State := { live with timedOut := [{ req := rq 1 (blkBase .PORT_CTL 0) 0, op := opRead, crossing := true }] }

/-- A timed-out write. -/
def lateWrite : State :=
  { live with timedOut := [{ req := rq 1 (blkBase .PORT_CTL 0) 0, op := opWrite, crossing := true }] }

/-- A device with a nominee. -/
def nominated : State := { sf 0 [(.KEEPER_NOMINATE, 1)] live with nominee := some 3 }

/-- A device on which master 2 failed a check. -/
def refusing : State := { live with refused := [2] }

/-- A device whose Keeper's lease runs. -/
def kept : State := { live with leaseLeft := 125000 }

/-- A CLAIM of a lower tag comes in the same cycle. -/
def rivals : State := { free with pending := [.claim (rq 1 0x8000 20)] }

/-- A device with commands waiting. -/
def withPend (l : List Instr) : State := { live with pending := l }

/-- The device with no access left. -/
def uncross : State := { cross with access := [] }

/-- A device whose key is sealed. -/
def sealed : State := sf 0 [(.KEEPER_SEALED, 1)] live

/-- A write-once field. -/
def wo1F : Fld := ((allBlks.flatMap fun b => blkFlds b.1).find? fun f => f.ty == .wo1).getD .PORT_CTL_STATE

/-- SNAP_CLR of PORT_CTL. -/
def snapClr : Fld := ((cmdFlds .PORT_CTL).getLast?).getD .PORT_CTL_STATE

/-- A port that counted. -/
def counted : State := sf 2 [(.PORT_CTL_LINK_UPS, 2 ^ 40 + 9)] live

/-- A device with a time to set. -/
def setTm : State := sf 0 [(.TIME_SET_SEC_LO, 3), (.TIME_SET_SEC_HI, 1), (.TIME_SET_NS, 999999999)] live

/-- A device with a wrong time to set. -/
def setBad : State := sf 0 [(.TIME_SET_NS, 1000000000)] live

/-- A device with a step of −100 ns. -/
def stepTm : State := { sf 0 [(.TIME_STEP_NS, 2 ^ 32 - 100)] live with secs := 2, nanos := 50, frac := 9 }

/-- A TIMESET has set device time in this cycle. -/
def timesetNow : State := modClk (fun c => { c with timesetAt := some 0 }) setTm

/-- SET waits for the next ROOT cycle. -/
def setRuns : State := modClk (fun c => { c with timeRun := true }) (sf 0 [(.TIME_SET, 1)] setTm)

/-- STEP waits for the next ROOT cycle. -/
def stepRuns : State := modClk (fun c => { c with timeRun := true }) (sf 0 [(.TIME_STEP, 1)] stepTm)

/-- A device whose port A is in lock. -/
def linkA : State := sf 0 [(.CHAIN_LINK_A, 1)] live

/-- A device that waits for its reflection. -/
def hopping : State := { linkA with hopWait := true }

/-- A device with an EVENT queued. -/
def eventful : State := { live with events := [⟨1, 0x9008, 5⟩] }

/-- Firmware runs. -/
def fw : State := modLoader (fun l => { l with fwRunning := true }) live

/-- A command of master 1 posted in entry 0. -/
def posted : State := sf 0 [(.POST_CMD_PUT 1, 1)] (setCmdState 1 0 1 fw)

/-- A command of master 1 that was never posted. -/
def unposted : State := sf 0 [(.POST_CMD_PUT 1, 1)] fw

/-- A command of a master under execution. -/
def executing (m : Nat) : State := setCmdState m 63 2 fw

/-- A staging under way. -/
def staging : State := { live with staging := some ⟨5, 1, 3, [], false, none, false⟩, nanos := 7 }

/-- The same between two devices. -/
def stagingMid : State := sf 0 [(.CHAIN_LINK_B, 1)] staging

/-- A staging that is complete and armed. -/
def armed : State := { live with staging := some ⟨5, 1, 0, [], true, some (0, 2000000), false⟩ }

/-- A staging that is armed and not complete. -/
def armedOpen : State := { live with staging := some ⟨5, 1, 0, [], false, some (0, 2000000), false⟩ }

/-- Injection armed, with a source chosen in the lay-by. -/
def inj : State := sf 1 [(.injSrc .LAYBY, 0x10), (.injDetail .LAYBY, 0)] (sf 0 [(.INJ_INJ_ARM, 1)] live)

/-- The same, not armed. -/
def injOff : State := sf 1 [(.injSrc .LAYBY, 0x10), (.injDetail .LAYBY, 0)] live

/-- An open injection window of the lay-by. -/
def window : State := { sf 1 [(.fire .LAYBY, 1)] live with injOpen := [(blkBase .LAYBY 1, 0, 0x10, 0, false)] }

/-- The lay-by holds a fault of source 17, latched in a cycle. -/
def latched17 (at_ : Nat) : State :=
  { sf 1 [(.firstValid .LAYBY, 1), (.firstSrc .LAYBY, 17)] live with latchAt := [(blkBase .LAYBY 1, at_)] }

/-- A pavilion in use that may substitute on its own. -/
def autoSub : State := sf 3 [(.PAV_WEAR_AUTO_SUB, 1), (.PAV_CTL_ENABLED, 1)] live

/-- A substitution under way. -/
def subbing : State := modPav 3 (fun x => { x with subRun := true }) (sf 3 [(.PAV_CTL_LOADING, 1)] live)

/-- An idle engine. -/
def idleEng : State := sf 3 [(.ENGPOOL_ENG_IDLE, 1)] live

/-- An idle engine whose last self-test failed. -/
def idleFailed : State := modPav 3 (fun x => { x with fails := [(.engine, 0)] }) idleEng

/-- The loader enabled. -/
def ldr : State := sf 0 [(.en .LAYOUT, 1), (.en .BOOTF, 1)] fw

/-- A received firmware area. -/
def recvd : State := sf 0 [(.LAYOUT_VER_AREA, 1), (.LAYOUT_FW_STATE, 1)] ldr

/-- A firmware image: header and section table of R105. -/
def imageMem : Memory :=
  [(0, 0x504C4657), (4, 0x00018240), (8, 0x00010005), (0xC, 512), (0x18, 0x01000000), (0x20, 1), (0x24, 256)].foldl
    (fun m e => writeWord m e.1 e.2) []

/-- That image in its area. -/
def image : State := { ldr with loader := { ldr.loader with mem := [[], imageMem] } }

/-- VERIFY runs on it. -/
def verifying : State := modLoader (fun l => { l with verArea := 1 }) (sf 0 [(.LAYOUT_VERIFY, 1)] image)

/-- VERIFY runs on an empty area. -/
def verifyBad : State := modLoader (fun l => { l with verArea := 1 }) (sf 0 [(.LAYOUT_VERIFY, 1)] ldr)

/-- A verified layout area, to stage on pavilions 0 and 2. -/
def stageable : State :=
  modLoader (fun l => { l with contents := some {} })
    (sf 0 [(.LAYOUT_LAY_STATE, 2), (.LAYOUT_STG_MASK, 5)] ldr)

/-- Its last pavilion. -/
def copying : State := modLoader (fun l => { l with stageLeft := [2] }) (sf 0 [(.LAYOUT_STAGE, 1)] stageable)

/-- Staged pavilions to apply. -/
def applicable : State :=
  modPav 2 (fun x => { x with staged := some (7, 3, {}) }) (sf 0 [(.LAYOUT_APP_MASK, 4), (.LAYOUT_PHASE 2, 3)] ldr)

/-- Its last commit. -/
def applying : State := modLoader (fun l => { l with applyLeft := [2] }) (sf 0 [(.LAYOUT_APPLY, 1)] applicable)

/-- Start-up is over. -/
def up (s : State) : State := modClk (fun c => { c with boot := 6 }) s

/-- A verified firmware area. -/
def activatable : State := up (sf 0 [(.LAYOUT_FW_STATE, 2)] ldr)

/-- An activation awaits its reset's end. -/
def activating : State :=
  modLoader (fun l => { l with actPending := true, fwRunning := false }) (up (sf 0 [(.LAYOUT_FW_ACTIVATE, 1)] ldr))

/-- New firmware on trial. -/
def trial : State := up (sf 0 [(.LAYOUT_TRIAL, 1)] ldr)

/-- Something runs, so that the rollback counter may rise. -/
def raisable : State := sf 0 [(.BOOTF_FW_SRC, 3), (.LAYOUT_FW_SVN, 9), (.LAYOUT_PHASE 1, 4), (.LAYOUT_APPLIED_SVN 1, 6)] ldr

/-- The OEM key is set. -/
def oemSet : State := sf 0 [(.LAYOUT_OEM_SET, 1)] ldr

/-- FLASH_PROG under way with some sectors left. -/
def flashing (left : Nat) (ab : Bool) : State :=
  modLoader (fun l => { l with flashDest := 3, flashSector := left, flashAbort := ab }) (sf 0 [(.BOOTF_FLASH_PROG, 1)] image)

/-- Reset and clock state changed. -/
def ck (f : Clk → Clk) (s : State) : State := modClk f s

/-- A system reset is due. -/
def dueReset (l : Nat) : State := ck (fun c => { c with rstPend := some l }) (up (sf 0 [(.RSTC_RST_GO, 1)] live))

/-- The TAP asks for the debug reset. -/
def dbg : State := ck (fun c => { c with tap := 1 }) (sf 0 [(.DEBUG_DBG_RST_EN, 1), (.DEBUG_TAP_IR, 0xE0)] live)

/-- The watchdog runs while a staging waits. -/
def dog : State := { up (sf 0 [(.RSTC_WDT_EN, 1), (.LAYOUT_VERIFY, 1)] ldr) with staging := some ⟨5, 1, 3, [], false, none, false⟩ }

/-- A reset level chosen. -/
def level (l : Nat) : State := sf 0 [(.RSTC_RST_LEVEL, l)] live

/-- An episode is under way. -/
def episode : State := ck (fun c => { c with episode := true }) live

/-- A core-reset episode in which a trial failed. -/
def coreEpisode : State := modLoader (fun l => { l with reverted := true }) (sf 0 [(.RSTC_WIDEST, 1)] episode)

/-- Start-up at a step. -/
def boot (n : Nat) (s : State) : State := ck (fun c => { c with boot := n, boscStarting := n == 1, rootPresent := 4 ≤ n }) s

/-- A firmware image in flash. -/
def flashed : FlashImage := ⟨imageMem, none⟩

/-- Firmware in slot A, strap code 3. -/
def fwBoot : State := modLoader (fun l => { l with flash := [(1, flashed)] }) (boot 6 (sf 0 [(.RSTC_STRAP_CODE, 3)] live))

/-- ROOT is present. -/
def rooted : State := ck (fun c => { c with rootPresent := true, timeRun := true }) (sf 0 [(.CLKC_ROOT_OK, 1), (.TIME_TIME_VALID, 1), (.CLKC_BOSC_QUAL, 1)] live)

/-- ROOT is lost and ROOT_HOLD runs. -/
def held : State := ck (fun c => { c with holdRun := true, holdLeft := 9, rootPresent := false }) (sf 0 [(.CLKC_BOSC_QUAL, 1)] live)

/-- A ring with the root on a side. -/
def ring (src : Nat) : State :=
  ck (fun c => { c with rootPresent := true }) (sf 0 [(.CHAIN_RING, 1), (.CHAIN_ROOT_SRC, src), (.CHAIN_LINK_A, 1), (.CHAIN_LINK_B, 1)] live)

/-- A line PLL in lock with its spare left, and a port in showtime. -/
def lpll : State := sf 2 [(.PORT_CTL_STATE, stShow)] (sf 0 [(.CLKC_LPLL_LOCK, 1), (.SPARE_LPLL_LEFT, 1)] live)

/-- A wait of STATE_GO for its domains. -/
def switching : State := ck (fun c => { c with switching := true }) (sf 0 [(.PWRC_STATE_GO, 1)] live)

/-- A power state asked for; a COMMIT changed it, or a wake detector fired, in a cycle. -/
def toState (n : Nat) (at_ : Option Nat) (wake : Option (Nat × Nat)) : State :=
  ck (fun c => { c with stateAt := at_, wakeWas := wake }) (sf 0 [(.PWRC_STATE_REQ, n)] live)

/-- The TAP at a state with an instruction. -/
def tapAt (n ir : Nat) : State := ck (fun c => { c with tap := n }) (sf 0 [(.DEBUG_TAP_IR, ir)] live)

/-- CLKOUT1 configured, with ROOT or without. -/
def clkOn (root : Bool) : State :=
  ck (fun c => { c with rootPresent := root }) (sf 0 [(.DEBUG_TAP_IR, 1), (.en .CLKC, 1), (.CLKC_CO1_DIV, 40), (.CLKC_CO1_OE, 1)] live)

/-- A clock measurement against a BOSC that has not qualified. -/
def noBosc : State := sf 0 [(.CLKC_MEAS_REF, 1)] live

/-- An interrupt waits. -/
def calls : State := { sf 0 [(.DEBUG_TAP_IR, 1)] live with irqOut := [blkBase .CHAIN 0] }

/-- DEEP with the wake of line 7 enabled. -/
def deep : State := sf 0 [(.PWRC_DEV_STATE, 3), (.PWRC_WAKE_EN, 128)] live

/-- A clock measurement. -/
def measuring : State := ck (fun c => { c with measRun := true }) (sf 0 [(.CLKC_MEAS_GO, 1)] live)

/-- A pavilion with an active image. -/
def imaged : State := modPav 1 (fun x => { x with active := some (7, 3, {}) }) fw

/-- A pavilion that stops. -/
def stopping : State := modPav 1 (fun x => { x with disabling := true }) (sf 1 [(.PAV_CTL_ENABLED, 1)] fw)

/-- A pavilion whose enable waits. -/
def deferred : State := modPav 1 (fun x => { x with deferred := true }) (sf 1 [(.en .PAV_CTL, 1)] fw)

/-- Port 3 as a trunk port of an enabled pavilion, with the resources of R18. -/
def port (st : Nat) : State :=
  sf 3 [(.PORT_CTL_LINE_MODE, 1), (.PORT_CTL_STATE, st), (.en .PORT_CTL, 1), (.en .TXSH, 1), (.en .TONES, 1),
    (.TXSH_TX_ALLOW, 1), (.TXSH_MUTED, 0), (.en .LINKUP, 1)] (sf 1 [(.PAV_CTL_ENABLED, 1), (.en .PAV_CTL, 1), (.ENGPOOL_ENG_ODD, 12), (.ENGPOOL_PIPES_ODD, 2), (.DECPOOL_CORES_ODD, 2)] live)

/-- The link of port 3 changed. -/
def lk (f : Link → Link) (s : State) : State := modLink 3 f s

/-- A CAP of a partner with a role priority and permissions. -/
def capOf (pri permit req : Nat) : Cap :=
  { listsOmitted := false, svMon := false, stored := false, permit := permit, req := req, rolePri := pri, ceMin := 0, draw := 5,
    uid := 99, port := 1, storeId := 0, bandLo := 0, bandHi := 16383, cfgHash := 0, bps := [], notches := [], disabled := [] }

/-- Port 3 in HS_CAP with its CAP sent and its partner's heard. -/
def capped (pri permit : Nat) : State :=
  lk (fun l => { l with capSent := true, heard := true, partner := some (capOf pri permit 0), capSeq := 255 })
    (sf 3 [(.PORT_CTL_PERMIT, 15)] (port stCap))

/-- An HS frame on a set, its CRC right. -/
def headOf (setB : Bool) (type : Nat) (payload : List Byte) : HsHead :=
  { setB := setB, seq := 7, since := 0
    crc := BitVec.ofNat 32 (beNat ((hsFrame type 7 payload).drop (4 + payload.length))) }

/-- Port 3 in HS_SEEK, in its gap or not. -/
def seekGap (inside : Bool) : State := lk (fun l => { l with seekGap := some (if inside then 0 else 1, 9) }) (port stSeek)

/-- Both ends with the same ROLE_PRI, and a DRAW of this one. -/
def drawn (n : Nat) : State := lk (fun l => { l with draw := n }) (capped 4 15)

/-- The same with no common profile. -/
def cappedNone : State := lk (fun l => { l with partner := some (capOf 0 2 1) }) (sf 3 [(.PORT_CTL_PERMIT, 1)] (capped 0 2))

/-- Port 3 with a role. -/
def roled (r st : Nat) : State := sf 3 [(.PORT_CTL_ROLE, r)] (port st)

/-- The last T1 window. -/
def lastWindow : State := lk (fun l => { l with window := 3 }) (roled 2 stT1)

/-- The hybrid search in the port's own first window. -/
def hybrid (n : Nat) : State :=
  modSig 3 (fun g => { g with winSym := n, hyb := 20, hybBest := some 9 }) (sf 3 [(.AFE_HYB_R, 32)] (roled 1 stT1))

/-- The slave with ranging marks to answer or its count mark due. -/
def marking (at_ : List Nat) (due : Bool) : State :=
  lk (fun l => { l with slaveLocked := true, replyAt := at_, markDue := due }) (roled 2 stT2)

/-- The master after seven equal round trips. -/
def ranged : State := lk (fun l => { l with partnerPass := some true, rtts := List.replicate 7 16381 }) (roled 1 stT2)

/-- The slave with its TA. -/
def timed : State := lk (fun l => { l with taSet := true }) (sf 3 [(.LINKUP_TA, 80)] (roled 2 stT2))

/-- The master with its TA and the partner's SPREAD. -/
def probed : State := lk (fun l => { l with taSet := true, hisSpread := some 12 }) (sf 3 [(.LINKUP_TA, 80)] (roled 1 stT2))

/-- A CE announced for symbol 1. -/
def ceNamed (r : Nat) : State := lk (fun l => { l with slaveLocked := true, ceFrom := some (1, 2) }) (roled r stT2)

/-- T4 with the own tables out. -/
def tablesGone : State := lk (fun l => { l with tablesOut := true }) (roled 1 8)

/-- A training message in T5. -/
def unacked : State := modOam 3 (fun o => { o with cur := some ⟨1, trainType 5, [0, 0, 0, 9], 1, 7⟩ }) (roled 1 stT5)

/-- A warm start whose checks failed. -/
def rejected : State := lk (fun l => { l with warm := true, reject := true }) (roled 1 stT2)

/-- T5 at the boundary named. -/
def atShow : State := lk (fun l => { l with showAt := some 0 }) (roled 1 stT5)

/-- T2 with an own echo verdict of no. -/
def failing : State := lk (fun l => { l with ownPass := some false }) (roled 1 stT2)

/-- What a T1 window measures. -/
def meas (fofs : Int) : T1Meas := ⟨400, 600, true, fofs, 0, false, 300, 100, 5, [], []⟩

/-- A receive signal-to-noise ratio of many tones. -/
def snrs : List (Nat × Int) := (List.range 200).map fun k => (100 + k, 700)

/-- Entries of a bit-loading table. -/
def loads : List (Nat × Nat × Int) := (List.range 300).map fun k => (1000 + k, 8, 0)

/-- Port 3 in AN with an advertisement. -/
def an (adv : Nat) : State := modPort 3 (fun x => { x with cl45 := [(regAnAdv, adv)] }) (port stAn)

/-- Port 3 in a forced compatibility mode. -/
def forced : State := port stCompat

/-- Port 3 in COMPAT. -/
def compat : State := sf 3 [(.LINKUP_AN_DONE, 1), (.LINKUP_T1_RES, 2)] (port stCompat)

/-- Port 3 with fast retrains allowed. -/
def fast (v st : Nat) : State := sf 3 [(.LINKUP_FAST_EN, v)] (port st)

/-- Port 3 in showtime with the condition of every retrain trigger met or not. -/
def trig (v : Nat) (on : Bool) : State :=
  modSig 3 (fun g => { g with pilotBad := if on then 1024 else 1023, sfMiss := if on then 4 else 3, failRun := if on then 4 else 3 })
    (sf 3 [(.EQ_MARGIN_VALID, 1), (.LINKUP_MARGIN_MIN, 10), (.EQ_LINK_MARGIN, if on then 9 else 10)] (fast v stShow))

/-- The reconfiguration state of port 3 changed. -/
def rc (f : Rc → Rc) (s : State) : State := modRc 3 f s

/-- Port 3 in showtime with a role, all profiles permitted, its band for one mask and one notch set. -/
def show3 (r : Nat) : State :=
  sf 3 [(.PORT_CTL_ROLE, r), (.PORT_CTL_PERMIT, 15), (.TXSH_MASKS, 1), (.TXSH_NOTCH_SETS, 1), (.PORT_CTL_MODE, 1)] (port stShow)

/-- A bit-loading table: eight pilots and 256 tones of 8 bits, which all carry overhead. -/
def tab : NMap ToneEntry :=
  ((List.range 8).map fun k => (800 + k, { pilot := true })) ++
    (List.range 256).map fun k => (1000 + k, { bits := 8, oh := true })

/-- Bit-loading tables that carry a codeword, under a mask of −90 dBm/Hz. -/
def tabs (s : State) : State :=
  modPort 3 (fun x => { x with layout := { masks := [[(0, -900)]] } })
    (modSig 3 (fun g => { g with tables := [(1, tab), (5, tab)] }) s)

/-- TONES of T4 have come. -/
def tonesCome (m : NMap ToneEntry) (out : Bool) : State :=
  modSig 3 (fun g => { g with tables := [(5, m)] }) (tabs (lk (fun l => { l with txBegun := true, tablesOut := out }) (roled 1 stT4)))

/-- T3 with nothing measured. -/
def fewBits : State := roled 1 stT3

/-- T3 with a partner that has every tone disabled. -/
def noPilots : State := lk (fun l => { l with partner := some { capOf 7 15 0 with disabled := [(0, 16383)] } }) fewBits

/-- T3 of a warm start whose stored table still holds: 40 dB on every tone. -/
def warmT3 : State :=
  modSig 3 (fun g => { g with tables := [(2, tab)], noiseN := 1, noise := tab.map fun e => (e.1, 1 / 10000) })
    (tabs (lk (fun l => { l with warm := true }) (roled 1 stT3)))

/-- TONES was delivered. -/
def delivered : State := tabs (rc (fun r => { r with delivered := true }) (show3 2))

/-- A change runs. -/
def changing : State := rc (fun r => { r with running := true }) (show3 2)

/-- A change with its tables in. -/
def tabled : State := tabs (rc (fun r => { r with running := true, tablesIn := true }) (show3 2))

/-- A change whose partner has drained. -/
def drainDue : State := rc (fun r => { r with running := true, accepted := true, tablesOut := true, drainedRx := true }) (show3 1)

/-- A request under way. -/
def asking (op : Nat) : State := rc (fun r => { r with req := some ⟨op, 3, 0, 900⟩, running := op == 2 || op == 4, initiator := op == 2 }) (sf 3 [(.PORT_CTL_RECONF_GO, 1)] (show3 1))

/-- A mailbox message under way. -/
def sending (sends : Nat) : State :=
  modOam 3 (fun o => { o with cur := some ⟨2, 0x10, [1, 2], sends, 0⟩ }) (sf 3 [(.OAM_SEND, 1), (.OAM_TRIES, 3)] (show3 1))

/-- A message that a retrain discarded. -/
def discarded : State := modOam 3 (fun o => { o with stale := o.cur, cur := none }) (sending 1)

/-- A message to send. -/
def toSend (st : Nat) : State := sf 3 [(.OAM_SEND_LEN, 256), (.PORT_CTL_STATE, st), (.en .OAM, 1)] (show3 1)

/-- The line signal of port 3 changed. -/
def sg (f : Signal → Signal) (s : State) : State := modSig 3 f s

/-- Transmission at a position of the superframe. -/
def txAt (n : Nat) : State := sf 3 [(.TXSH_MUTED, 0)] (sg (fun g => { g with txPos := n }) (show3 2))

/-- A received symbol with an impulse. -/
def rxSym : RxSymbol := ⟨[], [], [], 8, 0, [], 0, 0⟩

/-- A switch of the transmit table is due at the next superframe. -/
def switchTx : State := sf 3 [(.TONES_TX_PENDING, 1), (.TONES_TX_SW_SF, 1)] (show3 2)

/-- A switch of the receive table is due at the next sync symbol. -/
def switchRx : State := sg (fun g => { g with rxFirst := false }) (sf 3 [(.TONES_RX_PENDING, 1), (.TONES_RX_SW_SF, 1)] (show3 2))

/-- A port that heard a sync symbol. -/
def rxGoing : State := sg (fun g => { g with rxFirst := false }) (show3 2)

/-- An overhead field with a right CRC. -/
def ohGood : List Byte :=
  let b := (0x10 :: 0xA0 :: List.replicate 60 0 : List Byte)
  b ++ beBytes 2 (crc16 b)

/-- A port in hold. -/
def inHold : State := sf 3 [(.LAYBY_P_IN_HOLD, 1)] (show3 2)

/-- A link with data tones, after a number of symbols of the block being measured. -/
def dataLink (n : Nat) : State := sg (fun g => { g with tables := [(2, tab)], noiseN := n }) (show3 2)

/-- An impulse event goes on. -/
def impulse : State := sg (fun g => { g with inImpulse := true, impRun := 100, impLen := 125000 }) (show3 2)

/-- An interval of the watch. -/
def watching : State :=
  modWatch 3 (fun v => { v with running := true, cw := 100, fail := 1, marginMin := some 35 }) (sf 3 [(.en .WATCH, 1)] (show3 2))

/-- LPI_QUIET with LPI_EN. -/
def quietIdle : State := sf 3 [(.en .WATCH, 1), (.WATCH_LPI_EN, 1)] (port stQuiet)

/-- A retrain trigger in the cycle of the wake. -/
def quietRetrain : State :=
  { sg (fun g => { g with sfMiss := 4 }) (port stQuiet) with pending := [.retrainSfSync 3] }

/-- A port that may run reflectometry. -/
def tdrAble : State := sf 3 [(.en .DIAG, 1), (.DIAG_TDR_SWEEPS, 4)] (port stLinkDown)

/-- Reflectometry under way. -/
def tdrAt (left : Nat) (ab : Bool) : State :=
  modWatch 3 (fun v => { v with sweeps := left, tdrAbort := ab }) (sf 3 [(.en .DIAG, 1), (.DIAG_TDR_RUN, 1)] (port stDiag))

/-- A survey baseline with enough profiles. -/
def baseline : State :=
  modWatch 3 (fun v => { v with acc := List.replicate 2 (List.replicate 256 0) }) (sf 3 [(.en .SURVEY, 1), (.SURVEY_SV_BASE_SAVE, 1), (.SURVEY_SV_AVG, 1)] (show3 2))

/-- A port whose survey may start. -/
def surveying (st : Nat) : State := sf 3 [(.en .SURVEY, 1), (.PORT_CTL_STATE, st), (.ECHO_ADAPT_EN, 1)] (show3 2)

/-- Port 3 changed. -/
def pt (f : Machine.Port → Machine.Port) (s : State) : State := modPort 3 f s

/-- Stream 7 of port 3. -/
def stream7 (sen : Bool) (st : Nat) : StreamEnt := { cfg := { maxTries := 8, retx := true, inOrder := true, cls := 2, sen := sen, guar := 0, cap := 4 }, st := st }

/-- Streams on, the lane up. -/
def lane : State :=
  pt (fun x => { x with streams := [(7, stream7 true 1)], nextFrame := 5 })
    (sf 3 [(.HOST_HOST_UP, 1), (.en .HOST, 1), (.en .STREAM, 1), (.STREAM_DEFAULT_STREAM, 7), (.FEC_CODE_RATE, 1),
      (.LAYBY_P_SHARE, 64), (.HOST_RX_FC_EN, 1), (.HOST_IB_EN, 1), (.HOST_HOST_RATE, 1)] (show3 2))

/-- The same with stream 7 off. -/
def laneOff : State := pt (fun x => { x with streams := [(7, stream7 false 0)] }) lane

/-- HOST_NEAR. -/
def near : State := sf 3 [(.HOST_LB_ACTIVE, 1)] lane

/-- The lane of a port whose standard link is up. -/
def laneCompat : State := sf 3 [(.PORT_CTL_STATE, stCompat), (.LINKUP_T1_LINK, 1)] lane

/-- The STREAM block off. -/
def strOff : State := sf 3 [(.en .STREAM, 0)] lane

/-- A host frame of a number of bytes, with its FCS right or wrong. -/
def eth (n : Nat) (ok : Bool) : EthFrame :=
  let b := List.replicate (n - 4) (1 : Byte)
  { bytes := b ++ leBytes 4 (crc32 0xFFFFFFFF b + if ok then 0 else 1), fecCorr := 2, fecUncorr := 1 }

/-- A frame that waits in its queue. -/
def waiting : QFrame := ⟨7, List.replicate 64 1, false, 4, 0⟩

/-- That frame at the head of class 2. -/
def queued : State := pt (fun x => { x with inq := [[], [], [waiting], [], [], [], [], []] }) lane

/-- A codeword sent. -/
def txc (st : CwSt) : TxCw := ⟨0, 2, 0, 7, st, false, 1, [1, 2, 3], 127, [], 0, 0, 0⟩

/-- A codeword in its slot. -/
def held1 (st : CwSt) (run : Nat) : State :=
  pt (fun x => { x with cws := [txc st], pms := [(2, { txNext := 1, tailRun := run })] }) lane

/-- Class 2 under pressure, with PFC. -/
def pressed : State := sf 3 [(.STREAM_PRESSURE, 4), (.HOST_PFC_EN, 1)] lane

/-- A codeword in the decoder queue. -/
def decoding : State := sf 3 [(.FEC_MAXIT, 16)] (sg (fun g => { g with dq := [⟨0, 0, false, 0⟩] }) lane)

/-- The info part of a codeword with a right CRC. -/
def info : List Byte :=
  let h := List.replicate 5 (0 : Byte)
  let b := List.replicate 20 (0 : Byte)
  h ++ beBytes 3 (crc24 (h ++ b)) ++ b

/-- A milestone missing below one received. -/
def gapped : State := pt (fun x => { x with pms := [(2, { rxAny := true, rxHigh := 3 })] }) lane

/-- A received frame of stream 7 with its delimiter. -/
def rxc : RxCw :=
  let d := beBytes 2 (64 * 4 + 2)
  ⟨0, 2, 0, 7, 0, d ++ beBytes 2 (crc16 d) ++ List.replicate 64 9, true, 0, 0, 0⟩

/-- That codeword held. -/
def arrived (up : Nat) : State :=
  pt (fun x => { x with rxCws := [rxc], pms := [(2, { rxA := 1, rxAny := true })] }) (sf 3 [(.HOST_HOST_UP, up)] lane)

/-- A frame in the fixed egress queue. -/
def egress : State := modLane 3 (fun l => { l with egFixed := [[1, 2, 3]] }) lane

/-- ROOT is lost while the lane is up. -/
def egHeld : State := ck (fun c => { c with holdRun := true, rootPresent := false }) lane

/-- Every class paused. -/
def paused : State := sf 3 [(.HOST_PAUSED, 255)] lane

/-- The lane down. -/
def laneDown : State := sf 3 [(.HOST_HOST_UP, 0)] lane

/-- An in-band request with its response records complete. -/
def ibq : IbReq := ⟨5, 1, [], [[1, 2]]⟩

/-- That request at the head of the lane. -/
def ibDone : State := modLane 3 (fun l => { l with ib := [ibq] }) lane

/-- A port whose line may loop. -/
def loopable : State := sf 3 [(.HOST_HOST_UP, 1)] (port stLinkDown)

/-- A time stamp in each FIFO. -/
def stamped : State := modLane 3 (fun l => { l with tsTx := [[1, 2, 3, 4]], tsRx := [[5, 6, 7, 8]] }) (sf 3 [(.en .TSU, 1)] lane)

/-- Port 3 in a spur mode. -/
def spur (mode st : Nat) : State := sf 3 [(.PORT_CTL_LINE_MODE, mode), (.ROUNDABOUT_MEMBERS, 1)] (port st)

/-- Spur mode of port 3 changed. -/
def sp (f : Spur → Spur) (s : State) : State := modSpur 3 f s

/-- The receiver at a step. -/
def acq (st : Nat) (l : Bool) : State := sp (fun x => { x with acq := ⟨st, l, none, 0⟩ }) (spur 2 stSpGate)

/-- The wake detector of LPI_QUIET at a step. -/
def sleeping (st : Nat) : State := sp (fun x => { x with acq := { st := st } }) (port stQuiet)

/-- A header. -/
def hdr (kind len gen : Nat) : Header := ⟨4, 0, kind, len, gen, 0, 0, []⟩

/-- A burst under way. -/
def received (h : Header) : State := sp (fun x => { x with acq := ⟨3, false, some h, 0⟩ }) (spur 2 stSpGate)

/-- A burst of data under way. -/
def receiving (gen : Nat) : State := received (hdr 0 2 gen)

/-- A schedule with grants for this cycle, none to the sender. -/
def scheduled : State :=
  sp (fun x => { x with acq := ⟨3, false, none, 0⟩, haveSched := true, grants := [⟨0, 4, 6⟩] }) (spur 2 stSpGate)

/-- A received schedule. -/
def sched (members : Nat) : Schedule := ⟨9, members, 0, [⟨0, 4, 6⟩], []⟩

/-- A gatehouse with a member at node 5 that misses. -/
def missing (n : Nat) (k : Option (Nat × Nat)) : State :=
  sp (fun x => { x with nodes := [(5, { uid := 8, misses := n, knockAt := k })] }) (sf 3 [(.ROUNDABOUT_MEMBERS, 33)] (spur 2 stSpGate))

/-- A port that knocks. -/
def knocking : State := sp (fun x => { x with haveSched := true }) (spur 3 stSpKnock)

/-- A member whose schedule is missing. -/
def member (n : Nat) : State := sp (fun x => { x with missRun := n, haveSched := true }) (spur 3 stSpMember)

/-- A grant in force and a table for node 5. -/
def tabling (dirty : Bool) : State :=
  sp (fun x => { x with haveSched := true, grants := [⟨0, 4, 6⟩], cycleNo := 4, nodes := [(5, { newTab := some ⟨3, [(9, 4)]⟩, newTabCycle := 2, dirty := dirty })] })
    (spur 2 stSpGate)

/-- Noise measured in group 0. -/
def noisy : State := sp (fun x => { x with noise := [(0, (160, 0))] }) (spur 2 stSpGate)

/-- Calibration of port 3 changed. -/
def cl (f : Cal → Cal) (s : State) : State := modCal 3 f s

/-- A port that may calibrate. -/
def calAble : State := sf 3 [(.en .CAL, 1), (.CAL_BG_EN, 1)] (show3 1)

/-- A background run. -/
def bgRunning : State := cl (fun c => { c with bgRun := true }) calAble

/-- A hybrid recalibration in its pause. -/
def hybRunning : State := rc (fun r => { r with pauseOwn := true }) (sf 3 [(.CAL_HYB_RECAL, 1)] calAble)

/-- SAVE under way. -/
def saving : State := modNvm (fun v => { v with saving := some ⟨2, 1, [], (0, 0), true⟩ }) (sf 0 [(.NVMC_SAVE, 1), (.NVMC_WRITING, 1)] live)

/-- Write protection strapped. -/
def protected_ : State := sf 0 [(.RSTC_STRAP_WP, 1)] live

/-- A triplicated field with one copy upset. -/
def upset : State := { live with tmr := [((Fld.lock .PORT_CTL).key 3, (0, 1, 0))] }

/-- The access in its crossing. -/
def crossAcc : Access := { req := rq 1 (blkBase .PORT_CTL 0) 0, op := opRead, crossing := true }

/-- The timed-out write. -/
def lateAcc : Access := { crossAcc with op := opWrite }

/-- The queued EVENT. -/
def evt : EventEntry := ⟨1, 0x9008, 5⟩

/-- A staging that goes on. -/
def stg : Staging := ⟨5, 1, 3, [], false, none, false⟩

/-- A staging that is complete and armed. -/
def stgDone : Staging := ⟨5, 1, 0, [], true, some (0, 2000000), false⟩

/-- A staging that is armed and not complete. -/
def stgOpen : Staging := ⟨5, 1, 0, [], false, some (0, 2000000), false⟩

/-- Armed, between two devices. -/
def armedMid : State := sf 0 [(.CHAIN_LINK_B, 1)] armed

/-- Armed and not complete, between two devices. -/
def armedOpenMid : State := sf 0 [(.CHAIN_LINK_B, 1)] armedOpen

/-- A step of −100 ns. -/
def step100 : Int := -100

/-- A codeword of the decoder queue. -/
def dq0 : DqCw := ⟨0, 0, false, 0⟩

/-- A codeword that did not decode. -/
def cwBad : DecodedCw := ⟨false, [], 5, 0⟩

/-- A codeword that decoded. -/
def cwGood : DecodedCw := ⟨true, info, 5, 0⟩

/-- A codeword that decoded with a wrong CRC. -/
def cwCrc : DecodedCw := ⟨true, [1], 5, 0⟩

/-- The calibration set of factory trims. -/
def set1 : CalSet := ⟨1, 0, [], (0, 0), true⟩

/-- The calibration set a SAVE writes. -/
def set2 : CalSet := ⟨2, 1, [], (0, 0), true⟩

/-- A grant of six slots. -/
def grant6 : Grant := ⟨0, 4, 6⟩

/-- A welcome. -/
def wel0 : Welcome := ⟨0, 0, 0⟩

/-- A table of one load. -/
def tab3 : SpTable := ⟨3, [(9, 4)]⟩

/-- A mailbox message sent a number of times. -/
def msg (n : Nat) : OamMsg := ⟨2, 0x10, [1, 2], n, 0⟩

/-- A request with its operation. -/
def rcReq (op : Nat) : RcReq := ⟨op, 3, 0, 900⟩

/-- The member of node 1. -/
def member1 : State := sf 3 [(.ROUNDABOUT_NODE_ID, 1)] (spur 3 stSpMember)

/-- Trial of fields of several blocks. -/
def sfPermit1 : State := sf 3 [(.PORT_CTL_PERMIT, 1)] (show3 2)

/-- A received loading of 2,400 bits. -/
def rxLoad : NMap Nat := (List.range 200).map fun k => (k, 12)

/-- A burst from a node whose table is held. -/
def receivingTab : State := sp (fun x => { x with nodes := [(4, { rxTab := some ⟨5, rxLoad⟩ })] }) (receiving 5)

/-- A sealed device without a Keeper; master 2 holds a valid nonce. -/
def sealedFree : State := { sf 0 [(.KEEPER_SEALED, 1), (.KEEPER_KVALID, 0)] live with nonces := [2] }

/-- The state with the right response to a master's nonce in its SRESP registers. -/
def answered (m : Nat) (s : State) : State :=
  let nonce := (List.range 4).flatMap fun i => beBytes 4 (getB m 0 (.KEEPER_NONCE i) s)
  let d := hmacSha256 (s.nvm.key.flatMap (beBytes 4)) (nonce ++ beBytes 1 (m % 16))
  forAll (List.range 8) (fun i => setB m 0 (.KEEPER_SRESP i) (beNat ((d.drop (4 * i)).take 4))) s

/-- A sealed device with a nomination of master 3 pending. -/
def sealedNom : State := sf 0 [(.KEEPER_SEALED, 1)] nominated

end Sys2Proof.Tests
end

