-- ==== Sys2Proof/Tests/Slice0.lean ====
section
/-! SUPPORT. Tests: commands that cannot occur, the spec's worked examples and tables, and known check values. -/

namespace Sys2Proof.Tests

open Sys2Proof.Machine

set_option Elab.async false

/-! ### Commands that cannot occur: one ill-formed command for each check of `Instr.wf` -/

/-- A frame with a wrong CRC. -/
def badFrame (op : Nat) : Frame := { fr 31 1 op 0 0 with crc := (fr 31 1 op 0 0).crc + 1 }

theorem test_wf_ill_formed : ([.chainFrameForward .A (badFrame 1), .read { rq 8 0 0 with mtag := 8 },
    .write { rq 1 0 0 with dest := 31 }, .claim { rq 1 0 0 with dest := 0 },
    .read { rq 9 0 0 with src := .inband 2 }, .bwrite .A (bc 4 0 0), .enum .A (badFrame 4), .prepare .A (bc 8 0 0),
    .commit .A (fr 31 8 8 0 0), .timeset .A (bc 1 0 0), .reservedOpFrame .A (bc 9 0 0), .reservedOpFrame .A (bc 15 0 0),
    .crcErrorFrame .A (bc 1 0 0), .resp .A (bc 6 0 0), .event .A (bc 15 0 0)] : List Instr).all (fun c => !c.wf) := by
  decide +kernel

theorem test_wf_ill_formed_access : ([.heartbeat (acc 8 0), .nonceReq (acc 9 0) 0, .cmdPut 3 (acc 10 0),
    .blkStsClear .LAYBY 4 (acc 1 0), .fire .CHAIN 1 (acc 1 0), .snapClr .PORT_CTL 3 (acc 8 0),
    .counterLowRead (BitVec.ofNat 24 (blkBase .PORT_CTL 0)) (acc 1 0),
    .tableDataRead (BitVec.ofNat 24 (blkBase .PORT_CTL 0)) (acc 1 0),
    .tableDataWrite (BitVec.ofNat 24 (blkBase .TONES 0 + 0x020)) (acc 1 0),
    .faultDetect .LAYBY 4 0 0, .injectionWindowEnd .KEEPER 1] : List Instr).all (fun c => !c.wf) := by
  decide +kernel

theorem test_wf_ill_formed_line : ([.symbolRx 0 { rxSym with tones := [⟨16384, 0, 0⟩] },
    .syncSymbolRx 0 ⟨true, false⟩ { rxSym with tones := [⟨16384, 0, 0⟩] }, .tones 0 true [(16384, 1, 0)] true,
    .overheadRx 0 (List.replicate 63 0), .inbandRequest 0 0 1 1 [List.replicate 7 0]] : List Instr).all
    (fun c => !c.wf) := by
  decide +kernel

theorem test_wf_well_formed : ([.chainFrameForward .A (fr 7 1 1 0 0), .read (rq 7 0 0), .read { rq 9 0 0 with src := .inband 1 },
    .bwrite .A (bc 3 0 0), .enum .A (bc 4 0 1), .commit .A (bc 8 0 0), .reservedOpFrame .A (bc 14 0 0),
    .crcErrorFrame .A (badFrame 1), .fire .LAYBY 3 (acc 7 0), .counterLowRead (BitVec.ofNat 24 (blkBase .PORT_CTL 0 + Fld.PORT_CTL_LINK_UPS.off)) (acc 1 0),
    .tableDataRead (BitVec.ofNat 24 (blkBase .TONES 7 + 0x024)) (acc 1 0), .overheadRx 0 ohGood] : List Instr).all (·.wf) := by
  decide +kernel

/-! ### No row of the table gives bits -/

theorem test_no_words : decodeTableWord 32 0 = none := rfl

/-! ### Frames (R36, R37, R42) -/

theorem test_frame_layout :
    frameBytes 5 1 2 3 0x123456 0x89ABCDEF = [0x28, 0x93, 0x12, 0x34, 0x56, 0x89, 0xAB, 0xCD, 0xEF] := by
  decide +kernel

/-- The published check value of a CRC with the parameters of R37, over the digits 1 to 9. -/
theorem test_crc16_check : crc16 [0x31, 0x32, 0x33, 0x34, 0x35, 0x36, 0x37, 0x38, 0x39] = 0x29B1 := by
  decide +kernel

/-- The published check value of the CRC-32 of IEEE 802.3. -/
theorem test_crc32_check : crc32 0xFFFFFFFF [0x31, 0x32, 0x33, 0x34, 0x35, 0x36, 0x37, 0x38, 0x39] = 0xCBF43926 := by
  decide +kernel

/-- The example of FIPS 180-4: the digest of "abc". -/
theorem test_sha256_abc : beNat (sha256 [0x61, 0x62, 0x63]) =
    0xBA7816BF8F01CFEA414140DE5DAE2223B00361A396177A9CB410FF61F20015AD := by
  decide +kernel

theorem test_resp_fields : (respFrame live 1 3 opRead 0x789ABC 5 7).addr = 0x519ABC ∧
    (respFrame live 1 3 opRead 0x789ABC 5 7).dest = 5 ∧ (respFrame live 1 3 opRead 0x789ABC 5 7).op = 15 := by
  decide +kernel

/-- DEV_ID (R99): a READ of 0x020 answers PART and VENDOR. -/
theorem test_read_dev_id : (readOp 1 0x000020 live).2.1 = 0x82400B1D := by
  decide +kernel

/-! ### The worked example of R85: a clear that meets a new impulse -/

/-- The WATCH block of P2 after the second impulse. -/
def impulseTwice : State := sf 2 [(.sts .WATCH, 1), (.seq .WATCH, 0x42)] live

theorem test_clear_misses : (match exec (.blkStsClear .WATCH 2 (acc 1 0x41000001)) impulseTwice with
    | .next t => [getF 2 (.sts .WATCH) t, getF 2 (.clrMiss .WATCH) t, getF 2 (.seq .WATCH) t]
    | _ => []) = [1, 1, 0x42] := by
  decide +kernel

theorem test_clear_hits : (match exec (.blkStsClear .WATCH 2 (acc 1 0x42000001)) impulseTwice with
    | .next t => [getF 2 (.sts .WATCH) t, getF 2 (.clrMiss .WATCH) t]
    | _ => []) = [0, 0] := by
  decide +kernel

/-! ### The worked example of R152: four tones near 500 MHz (Γ + M = 10.0 dB) -/

theorem test_bits_of_four_tones :
    [426, 432, 412, 401, 350, 319, 311].map (fun x => bitsFor (x - 100)) = [10, 11, 10, 10, 8, 7, 7] := by
  decide +kernel

/-- Tone 2,050 has 6.09 dB at 11 bits (R222): 6.0 dB in whole 0.1 dB, rounded down. -/
theorem test_margin_of_tone_2050 : marginOf 40 426 { bits := 11, gain := 6 } = 60 := by
  decide +kernel

/-- The worked example of R249: TA = 576 and P = 33,792 samples give L = 3. -/
theorem test_lag_of_retarder_example :
    lagOf 3 (sf 3 [(.LINKUP_TA, 576), (.TXSH_CE, 1)] live) = 3 := by
  decide +kernel

/-! ### The table of R362 -/

theorem test_strap_codes :
    [0, 1, 2, 5, 6, 8, 9, 24, 25, 33, 37, 38, 53, 54, 58, 59, 63].map strapOf =
      [0, 0, 1, 1, 2, 2, 3, 6, 7, 9, 9, 10, 13, 14, 14, 15, 15] := by
  decide +kernel

/-! ### Device time (R100): one tick -/

theorem test_tick_is_8_ns : nowNs (idle (ck (fun c => { c with timeRun := true, rootPresent := true }) live)) = 8 := by
  decide +kernel

end Sys2Proof.Tests
end

