-- ==== Sys2Proof/Tests/WitnessDevice.lean ====
section
/-! SUPPORT. Concrete states and operands that meet the hypotheses of each clause of the statements about the device. -/

namespace Sys2Proof.Tests

open Sys2Proof.Machine

set_option Elab.async false

/-! ### StepRunsFrontCommand -/

theorem wit_StepRunsFrontCommand_1 :
    (withPend [Instr.leaseExpiry]).pending = [Instr.leaseExpiry] := by
  decide +kernel

theorem wit_StepRunsFrontCommand_2 :
    live.pending = [] := by
  decide +kernel

/-! ### RegisterFileIndependent -/

theorem wit_RegisterFileIndependent :
    (∀ w ∈ [((Blk.PORT_CTL, 3), Fld.PORT_CTL_STATE, 99), ((Blk.PORT_CTL, 3), Fld.PORT_CTL_STATE, 10)],
      w.1 ∈ allBlks ∧ w.2.1 ∈ blkFlds w.1.1) ∧ (Blk.PORT_CTL, 3) ∈ allBlks ∧
    Fld.PORT_CTL_STATE ∈ blkFlds Blk.PORT_CTL := by
  decide +kernel

/-! ### StepKeepsMemoryCanonical -/

theorem wit_StepKeepsMemoryCanonical : CanonicalMemory posted ∧ ∃ t, step posted = .next t :=
  ⟨by unfold CanonicalMemory; decide +kernel, idle posted, rfl⟩

/-! ### SealedIsForGood -/

theorem wit_SealedIsForGood : getF 0 .KEEPER_SEALED sealed = 1 ∧ ∃ t, step sealed = .next t :=
  ⟨by decide +kernel, idle sealed, rfl⟩

/-! ### MemoryReadsBackBigEndian -/

theorem wit_MemoryReadsBackBigEndian_1 : Memory.wf [(4, 7), (9, 1)] := by
  decide +kernel

theorem wit_MemoryReadsBackBigEndian_2 : 0xFFFFFFFF < 2 ^ 32 := by
  decide

/-! ### ForwardingChangesNothing -/

theorem wit_ForwardingChangesNothing_1 :
    live.forwarding = true := by
  decide +kernel

theorem wit_ForwardingChangesNothing_2 :
    still.forwarding = false := by
  decide +kernel

/-! ### EnumAssignsAddress -/

/-- The condition under which a device has no address when it judges COUNTER. -/
def enumBare (f : Frame) (s : State) : Bool :=
  (!bitOf f.data.toNat 31 || keeper s == none || keeper s == some f.mtag.toNat) && (bitOf f.data.toNat 31 || chainAddr s == 0)

theorem wit_EnumAssignsAddress_1 :
    actsOn (bc 4 0 30) bare = true ∧ bare.forwarding = true ∧ enumBare (bc 4 0 30) bare = true ∧
    (bc 4 0 30).data.toNat % 32 = 30 := by
  decide +kernel

theorem wit_EnumAssignsAddress_1b :
    let s := sf 0 [(.CHAIN_LINK_B, 0)] bare
    actsOn (bc 4 0 1) s = true ∧ s.forwarding = true ∧ isTail s = true ∧ enumBare (bc 4 0 1) s = true := by
  decide +kernel

theorem wit_EnumAssignsAddress_2 :
    actsOn (bc 4 0 (2 ^ 31 + 9)) mid = true ∧ mid.forwarding = true ∧ chainAddr mid ≠ 0 ∧
    enumBare (bc 4 0 (2 ^ 31 + 9)) mid = true ∧ (bc 4 0 (2 ^ 31 + 9)).data.toNat % 32 = 9 := by
  decide +kernel

theorem wit_EnumAssignsAddress_3 :
    actsOn (bc 4 0 31) bare = true ∧ bare.forwarding = true ∧ enumBare (bc 4 0 31) bare = true ∧
    (bc 4 0 31).data.toNat % 32 = 31 := by
  decide +kernel

theorem wit_EnumAssignsAddress_4 :
    actsOn (bc 4 0 0) bare = true ∧ bare.forwarding = true ∧ enumBare (bc 4 0 0) bare = true ∧
    (bc 4 0 0).data.toNat % 32 = 0 := by
  decide +kernel

theorem wit_EnumAssignsAddress_5 :
    actsOn (fr 31 2 4 0 (2 ^ 31 + 9)) mid = true ∧ mid.forwarding = true ∧
    enumBare (fr 31 2 4 0 (2 ^ 31 + 9)) mid = false := by
  decide +kernel

/-! ### RequestIsAnsweredOrCrosses -/

theorem wit_RequestIsAnsweredOrCrosses_1 :
    (Instr.write (rq 2 32816 9), opWrite) ∈ [(Instr.read (rq 2 32816 9), opRead), (Instr.write (rq 2 32816 9),
    opWrite), (Instr.claim (rq 2 32816 9), opClaim)] ∧ (rq 2 32816 9).src = Src.chain Side.A ∧ live.acting = true ∧
    (rq 2 32816 9).dest.toNat = chainAddr live ∧ chainAddr live ≠ 0 ∧ Quiet live ∧ consumeFrame (Src.chain Side.A)
    live = consumeFrame (rq 2 32816 9).src live ∧ earlyCode (rq 2 32816 9) opWrite (consumeFrame (Src.chain Side.A)
    live) = some 3 := by
  unfold Quiet; decide +kernel

theorem wit_RequestIsAnsweredOrCrosses_2 :
    (Instr.read (rq 2 (blkBase Blk.PORT_CTL 0) 9), opRead) ∈ [(Instr.read (rq 2 (blkBase Blk.PORT_CTL 0) 9), opRead),
    (Instr.write (rq 2 (blkBase Blk.PORT_CTL 0) 9), opWrite), (Instr.claim (rq 2 (blkBase Blk.PORT_CTL 0) 9),
    opClaim)] ∧ (rq 2 (blkBase Blk.PORT_CTL 0) 9).src = Src.chain Side.A ∧ live.acting = true ∧ (rq 2 (blkBase
    Blk.PORT_CTL 0) 9).dest.toNat = chainAddr live ∧ chainAddr live ≠ 0 ∧ Quiet live ∧ consumeFrame (Src.chain
    Side.A) live = consumeFrame (rq 2 (blkBase Blk.PORT_CTL 0) 9).src live ∧ earlyCode (rq 2 (blkBase Blk.PORT_CTL 0)
    9) opRead (consumeFrame (Src.chain Side.A) live) = none ∧ accessDomain opRead (rq 2 (blkBase Blk.PORT_CTL 0)
    9).addr.toNat ≠ 3 := by
  unfold Quiet; decide +kernel

theorem wit_RequestIsAnsweredOrCrosses_3 :
    (Instr.read (rq 2 32816 9), opRead) ∈ [(Instr.read (rq 2 32816 9), opRead), (Instr.write (rq 2 32816 9),
    opWrite), (Instr.claim (rq 2 32816 9), opClaim)] ∧ (rq 2 32816 9).src = Src.chain Side.A ∧ live.acting = true ∧
    (rq 2 32816 9).dest.toNat = chainAddr live ∧ chainAddr live ≠ 0 ∧ Quiet live ∧ consumeFrame (Src.chain Side.A)
    live = consumeFrame (rq 2 32816 9).src live ∧ earlyCode (rq 2 32816 9) opRead (consumeFrame (Src.chain Side.A)
    live) = none ∧ accessDomain opRead (rq 2 32816 9).addr.toNat = 3 ∧ performOp
    { req := rq 2 32816 9, op := opRead, crossing := false } (consumeFrame (Src.chain Side.A) live) = (0, (readOp 2 32816
    (consumeFrame (Src.chain Side.A) live)).2.1, consumeFrame (Src.chain Side.A) live) ∧ Quiet (answer (rq 2 32816 9)
    opRead 0 (readOp 2 32816 (consumeFrame (Src.chain Side.A) live)).2.1 (consumeFrame (Src.chain Side.A) live)) := by
  unfold Quiet; decide +kernel

theorem wit_RequestIsAnsweredOrCrosses_4 :
    live.forwarding = true ∧ actsOn (fr 5 1 3 32816 9) live = false := by
  decide +kernel

theorem wit_RequestIsAnsweredOrCrosses_5 :
    let f := bc 3 (blkBase .PORT_CTL 0) 9
    let r : Req := ⟨.chain .A, f.dest, f.mtag, f.tag, f.addr, f.data⟩
    mid.forwarding = true ∧ actsOn f mid = true ∧ Quiet mid ∧
      earlyCode r opBwrite (emit (.chain .B f) mid) = none ∧ accessDomain opBwrite r.addr.toNat ≠ 3 := by
  unfold Quiet; decide +kernel

theorem wit_RequestIsAnsweredOrCrosses_6 :
    let f := mkFrame 31 2 3 0 0x8030 9
    let r : Req := ⟨.chain .A, f.dest, f.mtag, f.tag, f.addr, f.data⟩
    mid.forwarding = true ∧ actsOn f mid = true ∧ Quiet mid ∧
      earlyCode r opBwrite (emit (.chain .B f) mid) = some 3 := by
  unfold Quiet; decide +kernel

/-! ### CrossingsEnd -/

theorem wit_CrossingsEnd_2 :
    cross.access = [crossAcc] ∧ crossAcc.crossing = true ∧ cross.timedOut = [] ∧ (∀ p < 8, ∀ q ∈ (cross.port
    p).lane.ib, q.todo = []) ∧ domainOn (accessDomain crossAcc.op crossAcc.req.addr.toNat) cross = true := by
  decide +kernel

theorem wit_CrossingsEnd_3 :
    late.timedOut = [crossAcc] ∧ late.access = [] ∧ clocked late = true ∧
    (∀ p < 8, ∀ q ∈ (late.port p).lane.ib, q.todo = []) ∧
    crossAcc.op = opRead := by
  decide +kernel

theorem wit_CrossingsEnd_4 :
    lateWrite.timedOut = [lateAcc] ∧ lateWrite.access = [] ∧ clocked lateWrite = true ∧
    (∀ p < 8, ∀ q ∈ (lateWrite.port p).lane.ib, q.todo = []) ∧ lateAcc.op ≠ opRead ∧
    domainOn (accessDomain lateAcc.op lateAcc.req.addr.toNat) lateWrite = true := by
  decide +kernel

theorem wit_CrossingsEnd_1 :
    cross.access = [crossAcc] ∧ crossAcc.crossing = true ∧ cross.timedOut = [] ∧
      (∀ p < 8, ∀ q ∈ (cross.port p).lane.ib, q.todo = []) ∧
      domainOn (accessDomain crossAcc.op crossAcc.req.addr.toNat) cross = true ∧ clocked cross = true ∧
      Quiet (landAccess crossAcc uncross) := by
  unfold Quiet; decide +kernel

/-! ### ClaimMakesKeeper -/

theorem wit_ClaimMakesKeeper_1 :
    (rq 2 0x8000 5).src = .chain .A ∧ (free).acting = true ∧ (rq 2 0x8000 5).dest.toNat = chainAddr (free) ∧
    chainAddr (free) ≠ 0 ∧ Quiet (free) ∧ getF 0 .KEEPER_SEALED (free) ≠ 1 ∧ keeper free = none ∧
    claimBeaten 2 free = false := by
  unfold Quiet; decide +kernel

theorem wit_ClaimMakesKeeper_2 :
    (rq 1 0x8000 20).src = .chain .A ∧ (kept).acting = true ∧ (rq 1 0x8000 20).dest.toNat = chainAddr (kept) ∧
    chainAddr (kept) ≠ 0 ∧ Quiet (kept) ∧ getF 0 .KEEPER_SEALED (kept) ≠ 1 ∧ keeper kept = some 1 ∧ kept.leaseLeft ≠ 0 := by
  unfold Quiet; decide +kernel

theorem wit_ClaimMakesKeeper_3 :
    (rq 2 0x8000 20).src = .chain .A ∧ (kept).acting = true ∧ (rq 2 0x8000 20).dest.toNat = chainAddr (kept) ∧
    chainAddr (kept) ≠ 0 ∧ Quiet (kept) ∧ keeper kept = some 1 ∧ kept.leaseLeft ≠ 0 := by
  unfold Quiet; decide +kernel

theorem wit_ClaimMakesKeeper_3b :
    (rq 2 0x8000 20).src = .chain .A ∧ (rivals).acting = true ∧ (rq 2 0x8000 20).dest.toNat = chainAddr (rivals) ∧
    chainAddr (rivals) ≠ 0 ∧ Quiet (rivals) ∧ keeper rivals = none ∧ claimBeaten 2 rivals = true := by
  unfold Quiet; decide +kernel

theorem wit_ClaimMakesKeeper_3c :
    (rq 2 0x8000 20).src = .chain .A ∧ (live).acting = true ∧ (rq 2 0x8000 20).dest.toNat = chainAddr (live) ∧
    chainAddr (live) ≠ 0 ∧ Quiet (live) ∧ getF 0 .KEEPER_SEALED live ≠ 1 ∧ keeper live = some 1 ∧ live.leaseLeft = 0 ∧
    claimBeaten 2 live = false := by
  unfold Quiet; decide +kernel

theorem wit_ClaimMakesKeeper_4 :
    (rq 2 0x8000 20).src = .chain .A ∧ (sealedFree).acting = true ∧ (rq 2 0x8000 20).dest.toNat = chainAddr (sealedFree) ∧
    chainAddr (sealedFree) ≠ 0 ∧ Quiet (sealedFree) ∧
    getF 0 .KEEPER_SEALED sealedFree = 1 ∧ keeper sealedFree = none ∧ responseOk 2 sealedFree = false := by
  unfold Quiet; decide +kernel

theorem wit_ClaimMakesKeeper_5 :
    (rq 2 0x8000 20).src = .chain .A ∧ (answered 2 sealedFree).acting = true ∧
    (rq 2 0x8000 20).dest.toNat = chainAddr (answered 2 sealedFree) ∧
    chainAddr (answered 2 sealedFree) ≠ 0 ∧ Quiet (answered 2 sealedFree) ∧
    2 ∈ (answered 2 sealedFree).nonces ∧ responseOk 2 (answered 2 sealedFree) = true := by
  unfold Quiet; decide +kernel

theorem wit_ClaimMakesKeeper_6 : (dueReset 2).clk.rstPend = some 2 := by
  decide +kernel

theorem wit_ClaimMakesKeeper_7 : (dueReset 1).clk.rstPend = some 1 ∧ 6 ≤ (dueReset 1).clk.boot := by
  decide +kernel

/-! ### OwnershipLapsesOrPassesOn -/

theorem wit_OwnershipLapsesOrPassesOn_1 :
    Writes (acc 1 0) Blk.KEEPER 0 40 live ∧ keeper live = some (acc 1 0).mtag.toNat := by
  unfold Writes Quiet Clocked; decide +kernel

theorem wit_OwnershipLapsesOrPassesOn_2 :
    (keeper nominated).isSome = true ∧ nominated.leaseLeft = 0 ∧ heartbeatMeets nominated = false ∧
    acceptMeets nominated = false ∧ getF 0 .KEEPER_NOMINATE nominated = 1 := by
  decide +kernel

theorem wit_OwnershipLapsesOrPassesOn_3 :
    Starts (ask 1 0 Fld.KEEPER_NOMINATE 1 live) 0 Fld.KEEPER_NOMINATE live := by
  unfold Starts Writes Quiet Clocked AsksStart; decide +kernel

theorem wit_OwnershipLapsesOrPassesOn_4 :
    getF 0 Fld.KEEPER_SEALED nominated ≠ 1 ∧ Starts (ask 3 0 Fld.KEEPER_ACCEPT 1 nominated) 0 Fld.KEEPER_ACCEPT
    nominated ∧ nominated.nominee = some (ask 3 0 Fld.KEEPER_ACCEPT 1 nominated).mtag.toNat := by
  unfold Starts Writes Quiet Clocked AsksStart; decide +kernel

theorem wit_OwnershipLapsesOrPassesOn_5 :
    getF 0 Fld.KEEPER_SEALED nominated ≠ 1 ∧ Starts (ask 2 0 Fld.KEEPER_ACCEPT 1 nominated) 0 Fld.KEEPER_ACCEPT
    nominated ∧ nominated.nominee ≠ some (ask 2 0 Fld.KEEPER_ACCEPT 1 nominated).mtag.toNat := by
  unfold Starts Writes Quiet Clocked AsksStart; decide +kernel

theorem wit_OwnershipLapsesOrPassesOn_6 :
    nominated.nominee.isSome = true := by
  decide +kernel

theorem wit_OwnershipLapsesOrPassesOn_7 :
    Starts (ask 3 0 Fld.KEEPER_ACCEPT 1 sealedNom) 0 Fld.KEEPER_ACCEPT sealedNom ∧ sealedNom.nominee = some 3 ∧
    getF 0 .KEEPER_SEALED sealedNom = 1 ∧ 3 ∉ sealedNom.nonces := by
  unfold Starts Writes Quiet Clocked AsksStart; decide +kernel

/-! ### KeeperSecretsAreBound -/

theorem wit_KeeperSecretsAreBound_1 :
    Starts (ask 2 0 Fld.KEEPER_NONCE_REQ 1 live) 0 Fld.KEEPER_NONCE_REQ live ∧ (ask 2 0 Fld.KEEPER_NONCE_REQ 1
    live).mtag.toNat ∉ live.refused := by
  unfold Starts Writes Quiet Clocked AsksStart; decide +kernel

theorem wit_KeeperSecretsAreBound_2 :
    Starts (ask 2 0 Fld.KEEPER_NONCE_REQ 1 refusing) 0 Fld.KEEPER_NONCE_REQ refusing ∧ (ask 2 0 Fld.KEEPER_NONCE_REQ
    1 refusing).mtag.toNat ∈ refusing.refused := by
  unfold Starts Writes Quiet Clocked AsksStart; decide +kernel

theorem wit_KeeperSecretsAreBound_3 :
    Starts (ask 1 0 Fld.KEEPER_KEY_PROGRAM 1 live) 0 Fld.KEEPER_KEY_PROGRAM live ∧ getF 0 Fld.KEEPER_SEALED live ≠ 1 := by
  unfold Starts Writes Quiet Clocked AsksStart; decide +kernel

theorem wit_KeeperSecretsAreBound_4 :
    Starts (ask 1 0 Fld.KEEPER_KEY_PROGRAM 1 sealed) 0 Fld.KEEPER_KEY_PROGRAM sealed ∧ getF 0 Fld.KEEPER_SEALED
    sealed = 1 := by
  unfold Starts Writes Quiet Clocked AsksStart; decide +kernel

theorem wit_KeeperSecretsAreBound_5 :
    getF 0 Fld.KEEPER_KEY_PROGRAM (sf 0 [(Fld.KEEPER_KEY_PROGRAM, 1)] live) = 1 := by
  decide +kernel

theorem wit_KeeperSecretsAreBound_6 :
    getF 0 Fld.KEEPER_KEY_PROGRAM (sf 0 [(Fld.KEEPER_KEY_PROGRAM, 1)] live) = 1 := by
  decide +kernel

/-! ### CommandRowsStartTheirCommand -/

theorem wit_CommandRowsStartTheirCommand_1 :
    (Instr.setTime, 0, Fld.TIME_SET) ∈ commandRows 0 0 ∧ Starts (ask 1 0 Fld.TIME_SET 1 live) (Instr.setTime, 0,
    Fld.TIME_SET).2.1 (Instr.setTime, 0, Fld.TIME_SET).2.2 live ∧ startOwnCmd 1 0 Fld.TIME_SET (extOf (consumeFrame
    (Src.chain Side.A) live)) (consumeFrame (Src.chain Side.A) live) = startOwnCmd (ask 1 0 Fld.TIME_SET 1
    live).mtag.toNat (Instr.setTime, 0, Fld.TIME_SET).2.1 (Instr.setTime, 0, Fld.TIME_SET).2.2 (extOf (consumeFrame
    (ask 1 0 Fld.TIME_SET 1 live).src live)) (consumeFrame (ask 1 0 Fld.TIME_SET 1 live).src live) := by
  unfold Starts Writes Quiet Clocked AsksStart; exact ⟨by simp [commandRows], by decide +kernel⟩

theorem wit_CommandRowsStartTheirCommand_2 :
    (Instr.reconfGo 3, 3, Fld.PORT_CTL_RECONF_GO) ∈ commandRows 3 0 ∧ Starts (ask 1 3 Fld.PORT_CTL_RECONF_GO 1 (show3 1)) 3
    Fld.PORT_CTL_RECONF_GO (show3 1) ∧ Fld.PORT_CTL_RECONF_GO.blk ∈ portBlks ∧ disableMeets (pavOf 3) (show3 1) = false := by
  unfold Starts Writes Quiet Clocked AsksStart; exact ⟨by simp [commandRows], by decide +kernel⟩

/-! ### WriteIsJudgedByFieldType -/

theorem wit_WriteIsJudgedByFieldType_1 :
    actsAlways Fld.TXSH_CE_MIN = false ∧ gateFixed Fld.TXSH_CE_MIN = false ∧ 9 ≠ presentF 1 0 Fld.TXSH_CE_MIN (sf 0
    [(Fld.lock Blk.TXSH, 1)] live) ∧ Fld.TXSH_CE_MIN.blk ≠ Blk.DEBUG ∧ Fld.TXSH_CE_MIN.ty = FTy.rw ∧ getF 0 (Fld.lock
    Fld.TXSH_CE_MIN.blk) (sf 0 [(Fld.lock Blk.TXSH, 1)] live) = 1 := by
  decide +kernel

theorem wit_WriteIsJudgedByFieldType_2 :
    actsAlways Fld.TXSH_CE_MIN = false ∧ gateFixed Fld.TXSH_CE_MIN = false ∧ 9 ≠ presentF 1 0 Fld.TXSH_CE_MIN (sf 0
    [(Fld.en Blk.TXSH, 1)] live) ∧ Fld.TXSH_CE_MIN.blk ≠ Blk.DEBUG ∧ Fld.TXSH_CE_MIN.ty = FTy.rw ∧ ¬getF 0 (Fld.lock
    Fld.TXSH_CE_MIN.blk) (sf 0 [(Fld.en Blk.TXSH, 1)] live) = 1 ∧ enOf Fld.TXSH_CE_MIN.blk 0 (sf 0 [(Fld.en Blk.TXSH,
    1)] live) = 1 := by
  decide +kernel

theorem wit_WriteIsJudgedByFieldType_3 :
    actsAlways Fld.TXSH_CE_MIN = false ∧ gateFixed Fld.TXSH_CE_MIN = false ∧ 9 ≠ presentF 1 0 Fld.TXSH_CE_MIN live ∧
    Fld.TXSH_CE_MIN.blk ≠ Blk.DEBUG ∧ Fld.TXSH_CE_MIN.ty = FTy.rw ∧ ¬getF 0 (Fld.lock Fld.TXSH_CE_MIN.blk) live = 1 ∧
    enOf Fld.TXSH_CE_MIN.blk 0 live ≠ 1 := by
  decide +kernel

theorem wit_WriteIsJudgedByFieldType_4 :
    actsAlways Fld.KEEPER_LEASE = false ∧ gateFixed Fld.KEEPER_LEASE = false ∧ 3 ≠ presentF 1 0 Fld.KEEPER_LEASE live
    ∧ Fld.KEEPER_LEASE.blk ≠ Blk.DEBUG ∧ Fld.KEEPER_LEASE.ty = FTy.lrw ∧ Fld.KEEPER_LEASE.off ≠ 0 := by
  decide +kernel

theorem wit_WriteIsJudgedByFieldType_5 :
    actsAlways (Fld.en Blk.PORT_CTL) = false ∧ gateFixed (Fld.en Blk.PORT_CTL) = false ∧ 0 ≠ presentF 1 0 (Fld.en
    Blk.PORT_CTL) (sf 0 [(Fld.en Blk.PORT_CTL, 1), (Fld.lock Blk.PORT_CTL, 1)] live) ∧ (Fld.en Blk.PORT_CTL).blk ≠
    Blk.DEBUG ∧ (Fld.en Blk.PORT_CTL).ty = FTy.lrw ∧ (Fld.en Blk.PORT_CTL).off = 0 := by
  decide +kernel

theorem wit_WriteIsJudgedByFieldType_6 :
    actsAlways wo1F = false ∧ gateFixed wo1F = false ∧ 1 ≠ presentF 1 0 wo1F live ∧ wo1F.blk ≠ Blk.DEBUG ∧ wo1F.ty =
    FTy.wo1 := by
  decide +kernel

theorem wit_WriteIsJudgedByFieldType_7 :
    actsAlways Fld.PORT_CTL_STATE = false ∧ gateFixed Fld.PORT_CTL_STATE = false ∧ 1 ≠ presentF 1 0
    Fld.PORT_CTL_STATE live ∧ Fld.PORT_CTL_STATE.blk ≠ Blk.DEBUG ∧ (Fld.PORT_CTL_STATE.ty = FTy.ro ∨
    Fld.PORT_CTL_STATE.ty = FTy.snap) := by
  decide +kernel

theorem wit_WriteIsJudgedByFieldType_8 :
    actsAlways Fld.PORT_CTL_RECONF_GO = false ∧ gateFixed Fld.PORT_CTL_RECONF_GO = false ∧ 1 ≠ presentF 1 0
    Fld.PORT_CTL_RECONF_GO live ∧ Fld.PORT_CTL_RECONF_GO.blk ≠ Blk.DEBUG ∧ Fld.PORT_CTL_RECONF_GO.ty = FTy.cmd := by
  decide +kernel

theorem wit_WriteIsJudgedByFieldType_9 :
    actsAlways Fld.PORT_CTL_PERMIT = false := by
  decide +kernel

/-! ### IgnoredWritesAndClearsAreExact -/

theorem wit_IgnoredWritesAndClearsAreExact_0 : (7 : Nat) < blkUnits .PORT_CTL ∧ (2 ^ 24 - 1 : Nat) < 2 ^ 24 := by
  decide +kernel

theorem wit_IgnoredWritesAndClearsAreExact_1 :
    7 < blkUnits Blk.PORT_CTL ∧ 4095 < 4096 ∧ 15 < 16 ∧ 3 < 4 := by
  decide +kernel

theorem wit_IgnoredWritesAndClearsAreExact_1a :
    7 < blkUnits Blk.PORT_CTL ∧ 4095 < 4096 ∧ 15 < 16 ∧ 3 < 4 := by
  decide +kernel

theorem wit_IgnoredWritesAndClearsAreExact_2 :
    7 < blkUnits Blk.PORT_CTL ∧ 4095 < 4096 ∧ 15 < 16 ∧ 3 < 4 ∧ getF 7 (Fld.ignValid Blk.PORT_CTL) live ≠ 1 := by
  decide +kernel

theorem wit_IgnoredWritesAndClearsAreExact_3 :
    7 < blkUnits Blk.PORT_CTL ∧ 4095 < 4096 ∧ 15 < 16 ∧ 3 < 4 ∧ getF 7 (Fld.ignValid Blk.PORT_CTL) (sf 7
    [(Fld.ignValid Blk.PORT_CTL, 1), (Fld.ignCount Blk.PORT_CTL, 255)] live) = 1 := by
  decide +kernel

theorem wit_IgnoredWritesAndClearsAreExact_4 :
    7 < blkUnits Blk.PORT_CTL ∧ Writes (acc 1 12582913) Blk.PORT_CTL 7 4 (sf 7 [(Fld.sts Blk.PORT_CTL, 12582915)]
    live) ∧ (irqLevel Blk.PORT_CTL 7 (consumeFrame (acc 1 12582913).src (sf 7 [(Fld.sts Blk.PORT_CTL, 12582915)]
    live)) = true → blkBase Blk.PORT_CTL 7 ∈ (consumeFrame (acc 1 12582913).src (sf 7 [(Fld.sts Blk.PORT_CTL,
    12582915)] live)).irqOut) := by
  unfold Writes Quiet Clocked; decide +kernel

theorem wit_IgnoredWritesAndClearsAreExact_4b :
    7 < blkUnits Blk.PORT_CTL ∧ Writes (acc 1 29360129) Blk.PORT_CTL 7 4 (sf 7 [(Fld.sts Blk.PORT_CTL, 12582915)]
    live) ∧ (irqLevel Blk.PORT_CTL 7 (consumeFrame (acc 1 29360129).src (sf 7 [(Fld.sts Blk.PORT_CTL, 12582915)]
    live)) = true → blkBase Blk.PORT_CTL 7 ∈ (consumeFrame (acc 1 29360129).src (sf 7 [(Fld.sts Blk.PORT_CTL,
    12582915)] live)).irqOut) := by
  unfold Writes Quiet Clocked; decide +kernel

theorem wit_IgnoredWritesAndClearsAreExact_5 :
    7 < blkUnits Blk.PORT_CTL ∧ Writes (acc 1 2147484416) Blk.PORT_CTL 7 12 (sf 7 [(Fld.firstValid Blk.PORT_CTL, 1),
    (Fld.seq Blk.PORT_CTL, 3)] live) ∧ bitOf (BitVec.toNat (acc 1 2147484416).data) 31 = true := by
  unfold Writes Quiet Clocked; decide +kernel

theorem wit_IgnoredWritesAndClearsAreExact_6 :
    7 < blkUnits Blk.PORT_CTL ∧ Writes (acc 1 2147614720) Blk.PORT_CTL 7 16 (sf 7 [(Fld.ignValid Blk.PORT_CTL, 1),
    (Fld.ignCount Blk.PORT_CTL, 2)] live) ∧ bitOf (BitVec.toNat (acc 1 2147614720).data) 31 = true := by
  unfold Writes Quiet Clocked; decide +kernel

/-! ### CountersClearAndCapture -/

theorem wit_CountersClearAndCapture_1 :
    2 < blkUnits Blk.PORT_CTL ∧ snapClr ∈ cmdFlds Blk.PORT_CTL ∧ isSnapClr snapClr = true ∧ Starts (ask 1 2 snapClr 1
    counted) 2 snapClr counted := by
  unfold Starts Writes Quiet Clocked AsksStart; decide +kernel

theorem wit_CountersClearAndCapture_2 :
    2 < blkUnits Blk.PORT_CTL ∧ Fld.PORT_CTL_LINK_UPS ∈ counterFlds Blk.PORT_CTL ∧ Reads (acc 3 0) Blk.PORT_CTL 2
    Fld.PORT_CTL_LINK_UPS.off counted := by
  unfold Reads Quiet Clocked; decide +kernel

theorem wit_CountersClearAndCapture_3 :
    Reads (acc 3 0) Blk.TONES 3 64 (sf 3 [(Fld.TONES_TX_SF_CNT, 77), (Fld.TONES_RX_SF_CNT, 78)] live) := by
  unfold Reads Quiet Clocked; decide +kernel

/-! ### TableWindowsMoveTheirIndex -/

theorem wit_TableWindowsMoveTheirIndex_1 :
    1 < blkUnits Blk.OAM ∧ winShape Blk.OAM 36 = some (4, 16) ∧ bitsOf (getB (acc 3 0).mtag.toNat 1 (winIdx Blk.OAM
    36) live) 0 16 < 4 ∧ bitsOf (getB (acc 3 0).mtag.toNat 1 (winIdx Blk.OAM 36) live) 16 4 < 16 ∧ Reads (acc 3 0)
    Blk.OAM 1 36 live ∧ bitsOf (getB (acc 3 0).mtag.toNat 1 (winIdx Blk.OAM 36) live) 16 4 = 0 := by
  unfold Reads Quiet Clocked; decide +kernel

theorem wit_TableWindowsMoveTheirIndex_1a :
    1 < blkUnits Blk.STREAM ∧ winShape Blk.STREAM 56 = some (4096, 14) ∧ bitsOf (getB (acc 3 0).mtag.toNat 1 (winIdx
    Blk.STREAM 56) live) 0 16 < 4096 ∧ bitsOf (getB (acc 3 0).mtag.toNat 1 (winIdx Blk.STREAM 56) live) 16 4 < 14 ∧
    Reads (acc 3 0) Blk.STREAM 1 56 live ∧ bitsOf (getB (acc 3 0).mtag.toNat 1 (winIdx Blk.STREAM 56) live) 16 4 = 0 := by
  unfold Reads Quiet Clocked; decide +kernel

theorem wit_TableWindowsMoveTheirIndex_2 :
    1 < blkUnits Blk.STREAM ∧ winShape Blk.STREAM 56 = some (4096, 14) ∧ bitsOf (getB (acc 1 5).mtag.toNat 1 (winIdx
    Blk.STREAM 56) live) 0 16 < 4096 ∧ bitsOf (getB (acc 1 5).mtag.toNat 1 (winIdx Blk.STREAM 56) live) 16 4 < 14 ∧
    Writes (acc 1 5) Blk.STREAM 1 56 live ∧ bitsOf (getB (acc 1 5).mtag.toNat 1 (winIdx Blk.STREAM 56) live) 16 4 + 1
    < 14 := by
  unfold Writes Quiet Clocked; decide +kernel

theorem wit_TableWindowsMoveTheirIndex_3 :
    1 < blkUnits Blk.OAM ∧ winShape Blk.OAM 36 = some (4, 16) ∧ bitsOf (getB (acc 1 5).mtag.toNat 1 (winIdx Blk.OAM
    36) (setB 1 1 (winIdx Blk.OAM 36) (3 + 15 * 65536) live)) 0 16 < 4 ∧ bitsOf (getB (acc 1 5).mtag.toNat 1 (winIdx
    Blk.OAM 36) (setB 1 1 (winIdx Blk.OAM 36) (3 + 15 * 65536) live)) 16 4 < 16 ∧ Writes (acc 1 5) Blk.OAM 1 36 (setB
    1 1 (winIdx Blk.OAM 36) (3 + 15 * 65536) live) ∧ bitsOf (getB (acc 1 5).mtag.toNat 1 (winIdx Blk.OAM 36) (setB 1
    1 (winIdx Blk.OAM 36) (3 + 15 * 65536) live)) 16 4 + 1 = 16 ∧ Blk.OAM = Blk.OAM ∧ 36 = 36 := by
  unfold Writes Quiet Clocked; decide +kernel

/-! ### DeviceTimeSetSteppedRead -/

theorem wit_DeviceTimeSetSteppedRead_1 :
    Starts (ask 1 0 Fld.TIME_SET 1 setTm) 0 Fld.TIME_SET setTm ∧ getF 0 Fld.TIME_SET_NS setTm ≤ 999999999 := by
  unfold Starts Writes Quiet Clocked AsksStart; decide +kernel

theorem wit_DeviceTimeSetSteppedRead_2 :
    Starts (ask 1 0 Fld.TIME_SET 1 setBad) 0 Fld.TIME_SET setBad ∧ 999999999 < getF 0 Fld.TIME_SET_NS setBad := by
  unfold Starts Writes Quiet Clocked AsksStart; decide +kernel

theorem wit_DeviceTimeSetSteppedRead_3 :
    step100 = signedOf 32 (getF 0 Fld.TIME_STEP_NS stepTm) ∧ Starts (ask 1 0 Fld.TIME_STEP 1 stepTm) 0 Fld.TIME_STEP
    stepTm ∧ step100.natAbs < 1000000000 ∧ 0 ≤ (nowNs stepTm : Int) + step100 ∧
    stepTm.clk.timesetAt ≠ some stepTm.cycles := by
  unfold Starts Writes Quiet Clocked AsksStart; decide +kernel

theorem wit_DeviceTimeSetSteppedRead_3b :
    Starts (ask 1 0 Fld.TIME_SET 1 timesetNow) 0 Fld.TIME_SET timesetNow ∧ getF 0 Fld.TIME_SET_NS timesetNow ≤ 999999999 ∧
    timesetNow.clk.timesetAt = some timesetNow.cycles := by
  unfold Starts Writes Quiet Clocked AsksStart; decide +kernel

theorem wit_DeviceTimeSetSteppedRead_4 :
    (acc 1 0).src = Src.chain Side.A ∧ Reads (acc 1 0) Blk.TIME 0 32 stepTm := by
  unfold Reads Quiet Clocked; decide +kernel

theorem wit_DeviceTimeSetSteppedRead_5 :
    setRuns.pending = [] ∧ Quiet setRuns ∧ setRuns.clk.timeRun = true ∧ getF 0 .TIME_SET setRuns = 1 ∧
    getF 0 .TIME_STEP setRuns ≠ 1 ∧ getF 0 .TIME_SET_NS setRuns ≤ 999999999 := by
  unfold Quiet; decide +kernel

theorem wit_DeviceTimeSetSteppedRead_6 :
    stepRuns.pending = [] ∧ Quiet stepRuns ∧ stepRuns.clk.timeRun = true ∧
    step100 = signedOf 32 (getF 0 Fld.TIME_STEP_NS stepRuns) ∧ getF 0 .TIME_STEP stepRuns = 1 ∧
    getF 0 .TIME_SET stepRuns ≠ 1 ∧
    0 ≤ (nowNs stepRuns : Int) + 8 + step100 ∧ (nowNs stepRuns : Int) + 8 + step100 < 2 ^ 48 * 1000000000 ∧
    nowNs stepRuns + 8 < 2 ^ 48 * 1000000000 := by
  unfold Quiet; decide +kernel

/-! ### ChainTimeAddsTheHopDelay -/

theorem wit_ChainTimeAddsTheHopDelay_1 :
    actsOn (bc 9 7 5000) mid = true ∧ mid.forwarding = true ∧
    isKeeper (bc 9 7 5000).mtag.toNat mid = true := by
  decide +kernel

theorem wit_ChainTimeAddsTheHopDelay_2 :
    actsOn (mkFrame 31 2 9 0 7 5000) mid = true ∧ mid.forwarding = true ∧ isKeeper (mkFrame 31 2
    9 0 7 5000).mtag.toNat mid = false := by
  decide +kernel

theorem wit_ChainTimeAddsTheHopDelay_3 :
    linkA.forwarding = true ∧ getF 0 Fld.CHAIN_LINK_A linkA = 1 := by
  decide +kernel

theorem wit_ChainTimeAddsTheHopDelay_4 :
    hopping.hopWait = true ∧ 256 ≤ 300 ∧ 300 < 65536 := by
  decide +kernel

theorem wit_ChainTimeAddsTheHopDelay_5 :
    hopping.hopWait = true := by
  decide +kernel

theorem wit_ChainTimeAddsTheHopDelay_6 :
    getF 0 (match Side.A with | Side.A => Fld.CHAIN_LINK_A | Side.B => Fld.CHAIN_LINK_B) linkA = 1 := by
  decide +kernel

theorem wit_ChainTimeAddsTheHopDelay_7 :
    getF 0 (match Side.B with | Side.A => Fld.CHAIN_LINK_A | Side.B => Fld.CHAIN_LINK_B) live ≠ 1 := by
  decide +kernel

/-! ### EventsLeaveAndErrorsAreVoided -/

theorem wit_EventsLeaveAndErrorsAreVoided_1 :
    eventful.events = [evt] ∧ evt.mtag < 8 ∧ eventful.acting = true ∧ chainAddr eventful ≠ 0 ∧ isSet 0 Fld.CHAIN_RING
    eventful = false := by
  decide +kernel

theorem wit_EventsLeaveAndErrorsAreVoided_2 :
    live.acting = true ∧ live.forwarding = true := by
  decide +kernel

theorem wit_EventsLeaveAndErrorsAreVoided_3 : mid.forwarding = true := by
  decide +kernel

/-! ### PostCommandsAreTakenAndCompleted -/

theorem wit_PostCommandsAreTakenAndCompleted_1 :
    Sets (ask 1 0 (Fld.POST_CMD_PUT 1) 5 live) 0 (Fld.POST_CMD_PUT 1) 5 live := by
  unfold Sets Writes Quiet Clocked Changes; decide +kernel

theorem wit_PostCommandsAreTakenAndCompleted_2 :
    Sets (ask 1 0 (Fld.POST_EVT_GET 1) 5 live) 0 (Fld.POST_EVT_GET 1) 5 live := by
  unfold Sets Writes Quiet Clocked Changes; decide +kernel

theorem wit_PostCommandsAreTakenAndCompleted_3 :
    coreRuns posted = true ∧ posted.loader.fwRunning = true ∧
    getF 0 (Fld.POST_CMD_GET 1) posted ≠ getF 0 (Fld.POST_CMD_PUT 1) posted ∧
    (cmdsIn 1 2 posted).length < evtFree 1 posted ∧ cmdState 1 (getF 0 (Fld.POST_CMD_GET 1) posted % 64) posted = 1 := by
  decide +kernel

theorem wit_PostCommandsAreTakenAndCompleted_4 :
    coreRuns unposted = true ∧ unposted.loader.fwRunning = true ∧
    getF 0 (Fld.POST_CMD_GET 1) unposted ≠ getF 0 (Fld.POST_CMD_PUT 1) unposted ∧
    (cmdsIn 1 2 unposted).length < evtFree 1 unposted ∧ cmdState 1 (getF 0 (Fld.POST_CMD_GET 1) unposted % 64)
    unposted ≠ 1 := by
  decide +kernel

theorem wit_PostCommandsAreTakenAndCompleted_5 :
    coreRuns (executing 2) = true ∧ (executing 2).loader.fwRunning = true ∧ cmdState 2 63 (executing 2) = 2 ∧
    evtFree 2 (executing 2) ≠ 0 := by
  decide +kernel

theorem wit_PostCommandsAreTakenAndCompleted_6 :
    coreRuns (executing 1) = true ∧ (executing 1).loader.fwRunning = true ∧ cmdState 1 63 (executing 1) = 2 ∧
    evtFree 1 (executing 1) ≠ 0 := by
  decide +kernel

/-! ### ModeChangeStagesArmsApplies -/

theorem wit_ModeChangeStagesArmsApplies_1 :
    mid.forwarding = true ∧ 5 = BitVec.toNat (bc 7 0 (5 * 65536 + 1)).data / 2 ^ 16 ∧ actsOn (bc
    7 0 (5 * 65536 + 1)) mid = true ∧ getF 0 Fld.CHAIN_APPLIED_GEN mid ≠ 5 ∧ mid.staging = none ∧ modeStageValid mid
    = true ∧ isKeeper (bc 7 0 (5 * 65536 + 1)).mtag.toNat mid = true := by
  decide +kernel

theorem wit_ModeChangeStagesArmsApplies_2 :
    mid.forwarding = true ∧ 5 = BitVec.toNat (mkFrame 31 2 7 0 0 (5 * 65536 + 1)).data / 2 ^ 16
    ∧ actsOn (mkFrame 31 2 7 0 0 (5 * 65536 + 1)) mid = true ∧ getF 0 Fld.CHAIN_APPLIED_GEN mid ≠ 5 ∧ isKeeper
    (mkFrame 31 2 7 0 0 (5 * 65536 + 1)).mtag.toNat mid = false := by
  decide +kernel

theorem wit_ModeChangeStagesArmsApplies_3 :
    stagingMid.forwarding = true ∧ stagingMid.staging = some stg ∧ stg.dead = false ∧
    stg.gen = bitsOf (bc 8 (5 * 256) 2000000).addr.toNat 8 16 ∧ actsOn (bc 8 (5 * 256) 2000000) stagingMid = true ∧
    getF 0 Fld.CHAIN_APPLIED_GEN stagingMid ≠ stg.gen ∧ isKeeper (bc 8 (5 * 256) 2000000).mtag.toNat stagingMid =
    true ∧ untilT ((bc 8 (5 * 256) 2000000).addr.toNat % 256) (BitVec.toNat (bc 8 (5 * 256) 2000000).data % 2 ^ 30)
    stagingMid = some (1999993 * 65536) ∧ 1000000 * 65536 ≤ 1999993 * 65536 := by
  decide +kernel

theorem wit_ModeChangeStagesArmsApplies_4 :
    stagingMid.forwarding = true ∧ stagingMid.staging = some stg ∧ stg.dead = false ∧
    stg.gen = bitsOf (bc 8 (5 * 256) 1000000).addr.toNat 8 16 ∧ actsOn (bc 8 (5 * 256) 1000000) stagingMid = true ∧
    getF 0 Fld.CHAIN_APPLIED_GEN stagingMid ≠ stg.gen ∧ isKeeper (bc 8 (5 * 256) 1000000).mtag.toNat stagingMid =
    true ∧ untilT ((bc 8 (5 * 256) 1000000).addr.toNat % 256) (BitVec.toNat (bc 8 (5 * 256) 1000000).data % 2 ^ 30)
    stagingMid = some (999993 * 65536) ∧ 999993 * 65536 < 1000000 * 65536 := by
  decide +kernel

theorem wit_ModeChangeStagesArmsApplies_5 :
    stagingMid.forwarding = true ∧ coreRuns stagingMid = true ∧ stagingMid.staging = some stg ∧
    stg.complete = false ∧ stg.dead = false := by
  decide +kernel

theorem wit_ModeChangeStagesArmsApplies_6 :
    armedMid.forwarding = true ∧ armedMid.staging = some stgDone ∧ stgDone.armed.isSome =
    true ∧ stgDone.dead = false ∧ stgDone.complete = true ∧ Quiet armedMid := by
  unfold Quiet; decide +kernel

theorem wit_ModeChangeStagesArmsApplies_7 :
    armedOpenMid.forwarding = true ∧ armedOpenMid.staging = some stgOpen ∧
    stgOpen.armed.isSome = true ∧ stgOpen.dead = false ∧ stgOpen.complete = false ∧ Quiet armedOpenMid := by
  unfold Quiet; decide +kernel

/-! ### InjectionNeedsArmingAndIsRecorded -/

theorem wit_InjectionNeedsArmingAndIsRecorded_1 :
    1 < blkUnits Blk.LAYBY ∧ Sets (ask 1 0 Fld.INJ_INJ_ARM 1 live) 0 Fld.INJ_INJ_ARM 1 live := by
  unfold Sets Writes Quiet Clocked Changes; decide +kernel

theorem wit_InjectionNeedsArmingAndIsRecorded_2 :
    1 < blkUnits Blk.LAYBY ∧ getF 0 Fld.INJ_INJ_ARM inj = 1 := by
  decide +kernel

theorem wit_InjectionNeedsArmingAndIsRecorded_3 :
    1 < blkUnits Blk.LAYBY ∧ Starts (ask 1 1 (Fld.fire Blk.LAYBY) 1 inj) 1 (Fld.fire Blk.LAYBY) inj ∧ getF 0
    Fld.INJ_INJ_ARM inj = 1 ∧ faultClass Blk.LAYBY (getF 1 (Fld.injSrc Blk.LAYBY) inj) = some (getF 1 (Fld.injClass
    Blk.LAYBY) inj) ∧ detailOk Blk.LAYBY (getF 1 (Fld.injSrc Blk.LAYBY) inj) (getF 1 (Fld.injDetail Blk.LAYBY) inj) =
    true := by
  unfold Starts Writes Quiet Clocked AsksStart; decide +kernel

theorem wit_InjectionNeedsArmingAndIsRecorded_4 :
    1 < blkUnits Blk.LAYBY ∧ Starts (ask 1 1 (Fld.fire Blk.LAYBY) 1 injOff) 1 (Fld.fire Blk.LAYBY) injOff ∧ getF 0
    Fld.INJ_INJ_ARM injOff ≠ 1 := by
  unfold Starts Writes Quiet Clocked AsksStart; decide +kernel

theorem wit_InjectionNeedsArmingAndIsRecorded_5 :
    1 < blkUnits Blk.LAYBY ∧ Blk.LAYBY ≠ Blk.INJ ∧ faultClass Blk.LAYBY 16 = some 0 ∧ 16 < 256 ∧ 0 < 256 ∧
    window.injOpen = [(blkBase Blk.LAYBY 1, 0, 16, 0, false)] ∧ getF 1 (Fld.firstValid Blk.LAYBY) window ≠ 1 ∧ getF 1
    (Fld.fire Blk.LAYBY) window = 1 := by
  decide +kernel

/-! ### FaultsActByTheirClass -/

theorem wit_FaultsActByTheirClass_1 :
    3 < blkUnits Blk.LAYBY ∧ domainOn (blkDomain Blk.LAYBY 3) live = true ∧ faultClass Blk.LAYBY (17) = some 0 ∧
    (Blk.LAYBY ≠ Blk.NVMC ∨ 17 ≠ 18) := by
  decide +kernel

theorem wit_FaultsActByTheirClass_1b :
    1 < blkUnits Blk.LAYBY ∧ domainOn (blkDomain Blk.LAYBY 1) (latched17 5) = true ∧ faultClass Blk.LAYBY 16 = some 0 ∧
    getF 1 (.firstValid .LAYBY) (latched17 5) = 1 ∧
    mapGet (latched17 5).latchAt (blkBase .LAYBY 1) ≠ some (latched17 5).cycles := by
  decide +kernel

theorem wit_FaultsActByTheirClass_1c :
    1 < blkUnits Blk.LAYBY ∧ domainOn (blkDomain Blk.LAYBY 1) (latched17 0) = true ∧ faultClass Blk.LAYBY 16 = some 0 ∧
    getF 1 (.firstValid .LAYBY) (latched17 0) = 1 ∧
    mapGet (latched17 0).latchAt (blkBase .LAYBY 1) = some (latched17 0).cycles ∧
    getF 1 (.firstClass .LAYBY) (latched17 0) = 0 ∧
    16 < getF 1 (.firstSrc .LAYBY) (latched17 0) := by
  decide +kernel

theorem wit_FaultsActByTheirClass_2 :
    faultClass Blk.CLKC (16) = some 2 ∧ domainOn (blkDomain Blk.CLKC 0) live = true ∧ routedToCore Blk.CLKC (16) live
    = false := by
  decide +kernel

/-! ### SparesServePavilions -/

theorem wit_SparesServePavilions_1 :
    domainOn (6 + 3) autoSub = true ∧ clocked autoSub = true ∧ disableMeets 3 autoSub = false ∧
    getF 3 Fld.PAV_WEAR_AUTO_SUB autoSub = 1 ∧ getF 3 Fld.PAV_CTL_ENABLED autoSub =
    1 ∧ (autoSub.pav 3).disabling = false := by
  decide +kernel

theorem wit_SparesServePavilions_2 :
    domainOn (6 + 3) subbing = true ∧ clocked subbing = true ∧ disableMeets 3 subbing = false ∧
    (subbing.pav 3).subRun = true := by
  decide +kernel

theorem wit_SparesServePavilions_3 :
    domainOn (6 + 3) idleEng = true ∧ clocked idleEng = true ∧ disableMeets 3 idleEng = false ∧
    0 < getF 3 Fld.ENGPOOL_ENG_IDLE idleEng := by
  decide +kernel

theorem wit_SparesServePavilions_3b :
    domainOn (6 + 3) idleFailed = true ∧ clocked idleFailed = true ∧ disableMeets 3 idleFailed = false ∧
    0 < getF 3 Fld.ENGPOOL_ENG_IDLE idleFailed ∧ (.engine, 0) ∈ (idleFailed.pav 3).fails := by
  decide +kernel

theorem wit_SparesServePavilions_4 :
    domainOn (6 + 3) live = true ∧ clocked live = true ∧ disableMeets 3 live = false := by
  decide +kernel

/-! ### ImagesAreLoadedAndVerified -/

theorem wit_ImagesAreLoadedAndVerified_1 :
    Writes (acc 1 305419896) Blk.LAYOUT 0 36 (sf 0 [(Fld.LAYOUT_LOAD_AREA, 1), (Fld.LAYOUT_LOAD_OFS, 1048572)] ldr) ∧
    getF 0 (Fld.en Blk.LAYOUT) (sf 0 [(Fld.LAYOUT_LOAD_AREA, 1), (Fld.LAYOUT_LOAD_OFS, 1048572)] ldr) = 1 ∧ 1 = getF
    0 Fld.LAYOUT_LOAD_AREA (sf 0 [(Fld.LAYOUT_LOAD_AREA, 1), (Fld.LAYOUT_LOAD_OFS, 1048572)] ldr) ∧ 1048572 = getF 0
    Fld.LAYOUT_LOAD_OFS (sf 0 [(Fld.LAYOUT_LOAD_AREA, 1), (Fld.LAYOUT_LOAD_OFS, 1048572)] ldr) ∧ 1 < (sf 0
    [(Fld.LAYOUT_LOAD_AREA, 1), (Fld.LAYOUT_LOAD_OFS, 1048572)] ldr).loader.mem.length ∧ 1048572 < areaSize 1 ∧
    areaRead 1 (sf 0 [(Fld.LAYOUT_LOAD_AREA, 1), (Fld.LAYOUT_LOAD_OFS, 1048572)] ldr) = false := by
  unfold Writes Quiet Clocked; decide +kernel

theorem wit_ImagesAreLoadedAndVerified_2 :
    Writes (acc 1 305419896) Blk.LAYOUT 0 36 (sf 0 [(Fld.LAYOUT_LOAD_AREA, 1), (Fld.LAYOUT_LOAD_OFS, 1048576)] ldr) ∧
    getF 0 (Fld.en Blk.LAYOUT) (sf 0 [(Fld.LAYOUT_LOAD_AREA, 1), (Fld.LAYOUT_LOAD_OFS, 1048576)] ldr) = 1 ∧ 1 = getF
    0 Fld.LAYOUT_LOAD_AREA (sf 0 [(Fld.LAYOUT_LOAD_AREA, 1), (Fld.LAYOUT_LOAD_OFS, 1048576)] ldr) ∧ 1048576 = getF 0
    Fld.LAYOUT_LOAD_OFS (sf 0 [(Fld.LAYOUT_LOAD_AREA, 1), (Fld.LAYOUT_LOAD_OFS, 1048576)] ldr) ∧ (areaSize 1 ≤
    1048576 ∨ areaRead 1 (sf 0 [(Fld.LAYOUT_LOAD_AREA, 1), (Fld.LAYOUT_LOAD_OFS, 1048576)] ldr) = true) := by
  unfold Writes Quiet Clocked; decide +kernel

theorem wit_ImagesAreLoadedAndVerified_3 :
    Starts (ask 1 0 Fld.LAYOUT_VERIFY 1 recvd) 0 Fld.LAYOUT_VERIFY recvd ∧ getF 0 (Fld.en Blk.LAYOUT) recvd = 1 ∧
    areaState (getF 0 Fld.LAYOUT_VER_AREA recvd) recvd = 1 ∧ loaderBusy recvd = false := by
  unfold Starts Writes Quiet Clocked AsksStart; decide +kernel

theorem wit_ImagesAreLoadedAndVerified_4 :
    coreRuns verifying = true ∧ getF 0 Fld.LAYOUT_VERIFY verifying = 1 := by
  decide +kernel

/-- With the vendor's signature on it, which no one but the vendor can make, the image passes. -/
theorem wit_ImagesAreLoadedAndVerified_4b (h : vendorOk imageMem = true) :
    judgeImage verifying.loader.verArea (areaMem verifying.loader.verArea verifying) none verifying = 0 := by
  have e : areaMem verifying.loader.verArea verifying = imageMem := by decide +kernel
  rw [e]; simp only [judgeImage, h]; decide +kernel

theorem wit_ImagesAreLoadedAndVerified_5 :
    coreRuns verifyBad = true ∧ getF 0 Fld.LAYOUT_VERIFY verifyBad = 1 ∧
    judgeImage verifyBad.loader.verArea (areaMem verifyBad.loader.verArea verifyBad) none verifyBad ≠ 0 := by
  decide +kernel

/-! ### StageAndApplyInOrder -/

theorem wit_StageAndApplyInOrder_1 :
    getF 0 (Fld.en Blk.LAYOUT) stageable = 1 ∧ Starts (ask 1 0 Fld.LAYOUT_STAGE 1 stageable) 0 Fld.LAYOUT_STAGE
    stageable ∧ areaState 0 stageable = 2 ∧ loaderBusy stageable = false ∧ (∀ k ∈ masked (getF 0 Fld.LAYOUT_STG_MASK
    stageable), domainOn (6 + k) stageable = true) ∧ masked (getF 0 Fld.LAYOUT_STG_MASK stageable) ≠ [] := by
  unfold Starts Writes Quiet Clocked AsksStart; decide +kernel

theorem wit_StageAndApplyInOrder_2 :
    getF 0 (Fld.en Blk.LAYOUT) applicable = 1 ∧ Starts (ask 1 0 Fld.LAYOUT_APPLY 1 applicable) 0 Fld.LAYOUT_APPLY
    applicable ∧ loaderBusy applicable = false ∧ masked (getF 0 Fld.LAYOUT_APP_MASK applicable) ≠ [] ∧ (∀ k ∈ masked
    (getF 0 Fld.LAYOUT_APP_MASK applicable), (getF k (Fld.en Blk.PAV_CTL) applicable ≠ 1 ∨
    (applicable.pav k).enCycle = applicable.cycles) ∧ getF 0 (Fld.LAYOUT_PHASE k)
    applicable = 3) := by
  unfold Starts Writes Quiet Clocked AsksStart; decide +kernel

theorem wit_StageAndApplyInOrder_2b :
    let s := sf 2 [(.en .PAV_CTL, 1)] applicable
    getF 0 (Fld.en Blk.LAYOUT) s = 1 ∧ Starts (ask 1 0 Fld.LAYOUT_APPLY 1 s) 0 Fld.LAYOUT_APPLY s ∧ loaderBusy s = false ∧
    masked (getF 0 Fld.LAYOUT_APP_MASK s) = [2] ∧ (s.pav 2).enCycle = s.cycles ∧ getF 0 (Fld.LAYOUT_PHASE 2) s = 3 ∧
    getF 2 (.en .PAV_CTL) s = 1 := by
  unfold Starts Writes Quiet Clocked AsksStart; decide +kernel

theorem wit_StageAndApplyInOrder_3 :
    getF 0 (Fld.en Blk.LAYOUT) copying = 1 ∧ coreRuns copying = true ∧ copying.loader.stageLeft = [2] ∧
    bufferLayout copying = some (0, 0, { })
    ∧ domainOn (6 + 2) copying = true := by
  decide +kernel

theorem wit_StageAndApplyInOrder_4 :
    getF 0 (Fld.en Blk.LAYOUT) applying = 1 ∧ coreRuns applying = true ∧ applying.loader.applyLeft = [2] ∧
    (applying.pav 2).staged = some (7, 3,
    { }) := by
  decide +kernel

/-! ### FirmwareRunsOnTrial -/

theorem wit_FirmwareRunsOnTrial_1 :
    getF 0 (Fld.en Blk.LAYOUT) activatable = 1 ∧ Starts (ask 1 0 Fld.LAYOUT_FW_ACTIVATE 1 activatable) 0
    Fld.LAYOUT_FW_ACTIVATE activatable ∧ areaState 1 activatable = 2 ∧ 6 ≤ activatable.clk.boot ∧
    activatable.clk.episode = false := by
  unfold Starts Writes Quiet Clocked AsksStart; decide +kernel

theorem wit_FirmwareRunsOnTrial_2 :
    getF 0 (Fld.en Blk.LAYOUT) activating = 1 ∧ coreRuns activating = true ∧ activating.loader.actPending = true ∧
    activating.clk.episode = false := by
  decide +kernel

theorem wit_FirmwareRunsOnTrial_3 :
    getF 0 (Fld.en Blk.LAYOUT) trial = 1 ∧ Starts (ask 1 0 Fld.LAYOUT_FW_CONFIRM 1 trial) 0 Fld.LAYOUT_FW_CONFIRM
    trial ∧ getF 0 Fld.LAYOUT_TRIAL trial = 1 := by
  unfold Starts Writes Quiet Clocked AsksStart; decide +kernel

theorem wit_FirmwareRunsOnTrial_4 :
    getF 0 (Fld.en Blk.LAYOUT) trial = 1 ∧ coreRuns trial = true ∧ getF 0 Fld.LAYOUT_TRIAL trial = 1 ∧
    6 ≤ trial.clk.boot := by
  decide +kernel

/-! ### RollbackRisesAndFlashHoldsWholeImages -/

theorem wit_RollbackRisesAndFlashHoldsWholeImages_1 :
    getF 0 (Fld.en Blk.LAYOUT) raisable = 1 ∧ loaderBusy raisable = false ∧ Starts (ask 1 0 Fld.LAYOUT_ROLLBACK_RAISE
    1 raisable) 0 Fld.LAYOUT_ROLLBACK_RAISE raisable ∧ getF 0 Fld.BOOTF_FW_SRC raisable ≠ 0 ∧ getF 0
    Fld.LAYOUT_FW_SVN raisable < 2 ^ 16 := by
  unfold Starts Writes Quiet Clocked AsksStart; decide +kernel

theorem wit_RollbackRisesAndFlashHoldsWholeImages_2 :
    getF 0 (Fld.en Blk.LAYOUT) ldr = 1 ∧ loaderBusy ldr = false ∧ Starts (ask 1 0 Fld.LAYOUT_OEM_PROGRAM 1 ldr) 0
    Fld.LAYOUT_OEM_PROGRAM ldr ∧ getF 0 Fld.LAYOUT_OEM_SET ldr ≠ 1 := by
  unfold Starts Writes Quiet Clocked AsksStart; decide +kernel

theorem wit_RollbackRisesAndFlashHoldsWholeImages_3 :
    getF 0 (Fld.en Blk.LAYOUT) oemSet = 1 ∧ loaderBusy oemSet = false ∧ Starts (ask 1 0 Fld.LAYOUT_OEM_PROGRAM 1
    oemSet) 0 Fld.LAYOUT_OEM_PROGRAM oemSet ∧ getF 0 Fld.LAYOUT_OEM_SET oemSet = 1 := by
  unfold Starts Writes Quiet Clocked AsksStart; decide +kernel

theorem wit_RollbackRisesAndFlashHoldsWholeImages_4 :
    Starts (ask 1 0 Fld.BOOTF_FLASH_PROG 1 (sf 0 [(Fld.BOOTF_PROG_AREA, 1)] activatable)) 0 Fld.BOOTF_FLASH_PROG (sf
    0 [(Fld.BOOTF_PROG_AREA, 1)] activatable) ∧ getF 0 (Fld.en Blk.BOOTF) (sf 0 [(Fld.BOOTF_PROG_AREA, 1)]
    activatable) = 1 ∧ areaState (getF 0 Fld.BOOTF_PROG_AREA (sf 0 [(Fld.BOOTF_PROG_AREA, 1)] activatable)) (sf 0
    [(Fld.BOOTF_PROG_AREA, 1)] activatable) = 2 := by
  unfold Starts Writes Quiet Clocked AsksStart; decide +kernel

theorem wit_RollbackRisesAndFlashHoldsWholeImages_5 :
    coreRuns (flashing 1 false) = true ∧ getF 0 Fld.BOOTF_FLASH_PROG (flashing 1 false) = 1 ∧
    (flashing 1 false).loader.flashSector ≤ 1 := by
  decide +kernel

theorem wit_RollbackRisesAndFlashHoldsWholeImages_5b :
    coreRuns (flashing 1 true) = true ∧ getF 0 Fld.BOOTF_FLASH_PROG (flashing 1 true) = 1 ∧
    (flashing 1 true).loader.flashSector ≤ 1 ∧ (flashing 1 true).loader.flashAbort = true := by
  decide +kernel

theorem wit_RollbackRisesAndFlashHoldsWholeImages_6 :
    coreRuns (flashing 2 false) = true ∧ getF 0 Fld.BOOTF_FLASH_PROG (flashing 2 false) = 1 ∧
    1 < (flashing 2 false).loader.flashSector ∧ (flashing 2
    false).loader.flashAbort = false := by
  decide +kernel

theorem wit_RollbackRisesAndFlashHoldsWholeImages_7 :
    coreRuns (flashing 2 true) = true ∧ getF 0 Fld.BOOTF_FLASH_PROG (flashing 2 true) = 1 ∧
    1 < (flashing 2 true).loader.flashSector ∧ (flashing 2
    true).loader.flashAbort = true := by
  decide +kernel

/-! ### ResetsForgetTheKeeper -/

theorem wit_ResetsForgetTheKeeper_2 :
    Rail.nvm ≠ Rail.vbak := by
  decide +kernel

theorem wit_ResetsForgetTheKeeper_3 :
    4000 ≤ 4000 := by
  decide +kernel

theorem wit_ResetsForgetTheKeeper_4 :
    999 < 1000 := by
  decide +kernel

theorem wit_ResetsForgetTheKeeper_5 :
    (dueReset 2).clk.rstPend = some 2 := by
  decide +kernel

theorem wit_ResetsForgetTheKeeper_6 :
    getF 0 Fld.DEBUG_DBG_RST_EN dbg = 1 ∧ dbg.clk.tap = 1 ∧ getF 0 Fld.DEBUG_TAP_IR dbg = 224 := by
  decide +kernel

/-! ### CoreResetsAndEpisodes -/

theorem wit_CoreResetsAndEpisodes_1 :
    6 ≤ dog.clk.boot ∧ getF 0 Fld.RSTC_WDT_EN dog = 1 ∧ domainOn 1 dog = true := by
  decide +kernel

theorem wit_CoreResetsAndEpisodes_2 :
    6 ≤ (dueReset 1).clk.boot ∧ (dueReset 1).clk.rstPend = some 1 := by
  decide +kernel

theorem wit_CoreResetsAndEpisodes_3 :
    Starts (ask 1 0 Fld.RSTC_RST_GO 1 (level 2)) 0 Fld.RSTC_RST_GO (level 2) ∧ (getF 0 Fld.RSTC_RST_LEVEL (level 2) =
    1 ∨ getF 0 Fld.RSTC_RST_LEVEL (level 2) = 2) := by
  unfold Starts Writes Quiet Clocked AsksStart; decide +kernel

theorem wit_CoreResetsAndEpisodes_4 :
    coreRuns fw = true ∧ fw.loader.fwRunning = true := by
  decide +kernel

theorem wit_CoreResetsAndEpisodes_5 :
    episode.clk.episode = true ∧ getF 0 Fld.RSTC_WIDEST episode ≠ 1 := by
  decide +kernel

theorem wit_CoreResetsAndEpisodes_6 :
    coreEpisode.clk.episode = true ∧ getF 0 Fld.RSTC_WIDEST coreEpisode = 1 ∧ coreEpisode.clk.fatalCore = false ∧
    coreEpisode.loader.reverted = true := by
  decide +kernel

/-! ### StartUpInOrder -/

theorem wit_StartUpInOrder_1 :
    (boot 1 live).clk.episode = false ∧ (boot 1 live).clk.boscStarting = true ∧ (boot 1 live).clk.boot = 1 ∧ (boot 1
    live).clk.widest = 3 := by
  decide +kernel

theorem wit_StartUpInOrder_2 :
    (boot 3 (sf 0 [(Fld.CHAIN_LINK_A, 1)] live)).clk.episode = false ∧ (boot 3 (sf 0 [(Fld.CHAIN_LINK_A, 1)]
    live)).clk.boot = 3 ∧ getF 0 Fld.CHAIN_LINK_A (boot 3 (sf 0 [(Fld.CHAIN_LINK_A, 1)] live)) = 1 := by
  decide +kernel

theorem wit_StartUpInOrder_3 :
    (boot 4 live).clk.episode = false ∧ 4 ≤ (boot 4 live).clk.boot ∧ getF 0 Fld.PWRC_DEV_STATE (boot 4 live) ≠ 3 ∧
    (boot 4 live).clk.rootPresent = true := by
  decide +kernel

theorem wit_StartUpInOrder_4 :
    (boot 5 live).clk.episode = false ∧ (boot 5 live).clk.boot = 5 ∧ chooseSet true false (boot 5 live) = some (0,
    set1) := by
  decide +kernel

/-- With the vendor's signature on the image in slot A. -/
theorem wit_StartUpInOrder_5 (h : vendorOk imageMem = true) :
    fwBoot.clk.episode = false ∧ 6 ≤ fwBoot.clk.boot ∧ coreRuns fwBoot = true ∧ fwBoot.loader.fwRunning = false ∧
    fwBoot.loader.actPending = false ∧ strapFlash fwBoot = true ∧ getF 0 Fld.BOOTF_SLOT_PREF fwBoot = 0 ∧
    flashValid 0 1 fwBoot = some flashed ∧ imgId flashed.bytes ∉ fwBoot.loader.fwFailed := by
  have e : judgeImage 1 flashed.bytes flashed.contents fwBoot = 0 := by
    simp only [flashed, judgeImage, h]; decide +kernel
  have g : mapGet fwBoot.loader.flash (2 * 0 + 1) = some flashed := by decide +kernel
  refine ⟨by decide +kernel, by decide +kernel, by decide +kernel, by decide +kernel, by decide +kernel, by decide +kernel,
    by decide +kernel, ?_, by decide +kernel⟩
  simp [flashValid, g, e, Option.filter]

/-! ### RootLossReturnAndSwitches -/

theorem wit_RootLossReturnAndSwitches_1 :
    rooted.clk.rootPresent = true := by
  decide +kernel

theorem wit_RootLossReturnAndSwitches_2 :
    rooted.clk.rootPresent = true ∧ getF 0 Fld.CLKC_BOSC_QUAL rooted = 1 := by
  decide +kernel

theorem wit_RootLossReturnAndSwitches_3 :
    held.clk.holdRun = true ∧ held.clk.rootPresent = false ∧ getF 0 Fld.CLKC_BOSC_QUAL held = 1 ∧ getF 0
    Fld.PWRC_DEV_STATE held ≠ 3 := by
  decide +kernel

theorem wit_RootLossReturnAndSwitches_4 :
    held.clk.holdRun = true := by
  decide +kernel

theorem wit_RootLossReturnAndSwitches_5 :
    held.clk.holdRun = true ∧ held.clk.rootPresent = false := by
  decide +kernel

theorem wit_RootLossReturnAndSwitches_6 :
    (boot 1 live).clk.boscStarting = true ∧ (boot 1 live).clk.episode = false := by
  decide +kernel

theorem wit_RootLossReturnAndSwitches_7 :
    getF 0 Fld.CHAIN_RING (ring 0) = 1 ∧ (ring 0).clk.rootPresent = true ∧ getF 0 Fld.CHAIN_ROOT_SRC (ring 0) = 0 ∧
    getF 0 Fld.CHAIN_LINK_B (ring 0) = 1 := by
  decide +kernel

theorem wit_RootLossReturnAndSwitches_8 :
    getF 0 Fld.CHAIN_RING (ring 1) = 1 ∧ (ring 1).clk.rootPresent = true ∧ getF 0 Fld.CHAIN_ROOT_SRC (ring 1) = 1 ∧
    getF 0 Fld.CHAIN_LINK_A (ring 1) = 1 := by
  decide +kernel

theorem wit_RootLossReturnAndSwitches_9 :
    getF 0 Fld.CLKC_LPLL_LOCK lpll = 1 ∧ getF 0 Fld.SPARE_LPLL_LEFT lpll = 1 := by
  decide +kernel

/-! ### PowerStatesGatesAndTheTap -/

theorem wit_PowerStatesGatesAndTheTap_1 :
    Starts (ask 1 0 Fld.PWRC_STATE_GO 1 (toState 2 none none)) 0 Fld.PWRC_STATE_GO (toState 2 none none) ∧
    getF 0 Fld.PWRC_STATE_REQ (toState 2 none none) ≠ 0 ∧
    (toState 2 none none).clk.stateAt ≠ some (toState 2 none none).cycles ∧
    ∀ m, (toState 2 none none).clk.wakeWas ≠ some (m, (toState 2 none none).cycles) :=
  ⟨by unfold Starts Writes Quiet Clocked AsksStart; decide +kernel, by decide +kernel, by decide +kernel, by
    have e : (toState 2 none none).clk.wakeWas = none := by decide +kernel
    simp [e]⟩

theorem wit_PowerStatesGatesAndTheTap_1b :
    Starts (ask 1 0 Fld.PWRC_STATE_GO 1 (toState 2 (some 0) none)) 0 Fld.PWRC_STATE_GO (toState 2 (some 0) none) ∧
    getF 0 Fld.PWRC_STATE_REQ (toState 2 (some 0) none) ≠ 0 ∧
    (toState 2 (some 0) none).clk.stateAt = some (toState 2 (some 0) none).cycles := by
  unfold Starts Writes Quiet Clocked AsksStart; decide +kernel

theorem wit_PowerStatesGatesAndTheTap_1c :
    Starts (ask 1 0 Fld.PWRC_STATE_GO 1 (toState 3 none (some (128, 0)))) 0 Fld.PWRC_STATE_GO (toState 3 none (some (128, 0))) ∧
    getF 0 Fld.PWRC_STATE_REQ (toState 3 none (some (128, 0))) = 3 ∧
    (toState 3 none (some (128, 0))).clk.stateAt ≠ some (toState 3 none (some (128, 0))).cycles ∧
    (toState 3 none (some (128, 0))).clk.wakeWas = some (2 ^ 7, (toState 3 none (some (128, 0))).cycles) ∧
    getF 0 .PWRC_WAKE_AUTO (toState 3 none (some (128, 0))) ≠ 1 := by
  unfold Starts Writes Quiet Clocked AsksStart; decide +kernel

theorem wit_PowerStatesGatesAndTheTap_2 :
    switching.clk.switching = true ∧ Quiet switching ∧ gateWants 3 switching = true ∧ domainOn 3 switching = true ∧ getF 0
    Fld.PWRC_STATE_GO switching = 1 := by
  unfold Quiet; decide +kernel

theorem wit_PowerStatesGatesAndTheTap_3 :
    6 ≤ 37 ∧ Sets (ask 1 0 (Fld.PWRC_RUN_EN 37) 0 live) 0 (Fld.PWRC_RUN_EN 37) 0 live := by
  unfold Sets Writes Quiet Clocked Changes; decide +kernel

theorem wit_PowerStatesGatesAndTheTap_4 :
    getF 0 Fld.PWRC_DEV_STATE deep = 3 ∧ bitOf (getF 0 Fld.PWRC_WAKE_EN deep) 7 = true := by
  decide +kernel

theorem wit_PowerStatesGatesAndTheTap_5 :
    Starts (ask 1 0 Fld.PWRC_WAKE_CLR 1 live) 0 Fld.PWRC_WAKE_CLR live := by
  unfold Starts Writes Quiet Clocked AsksStart; decide +kernel

theorem wit_PowerStatesGatesAndTheTap_6 :
    live = modClk (fun c => { c with boscRuns := true }) live ∧
    Starts (ask 1 0 Fld.CLKC_MEAS_GO 1 live) 0 Fld.CLKC_MEAS_GO live ∧ measRef live = true := by
  refine ⟨by decide +kernel, ?_⟩
  unfold Starts Writes Quiet Clocked AsksStart; decide +kernel

theorem wit_PowerStatesGatesAndTheTap_7 :
    noBosc = modClk (fun c => { c with boscRuns := true }) noBosc ∧
    Starts (ask 1 0 Fld.CLKC_MEAS_GO 1 noBosc) 0 Fld.CLKC_MEAS_GO noBosc ∧ measRef noBosc = false := by
  refine ⟨by decide +kernel, ?_⟩
  unfold Starts Writes Quiet Clocked AsksStart; decide +kernel

theorem wit_PowerStatesGatesAndTheTap_8 :
    measuring.clk.measRun = true ∧ getF 0 Fld.CLKC_MEAS_GO measuring = 1 := by
  decide +kernel

theorem wit_PowerStatesGatesAndTheTap_9 :
    domainOn 5 dbg = true := by
  decide +kernel

theorem wit_PowerStatesGatesAndTheTap_10 :
    domainOn 5 (tapAt 3 1) = true ∧ (tapAt 3 1).clk.tap = 3 ∧ getF 0 .DEBUG_TAP_IR (tapAt 3 1) = 1 := by
  decide +kernel

theorem wit_PowerStatesGatesAndTheTap_11 : domainOn 5 (tapAt 4 1) = true ∧ (tapAt 4 1).clk.tap = 4 := by
  decide +kernel

theorem wit_PowerStatesGatesAndTheTap_12 : domainOn 5 (tapAt 0 1) = true ∧ (tapAt 0 1).clk.tap = 0 := by
  decide +kernel

theorem wit_PowerStatesGatesAndTheTap_13 : clkOut 1 (clkOn true) = .clock 40 0 30 := by
  decide +kernel

theorem wit_PowerStatesGatesAndTheTap_14 :
    getF 0 (.en .CLKC) (clkOn false) = 1 ∧ (clkOn false).clk.rootPresent = false ∧ extest (clkOn false) = false := by
  decide +kernel

theorem wit_PowerStatesGatesAndTheTap_15 :
    wakePin (sf 0 [(.PWRC_WAKE_SRC, 4)] live) = .low ∧ irqPin calls = .low ∧
    getF 0 .CLKC_SAFE (sf 0 [(.CLKC_SAFE, 1)] live) = 1 ∧
    getF 3 .TXSH_MUTED (sf 3 [(.TXSH_MUTED, 1)] live) = 1 := by
  decide +kernel

/-! ### PavilionEnablesAndDisables -/

theorem wit_PavilionEnablesAndDisables_1 :
    Sets (ask 1 1 (Fld.en Blk.PAV_CTL) 1 imaged) 1 (Fld.en Blk.PAV_CTL) 1 imaged ∧ getF 1 Fld.PAV_CTL_ENABLED imaged
    ≠ 1 ∧ (imaged.pav 1).active.isSome = true ∧ (imaged.pav 1).disabling = false ∧ applyRuns 1 imaged = false ∧
    (imaged.pav 1).tiles = false := by
  unfold Sets Writes Quiet Clocked Changes; decide +kernel

theorem wit_PavilionEnablesAndDisables_2 :
    clocked (sf 1 [(Fld.en Blk.PAV_CTL, 1)] imaged) = true ∧
    gateWants (6 + 1) (sf 1 [(Fld.en Blk.PAV_CTL, 1)] imaged) = true ∧
    getF 1 (Fld.en Blk.PAV_CTL) (sf 1 [(Fld.en Blk.PAV_CTL, 1)] imaged) = 1 ∧ getF 1 Fld.PAV_CTL_ENABLED (sf 1
    [(Fld.en Blk.PAV_CTL, 1)] imaged) ≠ 1 ∧ ((sf 1 [(Fld.en Blk.PAV_CTL, 1)] imaged).pav 1).active.isSome = true ∧
    ((sf 1 [(Fld.en Blk.PAV_CTL, 1)] imaged).pav 1).disabling = false ∧ ((sf 1 [(Fld.en Blk.PAV_CTL, 1)] imaged).pav
    1).deferred = false ∧ domainOn (6 + 1) (sf 1 [(Fld.en Blk.PAV_CTL, 1)] imaged) = true ∧ domainOn (10 + 1) (sf 1
    [(Fld.en Blk.PAV_CTL, 1)] imaged) = true ∧ applyRuns 1 (sf 1 [(Fld.en Blk.PAV_CTL, 1)] imaged) = false ∧ getF 1
    Fld.PAV_CTL_NO_IMAGE (sf 1 [(Fld.en Blk.PAV_CTL, 1)] imaged) ≠ 1 := by
  decide +kernel

theorem wit_PavilionEnablesAndDisables_3 :
    Sets (ask 1 1 (Fld.en Blk.PAV_CTL) 0 (sf 1 [(Fld.en Blk.PAV_CTL, 1)] imaged)) 1 (Fld.en Blk.PAV_CTL) 0 (sf 1
    [(Fld.en Blk.PAV_CTL, 1)] imaged) ∧ getF 1 (Fld.en Blk.PAV_CTL) (sf 1 [(Fld.en Blk.PAV_CTL, 1)] imaged) = 1 ∧
    getF 1 (Fld.lock Blk.PAV_CTL) (sf 1 [(Fld.en Blk.PAV_CTL, 1)] imaged) ≠ 1 := by
  unfold Sets Writes Quiet Clocked Changes; decide +kernel

theorem wit_PavilionEnablesAndDisables_4 :
    clocked stopping = true ∧ (stopping.pav 1).disabling = true := by
  decide +kernel

theorem wit_PavilionEnablesAndDisables_5 :
    clocked deferred = true ∧ (deferred.pav 1).deferred = true ∧ (deferred.pav 1).disabling = false ∧
    applyRuns 1 deferred = false := by
  decide +kernel

theorem wit_PavilionEnablesAndDisables_6 :
    coreRuns fw = true ∧ fw.loader.fwRunning = true ∧ domainOn (6 + 1) fw = true ∧ (fw.pav 1).active = none ∧
    findLayout 1 fw = none := by
  decide +kernel

theorem wit_PavilionEnablesAndDisables_7 :
    coreRuns stageable = true ∧ stageable.loader.fwRunning = true ∧ domainOn (6 + 1) stageable = true ∧
    (stageable.pav 1).active = none ∧
    findLayout 1 stageable = some (3, 0, 0, { }) := by
  decide +kernel

/-! ### DeviceEventsStoreNothing -/

theorem wit_DeviceEventsStoreNothing :
    deviceEvent .modeCommitT = true ∧ Quiet armedMid ∧ ∃ t, exec .modeCommitT armedMid = .next t :=
  ⟨rfl, by unfold Quiet; decide +kernel, _, rfl⟩

end Sys2Proof.Tests
end

