-- ==== Sys2Proof/Tests/WitnessPort.lean ====
section
/-! SUPPORT. Concrete states and operands that meet the hypotheses of each clause of the statements about ports and lanes. -/

namespace Sys2Proof.Tests

open Sys2Proof.Machine

set_option Elab.async false

/-- Marking the overhead of the table again changes nothing (R141). -/
theorem tab_marked : markOverhead tab = tab := by decide +kernel

/-- The table holds under a mask of −90 dBm/Hz with the codeword bits it carries (R141, R146, R147). -/
theorem tab_holds (x : TxPlan) (c per : Nat)
    (hm : x.plan.short = false ∧ x.mine = [(0, -900)] ∧ x.his = [] ∧ x.pref = 0)
    (hc : 1536 ≤ capacityBits c per) : tableHolds false c per x.level tab = true := by
  have e : x.level = lowerLevel false [(0, -900)] [] 0 := by
    funext k; simp only [TxPlan.level, hm]
  have l : launchHolds false (lowerLevel false [(0, -900)] [] 0) tab = true := by decide +kernel
  have g : groupsHold false tab = true := by decide +kernel
  have o : 8 ≤ (pilotTones tab).length ∧ 512 ≤ quadrantBits tab ∧ gainsHold tab = true ∧ codewordBits tab = 1536 ∧
      (tab.all fun e => decide (e.2.bits ≤ 12) && (!e.2.flagged || e.2.bits == 0)) = true := by decide +kernel
  simp only [tableHolds, e, l, g, o, hc, decide_true, Bool.and_true]

/-- A warm start keeps the table while it holds (R180). -/
theorem warm_kept : t3Table 3 warmT3 = tab := by
  have c : (warmT3.port 3).link.warm = true ∧ (stOf 3 warmT3 != stFast) = true ∧ tableOf 3 2 warmT3 = tab ∧
      (txPlanOf 3 warmT3).plan.short = false ∧
      tableMeets tab (measuredSnr 3 warmT3) (gammaOf (profRate (profileOf 3 warmT3))) (profMargin (profileOf 3 warmT3)) =
        true := by decide +kernel
  have h := tab_holds (txPlanOf 3 warmT3) (resourcesOf 3 warmT3).2.2 (symPeriod 3 warmT3) (by decide +kernel)
    (by decide +kernel)
  simp only [t3Table, c, h, Bool.and_self, if_true]

/-- The table sent in T4 (R178). -/
theorem tones_tab : applyTones (tonesBase 3 [] (tonesCome tab true)) [] = tab := by
  have h : tonesBase 3 [] (tonesCome tab true) = tab := by decide +kernel
  rw [h]; exact tab_marked

/-- What is loaded in T3 where nothing has been measured (R152). -/
theorem unmeasured (s : State) (hw : (s.port 3).link.warm = false) (hn : measuredSnr 3 s = []) :
    quadrantBits (t3Table 3 s) = 0 ∧
      pilotTones (t3Table 3 s) = (List.range (tonesOf (planOf 3 s).short)).filter
        ((placePilots (planOf 3 s)).filterMap id).contains := by
  simp only [t3Table, hw, hn, Bool.false_and, Bool.false_eq_true, if_false]
  exact ⟨Laws.loadTable_unmeasured_bits .., Laws.loadTable_unmeasured_pilots ..⟩

/-! ### PortsStartStopAndMute -/

theorem wit_PortsStartStopAndMute_1 :
    Sets (ask 1 3 (.en .PORT_CTL) 1 (sf 3 [(.en .PORT_CTL, 0)] (port 0))) 3 (.en .PORT_CTL) 1 (sf 3 [(.en .PORT_CTL,
    0)] (port 0)) ∧ getF 3 (.en .PORT_CTL) (sf 3 [(.en .PORT_CTL, 0)] (port 0)) ≠ 1 ∧ stOf 3 (sf 3 [(.en .PORT_CTL,
    0)] (port 0)) = stDisabled ∧ mayLeaveDisabled 3 (setF 3 (.en .PORT_CTL) 1 (sf 3 [(.en .PORT_CTL, 0)] (port 0))) =
    true := by
  unfold Sets Writes Quiet Clocked Changes; decide +kernel

theorem wit_PortsStartStopAndMute_2 :
    Sets (ask 1 3 (.en .PORT_CTL) 0 (port stShow)) 3 (.en .PORT_CTL) 0 (port stShow) ∧ getF 3 (.en .PORT_CTL) (port
    stShow) = 1 ∧ getF 3 (.lock .PORT_CTL) (port stShow) ≠ 1 := by
  unfold Sets Writes Quiet Clocked Changes; decide +kernel

theorem wit_PortsStartStopAndMute_3 :
    Sets (ask 1 3 (.en .TXSH) 0 (port stShow)) 3 (muteFld .txshEn) 0 (port stShow) ∧ getF 3 (muteFld .txshEn) (port
    stShow) = 1 ∧ getF 3 (.lock (muteFld .txshEn).blk) (port stShow) ≠ 1 ∧ stOf 3 (port stShow) ≠ stDisabled ∧ stOf 3
    (port stShow) ≠ stLinkDown := by
  unfold Sets Writes Quiet Clocked Changes; decide +kernel

theorem wit_PortsStartStopAndMute_4 :
    Sets (ask 1 3 .TXSH_TX_ALLOW 0 (port stFast)) 3 (muteFld .txAllow) 0 (port stFast) ∧ getF 3 (muteFld .txAllow)
    (port stFast) = 1 ∧ getF 3 (.lock (muteFld .txAllow).blk) (port stFast) ≠ 1 ∧ stOf 3 (port stFast) ≠ stDisabled ∧
    stOf 3 (port stFast) ≠ stLinkDown := by
  unfold Sets Writes Quiet Clocked Changes; decide +kernel

theorem wit_PortsStartStopAndMute_5 :
    Live 3 (port stLinkDown) ∧ stOf 3 (port stLinkDown) = stLinkDown ∧ txEnabled 3 (port stLinkDown) = true ∧ (port
    stLinkDown).clk.muted = false ∧ ((port stLinkDown).port 3).link.waitSub = false ∧ lineMode 3 (port stLinkDown) = 1
    ∧ getF 3 (.en .LINKUP) (port stLinkDown) = 1 := by
  unfold Live; decide +kernel

theorem wit_PortsStartStopAndMute_6 :
    stOf 3 (sf 3 [(.TXSH_TX_ALLOW, 0)] (port stLinkDown)) = stLinkDown ∧ txEnabled 3 (sf 3 [(.TXSH_TX_ALLOW, 0)] (port
    stLinkDown)) = false := by
  decide +kernel

theorem wit_PortsStartStopAndMute_7 :
    Live 3 (sf 3 [(.TXSH_TX_ALLOW, 0)] (port stFail)) ∧ stOf 3 (sf 3 [(.TXSH_TX_ALLOW, 0)] (port stFail)) = stFail ∧
    txEnabled 3 (sf 3 [(.TXSH_TX_ALLOW, 0)] (port stFail)) = false := by
  unfold Live; decide +kernel

/-! ### HandshakeListensSeeksExchanges -/

theorem wit_HandshakeListensSeeksExchanges_1 :
    Live 3 (port stListen) ∧ stOf 3 (port stListen) = stListen := by
  unfold Live; decide +kernel

theorem wit_HandshakeListensSeeksExchanges_2 :
    Live 3 (port stSeek) ∧ stOf 3 (port stSeek) = stSeek ∧ getF 3 .TXSH_MUTED (port stSeek) ≠ 1 := by
  unfold Live; decide +kernel

theorem wit_HandshakeListensSeeksExchanges_3 :
    Live 3 (port stSeek) ∧ stOf 3 (port stSeek) = stSeek := by
  unfold Live; decide +kernel

theorem wit_HandshakeListensSeeksExchanges_4 :
    Live 3 (port stCap) ∧ stOf 3 (port stCap) = stCap := by
  unfold Live; decide +kernel

theorem wit_HandshakeListensSeeksExchanges_5 :
    Live 3 (port stListen) ∧ (stOf 3 (port stListen) = stListen ∨ stOf 3 (port stListen) = stSeek) ∧ listens 3 false
    (port stListen) = true ∧ (port stListen).clk.muted = false ∧ ((port stListen).port 3).link.waitSub = false ∧ ¬(9 =
    ownUid ∧ 1 = 3) ∧ hsOk (headOf false 4 (seekBytes 9 1)) 4 (seekBytes 9 1) = true :=
  ⟨by unfold Live; decide +kernel, by decide +kernel, by decide +kernel, by decide +kernel, by decide +kernel, by simp, by decide +kernel⟩

theorem wit_HandshakeListensSeeksExchanges_5b :
    Live 3 (port stSeek) ∧ (stOf 3 (port stSeek) = stListen ∨ stOf 3 (port stSeek) = stSeek) ∧ listens 3 true (port
    stSeek) = true ∧ hsOk (headOf true 4 (seekBytes 9 1)) 4 (seekBytes 9 1) = true := by
  unfold Live; decide +kernel

theorem wit_HandshakeListensSeeksExchanges_6 :
    Live 3 (port stSeek) ∧ (stOf 3 (port stSeek) = stListen ∨ stOf 3 (port stSeek) = stSeek) ∧ listens 3 true (port
    stSeek) = true ∧ (port stSeek).clk.muted = false ∧ ((port stSeek).port 3).link.waitSub = false ∧ ¬((capOf 1 15
    0).uid = ownUid ∧ (capOf 1 15 0).port = 3) ∧ hsOk (headOf true 1 (capBytes (capOf 1 15 0))) 1 (capBytes (capOf 1
    15 0)) = true :=
  ⟨by unfold Live; decide +kernel, by decide +kernel, by decide +kernel, by decide +kernel, by decide +kernel, by simp [capOf],
    by decide +kernel⟩

theorem wit_HandshakeListensSeeksExchanges_6b :
    hsOk (headOf true 4 []) 1 (capBytes (capOf 1 15 0)) = false := by
  decide +kernel

theorem wit_HandshakeListensSeeksExchanges_7 :
    Live 3 (sf 3 [(.PORT_CTL_COMPAT_PERMIT, 1)] (seekGap true)) ∧ stOf 3 (sf 3 [(.PORT_CTL_COMPAT_PERMIT, 1)] (seekGap
    true)) = stSeek ∧ inGap 3 (sf 3 [(.PORT_CTL_COMPAT_PERMIT, 1)] (seekGap true)) = true ∧ getF 3
    .PORT_CTL_COMPAT_PERMIT (sf 3 [(.PORT_CTL_COMPAT_PERMIT, 1)] (seekGap true)) ≠ 0 := by
  unfold Live; decide +kernel

theorem wit_HandshakeListensSeeksExchanges_8 :
    Live 3 (port stListen) ∧ stOf 3 (port stListen) = stListen ∧ getF 3 .PORT_CTL_COMPAT_PERMIT (port stListen) = 0 := by
  unfold Live; decide +kernel

theorem wit_HandshakeListensSeeksExchanges_9 :
    Live 3 (port stCap) ∧ stOf 3 (port stCap) = stCap ∧ ((port stCap).port 3).link.capAcked = false ∧ getF 3
    .TXSH_MUTED (port stCap) ≠ 1 := by
  unfold Live; decide +kernel

theorem wit_HandshakeListensSeeksExchanges_10 :
    Live 3 (capped 1 15) ∧ stOf 3 (capped 1 15) = stCap ∧ listens 3 false (capped 1 15) = true ∧ ((capped 1 15).port
    3).link.capSent = true ∧ ((capped 1 15).port 3).link.capSeq < 256 ∧ getF 3 .TXSH_MUTED (capped 1 15) ≠ 1 ∧ hsOk
    (headOf false 2 (ackBytes (((capped 1 15).port 3).link.capSeq % 256) true)) 2 (ackBytes (((capped 1 15).port
    3).link.capSeq % 256) true) = true := by
  unfold Live; decide +kernel

theorem wit_HandshakeListensSeeksExchanges_11 :
    Live 3 (port stCap) ∧ stOf 3 (port stCap) = stCap ∧ ((port stCap).port 3).link.initiator = false ∧ (headOf true 1
    (capBytes (capOf 1 15 0))).setB = true ∧ ¬((capOf 1 15 0).uid = ownUid ∧ (capOf 1 15 0).port = 3) ∧ hsOk (headOf
    true 1 (capBytes (capOf 1 15 0))) 1 (capBytes (capOf 1 15 0)) = true :=
  ⟨by unfold Live; decide +kernel, by decide +kernel, by decide +kernel, by decide +kernel, by simp [capOf], by decide +kernel⟩

/-! ### CapabilitiesGiveRoleAndProfile -/

theorem wit_CapabilitiesGiveRoleAndProfile_1 :
    Live 3 (capped 0 15) ∧ stOf 3 (capped 0 15) = stCap ∧ ((capped 0 15).port 3).link.capSent = true ∧ ((capped 0
    15).port 3).link.heard = true ∧ ((capped 0 15).port 3).link.capSeq < 256 ∧ ((capped 0 15).port 3).link.partner =
    some (capOf 0 15 0) ∧ (capOf 0 15 0).listsOmitted = false ∧ getF 3 .PORT_CTL_ROLE (capped 0 15) = 0 ∧ getF 3
    .TXSH_MUTED (capped 0 15) ≠ 1 ∧ listens 3 false (capped 0 15) = true ∧ hsOk (headOf false 2 (ackBytes 255 false))
    2 (ackBytes 255 false) = true ∧ (capOf 0 15 0).rolePri < rwF 3 .LINKUP_ROLE_PRI (capped 0 15) ∧ agreeProfile
    (permitOf (getF 3 .PORT_CTL_PERMIT (capped 0 15)) (max (rwF 3 .TXSH_CE_MIN (capped 0 15)) (capOf 0 15 0).ceMin))
    (profileOf 3 (capped 0 15)) (permitOf (capOf 0 15 0).permit (max (rwF 3 .TXSH_CE_MIN (capped 0 15)) (capOf 0 15
    0).ceMin)) (capOf 0 15 0).req = some 0 := by
  unfold Live; decide +kernel

theorem wit_CapabilitiesGiveRoleAndProfile_2 :
    Live 3 (capped 7 15) ∧ stOf 3 (capped 7 15) = stCap ∧ ((capped 7 15).port 3).link.capSent = true ∧ ((capped 7
    15).port 3).link.heard = true ∧ ((capped 7 15).port 3).link.capSeq < 256 ∧ ((capped 7 15).port 3).link.partner =
    some (capOf 7 15 0) ∧ (capOf 7 15 0).listsOmitted = false ∧ getF 3 .PORT_CTL_ROLE (capped 7 15) = 0 ∧ getF 3
    .TXSH_MUTED (capped 7 15) ≠ 1 ∧ listens 3 false (capped 7 15) = true ∧ hsOk (headOf false 2 (ackBytes 255 false))
    2 (ackBytes 255 false) = true ∧ rwF 3 .LINKUP_ROLE_PRI (capped 7 15) < (capOf 7 15 0).rolePri ∧ agreeProfile
    (permitOf (capOf 7 15 0).permit (max (rwF 3 .TXSH_CE_MIN (capped 7 15)) (capOf 7 15 0).ceMin)) (capOf 7 15 0).req
    (permitOf (getF 3 .PORT_CTL_PERMIT (capped 7 15)) (max (rwF 3 .TXSH_CE_MIN (capped 7 15)) (capOf 7 15 0).ceMin))
    (profileOf 3 (capped 7 15)) = some 0 := by
  unfold Live; decide +kernel

theorem wit_CapabilitiesGiveRoleAndProfile_1b :
    Live 3 (drawn 9) ∧ stOf 3 (drawn 9) = stCap ∧ ((drawn 9).port 3).link.capSent = true ∧ ((drawn 9).port
    3).link.heard = true ∧ ((drawn 9).port 3).link.capSeq < 256 ∧ ((drawn 9).port 3).link.partner = some (capOf 4 15
    0) ∧ (capOf 4 15 0).listsOmitted = false ∧ getF 3 .PORT_CTL_ROLE (drawn 9) = 0 ∧ getF 3 .TXSH_MUTED (drawn 9) ≠ 1
    ∧ listens 3 false (drawn 9) = true ∧ hsOk (headOf false 2 (ackBytes 255 false)) 2 (ackBytes 255 false) = true ∧
    (capOf 4 15 0).rolePri = rwF 3 .LINKUP_ROLE_PRI (drawn 9) ∧ warmOk 3 (capOf 4 15 0) (drawn 9) = false ∧ (capOf 4
    15 0).draw < ((drawn 9).port 3).link.draw ∧ agreeProfile (permitOf (getF 3 .PORT_CTL_PERMIT (drawn 9)) (max (rwF 3
    .TXSH_CE_MIN (drawn 9)) (capOf 4 15 0).ceMin)) (profileOf 3 (drawn 9)) (permitOf (capOf 4 15 0).permit (max (rwF 3
    .TXSH_CE_MIN (drawn 9)) (capOf 4 15 0).ceMin)) (capOf 4 15 0).req = some 0 := by
  unfold Live; decide +kernel

theorem wit_CapabilitiesGiveRoleAndProfile_2b :
    Live 3 (drawn 3) ∧ stOf 3 (drawn 3) = stCap ∧ ((drawn 3).port 3).link.capSent = true ∧ ((drawn 3).port
    3).link.heard = true ∧ ((drawn 3).port 3).link.capSeq < 256 ∧ ((drawn 3).port 3).link.partner = some (capOf 4 15
    0) ∧ (capOf 4 15 0).listsOmitted = false ∧ getF 3 .PORT_CTL_ROLE (drawn 3) = 0 ∧ getF 3 .TXSH_MUTED (drawn 3) ≠ 1
    ∧ listens 3 false (drawn 3) = true ∧ hsOk (headOf false 2 (ackBytes 255 false)) 2 (ackBytes 255 false) = true ∧
    (capOf 4 15 0).rolePri = rwF 3 .LINKUP_ROLE_PRI (drawn 3) ∧ warmOk 3 (capOf 4 15 0) (drawn 3) = false ∧ ((drawn
    3).port 3).link.draw < (capOf 4 15 0).draw ∧ agreeProfile (permitOf (capOf 4 15 0).permit (max (rwF 3 .TXSH_CE_MIN
    (drawn 3)) (capOf 4 15 0).ceMin)) (capOf 4 15 0).req (permitOf (getF 3 .PORT_CTL_PERMIT (drawn 3)) (max (rwF 3
    .TXSH_CE_MIN (drawn 3)) (capOf 4 15 0).ceMin)) (profileOf 3 (drawn 3)) = some 0 := by
  unfold Live; decide +kernel

theorem wit_CapabilitiesGiveRoleAndProfile_3 :
    Live 3 cappedNone ∧ stOf 3 cappedNone = stCap ∧ (cappedNone.port 3).link.capSent = true ∧ (cappedNone.port
    3).link.heard = true ∧ (cappedNone.port 3).link.capSeq < 256 ∧ (cappedNone.port 3).link.partner = some (capOf 0 2
    1) ∧ (capOf 0 2 1).listsOmitted = false ∧ getF 3 .PORT_CTL_ROLE cappedNone = 0 ∧ getF 3 .TXSH_MUTED cappedNone ≠ 1
    ∧ listens 3 false cappedNone = true ∧ hsOk (headOf false 2 (ackBytes 255 false)) 2 (ackBytes 255 false) = true ∧
    (capOf 0 2 1).rolePri < rwF 3 .LINKUP_ROLE_PRI cappedNone ∧ agreeProfile (permitOf (getF 3 .PORT_CTL_PERMIT
    cappedNone) (max (rwF 3 .TXSH_CE_MIN cappedNone) (capOf 0 2 1).ceMin)) (profileOf 3 cappedNone) (permitOf (capOf 0
    2 1).permit (max (rwF 3 .TXSH_CE_MIN cappedNone) (capOf 0 2 1).ceMin)) (capOf 0 2 1).req = none := by
  unfold Live; decide +kernel

/-! ### TrainingMeasuresEchoAndRange -/

theorem wit_TrainingMeasuresEchoAndRange_1 :
    Live 3 (roled 1 stCap) ∧ stOf 3 (roled 1 stCap) = stCap ∧ getF 3 .PORT_CTL_ROLE (roled 1 stCap) ≠ 0 ∧ ((roled 1
    stCap).port 3).link.warm = false ∧ (roled 1 stCap).nvm.portMarks = [] ∧ (roled 1 stCap).nvm.portOos = [] ∧
    isMaster 3 (roled 1 stCap) = true := by
  unfold Live; decide +kernel

theorem wit_TrainingMeasuresEchoAndRange_1b :
    Live 3 (roled 2 stCap) ∧ stOf 3 (roled 2 stCap) = stCap ∧ getF 3 .PORT_CTL_ROLE (roled 2 stCap) ≠ 0 ∧ ((roled 2
    stCap).port 3).link.warm = false ∧ (roled 2 stCap).nvm.portMarks = [] ∧ (roled 2 stCap).nvm.portOos = [] ∧ hsOk
    (headOf false 3 []) 3 [] = true ∧ listens 3 false (roled 2 stCap) = true := by
  unfold Live; decide +kernel

theorem wit_TrainingMeasuresEchoAndRange_2 :
    Live 3 (roled 1 stT1) ∧ stOf 3 (roled 1 stT1) = stT1 ∧ ((roled 1 stT1).port 3).link.warm = false ∧ ((roled 1
    stT1).port 3).link.window = 0 ∧ isMaster 3 (roled 1 stT1) = true := by
  unfold Live; decide +kernel

theorem wit_TrainingMeasuresEchoAndRange_3 :
    Live 3 (hybrid 15) ∧ stOf 3 (hybrid 15) = stT1 ∧ ((hybrid 15).port 3).link.warm = false ∧ ((hybrid 15).port
    3).link.window < 2 ∧ ownWindow 3 (hybrid 15) = true ∧ ((hybrid 15).port 3).sig.winSym = 15 ∧ ((hybrid 15).port
    3).sig.hybBest = some 9 := by
  unfold Live; decide +kernel

theorem wit_TrainingMeasuresEchoAndRange_3b :
    Live 3 (hybrid 255) ∧ stOf 3 (hybrid 255) = stT1 ∧ ((hybrid 255).port 3).link.warm = false ∧ ((hybrid 255).port
    3).link.window < 2 ∧ ownWindow 3 (hybrid 255) = true ∧ ((hybrid 255).port 3).sig.winSym = 255 := by
  unfold Live; decide +kernel

theorem wit_TrainingMeasuresEchoAndRange_4 :
    Live 3 (roled 2 stT1) ∧ stOf 3 (roled 2 stT1) = stT1 ∧ ((roled 2 stT1).port 3).link.window < 2 ∧ ownWindow 3
    (roled 2 stT1) = false ∧ 2600 < (meas (-2601)).fofs.natAbs := by
  unfold Live; decide +kernel

theorem wit_TrainingMeasuresEchoAndRange_5 :
    Live 3 lastWindow ∧ stOf 3 lastWindow = stT1 ∧ (lastWindow.port 3).link.warm = false ∧ (lastWindow.port
    3).link.window = 3 ∧ isMaster 3 lastWindow = false ∧ (meas 0).erleB1 < 550 ∧ (lastWindow.port 3).oam.cur = none ∧
    (lastWindow.port 3).oam.queue = [] := by
  unfold Live; decide +kernel

theorem wit_TrainingMeasuresEchoAndRange_6 :
    Live 3 (roled 2 stT2) ∧ stOf 3 (roled 2 stT2) = stT2 ∧ isSlave 3 (roled 2 stT2) = true := by
  unfold Live; decide +kernel

theorem wit_TrainingMeasuresEchoAndRange_7 :
    Live 3 (marking [] true) ∧ stOf 3 (marking [] true) = stT2 ∧ isSlave 3 (marking [] true) = true ∧ ((marking []
    true).port 3).link.slaveLocked = true ∧ getF 3 .TXSH_MUTED (marking [] true) ≠ 1 ∧ ((marking [] true).port
    3).link.markDue = true := by
  unfold Live; decide +kernel

theorem wit_TrainingMeasuresEchoAndRange_8 :
    Live 3 (marking [1] false) ∧ stOf 3 (marking [1] false) = stT2 ∧ isSlave 3 (marking [1] false) = true ∧ ((marking
    [1] false).port 3).link.slaveLocked = true ∧ getF 3 .TXSH_MUTED (marking [1] false) ≠ 1 ∧ ((marking [1]
    false).port 3).link.markDue = false ∧ (getF 3 .TONES_TX_SYM_CNT (marking [1] false) + 1) % 2 ^ 24 ∈ ((marking [1]
    false).port 3).link.replyAt ∧ ((marking [1] false).port 3).link.reject = false := by
  unfold Live; decide +kernel

theorem wit_TrainingMeasuresEchoAndRange_9 :
    Live 3 (roled 2 stT2) ∧ stOf 3 (roled 2 stT2) = stT2 ∧ isSlave 3 (roled 2 stT2) = true ∧ ((roled 2 stT2).port
    3).link.warm = false ∧ 8191 < 8192 := by
  unfold Live; decide +kernel

theorem wit_TrainingMeasuresEchoAndRange_10 :
    Live 3 ranged ∧ stOf 3 ranged = stT2 ∧ isMaster 3 ranged = true ∧ (ranged.port 3).link.warm = false ∧ (ranged.port
    3).link.partnerPass = some true ∧ (ranged.port 3).link.rtts = List.replicate 7 16381 ∧ (8 * 16381 + 8) / 16 ≤ 8191 := by
  unfold Live; decide +kernel

theorem wit_TrainingMeasuresEchoAndRange_11 :
    Live 3 timed ∧ stOf 3 timed = stT2 ∧ (timed.port 3).link.warm = false ∧ (timed.port 3).link.taSet = true ∧
    isMaster 3 timed = false ∧ (timed.port 3).oam.cur = none ∧ (timed.port 3).oam.queue = [] := by
  unfold Live; decide +kernel

theorem wit_TrainingMeasuresEchoAndRange_12 :
    Live 3 probed ∧ stOf 3 probed = stT2 ∧ (probed.port 3).link.warm = false ∧ (probed.port 3).link.taSet = true ∧
    isMaster 3 probed = true ∧ (probed.port 3).link.hisSpread = some 12 ∧ (probed.port 3).link.ownPass ≠ some false ∧
    (probed.port 3).link.ceFrom = none ∧ getF 3 .LINKUP_TA probed + max 10 12 < 8192 := by
  unfold Live; decide +kernel

theorem wit_TrainingMeasuresEchoAndRange_13 :
    Live 3 (ceNamed 1) ∧ stOf 3 (ceNamed 1) = stT2 ∧ ((ceNamed 1).port 3).link.ceFrom = some (1, 2) ∧ ((ceNamed
    1).port 3).link.reject = false ∧ isMaster 3 (ceNamed 1) = true ∧ ((ceNamed 1).port 3).link.markDue = false ∧ getF
    3 .TXSH_MUTED (ceNamed 1) ≠ 1 ∧ reached ((getF 3 .TONES_TX_SYM_CNT (ceNamed 1) + 1) % 2 ^ 24) 1 = true := by
  unfold Live; decide +kernel

theorem wit_TrainingMeasuresEchoAndRange_14 :
    Live 3 (ceNamed 2) ∧ stOf 3 (ceNamed 2) = stT2 ∧ ((ceNamed 2).port 3).link.ceFrom = some (1, 2) ∧ ((ceNamed
    2).port 3).link.reject = false ∧ isSlave 3 (ceNamed 2) = true ∧ rxSym.turn ≠ 1 ∧ reached ((((ceNamed 2).port
    3).sig.rxSym + 1) % 2 ^ 24) 1 = true := by
  unfold Live; decide +kernel

/-! ### TrainingLoadsAndEntersShowtime -/

theorem wit_TrainingLoadsAndEntersShowtime_1 :
    Live 3 noPilots ∧ stOf 3 noPilots = stT3 ∧ (pilotTones (t3Table 3 noPilots)).length < 8 := by
  have h := unmeasured noPilots (by decide +kernel) (by decide +kernel)
  refine ⟨by unfold Live; decide +kernel, by decide +kernel, by rw [h.2]; decide +kernel⟩

theorem wit_TrainingLoadsAndEntersShowtime_1b :
    Live 3 fewBits ∧ stOf 3 fewBits = stT3 ∧ 8 ≤ (pilotTones (t3Table 3 fewBits)).length ∧ quadrantBits (t3Table 3
    fewBits) < 512 := by
  have h := unmeasured fewBits (by decide +kernel) (by decide +kernel)
  refine ⟨by unfold Live; decide +kernel, by decide +kernel, by rw [h.2]; decide +kernel, by rw [h.1]; decide⟩

theorem wit_TrainingLoadsAndEntersShowtime_1c :
    Live 3 warmT3 ∧ stOf 3 warmT3 = stT3 ∧ 8 ≤ (pilotTones (t3Table 3 warmT3)).length ∧ 512 ≤ quadrantBits (t3Table 3
    warmT3) := by
  rw [warm_kept]; unfold Live; decide +kernel

theorem wit_TrainingLoadsAndEntersShowtime_2 :
    Live 3 (tonesCome tab true) ∧ stOf 3 (tonesCome tab true) = stT4 ∧ 8 ≤ (pilotTones (applyTones (tonesBase 3 []
    (tonesCome tab true)) [])).length ∧ txHolds 3 (applyTones (tonesBase 3 [] (tonesCome tab true)) []) (tonesCome tab
    true) = true := by
  rw [tones_tab]
  have h := tab_holds (txPlanOf 3 (tonesCome tab true)) 12 (symPeriod 3 (tonesCome tab true)) (by decide +kernel)
    (by decide +kernel)
  have e : isShort 3 (tonesCome tab true) = false := by decide +kernel
  exact ⟨by unfold Live; decide +kernel, by decide +kernel, by decide +kernel, by simp only [txHolds, e, h]⟩

theorem wit_TrainingLoadsAndEntersShowtime_3 :
    Live 3 (tonesCome (tab.take 8) false) ∧ stOf 3 (tonesCome (tab.take 8) false) = stT4 ∧ 8 ≤ (pilotTones (applyTones
    (tonesBase 3 [] (tonesCome (tab.take 8) false)) [])).length ∧ txHolds 3 (applyTones (tonesBase 3 [] (tonesCome
    (tab.take 8) false)) []) (tonesCome (tab.take 8) false) = false := by
  unfold Live; decide +kernel

theorem wit_TrainingLoadsAndEntersShowtime_4 :
    Live 3 unacked ∧ stT2 ≤ stOf 3 unacked ∧ stOf 3 unacked ≤ stT5 ∧ (unacked.port 3).oam.cur = some ⟨1, trainType 5,
    [0, 0, 0, 9], 1, 7⟩ := by
  unfold Live; decide +kernel

theorem wit_TrainingLoadsAndEntersShowtime_5 :
    Live 3 failing ∧ stOf 3 failing = stT2 ∧ (failing.port 3).link.ownPass = some false := by
  unfold Live; decide +kernel

theorem wit_TrainingLoadsAndEntersShowtime_5b :
    Live 3 (roled 1 stT5) ∧ stOf 3 (roled 1 stT5) = stT5 := by
  unfold Live; decide +kernel

theorem wit_TrainingLoadsAndEntersShowtime_6 :
    Live 3 rejected ∧ stOf 3 rejected = stT2 ∧ (rejected.port 3).link.reject = true ∧ (rejected.port 3).link.ownPass ≠
    some false := by
  unfold Live; decide +kernel

theorem wit_TrainingLoadsAndEntersShowtime_7 :
    Live 3 atShow ∧ stOf 3 atShow = stT5 ∧ atBoundary 3 atShow = true := by
  unfold Live; decide +kernel

theorem wit_TrainingLoadsAndEntersShowtime_8 :
    Live 3 (roled 1 stT5) ∧ stOf 3 (roled 1 stT5) = stT5 ∧ atBoundary 3 (roled 1 stT5) = false := by
  unfold Live; decide +kernel

/-! ### CompatibilityLinksFollowTheStandard -/

theorem wit_CompatibilityLinksFollowTheStandard_1 :
    Live 3 (an 3) ∧ stOf 3 (an 3) = stAn ∧ bitsOf (cl45Of 3 regAnAdv (an 3)) 0 2 &&& 2 ≠ 0 ∧ getF 3 .TXSH_MUTED (an 3)
    ≠ 1 := by
  unfold Live; decide +kernel

theorem wit_CompatibilityLinksFollowTheStandard_1b :
    Live 3 (an 18) ∧ stOf 3 (an 18) = stAn ∧ bitsOf (cl45Of 3 regAnAdv (an 18)) 0 2 &&& 2 ≠ 0 ∧ getF 3 .TXSH_MUTED (an
    18) ≠ 1 ∧ bitOf (cl45Of 3 regAnAdv (an 18)) 4 = true := by
  unfold Live; decide +kernel

theorem wit_CompatibilityLinksFollowTheStandard_2 :
    Live 3 (an 1) ∧ stOf 3 (an 1) = stAn ∧ bitsOf (cl45Of 3 regAnAdv (an 1)) 0 2 &&& 2 = 0 := by
  unfold Live; decide +kernel

theorem wit_CompatibilityLinksFollowTheStandard_3 :
    Live 3 compat ∧ stOf 3 compat = stCompat ∧ getF 3 .LINKUP_AN_DONE compat = 1 := by
  unfold Live; decide +kernel

theorem wit_CompatibilityLinksFollowTheStandard_3b :
    Live 3 forced ∧ stOf 3 forced = stCompat ∧ getF 3 .LINKUP_AN_DONE forced ≠ 1 := by
  unfold Live; decide +kernel

theorem wit_CompatibilityLinksFollowTheStandard_4 :
    Writes (acc 1 7) .LINKUP 3 0x05C compat := by
  unfold Writes Quiet Clocked; decide +kernel

theorem wit_CompatibilityLinksFollowTheStandard_5 :
    Reads (acc 1 7) .LINKUP 3 0x05C compat := by
  unfold Reads Quiet Clocked; decide +kernel

theorem wit_CompatibilityLinksFollowTheStandard_6 :
    StartsAt (ask 1 3 .LINKUP_STORE_CLR 1 compat) 3 .LINKUP_STORE_CLR compat := by
  unfold StartsAt Starts Writes Quiet Clocked AsksStart; decide +kernel

/-! ### RetrainsKeepTheLayby -/

theorem wit_RetrainsKeepTheLayby_1 :
    (trig 1 true).clk.muted = false ∧ Live 3 (trig 1 true) ∧ ((trig 1 true).port 3).rc.admHeld = false ∧
    (marginTrigger 3 (trig 1 true) = true ∧ pilotTrigger 3 (trig 1 true) = true ∧ sfTrigger 3 (trig 1 true) = true ∧
    cwTrigger 3 (trig 1 true) = true) ∧ stOf 3 (trig 1 true) = stShow ∧ rwF 3 .LINKUP_FAST_EN (trig 1 true) = 1 ∧ getF
    3 .PORT_CTL_RETRAIN_FULL (trig 1 true) ≠ 1 := by
  unfold Live; decide +kernel

theorem wit_RetrainsKeepTheLayby_2 :
    (trig 0 true).clk.muted = false ∧ Live 3 (trig 0 true) ∧ ((trig 0 true).port 3).rc.admHeld = false ∧
    (marginTrigger 3 (trig 0 true) = true ∧ pilotTrigger 3 (trig 0 true) = true ∧ sfTrigger 3 (trig 0 true) = true ∧
    cwTrigger 3 (trig 0 true) = true) ∧ stOf 3 (trig 0 true) = stShow ∧ rwF 3 .LINKUP_FAST_EN (trig 0 true) ≠ 1 := by
  unfold Live; decide +kernel

theorem wit_RetrainsKeepTheLayby_3 :
    (trig 1 false).clk.muted = false ∧ Live 3 (trig 1 false) ∧ ((trig 1 false).port 3).rc.admHeld = false ∧
    (marginTrigger 3 (trig 1 false) = false ∧ pilotTrigger 3 (trig 1 false) = false ∧ sfTrigger 3 (trig 1 false) =
    false ∧ cwTrigger 3 (trig 1 false) = false) := by
  unfold Live; decide +kernel

theorem wit_RetrainsKeepTheLayby_3b :
    (fast 0 stCap).clk.muted = false ∧ Live 3 (fast 0 stCap) ∧ ((fast 0 stCap).port 3).rc.admHeld = false ∧ trunkShow
    3 (fast 0 stCap) = false := by
  unfold Live; decide +kernel

theorem wit_RetrainsKeepTheLayby_4 :
    (fast 1 stShow).clk.muted = false ∧ Live 3 (fast 1 stShow) ∧ ((fast 1 stShow).port 3).rc.admHeld = false ∧
    StartsAt (ask 1 3 .PORT_CTL_RETRAIN 1 (fast 1 stShow)) 3 .PORT_CTL_RETRAIN (fast 1 stShow) ∧ trunkShow 3 (fast 1
    stShow) = true ∧ rwF 3 .LINKUP_FAST_EN (fast 1 stShow) = 1 ∧ getF 3 .PORT_CTL_RETRAIN_FULL (fast 1 stShow) ≠ 1 := by
  unfold StartsAt Starts Writes Live Quiet Clocked AsksStart; decide +kernel

theorem wit_RetrainsKeepTheLayby_5 :
    (fast 1 stCap).clk.muted = false ∧ Live 3 (fast 1 stCap) ∧ ((fast 1 stCap).port 3).rc.admHeld = false ∧ StartsAt
    (ask 1 3 .PORT_CTL_RETRAIN 1 (fast 1 stCap)) 3 .PORT_CTL_RETRAIN (fast 1 stCap) ∧ trunkShow 3 (fast 1 stCap) =
    false := by
  unfold StartsAt Starts Writes Live Quiet Clocked AsksStart; decide +kernel

theorem wit_RetrainsKeepTheLayby_6 :
    (fast 1 stFast).clk.muted = false ∧ Live 3 (fast 1 stFast) ∧ ((fast 1 stFast).port 3).rc.admHeld = false ∧ stOf 3
    (fast 1 stFast) = stFast ∧ ((fast 1 stFast).port 3).link.waitSub = false := by
  unfold Live; decide +kernel

/-! ### ReconfigurationRequestsAreAnswered -/

theorem wit_ReconfigurationRequestsAreAnswered_1 :
    Live 3 (show3 2) ∧ trunkShow 3 (show3 2) = true ∧ isSlave 3 (show3 2) = true ∧ tooLate 3 900 (show3 2) = false := by
  unfold Live; decide +kernel

theorem wit_ReconfigurationRequestsAreAnswered_2 :
    Live 3 (show3 2) ∧ trunkShow 3 (show3 2) = true ∧ isSlave 3 (show3 2) = true ∧ tooLate 3 0 (show3 2) = true := by
  unfold Live; decide +kernel

theorem wit_ReconfigurationRequestsAreAnswered_3 :
    Live 3 (sf 3 [(.TONES_TX_PENDING, 1)] (show3 2)) ∧ trunkShow 3 (sf 3 [(.TONES_TX_PENDING, 1)] (show3 2)) = true ∧
    getF 3 .TONES_TX_PENDING (sf 3 [(.TONES_TX_PENDING, 1)] (show3 2)) = 1 := by
  unfold Live; decide +kernel

theorem wit_ReconfigurationRequestsAreAnswered_4 :
    Live 3 (show3 2) ∧ trunkShow 3 (show3 2) = true ∧ getF 3 .TONES_TX_PENDING (show3 2) ≠ 1 ∧ ((show3 2).port
    3).rc.running = false ∧ tooLate 3 0 (show3 2) = true := by
  unfold Live; decide +kernel

theorem wit_ReconfigurationRequestsAreAnswered_5 :
    Live 3 (show3 2) ∧ trunkShow 3 (show3 2) = true ∧ getF 3 .TONES_TX_PENDING (show3 2) ≠ 1 ∧ ((show3 2).port
    3).rc.running = false ∧ tooLate 3 900 (show3 2) = false ∧ ((show3 2).port 3).rc.delivered = false := by
  unfold Live; decide +kernel

theorem wit_ReconfigurationRequestsAreAnswered_5b :
    Live 3 (rc (fun r => { r with delivered := true }) (show3 2)) ∧ trunkShow 3 (rc (fun r => { r with delivered :=
    true }) (show3 2)) = true ∧ getF 3 .TONES_TX_PENDING (rc (fun r => { r with delivered := true }) (show3 2)) ≠ 1 ∧
    ((rc (fun r => { r with delivered := true }) (show3 2)).port 3).rc.running = false ∧ tooLate 3 900 (rc (fun r => {
    r with delivered := true }) (show3 2)) = false ∧ ((rc (fun r => { r with delivered := true }) (show3 2)).port
    3).rc.delivered = true ∧ txHolds 3 (tableOf 3 5 (rc (fun r => { r with delivered := true }) (show3 2))) (rc (fun r
    => { r with delivered := true }) (show3 2)) = false := by
  unfold Live; decide +kernel

theorem wit_ReconfigurationRequestsAreAnswered_6 :
    Live 3 delivered ∧ trunkShow 3 delivered = true ∧ getF 3 .TONES_TX_PENDING delivered ≠ 1 ∧ (delivered.port
    3).rc.running = false ∧ tooLate 3 900 delivered = false ∧ (delivered.port 3).rc.delivered = true ∧ txHolds 3
    (tableOf 3 5 delivered) delivered = true := by
  have h := tab_holds (txPlanOf 3 delivered) 12 (symPeriod 3 delivered) (by decide +kernel) (by decide +kernel)
  have e : isShort 3 delivered = false ∧ tableOf 3 5 delivered = tab := by decide +kernel
  refine ⟨by unfold Live; decide +kernel, by decide +kernel, by decide +kernel, by decide +kernel, by decide +kernel, by decide +kernel, by simp only [txHolds, e, h]⟩

theorem wit_ReconfigurationRequestsAreAnswered_7 :
    Live 3 sfPermit1 ∧ trunkShow 3 sfPermit1 = true ∧ rcBusy 3 sfPermit1 = false ∧ bitOf (getF 3 .PORT_CTL_PERMIT
    sfPermit1) (bitsOf 1 0 2) = false := by
  unfold Live; decide +kernel

theorem wit_ReconfigurationRequestsAreAnswered_8 :
    Live 3 (show3 2) ∧ trunkShow 3 (show3 2) = true ∧ rcBusy 3 (show3 2) = false ∧ bitOf (getF 3 .PORT_CTL_PERMIT
    (show3 2)) (bitsOf 0 0 2) = true ∧ bitsOf 0 0 2 = profileOf 3 (show3 2) ∧ bitsOf 0 2 2 < getF 3 .TXSH_MASKS (show3
    2) ∧ bitsOf 0 4 2 < getF 3 .TXSH_NOTCH_SETS (show3 2) := by
  unfold Live; decide +kernel

theorem wit_ReconfigurationRequestsAreAnswered_8b :
    Live 3 (rc (fun r => { r with running := true, initiator := true }) (show3 1)) ∧ trunkShow 3 (rc (fun r => { r
    with running := true, initiator := true }) (show3 1)) = true ∧ ((rc (fun r => { r with running := true, initiator
    := true }) (show3 1)).port 3).rc.running = true ∧ ((rc (fun r => { r with running := true, initiator := true })
    (show3 1)).port 3).rc.initiator = true ∧ ((rc (fun r => { r with running := true, initiator := true }) (show3
    1)).port 3).rc.accepted = false ∧ isMaster 3 (rc (fun r => { r with running := true, initiator := true }) (show3
    1)) = true := by
  unfold Live; decide +kernel

theorem wit_ReconfigurationRequestsAreAnswered_9 :
    Live 3 changing ∧ trunkShow 3 changing = true ∧ (changing.port 3).rc.running = true := by
  unfold Live; decide +kernel

theorem wit_ReconfigurationRequestsAreAnswered_10 :
    Live 3 (show3 2) ∧ trunkShow 3 (show3 2) = true ∧ getF 3 .TONES_TX_PENDING (show3 2) ≠ 1 ∧ getF 3
    .TONES_RX_PENDING (show3 2) ≠ 1 ∧ tooLate 3 900 (show3 2) = false ∧ ((show3 2).port 3).rc.running = false := by
  unfold Live; decide +kernel

theorem wit_ReconfigurationRequestsAreAnswered_11 :
    Live 3 tabled ∧ trunkShow 3 tabled = true ∧ getF 3 .TONES_TX_PENDING tabled ≠ 1 ∧ getF 3 .TONES_RX_PENDING tabled
    ≠ 1 ∧ tooLate 3 900 tabled = false ∧ (tabled.port 3).rc.running = true ∧ (tabled.port 3).rc.tablesIn = true ∧
    shadowHolds 3 tabled = true := by
  have h := tab_holds (nextPlan 3 tabled) 12 (symPeriod 3 tabled) (by decide +kernel) (by decide +kernel)
  have e : isShort 3 tabled = false ∧ tableOf 3 1 tabled = tab := by decide +kernel
  refine ⟨by unfold Live; decide +kernel, by decide +kernel, by decide +kernel, by decide +kernel, by decide +kernel,
    by decide +kernel, by decide +kernel, by simp only [shadowHolds, e, h]⟩

theorem wit_ReconfigurationRequestsAreAnswered_12 :
    Live 3 (show3 2) ∧ trunkShow 3 (show3 2) = true ∧ rcBusy 3 (show3 2) = false ∧ ((show3 2).port 3).rc.pauseSf =
    none ∧ tooLate 3 900 (show3 2) = false := by
  unfold Live; decide +kernel

/-! ### ReconfigurationsRunTheirSteps -/

theorem wit_ReconfigurationsRunTheirSteps_1 :
    StartsAt (ask 1 3 .PORT_CTL_RECONF_GO 1 (show3 1)) 3 .PORT_CTL_RECONF_GO (show3 1) ∧ stageValid 3 (show3 1) = true
    ∧ ((show3 1).port 3).rc.req = none ∧ ((show3 1).port 3).rc.todo = [] ∧ getF 3 .PORT_CTL_STG_PSD (show3 1) = getF 3
    .TXSH_PSD_ACT (show3 1) ∧ getF 3 .PORT_CTL_STG_NOTCH (show3 1) = getF 3 .TXSH_NOTCH_ACT (show3 1) := by
  unfold StartsAt Starts Writes Quiet Clocked AsksStart; decide +kernel

theorem wit_ReconfigurationsRunTheirSteps_2 :
    StartsAt (ask 1 3 .PORT_CTL_RECONF_GO 1 (sf 3 [(.PORT_CTL_PERMIT, 0)] (show3 1))) 3 .PORT_CTL_RECONF_GO (sf 3
    [(.PORT_CTL_PERMIT, 0)] (show3 1)) ∧ stageValid 3 (sf 3 [(.PORT_CTL_PERMIT, 0)] (show3 1)) = false := by
  unfold StartsAt Starts Writes Quiet Clocked AsksStart; decide +kernel

theorem wit_ReconfigurationsRunTheirSteps_3 :
    Live 3 (asking 1) ∧ ((asking 1).port 3).rc.req = some (rcReq 1) ∧ (rcReq 1).seq = 3 ∧ (rcReq 1).op = 1 ∧ ((asking
    1).port 3).rc.todo = [] := by
  unfold Live; decide +kernel

theorem wit_ReconfigurationsRunTheirSteps_4 :
    Live 3 (asking 4) ∧ ((asking 4).port 3).rc.req = some (rcReq 4) ∧ (rcReq 4).seq = 3 ∧ (rcReq 4).op = 4 ∧ ((asking
    4).port 3).rc.todo = [] := by
  unfold Live; decide +kernel

theorem wit_ReconfigurationsRunTheirSteps_5 :
    Live 3 (asking 2) ∧ ((asking 2).port 3).rc.req = some (rcReq 2) ∧ (rcReq 2).seq = 3 ∧ (rcReq 2).op = 2 ∧ ((asking
    2).port 3).rc.todo = [] ∧ ((asking 2).port 3).rc.initiator = true ∧ ((asking 2).port 3).rc.abortReq = false ∧ getF
    3 .PORT_CTL_RECONF_GO (asking 2) = 1 := by
  unfold Live; decide +kernel

theorem wit_ReconfigurationsRunTheirSteps_6 :
    Live 3 drainDue ∧ (drainDue.port 3).rc.running = true ∧ (drainDue.port 3).rc.accepted = true ∧ (drainDue.port
    3).rc.tablesOut = true ∧ (drainDue.port 3).rc.drainedSent = false ∧ (drainDue.port 3).rc.admHeld = false ∧
    (drainDue.port 3).rc.req = none ∧ (drainDue.port 3).rc.todo = [] := by
  unfold Live; decide +kernel

theorem wit_ReconfigurationsRunTheirSteps_7 :
    Live 3 (asking 2) ∧ ((asking 2).port 3).rc.running = true ∧ getF 3 .PORT_CTL_RECONF_GO (asking 2) = 1 := by
  unfold Live; decide +kernel

/-! ### OamMessagesAreDelivered -/

theorem wit_OamMessagesAreDelivered_1 :
    Live 3 (toSend stShow) ∧ (15 : BitVec 4) ≠ 0 ∧ (List.replicate 256 (7 : Byte)).length ≤ 256 ∧ trunkShow 3 (toSend
    stShow) = true ∧ 0x10 ≤ (0x1F : Byte).toNat ∧ (0x1F : Byte).toNat < 0x20 ∧ ((toSend stShow).port 3).oam.lastRx ≠
    some 15 ∧ enOf .OAM 3 (toSend stShow) = 1 ∧ getF 3 .OAM_RX_FULL (toSend stShow) ≠ 1 := by
  unfold Live; decide +kernel

theorem wit_OamMessagesAreDelivered_2 :
    Live 3 (sf 3 [(.OAM_RX_FULL, 1)] (toSend stShow)) ∧ (15 : BitVec 4) ≠ 0 ∧ (List.replicate 256 (7 : Byte)).length ≤
    256 ∧ trunkShow 3 (sf 3 [(.OAM_RX_FULL, 1)] (toSend stShow)) = true ∧ 0x10 ≤ (0x1F : Byte).toNat ∧ (0x1F :
    Byte).toNat < 0x20 ∧ ((sf 3 [(.OAM_RX_FULL, 1)] (toSend stShow)).port 3).oam.lastRx ≠ some 15 ∧ enOf .OAM 3 (sf 3
    [(.OAM_RX_FULL, 1)] (toSend stShow)) = 1 ∧ getF 3 .OAM_RX_FULL (sf 3 [(.OAM_RX_FULL, 1)] (toSend stShow)) = 1 := by
  unfold Live; decide +kernel

theorem wit_OamMessagesAreDelivered_3 :
    Live 3 (roled 2 stT2) ∧ (15 : BitVec 4) ≠ 0 ∧ stOf 3 (roled 2 stT2) = stT2 ∧ isSlave 3 (roled 2 stT2) = true ∧
    ((roled 2 stT2).port 3).oam.lastRx ≠ some 15 ∧ 3 < 4 ∧ 2 ^ 24 - 1 < 2 ^ 24 := by
  unfold Live; decide +kernel

theorem wit_OamMessagesAreDelivered_4 :
    Live 3 (sending 1) ∧ ((sending 1).port 3).oam.cur = some (msg 1) ∧ 0x10 ≤ (msg 1).type ∧ (msg 1).mid ≠ 0 ∧ (msg
    1).mid = 2 ∧ getF 3 .OAM_SEND (sending 1) = 1 ∧ ((sending 1).port 3).link.reject = false := by
  unfold Live; decide +kernel

theorem wit_OamMessagesAreDelivered_5 :
    Live 3 (sending 2) ∧ ((sending 2).port 3).oam.cur = some (msg 2) ∧ 0x10 ≤ (msg 2).type ∧ (msg 2).mid ≠ 0 ∧
    ((sending 2).port 3).oam.stale = none ∧ inShow 3 (sending 2) = true ∧ (msg 2).sends < getF 3 .OAM_TRIES (sending
    2) := by
  unfold Live; decide +kernel

theorem wit_OamMessagesAreDelivered_6 :
    Live 3 (sending 3) ∧ ((sending 3).port 3).oam.cur = some (msg 3) ∧ 0x10 ≤ (msg 3).type ∧ (msg 3).mid ≠ 0 ∧
    ((sending 3).port 3).oam.stale = none ∧ inShow 3 (sending 3) = true ∧ getF 3 .OAM_TRIES (sending 3) ≤ (msg
    3).sends ∧ getF 3 .OAM_SEND (sending 3) = 1 := by
  unfold Live; decide +kernel

theorem wit_OamMessagesAreDelivered_7 :
    Live 3 discarded ∧ (discarded.port 3).oam.stale = some (msg 1) ∧ 0x10 ≤ (msg 1).type ∧ getF 3 .OAM_SEND discarded
    = 1 := by
  unfold Live; decide +kernel

theorem wit_OamMessagesAreDelivered_8 :
    StartsAt (ask 1 3 .OAM_SEND 1 (toSend stShow)) 3 .OAM_SEND (toSend stShow) ∧ enOf .OAM 3 (toSend stShow) = 1 ∧
    trunkShow 3 (toSend stShow) = true ∧ 1 ≤ getF 3 .OAM_SEND_LEN (toSend stShow) ∧ getF 3 .OAM_SEND_LEN (toSend
    stShow) ≤ 256 ∧ ((toSend stShow).port 3).oam.cur = none ∧ ((toSend stShow).port 3).oam.queue = [] := by
  unfold StartsAt Starts Writes Quiet Clocked AsksStart; decide +kernel

theorem wit_OamMessagesAreDelivered_9 :
    StartsAt (ask 1 3 .OAM_SEND 1 (toSend stCap)) 3 .OAM_SEND (toSend stCap) ∧ trunkShow 3 (toSend stCap) = false := by
  unfold StartsAt Starts Writes Quiet Clocked AsksStart; decide +kernel

theorem wit_OamMessagesAreDelivered_10 :
    StartsAt (ask 1 3 .OAM_RX_RELEASE 1 (sf 3 [(.OAM_RX_FULL, 1)] (toSend stShow))) 3 .OAM_RX_RELEASE (sf 3
    [(.OAM_RX_FULL, 1)] (toSend stShow)) := by
  unfold StartsAt Starts Writes Quiet Clocked AsksStart; decide +kernel

/-! ### SymbolsAndSuperframesAdvance -/

theorem wit_SymbolsAndSuperframesAdvance_1 :
    Live 3 (txAt 256) ∧ stOf 3 (txAt 256) = stShow ∧ getF 3 .TXSH_MUTED (txAt 256) ≠ 1 ∧ ((txAt 256).port
    3).sig.paused = false ∧ ((txAt 256).port 3).sig.txPos ≤ 256 := by
  unfold Live; decide +kernel

theorem wit_SymbolsAndSuperframesAdvance_2 :
    Live 3 (sf 3 [(.TXSH_MUTED, 1)] (show3 2)) ∧ stOf 3 (sf 3 [(.TXSH_MUTED, 1)] (show3 2)) = stShow ∧ getF 3
    .TXSH_MUTED (sf 3 [(.TXSH_MUTED, 1)] (show3 2)) = 1 := by
  unfold Live; decide +kernel

theorem wit_SymbolsAndSuperframesAdvance_3 :
    Live 3 (show3 2) ∧ stOf 3 (show3 2) = stShow ∧ rxSym.turn ≠ 1 ∧ rxSym.clipped ≠ 0 ∧ latched 3 .AFE_CLIP_LIMIT
    (show3 2) ≤ rxSym.clipped := by
  unfold Live; decide +kernel

theorem wit_SymbolsAndSuperframesAdvance_4 :
    Live 3 switchTx ∧ stOf 3 switchTx = stShow ∧ isMaster 3 switchTx = false ∧ (switchTx.port 3).rc.req = none ∧
    (switchTx.port 3).rc.running = false ∧ getF 3 .TONES_TX_PENDING switchTx = 1 ∧ getF 3 .TONES_TX_SW_SF switchTx =
    (getF 3 .TONES_TX_SF_CNT switchTx + 1) % 2 ^ 32 := by
  unfold Live; decide +kernel

theorem wit_SymbolsAndSuperframesAdvance_5 :
    Live 3 switchRx ∧ stOf 3 switchRx = stShow ∧ (switchRx.port 3).sig.rxFirst = false ∧ (switchRx.port 3).rc.running
    = false ∧ getF 3 .TONES_RX_PENDING switchRx = 1 ∧ getF 3 .TONES_RX_SW_SF switchRx = (getF 3 .TONES_RX_SF_CNT
    switchRx + 1) % 2 ^ 32 := by
  unfold Live; decide +kernel

theorem wit_SymbolsAndSuperframesAdvance_6 :
    Live 3 rxGoing ∧ stOf 3 rxGoing = stShow ∧ (rxGoing.port 3).sig.rxFirst = false ∧ (rxGoing.port 3).rc.running =
    false ∧ getF 3 .TONES_RX_PENDING rxGoing ≠ 1 := by
  unfold Live; decide +kernel

theorem wit_SymbolsAndSuperframesAdvance_7 :
    Live 3 rxGoing ∧ stOf 3 rxGoing = stShow ∧ overheadOk [] = false ∧ overheadOk ohGood = true := by
  unfold Live; decide +kernel

theorem wit_SymbolsAndSuperframesAdvance_8 :
    Live 3 inHold ∧ getF 3 .LAYBY_P_IN_HOLD inHold = 1 := by
  unfold Live; decide +kernel

/-! ### LinkQualityIsWatched -/

theorem wit_LinkQualityIsWatched_1 :
    Live 3 (sf 3 [(.ECHO_ERLE_WARN, 6)] (show3 1)) ∧ stOf 3 (sf 3 [(.ECHO_ERLE_WARN, 6)] (show3 1)) = stShow ∧ (5 :
    BitVec 12).toNat < getF 3 .ECHO_ERLE_WARN (sf 3 [(.ECHO_ERLE_WARN, 6)] (show3 1)) ∧ ((sf 3 [(.ECHO_ERLE_WARN, 6)]
    (show3 1)).port 3).watch.erleLow = false := by
  unfold Live; decide +kernel

theorem wit_LinkQualityIsWatched_2 :
    Live 3 (dataLink 1024) ∧ stOf 3 (dataLink 1024) = stShow ∧ ((dataLink 1024).port 3).sig.paused = false ∧ 1024 ≤
    ((dataLink 1024).port 3).sig.noiseN ∧ toneMargins 3 (modSig 3 (fun g => { g with snr := (mapPutAll g.snr
    (measuredSnr 3 (dataLink 1024))) }) (dataLink 1024)) ≠ [] := by
  unfold Live; decide +kernel

theorem wit_LinkQualityIsWatched_2b :
    Live 3 (dataLink 1023) ∧ ((dataLink 1023).port 3).sig.noiseN < 1024 := by
  unfold Live; decide +kernel

theorem wit_LinkQualityIsWatched_3 :
    Live 3 impulse ∧ (impulse.port 3).sig.inImpulse = true ∧ 125 ≤ (impulse.port 3).sig.impRun + 25 ∧ 125000 ≤
    (impulse.port 3).sig.impLen := by
  unfold Live; decide +kernel

theorem wit_LinkQualityIsWatched_3b :
    Live 3 impulse ∧ (impulse.port 3).sig.inImpulse = true ∧ (impulse.port 3).sig.impRun + 24 < 125 := by
  unfold Live; decide +kernel

theorem wit_LinkQualityIsWatched_4 :
    Live 3 watching ∧ (watching.port 3).watch.running = true ∧ getF 3 (.en .WATCH) watching = 1 ∧ stOf 3 watching =
    stShow ∧ getF 3 .WATCH_PRED_EN watching ≠ 1 := by
  unfold Live; decide +kernel

theorem wit_LinkQualityIsWatched_5 :
    Live 3 (port stQuiet) ∧ stOf 3 (port stQuiet) = stQuiet ∧ retrainMeets 3 (port stQuiet) = false ∧ wakeDue 3 (port
    stQuiet) = true ∧ getF 3 .TXSH_MUTED (port stQuiet) ≠ 1 ∧ detectMeets 3 (port stQuiet) = false := by
  unfold Live; decide +kernel

theorem wit_LinkQualityIsWatched_6 :
    Live 3 quietIdle ∧ stOf 3 quietIdle = stQuiet ∧ retrainMeets 3 quietIdle = false ∧ wakeDue 3 quietIdle = false := by
  unfold Live; decide +kernel

theorem wit_LinkQualityIsWatched_7 :
    Live 3 quietRetrain ∧ stOf 3 quietRetrain = stQuiet ∧ retrainMeets 3 quietRetrain = true := by
  unfold Live; decide +kernel

/-! ### ReflectometryAndSurveyRun -/

theorem wit_ReflectometryAndSurveyRun_1 :
    StartsAt (ask 1 3 .DIAG_TDR_RUN 1 tdrAble) 3 .DIAG_TDR_RUN tdrAble ∧ mayTdr 3 tdrAble = true ∧ tdrAble.clk.muted =
    false ∧ (tdrAble.port 3).link.waitSub = false := by
  unfold StartsAt Starts Writes Quiet Clocked AsksStart; decide +kernel

theorem wit_ReflectometryAndSurveyRun_2 :
    StartsAt (ask 1 3 .DIAG_TDR_RUN 1 (show3 1)) 3 .DIAG_TDR_RUN (show3 1) ∧ mayTdr 3 (show3 1) = false := by
  unfold StartsAt Starts Writes Quiet Clocked AsksStart; decide +kernel

theorem wit_ReflectometryAndSurveyRun_3 :
    Live 3 (tdrAt 2 true) ∧ stOf 3 (tdrAt 2 true) = stDiag ∧ getF 3 .DIAG_TDR_RUN (tdrAt 2 true) = 1 ∧ 1 < ((tdrAt 2
    true).port 3).watch.sweeps ∧ ((tdrAt 2 true).port 3).watch.tdrAbort = true := by
  unfold Live; decide +kernel

theorem wit_ReflectometryAndSurveyRun_4 :
    Live 3 (tdrAt 2 false) ∧ stOf 3 (tdrAt 2 false) = stDiag ∧ getF 3 .DIAG_TDR_RUN (tdrAt 2 false) = 1 ∧ 1 < ((tdrAt
    2 false).port 3).watch.sweeps ∧ ((tdrAt 2 false).port 3).watch.tdrAbort = false ∧ getF 3 .TXSH_MUTED (tdrAt 2
    false) ≠ 1 := by
  unfold Live; decide +kernel

theorem wit_ReflectometryAndSurveyRun_5 :
    Live 3 (tdrAt 1 true) ∧ stOf 3 (tdrAt 1 true) = stDiag ∧ getF 3 .DIAG_TDR_RUN (tdrAt 1 true) = 1 ∧ ((tdrAt 1
    true).port 3).watch.sweeps ≤ 1 ∧ ((tdrAt 1 true).port 3).watch.tdrAbort = true := by
  unfold Live; decide +kernel

theorem wit_ReflectometryAndSurveyRun_6 :
    Live 3 (surveying stShow) ∧ stOf 3 (surveying stShow) = stShow ∧ (stepExp 3 0 (surveying stShow)).isSome = true ∧
    ((surveying stShow).port 3).watch.profAt ≠ some (surveying stShow).cycles := by
  unfold Live; decide +kernel

theorem wit_ReflectometryAndSurveyRun_7 :
    StartsAt (ask 1 3 .SURVEY_SV_BASE_SAVE 1 (surveying stShow)) 3 .SURVEY_SV_BASE_SAVE (surveying stShow) ∧ trunkShow
    3 (surveying stShow) = true ∧ getF 3 (.en .SURVEY) (surveying stShow) = 1 := by
  unfold StartsAt Starts Writes Quiet Clocked AsksStart; decide +kernel

theorem wit_ReflectometryAndSurveyRun_8 :
    StartsAt (ask 1 3 .SURVEY_SV_BASE_SAVE 1 (surveying stCap)) 3 .SURVEY_SV_BASE_SAVE (surveying stCap) ∧ trunkShow 3
    (surveying stCap) = false := by
  unfold StartsAt Starts Writes Quiet Clocked AsksStart; decide +kernel

theorem wit_ReflectometryAndSurveyRun_9 :
    Live 3 baseline ∧ getF 3 .SURVEY_SV_BASE_SAVE baseline = 1 ∧ (baseline.port 3).watch.acc ≠ [] ∧ getF 3
    .SURVEY_SV_AVG baseline ≤ (baseline.port 3).watch.acc.length ∧ (baseline.port 3).watch.baseAbort = false := by
  unfold Live; decide +kernel

/-! ### FramesEnterTheLayby -/

theorem wit_FramesEnterTheLayby_1 :
    Writes (acc 1 0) .STREAM 3 0x038 laneOff ∧ (streamOf 3 7 laneOff).cfg.sen = false := by
  unfold Writes Quiet Clocked; decide +kernel

theorem wit_FramesEnterTheLayby_2 :
    Writes (acc 1 0) .STREAM 3 0x038 queued ∧ (streamOf 3 7 queued).cfg.sen = true := by
  unfold Writes Quiet Clocked; decide +kernel

theorem wit_FramesEnterTheLayby_3 :
    Live 3 near ∧ laneUp 3 near = true ∧ getF 3 .HOST_LB_ACTIVE near = 1 := by
  unfold Live; decide +kernel

theorem wit_FramesEnterTheLayby_4 :
    Live 3 lane ∧ laneUp 3 lane = true ∧ getF 3 .HOST_LB_ACTIVE lane ≠ 1 ∧ fcsRight (eth 64 false).bytes = false := by
  unfold Live; decide +kernel

theorem wit_FramesEnterTheLayby_4b :
    Live 3 laneCompat ∧ laneUp 3 laneCompat = true ∧ getF 3 .HOST_LB_ACTIVE laneCompat = 0 ∧ fcsRight (eth 64
    true).bytes = true ∧ etherType (eth 64 true).bytes ∉ [0x8808, 0x88B5] ∧ beNat (((eth 64 true).bytes.drop 12).take
    2) ≠ 0x8808 ∧ stOf 3 laneCompat = stCompat ∧ getF 3 .LINKUP_T1_LINK laneCompat = 1 ∧ getF 3 .TXSH_MUTED laneCompat
    ≠ 1 := by
  unfold Live; decide +kernel

theorem wit_FramesEnterTheLayby_5 :
    Live 3 strOff ∧ laneUp 3 strOff = true ∧ getF 3 .HOST_LB_ACTIVE strOff = 0 ∧ fcsRight (eth 64 true).bytes = true ∧
    etherType (eth 64 true).bytes ∉ [0x8808, 0x88B5] ∧ beNat (((eth 64 true).bytes.drop 12).take 2) ≠ 0x8808 ∧
    lineMode 3 strOff ≠ 4 ∧ stOf 3 strOff ≠ stCompat ∧ getF 3 (.en .STREAM) strOff ≠ 1 := by
  unfold Live; decide +kernel

theorem wit_FramesEnterTheLayby_6 :
    Live 3 lane ∧ laneUp 3 lane = true ∧ getF 3 .HOST_LB_ACTIVE lane = 0 ∧ fcsRight (eth 63 true).bytes = true ∧
    etherType (eth 63 true).bytes ∉ [0x8808, 0x88B5] ∧ beNat (((eth 63 true).bytes.drop 12).take 2) ≠ 0x8808 ∧
    lineMode 3 lane ≠ 4 ∧ stOf 3 lane ≠ stCompat ∧ getF 3 (.en .STREAM) lane = 1 ∧ (eth 63 true).bytes.length < 64 := by
  unfold Live; decide +kernel

theorem wit_FramesEnterTheLayby_7 :
    Live 3 lane ∧ laneUp 3 lane = true ∧ getF 3 .HOST_LB_ACTIVE lane = 0 ∧ fcsRight (eth 64 true).bytes = true ∧
    etherType (eth 64 true).bytes ∉ [0x8808, 0x88B5] ∧ beNat (((eth 64 true).bytes.drop 12).take 2) ≠ 0x8808 ∧
    lineMode 3 lane ≠ 4 ∧ stOf 3 lane ≠ stCompat ∧ getF 3 (.en .STREAM) lane = 1 ∧ 64 ≤ (eth 64 true).bytes.length ∧
    (eth 64 true).bytes.length ≤ 16000 ∧ (streamOf 3 (classify 3 (eth 64 true).bytes lane) lane).st = 1 ∧ (streamOf 3
    (classify 3 (eth 64 true).bytes lane) lane).cfg.fixed = false ∧ queueBytes (classQ (lane.port 3) (streamOf 3
    (classify 3 (eth 64 true).bytes lane) lane).cfg.cls) + (eth 64 true).bytes.length ≤ 32768 := by
  unfold Live; decide +kernel

theorem wit_FramesEnterTheLayby_8 :
    Live 3 queued ∧ (classQ (queued.port 3) 2).head? = some waiting ∧ mayAdmit 3 queued = true ∧ hasOpen (queued.port
    3) waiting.stream = false ∧ canTake 3 waiting.stream queued = true ∧ disableMeetsStream 3 waiting.stream queued =
    false ∧ destOf 3 waiting.stream queued ≠ 31 := by
  unfold Live; decide +kernel

theorem wit_FramesEnterTheLayby_9 :
    Live 3 (held1 .sent 0) ∧ ((held1 .sent 0).port 3).cws.find? (fun v => v.node == 0 && v.cls == 2 && v.ms == 0) =
    some (txc .sent) ∧ ((held1 .sent 0).port 3).notices.length < 1024 ∧ ackMeets 3 (txc .sent) (held1 .sent 0) = false := by
  unfold Live; decide +kernel

theorem wit_FramesEnterTheLayby_10 :
    Live 3 (held1 .sent 1) ∧ ((held1 .sent 1).port 3).cws.find? (fun v => v.node == 0 && v.cls == 2 && v.ms == (pmsOf
    3 0 2 (held1 .sent 1)).txAck && v.st != .queued) = some (txc .sent) ∧ 0 < (pmsOf 3 0 2 (held1 .sent 1)).tailRun ∧
    (txc .sent).sends < triesOf (streamOf 3 (txc .sent).stream (held1 .sent 1)) := by
  unfold Live; decide +kernel

theorem wit_FramesEnterTheLayby_11 :
    Live 3 pressed ∧ laneUp 3 pressed = true ∧ rwF 3 .HOST_PFC_EN pressed = 1 ∧ getF 3 .STREAM_PRESSURE pressed ≠ 0 := by
  unfold Live; decide +kernel

/-! ### FramesLeaveTheLayby -/

theorem wit_FramesLeaveTheLayby_1 :
    Live 3 decoding ∧ (decoding.port 3).sig.dq = [dq0] ∧ (decoding.port 3).sig.noticeHeld = [] ∧ cwBad.converged =
    false ∧ cwGood.converged = true ∧ cwGood.iterations ≤ iterLimit 3 decoding ∧ cwCrcOk cwGood.info = true ∧
    cwCrc.converged = true ∧ cwCrc.iterations ≤ iterLimit 3 decoding ∧ cwCrcOk cwCrc.info = false := by
  unfold Live; decide +kernel

theorem wit_FramesLeaveTheLayby_2 :
    (lane.port 3).sig.dq = [] := by
  decide +kernel

theorem wit_FramesLeaveTheLayby_3 :
    Live 3 gapped ∧ inShow 3 gapped = true ∧ (pmsOf 3 0 2 gapped).rxAny = true ∧ msBelow 2 (pmsOf 3 0 2 gapped).rxHigh
    = true ∧ resolved (gapped.port 3) 0 2 (pmsOf 3 0 2 gapped).rxA 2 = false := by
  unfold Live; decide +kernel

theorem wit_FramesLeaveTheLayby_4 :
    Live 3 (arrived 1) ∧ isSpur 3 (arrived 1) = false ∧ stOf 3 (arrived 1) ≠ stCompat ∧ releasable 3 0 7 (arrived 1) =
    some (rxc, List.replicate 64 9, [0], 0) ∧ getF 3 .HOST_LB_ACTIVE (arrived 1) = 0 ∧ laneUp 3 (arrived 1) = true ∧
    rxc.cls < ((arrived 1).port 3).lane.egress.length ∧ ((((arrived 1).port 3).lane.egress.getD rxc.cls []).map fun f
    => f.2.length).sum + (List.replicate 64 9).length ≤ 20480 := by
  unfold Live; decide +kernel

theorem wit_FramesLeaveTheLayby_5 :
    Live 3 (arrived 0) ∧ isSpur 3 (arrived 0) = false ∧ stOf 3 (arrived 0) ≠ stCompat ∧ releasable 3 0 7 (arrived 0) =
    some (rxc, List.replicate 64 9, [0], 0) ∧ getF 3 .HOST_LB_ACTIVE (arrived 0) = 0 ∧ laneUp 3 (arrived 0) = false := by
  unfold Live; decide +kernel

theorem wit_FramesLeaveTheLayby_5b :
    Live 3 laneCompat ∧ stOf 3 laneCompat = stCompat ∧ getF 3 .LINKUP_T1_LINK laneCompat = 1 ∧ getF 3 .HOST_LB_ACTIVE
    laneCompat = 0 ∧ laneUp 3 laneCompat = true ∧ 0 < (laneCompat.port 3).lane.egress.length ∧ (((laneCompat.port
    3).lane.egress.getD 0 []).map fun f => f.2.length).sum + 64 ≤ 20480 := by
  unfold Live; decide +kernel

theorem wit_FramesLeaveTheLayby_6 :
    isSpur 3 lane = false ∧ stOf 3 lane ≠ stCompat ∧ releasable 3 0 7 lane = none := by
  decide +kernel

theorem wit_FramesLeaveTheLayby_7 :
    Live 3 egress ∧ laneUp 3 egress = true ∧ (egress.port 3).lane.egFixed = [[1, 2, 3]] := by
  unfold Live; decide +kernel

theorem wit_FramesLeaveTheLayby_8 :
    (paused.port 3).lane.egFixed = [] ∧ getF 3 .HOST_PAUSED paused = 255 := by
  decide +kernel

theorem wit_FramesLeaveTheLayby_9 :
    clocked egHeld = false := by
  decide +kernel

/-! ### HostLanesServeTheHost -/

theorem wit_HostLanesServeTheHost_1 :
    Live 3 laneDown ∧ laneUp 3 laneDown = false ∧ getF 3 (.en .HOST) laneDown = 1 ∧ domainOn (30 + 3) laneDown = true
    ∧ getF 3 .HOST_HOST_RATE laneDown ≠ 0 := by
  unfold Live; decide +kernel

theorem wit_HostLanesServeTheHost_2 :
    Live 3 egress ∧ laneUp 3 egress = true := by
  unfold Live; decide +kernel

theorem wit_HostLanesServeTheHost_2b :
    Live 3 (sf 3 [(.HOST_FEC_EN, 1)] near) ∧ laneUp 3 (sf 3 [(.HOST_FEC_EN, 1)] near) = true ∧ getF 3 .HOST_LB_ACTIVE
    (sf 3 [(.HOST_FEC_EN, 1)] near) = 1 ∧ getF 3 .HOST_HOST_RATE (sf 3 [(.HOST_FEC_EN, 1)] near) = 1 ∧ rwF 3
    .HOST_FEC_EN (sf 3 [(.HOST_FEC_EN, 1)] near) = 1 := by
  unfold Live; decide +kernel

theorem wit_HostLanesServeTheHost_3 :
    Live 3 lane ∧ laneUp 3 lane = true ∧ getF 3 .HOST_LB_ACTIVE lane ≠ 1 ∧ rwF 3 .HOST_RX_FC_EN lane = 1 ∧ (([9] :
    List (BitVec 16)).map (·.toNat)).headD 0 ≠ 0 := by
  unfold Live; decide +kernel

theorem wit_HostLanesServeTheHost_4 :
    Live 3 lane ∧ takesInband 3 lane = true ∧ ibGood 2 1 [] = false := by
  unfold Live; decide +kernel

theorem wit_HostLanesServeTheHost_5 :
    Live 3 lane ∧ takesInband 3 lane = true ∧ Quiet lane ∧ (lane.port 3).lane.ib = [] ∧ 7 < 8 ∧ 16777215 < 2 ^ 24 ∧
    target 16777215 = .nothing := by
  unfold Live Quiet; decide +kernel

theorem wit_HostLanesServeTheHost_6 :
    Live 3 ibDone ∧ (ibDone.port 3).lane.ib = [ibq] ∧ ibq.done.length = ibq.count ∧ Quiet ibDone ∧ laneUp 3 ibDone =
    true := by
  unfold Live Quiet; decide +kernel

theorem wit_HostLanesServeTheHost_7 :
    1 ≤ 1 ∧ 1 ≤ 4 ∧ Sets (ask 1 3 .HOST_LB_MODE 1 loopable) 3 .HOST_LB_MODE 1 loopable ∧ getF 3 .HOST_LB_ACTIVE
    loopable = 0 ∧ mayLoop 3 1 loopable = true ∧ retrainMeets 3 loopable = false := by
  unfold Sets Writes Quiet Clocked Changes; decide +kernel

theorem wit_HostLanesServeTheHost_8 :
    1 ≤ 2 ∧ 2 ≤ 4 ∧ Sets (ask 1 3 .HOST_LB_MODE 2 loopable) 3 .HOST_LB_MODE 2 loopable ∧ getF 3 .HOST_LB_ACTIVE
    loopable = 0 ∧ mayLoop 3 2 loopable = true ∧ retrainMeets 3 loopable = false := by
  unfold Sets Writes Quiet Clocked Changes; decide +kernel

theorem wit_HostLanesServeTheHost_9 :
    1 ≤ 3 ∧ 3 ≤ 4 ∧ Sets (ask 1 3 .HOST_LB_MODE 3 loopable) 3 .HOST_LB_MODE 3 loopable ∧ getF 3 .HOST_LB_ACTIVE
    loopable = 0 ∧ mayLoop 3 3 loopable = true ∧ retrainMeets 3 loopable = false := by
  unfold Sets Writes Quiet Clocked Changes; decide +kernel

theorem wit_HostLanesServeTheHost_10 :
    1 ≤ 4 ∧ 4 ≤ 4 ∧ Sets (ask 1 3 .HOST_LB_MODE 4 loopable) 3 .HOST_LB_MODE 4 loopable ∧ getF 3 .HOST_LB_ACTIVE
    loopable = 0 ∧ mayLoop 3 4 loopable = false := by
  unfold Sets Writes Quiet Clocked Changes; decide +kernel

theorem wit_HostLanesServeTheHost_11 :
    StartsAt (ask 1 3 .TSU_TX_POP 1 stamped) 3 .TSU_TX_POP stamped := by
  unfold StartsAt Starts Writes Quiet Clocked AsksStart; decide +kernel

theorem wit_HostLanesServeTheHost_12 :
    StartsAt (ask 1 3 .TSU_RX_POP 1 stamped) 3 .TSU_RX_POP stamped := by
  unfold StartsAt Starts Writes Quiet Clocked AsksStart; decide +kernel

theorem wit_HostLanesServeTheHost_13 :
    Reads (acc 2 0) .TSU 3 0x030 stamped := by
  unfold Reads Quiet Clocked; decide +kernel

theorem wit_HostLanesServeTheHost_14 :
    Reads (acc 2 0) .TSU 3 0x050 stamped := by
  unfold Reads Quiet Clocked; decide +kernel

theorem wit_HostLanesServeTheHost_15 :
    Sets (ask 1 3 (.en .TSU) 0 stamped) 3 (.en .TSU) 0 stamped ∧ getF 3 (.en .TSU) stamped = 1 ∧ getF 3 (.lock .TSU)
    stamped ≠ 1 := by
  unfold Sets Writes Quiet Clocked Changes; decide +kernel

/-! ### SpurReceiversAcquireBursts -/

theorem wit_SpurReceiversAcquireBursts_1 :
    Live 3 (acq 0 false) ∧ detects 3 (acq 0 false) = true ∧ ((acq 0 false).port 3).spur.acq.st = 0 := by
  unfold Live; decide +kernel

theorem wit_SpurReceiversAcquireBursts_1b :
    Live 3 (acq 4 false) ∧ detects 3 (acq 4 false) = true ∧ ((acq 4 false).port 3).spur.acq.st = 4 := by
  unfold Live; decide +kernel

theorem wit_SpurReceiversAcquireBursts_1c :
    Live 3 (sleeping 1) ∧ stOf 3 (sleeping 1) = stQuiet ∧ ((sleeping 1).port 3).spur.acq.late = false ∧ ((sleeping
    1).port 3).spur.acq.st = 1 := by
  unfold Live; decide +kernel

theorem wit_SpurReceiversAcquireBursts_1d :
    Live 3 (sleeping 2) ∧ stOf 3 (sleeping 2) = stQuiet ∧ ((sleeping 2).port 3).spur.acq.late = false ∧ ((sleeping
    2).port 3).spur.acq.st = 2 ∧ riseMeets 3 (sleeping 2) = false := by
  unfold Live; decide +kernel

theorem wit_SpurReceiversAcquireBursts_2 :
    Live 3 (acq 1 false) ∧ spurOn 3 (acq 1 false) = true ∧ ((acq 1 false).port 3).spur.acq.st = 1 := by
  unfold Live; decide +kernel

theorem wit_SpurReceiversAcquireBursts_3 :
    Live 3 (acq 2 false) ∧ spurOn 3 (acq 2 false) = true ∧ ((acq 2 false).port 3).spur.acq.st = 2 ∧ ((acq 2
    false).port 3).spur.acq.late = false ∧ riseMeets 3 (acq 2 false) = false ∧ syncMeets 3 (acq 2 false) = false := by
  unfold Live; decide +kernel

theorem wit_SpurReceiversAcquireBursts_4 :
    Live 3 (acq 2 true) ∧ spurOn 3 (acq 2 true) = true ∧ ((acq 2 true).port 3).spur.acq.st = 2 ∧ ((acq 2 true).port
    3).spur.acq.late = true ∧ 2047 < 2048 := by
  unfold Live; decide +kernel

theorem wit_SpurReceiversAcquireBursts_5 :
    Live 3 (acq 1 true) ∧ spurOn 3 (acq 1 true) = true ∧ ((acq 1 true).port 3).spur.acq.st = 1 ∧ ((acq 1 true).port
    3).spur.acq.late = true := by
  unfold Live; decide +kernel

theorem wit_SpurReceiversAcquireBursts_6 :
    Live 3 (acq 3 true) ∧ spurOn 3 (acq 3 true) = true ∧ ((acq 3 true).port 3).spur.acq.st = 3 ∧ endMeets 3 (acq 3
    true) = false := by
  unfold Live; decide +kernel

theorem wit_SpurReceiversAcquireBursts_7 :
    Live 3 (acq 3 true) ∧ spurOn 3 (acq 3 true) = true ∧ ((acq 3 true).port 3).spur.acq.st = 3 ∧ ((acq 3 true).port
    3).spur.acq.hdr = none ∧ 3 ≤ (hdr 3 2 0).kind := by
  unfold Live; decide +kernel

theorem wit_SpurReceiversAcquireBursts_8 :
    Live 3 scheduled ∧ spurOn 3 scheduled = true ∧ (scheduled.port 3).spur.acq.st = 3 ∧ (scheduled.port
    3).spur.acq.hdr = none ∧ (hdr 0 2 0).kind < 3 ∧ breaksSchedule 3 4 (hdr 0 2 0) scheduled = true := by
  unfold Live; decide +kernel

theorem wit_SpurReceiversAcquireBursts_9 :
    Live 3 (acq 3 false) ∧ spurOn 3 (acq 3 false) = true ∧ ((acq 3 false).port 3).spur.acq.st = 3 ∧ ((acq 3
    false).port 3).spur.acq.hdr = none ∧ (hdr 0 2 0).kind < 3 ∧ breaksSchedule 3 4 (hdr 0 2 0) (acq 3 false) = false := by
  unfold Live; decide +kernel

theorem wit_SpurReceiversAcquireBursts_10 :
    Live 3 (received { hdr 0 2 0 with kind := 7 }) ∧ spurOn 3 (received { hdr 0 2 0 with kind := 7 }) = true ∧
    ((received { hdr 0 2 0 with kind := 7 }).port 3).spur.acq.st = 3 ∧ ((received { hdr 0 2 0 with kind := 7 }).port
    3).spur.acq.hdr = some { hdr 0 2 0 with kind := 7 } := by
  unfold Live; decide +kernel

theorem wit_SpurReceiversAcquireBursts_11 :
    Live 3 (receiving 200) ∧ spurOn 3 (receiving 200) = true ∧ ((receiving 200).port 3).spur.acq.st = 3 ∧ ((receiving
    200).port 3).spur.acq.hdr = some (hdr 0 2 200) ∧ (hdr 0 2 200).kind = 0 ∧ (hdr 0 2 200).len ≠ 0 ∧ spurShow 3
    (receiving 200) = true ∧ (hdr 0 2 200).dest = ownNode 3 (receiving 200) ∧ rxLoads 3 (hdr 0 2 200).sender (hdr 0 2
    200).dest (hdr 0 2 200).tableGen (receiving 200) = none := by
  unfold Live; decide +kernel

theorem wit_SpurReceiversAcquireBursts_12 :
    Live 3 receivingTab ∧ spurOn 3 receivingTab = true ∧ (receivingTab.port 3).spur.acq.st = 3 ∧ (receivingTab.port
    3).spur.acq.hdr = some (hdr 0 2 5) ∧ (hdr 0 2 5).kind = 0 ∧ (hdr 0 2 5).len ≠ 0 ∧ spurShow 3 receivingTab = true ∧
    (hdr 0 2 5).dest = ownNode 3 receivingTab ∧ rxLoads 3 (hdr 0 2 5).sender (hdr 0 2 5).dest (hdr 0 2 5).tableGen
    receivingTab = some rxLoad ∧ 2 = (hdr 0 2 5).len * loadSum rxLoad / 2304 ∧ dqWaiting 3 receivingTab + 2 ≤ 256 := by
  unfold Live; decide +kernel

/-! ### SpurMembersFollowTheSchedule -/

theorem wit_SpurMembersFollowTheSchedule_1 :
    Live 3 (spur 2 stSpListen) ∧ stOf 3 (spur 2 stSpListen) = stSpListen ∧ lineMode 3 (spur 2 stSpListen) = 2 := by
  unfold Live; decide +kernel

theorem wit_SpurMembersFollowTheSchedule_2 :
    Live 3 (spur 3 stSpListen) ∧ stOf 3 (spur 3 stSpListen) = stSpListen ∧ lineMode 3 (spur 3 stSpListen) = 3 := by
  unfold Live; decide +kernel

theorem wit_SpurMembersFollowTheSchedule_3 :
    Live 3 (missing 0 none) ∧ stOf 3 (missing 0 none) = stSpGate ∧ getF 3 .TXSH_MUTED (missing 0 none) ≠ 1 := by
  unfold Live; decide +kernel

theorem wit_SpurMembersFollowTheSchedule_4 :
    Live 3 (spur 2 stSpGate) ∧ lineMode 3 (spur 2 stSpGate) = 2 ∧ stOf 3 (spur 2 stSpGate) = stSpGate := by
  unfold Live; decide +kernel

theorem wit_SpurMembersFollowTheSchedule_5 (r : Nat) :
    Live 3 knocking ∧ lineMode 3 knocking ≠ 2 ∧ stOf 3 knocking = stSpKnock ∧ [Welcome.mk ownUid 1 r].find? (fun w =>
    w.uid == ownUid) = some ⟨ownUid, 1, r⟩ :=
  ⟨by unfold Live; decide +kernel, by decide +kernel, by decide +kernel, by simp⟩

theorem wit_SpurMembersFollowTheSchedule_6 :
    Live 3 member1 ∧ lineMode 3 member1 ≠ 2 ∧ stOf 3 member1 = stSpMember ∧ bitOf (sched 1).members (ownNode 3
    member1) = false := by
  unfold Live; decide +kernel

theorem wit_SpurMembersFollowTheSchedule_7 :
    Live 3 (member 200) ∧ lineMode 3 (member 200) ≠ 2 ∧ stOf 3 (member 200) = stSpMember ∧ latched 3
    .ROUNDABOUT_MISS_LIMIT (member 200) ≤ ((member 200).port 3).spur.missRun + 1 := by
  unfold Live; decide +kernel

theorem wit_SpurMembersFollowTheSchedule_8 :
    Live 3 (member 0) ∧ lineMode 3 (member 0) ≠ 2 ∧ stOf 3 (member 0) = stSpMember ∧ ((member 0).port 3).spur.missRun
    + 1 < latched 3 .ROUNDABOUT_MISS_LIMIT (member 0) := by
  unfold Live; decide +kernel

theorem wit_SpurMembersFollowTheSchedule_9 :
    Live 3 scheduled ∧ spurShow 3 scheduled = true ∧ grantAt 3 4 scheduled = some grant6 ∧ 2 ≤ grant6.len ∧ getF 3
    .TXSH_MUTED scheduled ≠ 1 := by
  unfold Live; decide +kernel

theorem wit_SpurMembersFollowTheSchedule_10 :
    Live 3 scheduled ∧ spurShow 3 scheduled = true ∧ grantAt 3 5 scheduled = none := by
  unfold Live; decide +kernel

theorem wit_SpurMembersFollowTheSchedule_11 :
    Live 3 (missing 0 none) ∧ stOf 3 (missing 0 none) = stSpGate ∧ (5 : Fin 16).val ≠ 0 ∧ bitOf (getF 3
    .ROUNDABOUT_MEMBERS (missing 0 none)) 5 = true ∧ (nodeOf 3 5 (missing 0 none)).knockAt = none ∧ (nodeOf 3 5
    (missing 0 none)).misses + 1 < latched 3 .ROUNDABOUT_MISS_LIMIT (missing 0 none) := by
  unfold Live; decide +kernel

theorem wit_SpurMembersFollowTheSchedule_12 :
    Live 3 (missing 200 none) ∧ stOf 3 (missing 200 none) = stSpGate ∧ (5 : Fin 16).val ≠ 0 ∧ bitOf (getF 3
    .ROUNDABOUT_MEMBERS (missing 200 none)) 5 = true ∧ (nodeOf 3 5 (missing 200 none)).knockAt = none ∧ latched 3
    .ROUNDABOUT_MISS_LIMIT (missing 200 none) ≤ (nodeOf 3 5 (missing 200 none)).misses + 1 := by
  unfold Live; decide +kernel

theorem wit_SpurMembersFollowTheSchedule_12b :
    Live 3 (missing 0 (some (0, 200))) ∧ stOf 3 (missing 0 (some (0, 200))) = stSpGate ∧ (5 : Fin 16).val ≠ 0 ∧ bitOf
    (getF 3 .ROUNDABOUT_MEMBERS (missing 0 (some (0, 200)))) 5 = true ∧ (nodeOf 3 5 (missing 0 (some (0,
    200)))).knockAt = some ((missing 0 (some (0, 200))).cycles, 200) ∧ latched 3 .ROUNDABOUT_MISS_LIMIT (missing 0
    (some (0, 200))) ≤ 200 + 1 := by
  unfold Live; decide +kernel

theorem wit_SpurMembersFollowTheSchedule_13 :
    Live 3 knocking ∧ stOf 3 knocking = stSpKnock ∧ (knocking.port 3).spur.haveSched = true ∧ (knocking.port
    3).spur.answer = false ∧ (knocking.port 3).spur.backoff = 0 ∧ getF 3 .TXSH_MUTED knocking ≠ 1 := by
  unfold Live; decide +kernel

theorem wit_SpurMembersFollowTheSchedule_14 :
    Live 3 (missing 0 none) ∧ stOf 3 (missing 0 none) = stSpGate ∧ (15 : Fin 16).val ≠ 0 ∧ bitOf (getF 3
    .ROUNDABOUT_MEMBERS (missing 0 none)) 15 = false := by
  unfold Live; decide +kernel

theorem wit_SpurMembersFollowTheSchedule_15 :
    Live 3 (missing 0 none) ∧ stOf 3 (missing 0 none) = stSpGate ∧ (5 : Fin 16).val ≠ 0 ∧ bitOf (getF 3
    .ROUNDABOUT_MEMBERS (missing 0 none)) 5 = true ∧ (nodeOf 3 5 (missing 0 none)).uid ≠ 9 := by
  unfold Live; decide +kernel

/-! ### SpurTablesAndNoise -/

theorem wit_SpurTablesAndNoise_1 :
    Live 3 (tabling true) ∧ 5 ≠ ownNode 3 (tabling true) ∧ spurOn 3 (tabling true) = true ∧ 0 = ownNode 3 (tabling
    true) := by
  unfold Live; decide +kernel

theorem wit_SpurTablesAndNoise_2 :
    Live 3 (tabling true) ∧ 5 ≠ ownNode 3 (tabling true) ∧ hasGrant 3 (tabling true) = true ∧ (nodeOf 3 5 (tabling
    true)).newTab = some tab3 ∧ getF 3 .TXSH_MUTED (tabling true) ≠ 1 ∧ (nodeOf 3 5 (tabling true)).dirty = true := by
  unfold Live; decide +kernel

theorem wit_SpurTablesAndNoise_3 :
    Live 3 (tabling false) ∧ 5 ≠ ownNode 3 (tabling false) ∧ hasGrant 3 (tabling false) = true ∧ (nodeOf 3 5 (tabling
    false)).newTab = some tab3 ∧ getF 3 .TXSH_MUTED (tabling false) ≠ 1 ∧ (nodeOf 3 5 (tabling false)).dirty = false ∧
    2 ≤ (((tabling false).port 3).spur.cycleNo + 2 ^ 32 - (nodeOf 3 5 (tabling false)).newTabCycle) % 2 ^ 32 := by
  unfold Live; decide +kernel

theorem wit_SpurTablesAndNoise_4 :
    Live 3 noisy ∧ 5 ≠ ownNode 3 noisy ∧ spurOn 3 noisy = true ∧ 0 < 64 ∧ mapGet (noisy.port 3).spur.noise 0 = some
    (160, 0) ∧ 15 * 160 + 32 = 16 * 152 := by
  unfold Live; decide +kernel

/-! ### CalibrationRunsAndSaves -/

theorem wit_CalibrationRunsAndSaves_1 :
    Live 3 calAble ∧ mayBg 3 calAble = true := by
  unfold Live; decide +kernel

theorem wit_CalibrationRunsAndSaves_2 :
    Live 3 bgRunning ∧ (bgRunning.port 3).cal.bgRun = true ∧ (-351 : Int) < -350 := by
  unfold Live; decide +kernel

theorem wit_CalibrationRunsAndSaves_3 :
    Live 3 bgRunning ∧ (bgRunning.port 3).cal.bgRun = true ∧ unfitReason (-350) 300 false 5 100 = 0 ∧ (bgRunning.port
    3).sig.paused = false ∧ (bgRunning.port 3).cal.bgPaused = false ∧ 31 < 32 ∧ bgRunning.nvm.portMarks = [] ∧
    trimInRange (31, 8, 16, -10) = true ∧ trimInStep (31, 8, 16, -10) (mapGetD (bgRunning.port 3).cal.trims 31 0) =
    true := by
  unfold Live; decide +kernel

theorem wit_CalibrationRunsAndSaves_4 :
    StartsAt (ask 1 3 .CAL_HYB_RECAL 1 calAble) 3 .CAL_HYB_RECAL calAble ∧ mayHyb 3 calAble = true ∧ (calAble.port
    3).rc.todo = [] := by
  unfold StartsAt Starts Writes Quiet Clocked AsksStart; decide +kernel

theorem wit_CalibrationRunsAndSaves_5 :
    StartsAt (ask 1 3 .CAL_HYB_RECAL 1 (port stCap)) 3 .CAL_HYB_RECAL (port stCap) ∧ mayHyb 3 (port stCap) = false := by
  unfold StartsAt Starts Writes Quiet Clocked AsksStart; decide +kernel

theorem wit_CalibrationRunsAndSaves_6 :
    Live 3 hybRunning ∧ (hybRunning.port 3).rc.pauseOwn = true ∧ getF 3 .CAL_HYB_RECAL hybRunning = 1 ∧ retrainMeets 3
    hybRunning = false ∧ (10 : Int) ≤ 10 ∧ (9 : Int) < 10 := by
  unfold Live; decide +kernel

theorem wit_CalibrationRunsAndSaves_7 :
    Starts (ask 1 0 .NVMC_SAVE 1 live) 0 .NVMC_SAVE live ∧ getF 0 .RSTC_STRAP_WP live ≠ 1 ∧ ∀ k < 8, fullRuns k live =
    false := by
  unfold Starts Writes Quiet Clocked AsksStart; decide +kernel

theorem wit_CalibrationRunsAndSaves_8 :
    Starts (ask 1 0 .NVMC_SAVE 1 protected_) 0 .NVMC_SAVE protected_ ∧ getF 0 .RSTC_STRAP_WP protected_ = 1 := by
  unfold Starts Writes Quiet Clocked AsksStart; decide +kernel

theorem wit_CalibrationRunsAndSaves_9 :
    saving.nvm.saving = some set2 ∧ getF 0 .NVMC_SAVE saving = 1 ∧ gateWants 2 saving = true ∧ domainOn 2 saving =
    true := by
  decide +kernel

/-! ### UpsetsAreScrubbedAndReported -/

theorem wit_UpsetsAreScrubbedAndReported_1 :
    (Blk.PORT_CTL, 3) ∈ allBlks ∧ Fld.lock .PORT_CTL ∈ blkFlds (Blk.PORT_CTL, 3).1 ∧ (Fld.lock .PORT_CTL).tmr = true := by
  decide +kernel

theorem wit_UpsetsAreScrubbedAndReported_2 :
    Live 3 (held1 .sent 0) ∧ domainOn (10 + pavOf 3) (held1 .sent 0) = true ∧ ((held1 .sent 0).port 3).cws.find? (fun
    v => v.node == 0 && v.cls == 2 && v.ms == 0) = some (txc .sent) ∧ ((held1 .sent 0).port 3).notices.length < 1024 := by
  unfold Live; decide +kernel

theorem wit_UpsetsAreScrubbedAndReported_3 :
    Starts (ask 1 1 .LAYBY_PEAK_CLR 1 live) 1 .LAYBY_PEAK_CLR live := by
  unfold Starts Writes Quiet Clocked AsksStart; decide +kernel

theorem wit_UpsetsAreScrubbedAndReported_4 :
    Rail.core ∈ [Rail.core, Rail.nvm] ∧ live.clk.episode = false := by
  decide +kernel

/-! ### LineEventsTouchTheirPortAlone -/

theorem wit_LineEventsTouchTheirPortAlone_1 :
    linePort (.hsListenTimeout 3) = some 3 ∧ ∃ t, exec (.hsListenTimeout 3) (port stListen) = .next t :=
  ⟨rfl, _, rfl⟩

end Sys2Proof.Tests
end

section
/-! SUPPORT. The keys of the register file: every field lies in the page of its block, pages of blocks and fields of a
page are apart, so that a key names one field of one unit. -/

namespace Sys2Proof.Machine

/-! ### Fields of a block map -/

/-- Settles O3: the 41 maps are finite tables, each checked by evaluating it. -/
theorem fieldsShareNoBit : Obligations.FieldsShareNoBit := by
  intro b
  cases b <;> decide +kernel

/-- A field of a map names its block and begins in its first word. -/
theorem blkFlds_blk_lo {b : Blk} {f : Fld} (h : f ∈ blkFlds b) : f.blk = b ∧ f.lo < 32 := by
  have all : ∀ g ∈ blkFlds b, g.blk = b ∧ g.lo < 32 := by cases b <;> decide +kernel
  exact all f h

/-- Two fields of a map that begin at one bit of one word are one field. -/
theorem blkFlds_eq_of_off_lo {b : Blk} {f g : Fld} (hf : f ∈ blkFlds b) (hg : g ∈ blkFlds b) (ho : f.off = g.off)
    (hl : f.lo = g.lo) : f = g := by
  obtain ⟨apart, fits⟩ := fieldsShareNoBit b
  have symm : Std.Symm fun f g : Fld => f.off = g.off → f.lo + f.width ≤ g.lo ∨ g.lo + g.width ≤ f.lo :=
    ⟨fun _ _ h e => (h e.symm).symm⟩
  by_contra hne
  have := apart.forall hf hg hne ho
  have := (fits f hf).1
  have := (fits g hg).1
  omega

/-! ### Pages -/

/-- The page of a key: the 4 KiB of addresses that its word lies in. -/
def keyPage (k : Nat) : Nat := k / (32 * 4096)

/-- The page of a block. -/
def blkPage (b : Blk) (u : Nat) : Nat :=
  (match (blkPlace b).1 with
    | .device => 0
    | .lodge => 0x100
    | .pavilion => (2 + u) * 0x100
    | .port => (8 + u) * 0x100) + (blkPlace b).2

theorem blkBase_eq_page (b : Blk) (u : Nat) : blkBase b u = 4096 * blkPage b u := by
  unfold blkPage blkBase
  cases (blkPlace b).1 <;> dsimp only <;> ring

theorem blkPage_port {b : Blk} (h : (blkPlace b).1 = .port) (u : Nat) : blkPage b u = (8 + u) * 0x100 + (blkPlace b).2 := by
  simp [blkPage, h]

theorem blkPage_pavilion {b : Blk} (h : (blkPlace b).1 = .pavilion) (u : Nat) :
    blkPage b u = (2 + u) * 0x100 + (blkPlace b).2 := by
  simp [blkPage, h]

/-- The key of a field, by page and place in the page. -/
theorem key_eq (u : Nat) (f : Fld) : f.key u = blkPage f.blk u * (32 * 4096) + (f.off * 32 + f.lo) := by
  unfold Fld.key Fld.addr
  rw [blkBase_eq_page]
  ring

/-- The key of a field that begins inside its block's 4 KiB lies in its block's page. -/
theorem keyPage_key {u : Nat} {f : Fld} (h : f.off * 32 + f.lo < 32 * 4096) : keyPage (f.key u) = blkPage f.blk u := by
  rw [key_eq, keyPage]
  omega

theorem keyPage_key_of_mem {b : Blk} {f : Fld} (u : Nat) (h : f ∈ blkFlds b) : keyPage (f.key u) = blkPage b u := by
  obtain ⟨hb, hl⟩ := blkFlds_blk_lo h
  obtain ⟨-, h4, ho, -⟩ := (fieldsShareNoBit b).2 f h
  rw [keyPage_key (by omega), hb]

/-- No two blocks of the device share a page. -/
theorem allBlks_page_inj {x y : Blk × Nat} (hx : x ∈ allBlks) (hy : y ∈ allBlks) (h : blkPage x.1 x.2 = blkPage y.1 y.2) :
    x = y := by
  have apart : (allBlks.map fun x => blkPage x.1 x.2).Nodup := by decide +kernel
  exact List.inj_on_of_nodup_map apart hx hy h

/-- A key names one field of one unit. -/
theorem key_inj {x y : Blk × Nat} {f g : Fld} (hx : x ∈ allBlks) (hy : y ∈ allBlks) (hf : f ∈ blkFlds x.1)
    (hg : g ∈ blkFlds y.1) (h : f.key x.2 = g.key y.2) : x = y ∧ f = g := by
  have hxy : x = y := allBlks_page_inj hx hy (by rw [← keyPage_key_of_mem x.2 hf, h, keyPage_key_of_mem y.2 hg])
  subst hxy
  obtain ⟨hfb, hfl⟩ := blkFlds_blk_lo hf
  obtain ⟨hgb, hgl⟩ := blkFlds_blk_lo hg
  rw [key_eq, key_eq, hfb, hgb] at h
  exact ⟨rfl, blkFlds_eq_of_off_lo hf hg (by omega) (by omega)⟩

/-! ### The register file -/

/-- A field written by a list of writes, as the last write to it leaves it. -/
theorem getF_foldl_setF {x : Blk × Nat} {g : Fld} (hx : x ∈ allBlks) (hg : g ∈ blkFlds x.1) (s : State)
    (ws : List ((Blk × Nat) × Fld × Nat)) (h : ∀ w ∈ ws, w.1 ∈ allBlks ∧ w.2.1 ∈ blkFlds w.1.1) :
    getF x.2 g (ws.foldl (fun a w => setF w.1.2 w.2.1 w.2.2 a) s) =
      match (ws.filter fun w => w.1 == x && w.2.1 == g).getLast? with
      | some w => w.2.2 % 2 ^ g.width
      | none => getF x.2 g s := by
  induction ws using List.reverseRecOn with
  | nil => rfl
  | append_singleton ws w ih =>
    obtain ⟨hw, hwf⟩ := h w (by simp)
    rw [List.foldl_concat, List.filter_append]
    by_cases e : w.1 = x ∧ w.2.1 = g
    · obtain ⟨rfl, rfl⟩ := e
      simp
    · have hk : g.key x.2 ≠ w.2.1.key w.1.2 := fun k => by
        obtain ⟨rfl, rfl⟩ := key_inj hx hw hg hwf k
        exact e ⟨rfl, rfl⟩
      have hd : ([w].filter fun w => w.1 == x && w.2.1 == g) = [] := by simpa using e
      rw [getF_setF_other _ _ hk, hd, List.append_nil, ih fun v hv => h v (by simp [hv])]

/-- Settles O2: the last write to a key decides, and a key names one field. -/
theorem registerFileIndependent : Obligations.RegisterFileIndependent :=
  fun ws _ _ s h hx hg => getF_foldl_setF hx hg s ws h

end Sys2Proof.Machine
end

section
/-! SUPPORT. Words of byte memory. -/

namespace Sys2Proof.Machine

/-- The four bytes of a stored word, most significant first. -/
theorem readByte_writeWord_same (m : Memory) (a w : Nat) {i : Nat} (h : i < 4) :
    readByte (writeWord m a w) (a + i) = BitVec.ofNat 8 (w / 2 ^ (8 * (3 - i))) := by
  unfold writeWord
  match i, h with
  | 0, _ | 1, _ | 2, _ =>
    repeat rw [readByte_writeByte_other _ _ (by omega)]
    simp
  | 3, _ => simp

/-- A stored word is read back. -/
theorem readWord_writeWord_same (m : Memory) (a : Nat) {w : Nat} (h : w < 2 ^ 32) :
    readWord (writeWord m a w) a = w := by
  have l : (List.range 4).map (fun i => readByte (writeWord m a w) (a + i)) =
      (List.range 4).map fun i => BitVec.ofNat 8 (w / 2 ^ (8 * (3 - i))) :=
    List.map_congr_left fun i hi => readByte_writeWord_same m a w (List.mem_range.mp hi)
  unfold readWord
  rw [l]
  simp [List.range_succ, beNat]
  omega

/-- Settles O7: bytes and words of memory one by one. -/
theorem memoryReadsBackBigEndian : Obligations.MemoryReadsBackBigEndian :=
  ⟨fun m a b h => ⟨writeByte_wf a b h, readByte_writeByte_same m a b, fun _ hx => readByte_writeByte_other m b hx⟩,
    fun m a w h => ⟨readWord_writeWord_same m a h, fun _ hi => readByte_writeWord_same m a w hi,
      fun _ hx => readByte_writeWord_other m w hx⟩⟩

end Sys2Proof.Machine
end

section
/-! SUPPORT. What lies outside a port: `outside p` holds everything that an event on the line or host lane of port `p` must
not reach. Each operation of the model that keeps to its port gets one equation, `outside p (op p … s) = outside p s`, tagged
for `simp`, so that the equation of an operation follows from those of the operations it calls (O59). -/

namespace Sys2Proof.Machine

/-! ### Pages of a port -/

/-- The pages that an event of port `p` may write: CHAIN, LODGE, the port's own, and DECPOOL, ENGPOOL and LAYBY of its
pavilion. -/
def ownPage (p g : Nat) : Bool :=
  g == 0x002 || g == 0x100 || g / 0x100 == 8 + p || (g / 0x100 == 2 + pavOf p && [1, 2, 3].contains (g % 0x100))

/-- A block of a port. -/
def isPortBlk (b : Blk) : Bool := portBlks.contains b

/-- A pool or the lay-by of a pavilion. -/
def isPoolBlk (b : Blk) : Bool := [Blk.DECPOOL, .ENGPOOL, .LAYBY].contains b

/-- A block that an event of port `p` may write. -/
def OwnBlk (p u : Nat) (b : Blk) : Prop := (u = p ∧ isPortBlk b) ∨ (u = pavOf p ∧ isPoolBlk b)

/-- A field lies, with its ABORT_LATE and OUTCOME, in the 4 KiB of its block. -/
def Fld.inBlk (f : Fld) : Bool := f.off * 32 + f.lo + 4 < 32 * 4096

/-- A field of a port's block. -/
def Fld.inPort (f : Fld) : Bool := isPortBlk f.blk && f.inBlk

/-- A field of a pavilion's pools or lay-by. -/
def Fld.inPav (f : Fld) : Bool := isPoolBlk f.blk && f.inBlk

/-- A field that an event of port `p` may write. -/
def OwnFld (p u : Nat) (f : Fld) : Prop := (u = p ∧ f.inPort) ∨ (u = pavOf p ∧ f.inPav)

@[simp] theorem ownBlk_iff (p u : Nat) (b : Blk) : OwnBlk p u b ↔ (u = p ∧ isPortBlk b) ∨ (u = pavOf p ∧ isPoolBlk b) := .rfl

@[simp] theorem ownFld_iff (p u : Nat) (f : Fld) : OwnFld p u f ↔ (u = p ∧ f.inPort) ∨ (u = pavOf p ∧ f.inPav) := .rfl

/-- A port's blocks, and a pavilion's pools and lay-by, by place and number. -/
theorem blkPlace_of_isPortBlk {b : Blk} (h : isPortBlk b) : (blkPlace b).1 = .port ∧ (blkPlace b).2 < 0x100 := by
  cases b <;> simp_all [isPortBlk, portBlks, blkPlace]

theorem blkPlace_of_isPoolBlk {b : Blk} (h : isPoolBlk b) :
    (blkPlace b).1 = .pavilion ∧ ((blkPlace b).2 = 1 ∨ (blkPlace b).2 = 2 ∨ (blkPlace b).2 = 3) := by
  cases b <;> simp_all [isPoolBlk, blkPlace]

theorem OwnBlk.page {p u : Nat} {b : Blk} (h : OwnBlk p u b) : ownPage p (blkPage b u) = true := by
  unfold ownPage
  rcases h with ⟨rfl, h⟩ | ⟨rfl, h⟩
  · obtain ⟨hp, hn⟩ := blkPlace_of_isPortBlk h
    have : blkPage b u / 0x100 = 8 + u := by rw [blkPage_port hp]; omega
    simp [this]
  · obtain ⟨hp, hn⟩ := blkPlace_of_isPoolBlk h
    have page := blkPage_pavilion hp (pavOf p)
    have hd : blkPage b (pavOf p) / 0x100 = 2 + pavOf p := by rw [page]; omega
    have hm : blkPage b (pavOf p) % 0x100 = (blkPlace b).2 := by rw [page]; omega
    rw [hd, hm]
    rcases hn with hn | hn | hn <;> simp [hn]

theorem OwnFld.blk {p u : Nat} {f : Fld} (h : OwnFld p u f) : OwnBlk p u f.blk := by
  simp only [OwnFld, OwnBlk, Fld.inPort, Fld.inPav, Bool.and_eq_true] at *
  exact h.imp (fun h => ⟨h.1, h.2.1⟩) fun h => ⟨h.1, h.2.1⟩

theorem OwnFld.inBlk {p u : Nat} {f : Fld} (h : OwnFld p u f) : f.off * 32 + f.lo + 4 < 32 * 4096 := by
  simp only [OwnFld, Fld.inPort, Fld.inPav, Fld.inBlk, Bool.and_eq_true, decide_eq_true_eq] at h
  exact h.elim (fun h => h.2.2) fun h => h.2.2

/-- A field in the pages of a port, by its block and its place. -/
theorem ownPage_key {p u : Nat} {f : Fld} (hb : OwnBlk p u f.blk) (h : f.off * 32 + f.lo < 32 * 4096) :
    ownPage p (keyPage (f.key u)) = true := by
  rw [keyPage_key h]
  exact hb.page

/-! ### What lies outside -/

/-- Everything of the state but what an event of port `p` may change: the register fields in other pages with their copies,
the other ports, and the rest of the state but status, EVENTs, what has been sent, free values and the survey log. -/
def outside (p : Nat) (s : State) :
    (Nat → Option (Option Nat × Option (Nat × Nat × Nat))) × (Nat → Option Port) × State :=
  (fun k => if ownPage p (keyPage k) then none else some (mapGet s.fields k, mapGet s.tmr k),
   fun k => if k = p then none else some (s.port k),
   { s with fields := [], tmr := [], irqOut := [], events := [], latchAt := [], faultAt := [], injOpen := [], ports := []
            sent := [], fresh := 0, log := [] })

/-- A status change leaves all that lies outside but fields, and these where they read as before. -/
theorem outside_of_statusOnly {p : Nat} {s t : State} (h : StatusOnly s t)
    (hk : ∀ k, ownPage p (keyPage k) = false → mapGet t.fields k = mapGet s.fields k ∧ mapGet t.tmr k = mapGet s.tmr k) :
    outside p t = outside p s := by
  obtain ⟨F, T, I, E, L, D, J, rfl⟩ := h
  have key : ∀ k, (if ownPage p (keyPage k) then none else some (mapGet F k, mapGet T k)) =
      if ownPage p (keyPage k) then none else some (mapGet s.fields k, mapGet s.tmr k) := fun k => by
    cases hp : ownPage p (keyPage k)
    · obtain ⟨hF, hT⟩ := hk k hp
      simp only at hF hT
      rw [hF, hT]
    · rfl
  exact Prod.ext (funext key) rfl

/-- A field set in the pages of the port. -/
theorem outside_setF_page {p u : Nat} {f : Fld} (h : ownPage p (keyPage (f.key u)) = true) (v : Nat) (s : State) :
    outside p (setF u f v s) = outside p s := by
  refine outside_of_statusOnly (statusOnly_setF u f v s) fun k hk => ?_
  have hne : k ≠ f.key u := fun e => by simp [e, h] at hk
  unfold setF
  constructor <;> dsimp only <;> split <;> simp [mapGet_mapDel_other, mapGet_mapPut_other, hne]

@[simp] theorem outside_setF {p u : Nat} {f : Fld} (h : OwnFld p u f) (v : Nat) (s : State) :
    outside p (setF u f v s) = outside p s :=
  outside_setF_page (ownPage_key h.blk (by have := h.inBlk; omega)) v s

/-- A header field of an own block set. -/
theorem outside_setF_blk {p u : Nat} {f : Fld} (hb : OwnBlk p u f.blk) (h : f.off * 32 + f.lo < 32 * 4096) (v : Nat)
    (s : State) : outside p (setF u f v s) = outside p s := outside_setF_page (ownPage_key hb h) v s

@[simp] theorem outside_setS {p u : Nat} {f : Fld} (h : OwnFld p u f) (v : Int) (s : State) :
    outside p (setS u f v s) = outside p s := outside_setF h _ s

/-- Header fields of an own block set. -/
theorem outside_setAll_blk {p u : Nat} {b : Blk} (hb : OwnBlk p u b) (l : List (Fld × Nat)) (s : State)
    (h : ∀ e ∈ l, e.1.blk = b ∧ e.1.off * 32 + e.1.lo < 32 * 4096) : outside p (setAll u l s) = outside p s := by
  induction l generalizing s with
  | nil => rfl
  | cons e l ih =>
    obtain ⟨he, hf⟩ := h e List.mem_cons_self
    rw [setAll_cons, ih _ fun d hd => h d (List.mem_cons_of_mem _ hd), outside_setF_blk (he ▸ hb) hf]

theorem outside_setAll {p u : Nat} (l : List (Fld × Nat)) (s : State) (h : ∀ e ∈ l, OwnFld p u e.1) :
    outside p (setAll u l s) = outside p s := by
  induction l generalizing s with
  | nil => rfl
  | cons e l ih =>
    rw [setAll_cons, ih _ fun d hd => h d (List.mem_cons_of_mem _ hd), outside_setF (h e List.mem_cons_self)]

/-! ### Status, counters, commands -/

theorem outside_setStsBits_page {p u : Nat} {b : Blk} (h : ownPage p (blkPage b u) = true) (mask : Nat) (s : State) :
    outside p (setStsBits b u mask s) = outside p s := by
  have key : ∀ f : Fld, f.blk = b → f.off * 32 + f.lo < 32 * 4096 → ownPage p (keyPage (f.key u)) = true :=
    fun f hb hf => by rw [keyPage_key hf, hb, h]
  unfold setStsBits
  rw [outside_setF_page (key (.seq b) rfl (by simp [Fld.seq])), outside_setF_page (key (.sts b) rfl (by simp [Fld.sts]))]

/-- A queued EVENT changes EVENT_DROP and SEQ of CHAIN at most. -/
@[simp] theorem outside_queueEvent (p m : Nat) (b : Blk) (u : Nat) (s : State) :
    outside p (queueEvent m b u s) = outside p s := by
  have chain : ownPage p (blkPage .CHAIN 0) = true := rfl
  unfold queueEvent
  split
  · rfl
  · split
    · rfl
    · dsimp only
      split
      · rw [outside_setStsBits_page chain]
        exact outside_setStsBits_page chain 32 s
      · exact outside_setStsBits_page chain 32 s

@[simp] theorem outside_irqUpdate (p : Nat) (b : Blk) (u : Nat) (s : State) :
    outside p (irqUpdate b u s) = outside p s := by
  unfold irqUpdate
  split
  · split
    · rfl
    · dsimp only
      split
      · rw [outside_queueEvent]
        rfl
      · rfl
  · rfl

@[simp] theorem outside_sticky {p u : Nat} {k : Sticky} (h : OwnBlk p u k.blk) (s : State) :
    outside p (sticky k u s) = outside p s := by
  unfold sticky
  rw [outside_irqUpdate, outside_setStsBits_page h.page]

theorem outside_latchFirst {p u : Nat} {b : Blk} (h : OwnBlk p u b) (cls src detail inj : Nat) (s : State) :
    outside p (latchFirst b u cls src detail inj s) = outside p s := by
  unfold latchFirst
  dsimp only
  split
  · exact outside_setF_blk (f := .firstOvf b) h (by simp [Fld.firstOvf]) _ s
  · refine (outside_setAll_blk h _ _ ?_).trans rfl
    simp [Fld.firstDetail, Fld.firstSeq, Fld.firstSrc, Fld.firstInj, Fld.firstClass, Fld.firstOvf, Fld.firstValid]

@[simp] theorem outside_correctedFault {p u : Nat} {b : Blk} (h : OwnBlk p u b) (src detail : Nat) (s : State) :
    outside p (correctedFault b u src detail s) = outside p s := by
  have displace : ∀ t, outside p (displaceWindow b u t) = outside p t := fun _ => rfl
  unfold correctedFault recordFault
  rw [displace, outside_irqUpdate, outside_latchFirst h, outside_setStsBits_page h.page]

@[simp] theorem outside_countBy {p u : Nat} {f : Fld} (h : OwnFld p u f) (k : Nat) (s : State) :
    outside p (countBy u f k s) = outside p s := by
  unfold countBy
  dsimp only
  split
  · rw [outside_correctedFault h.blk, outside_setF h]
  · exact outside_setF h _ s

@[simp] theorem outside_count {p u : Nat} {f : Fld} (h : OwnFld p u f) (s : State) :
    outside p (count u f s) = outside p s := outside_countBy h 1 s

theorem outside_setF_outcome {p u : Nat} {f : Fld} (h : OwnFld p u f) (v : Nat) (s : State) :
    outside p (setF u f.outcome v s) = outside p s :=
  outside_setF_blk (f := f.outcome) h.blk (by have := h.inBlk; simp only [Fld.outcome]; omega) v s

theorem outside_setF_abortLate {p u : Nat} {f : Fld} (h : OwnFld p u f) (v : Nat) (s : State) :
    outside p (setF u f.abortLate v s) = outside p s :=
  outside_setF_blk (f := f.abortLate) h.blk (by have := h.inBlk; simp only [Fld.abortLate]; omega) v s

@[simp] theorem outside_cmdStart {p u : Nat} {f : Fld} (h : OwnFld p u f) (s : State) :
    outside p (cmdStart u f s) = outside p s := by
  unfold cmdStart
  rw [outside_setF h, outside_setF_outcome h, outside_setF_abortLate h]

@[simp] theorem outside_cmdEnd {p u : Nat} {f : Fld} (h : OwnFld p u f) (oc : Nat) (s : State) :
    outside p (cmdEnd u f oc s) = outside p s := by
  unfold cmdEnd
  rw [outside_setF h, outside_setF_outcome h]

@[simp] theorem outside_cmdDoneLate {p u : Nat} {f : Fld} (h : OwnFld p u f) (late : Bool) (s : State) :
    outside p (cmdDoneLate u f late s) = outside p s := by
  unfold cmdDoneLate when
  split
  · rw [outside_setF_abortLate h, outside_cmdEnd h]
  · exact outside_cmdEnd h 2 s

@[simp] theorem outside_cmdStop {p u : Nat} {f : Fld} (h : OwnFld p u f) (oc : Nat) (s : State) :
    outside p (cmdStop u f oc s) = outside p s := by
  unfold cmdStop
  split
  · rfl
  · split
    · exact outside_cmdDoneLate h false s
    · exact outside_cmdEnd h oc s

/-! ### The port, what leaves, and combinators -/

@[simp] theorem outside_modPort (p : Nat) (f : Port → Port) (s : State) : outside p (modPort p f s) = outside p s := by
  have port : ∀ k, (if k = p then none else some ((modPort p f s).port k)) = if k = p then none else some (s.port k) :=
    fun k => by
      split
      · rfl
      · rw [port_modPort_other _ _ ‹_›]
  exact Prod.ext rfl (Prod.ext (funext port) rfl)

@[simp] theorem outside_modLink (p : Nat) (f : Link → Link) (s : State) : outside p (modLink p f s) = outside p s :=
  outside_modPort p _ s

@[simp] theorem outside_modSig (p : Nat) (f : Signal → Signal) (s : State) : outside p (modSig p f s) = outside p s :=
  outside_modPort p _ s

@[simp] theorem outside_modRc (p : Nat) (f : Rc → Rc) (s : State) : outside p (modRc p f s) = outside p s :=
  outside_modPort p _ s

@[simp] theorem outside_modOam (p : Nat) (f : Oam → Oam) (s : State) : outside p (modOam p f s) = outside p s :=
  outside_modPort p _ s

@[simp] theorem outside_modWatch (p : Nat) (f : Watch → Watch) (s : State) : outside p (modWatch p f s) = outside p s :=
  outside_modPort p _ s

@[simp] theorem outside_modSpur (p : Nat) (f : Spur → Spur) (s : State) : outside p (modSpur p f s) = outside p s :=
  outside_modPort p _ s

@[simp] theorem outside_modLane (p : Nat) (f : Lane → Lane) (s : State) : outside p (modLane p f s) = outside p s :=
  outside_modPort p _ s

@[simp] theorem outside_modCal (p : Nat) (f : Cal → Cal) (s : State) : outside p (modCal p f s) = outside p s :=
  outside_modPort p _ s

@[simp] theorem outside_emit (p : Nat) (e : Emission) (s : State) : outside p (emit e s) = outside p s := (rfl)

@[simp] theorem outside_spend (p : Nat) (s : State) : outside p (spend s) = outside p s := (rfl)

/-- The number of free values drawn lies inside. -/
theorem outside_fresh (p n : Nat) (s : State) : outside p { s with fresh := n } = outside p s := rfl

@[simp] theorem outside_when {p : Nat} {f : State → State} {s : State} (c : Bool) (h : outside p (f s) = outside p s) :
    outside p (when c f s) = outside p s := by
  unfold when
  split
  · exact h
  · rfl

@[simp] theorem outside_emitLine (p q : Nat) (e : Emission) (s : State) : outside p (emitLine q e s) = outside p s :=
  outside_when _ rfl

@[simp] theorem outside_forAll {α : Type} {p : Nat} {f : α → State → State} (l : List α) (s : State)
    (h : ∀ x ∈ l, ∀ t, outside p (f x t) = outside p t) : outside p (forAll l f s) = outside p s := by
  induction l generalizing s with
  | nil => rfl
  | cons x l ih =>
    exact (ih (f x s) fun y hy => h y (List.mem_cons_of_mem _ hy)).trans (h x List.mem_cons_self s)

@[simp] theorem outside_foldl {α : Type} {p : Nat} {f : State → α → State} (l : List α) (s : State)
    (h : ∀ t x, outside p (f t x) = outside p t) : outside p (l.foldl f s) = outside p s := by
  induction l generalizing s with
  | nil => rfl
  | cons x l ih => exact (ih (f s x)).trans (h s x)

/-- A choice between two states, each with the same outside. -/
@[simp] theorem outside_ite (p : Nat) (c : Prop) [Decidable c] (s t : State) :
    outside p (if c then s else t) = if c then outside p s else outside p t := apply_ite (outside p) c s t

/-! ### The registers that line events set -/

@[simp] theorem inPav_DECPOOL :
    Fld.DECPOOL_UTIL_EVEN.inPav ∧ Fld.DECPOOL_UTIL_ODD.inPav ∧ Fld.DECPOOL_CW_EVEN.inPav ∧ Fld.DECPOOL_CW_ODD.inPav := by
  decide

@[simp] theorem inPav_ENGPOOL :
    Fld.ENGPOOL_ENG_UTIL_EVEN.inPav ∧ Fld.ENGPOOL_ENG_UTIL_ODD.inPav ∧ Fld.ENGPOOL_TRAIN_SLOWS.inPav := by
  decide

@[simp] theorem inPav_LAYBY :
    Fld.LAYBY_PEAK_EVEN.inPav ∧ Fld.LAYBY_PEAK_ODD.inPav := by
  decide

@[simp] theorem inPort_PORT_CTL :
    Fld.PORT_CTL_STATE.inPort ∧ Fld.PORT_CTL_ROLE.inPort ∧ Fld.PORT_CTL_MODE.inPort ∧ Fld.PORT_CTL_PROFILE.inPort ∧
    Fld.PORT_CTL_PROF_VALID.inPort ∧ Fld.PORT_CTL_RECONF_GO.inPort ∧ Fld.PORT_CTL_RETRAIN.inPort ∧
    Fld.PORT_CTL_NAK_REASON.inPort ∧ Fld.PORT_CTL_DOWN_CAUSE.inPort ∧ Fld.PORT_CTL_LINK_UPS.inPort ∧
    Fld.PORT_CTL_FAST_RETRAINS.inPort ∧ Fld.PORT_CTL_FULL_RETRAINS.inPort ∧ Fld.PORT_CTL_RECONFS.inPort := by
  decide

@[simp] theorem inPort_AFE :
    Fld.AFE_RX_GAIN.inPort ∧ Fld.AFE_HYB_R.inPort ∧ Fld.AFE_HYB_C.inPort ∧ Fld.AFE_HYB_VALID.inPort ∧
    Fld.AFE_RX_POWER.inPort ∧ Fld.AFE_ADC_CLIP.inPort ∧ Fld.AFE_CLIP_SYMS.inPort := by
  decide

@[simp] theorem inPort_TXSH :
    Fld.TXSH_MUTED.inPort ∧ Fld.TXSH_PSD_ACT.inPort ∧ Fld.TXSH_NOTCH_ACT.inPort ∧ Fld.TXSH_PREF.inPort ∧
    Fld.TXSH_CE.inPort ∧ Fld.TXSH_SHORT.inPort ∧ Fld.TXSH_SPREAD.inPort ∧ Fld.TXSH_COVER.inPort := by
  decide

@[simp] theorem inPort_LINKUP :
    Fld.LINKUP_TA.inPort ∧ Fld.LINKUP_TA_VALID.inPort ∧ Fld.LINKUP_ALIGN_ERR.inPort ∧ Fld.LINKUP_START_KIND.inPort ∧
    Fld.LINKUP_LINK_TIME.inPort ∧ Fld.LINKUP_PARTNER_UID_LO.inPort ∧ Fld.LINKUP_PARTNER_UID_HI.inPort ∧
    Fld.LINKUP_PARTNER_PORT.inPort ∧ Fld.LINKUP_PARTNER_PERMIT.inPort ∧ Fld.LINKUP_STORE_ID.inPort ∧
    Fld.LINKUP_STORED.inPort ∧ Fld.LINKUP_AN_DONE.inPort ∧ Fld.LINKUP_T1_RES.inPort ∧ Fld.LINKUP_T1_LINK.inPort ∧
    Fld.LINKUP_EEE_ACTIVE.inPort ∧ Fld.LINKUP_DME_SEEN.inPort ∧ Fld.LINKUP_HS_STARTS.inPort ∧
    Fld.LINKUP_WARM_REJ.inPort ∧ Fld.LINKUP_TA_ADJS.inPort := by
  decide

@[simp] theorem inPort_TONES :
    Fld.TONES_BITS_TX.inPort ∧ Fld.TONES_BITS_RX.inPort ∧ Fld.TONES_LOADED_TX.inPort ∧ Fld.TONES_LOADED_RX.inPort ∧
    Fld.TONES_PILOTS.inPort ∧ Fld.TONES_TX_SYM_CNT.inPort ∧ Fld.TONES_TX_SF_CNT.inPort ∧ Fld.TONES_RX_SF_CNT.inPort ∧
    Fld.TONES_TX_SW_SF.inPort ∧ Fld.TONES_RX_SW_SF.inPort ∧ Fld.TONES_TX_PENDING.inPort ∧
    Fld.TONES_RX_PENDING.inPort ∧ Fld.TONES_OH_ERR.inPort ∧ Fld.TONES_SYNC_FLAG_MISS.inPort ∧
    Fld.TONES_SYNC_FLAG_UNEXP.inPort ∧ Fld.TONES_SWITCHES.inPort := by
  decide

@[simp] theorem inPort_ECHO :
    Fld.ECHO_ERLE_SHOW.inPort ∧ Fld.ECHO_PARTNER_ERLE.inPort ∧ Fld.ECHO_PARTNER_PASS.inPort ∧
    Fld.ECHO_ADAPT_SKIPS.inPort := by
  decide

@[simp] theorem inPort_EQ :
    Fld.EQ_TEQ_ACTIVE.inPort ∧ Fld.EQ_SPREAD_TEQ.inPort ∧ Fld.EQ_FOFS.inPort ∧ Fld.EQ_PHASE.inPort ∧
    Fld.EQ_LINK_MARGIN.inPort ∧ Fld.EQ_MIN_MARGIN.inPort ∧ Fld.EQ_MARGIN_VALID.inPort ∧ Fld.EQ_WORST_TONE.inPort ∧
    Fld.EQ_SLIPS.inPort ∧ Fld.EQ_IMP_SYMS.inPort ∧ Fld.EQ_IMP_EVENTS.inPort ∧ Fld.EQ_ERASED_CW.inPort ∧
    Fld.EQ_SKIPPED_CW.inPort := by
  decide

@[simp] theorem inPort_FEC :
    Fld.FEC_CODE_RATE.inPort ∧ Fld.FEC_MAXIT.inPort ∧ Fld.FEC_OVERLOADED.inPort ∧ Fld.FEC_MEAN_IT.inPort ∧
    Fld.FEC_CW_TX.inPort ∧ Fld.FEC_CW_RX_OK.inPort ∧ Fld.FEC_CW_FAIL.inPort ∧ Fld.FEC_CRC_FAIL.inPort ∧
    Fld.FEC_CW_IDLE_RX.inPort ∧ Fld.FEC_ITERATIONS.inPort ∧ Fld.FEC_OVERLOAD_CW.inPort ∧ Fld.FEC_DQ_OVF.inPort := by
  decide

@[simp] theorem inPort_LAYBY_P :
    Fld.LAYBY_P_IN_HOLD.inPort ∧ Fld.LAYBY_P_L.inPort ∧ Fld.LAYBY_P_RT_SYM.inPort ∧ Fld.LAYBY_P_RESENDS.inPort ∧
    Fld.LAYBY_P_IMP_RESENDS.inPort ∧ Fld.LAYBY_P_TAIL_RESENDS.inPort ∧ Fld.LAYBY_P_GIVEUP_TRIES.inPort ∧
    Fld.LAYBY_P_GIVEUP_DEADLINE.inPort ∧ Fld.LAYBY_P_NOTICES_TX.inPort ∧ Fld.LAYBY_P_NOTICE_RX.inPort ∧
    Fld.LAYBY_P_RX_NOSLOT.inPort ∧ Fld.LAYBY_P_RX_DUP.inPort ∧ Fld.LAYBY_P_HOLDS.inPort ∧
    Fld.LAYBY_P_GAP_TIMEOUTS.inPort ∧ Fld.LAYBY_P_NOTICE_OVF.inPort := by
  decide

@[simp] theorem inPort_STREAM :
    Fld.STREAM_PRESSURE.inPort ∧ Fld.STREAM_TAILDROP.inPort ∧ Fld.STREAM_OFF_DROP.inPort ∧
    Fld.STREAM_FIXED_DROP.inPort ∧ Fld.STREAM_FR_EXP_TX.inPort ∧ Fld.STREAM_FR_EXP_RX.inPort ∧
    Fld.STREAM_LATE_NOTICE.inPort := by
  decide

@[simp] theorem inPort_BURST :
    Fld.BURST_FROZEN_LVL.inPort ∧ Fld.BURST_SYNC_LVL.inPort ∧ Fld.BURST_AFC.inPort ∧ Fld.BURST_LAST_SENDER.inPort ∧
    Fld.BURST_LAST_DEST.inPort ∧ Fld.BURST_LAST_LEN.inPort ∧ Fld.BURST_LAST_KIND.inPort ∧
    Fld.BURST_LAST_VALID.inPort ∧ Fld.BURST_HDR_TONES.inPort ∧ Fld.BURST_HDR_COPIES.inPort ∧
    Fld.BURST_BURSTS_TX.inPort ∧ Fld.BURST_BURSTS_RX.inPort ∧ Fld.BURST_DETECTS.inPort ∧
    Fld.BURST_FALSE_DETECT.inPort ∧ Fld.BURST_LATE_START_LOSS.inPort ∧ Fld.BURST_CAPTURED.inPort ∧
    Fld.BURST_SCHEDULE_VIOLATION.inPort ∧ Fld.BURST_HDR_ERR.inPort ∧ Fld.BURST_GEN_MISS.inPort := by
  decide

@[simp] theorem inPort_ROUNDABOUT :
    Fld.ROUNDABOUT_CYCLE_ACT.inPort ∧ Fld.ROUNDABOUT_SLOTS.inPort ∧ Fld.ROUNDABOUT_MEMBERS.inPort ∧
    Fld.ROUNDABOUT_COMMON_GEN.inPort ∧ Fld.ROUNDABOUT_CYCLES.inPort ∧ Fld.ROUNDABOUT_SCHED_LOST.inPort ∧
    Fld.ROUNDABOUT_KNOCKS_TX.inPort ∧ Fld.ROUNDABOUT_KNOCKS_RX.inPort ∧ Fld.ROUNDABOUT_JOINS.inPort ∧
    Fld.ROUNDABOUT_DROPS.inPort ∧ Fld.ROUNDABOUT_IDLE_SLOTS.inPort ∧ Fld.ROUNDABOUT_GRANT_MISSES.inPort := by
  decide

@[simp] theorem inPort_WATCH :
    Fld.WATCH_GRADE.inPort ∧ Fld.WATCH_GRADE_VALID.inPort ∧ Fld.WATCH_G_MARGIN.inPort ∧ Fld.WATCH_G_ERR.inPort ∧
    Fld.WATCH_G_DROP.inPort ∧ Fld.WATCH_INT_MARGIN_MIN.inPort ∧ Fld.WATCH_INT_MARGIN_END.inPort ∧
    Fld.WATCH_INT_LONG.inPort ∧ Fld.WATCH_INT_CW.inPort ∧ Fld.WATCH_INT_FAIL.inPort ∧ Fld.WATCH_INT_SENT.inPort ∧
    Fld.WATCH_INT_RESENDS.inPort ∧ Fld.WATCH_INT_EXP_TX.inPort ∧ Fld.WATCH_INT_EXP_RX.inPort ∧
    Fld.WATCH_TREND.inPort ∧ Fld.WATCH_TREND_VALID.inPort ∧ Fld.WATCH_PROJ_MARGIN.inPort ∧ Fld.WATCH_IMP_MAX.inPort ∧
    Fld.WATCH_LPI_ENTRIES.inPort ∧ Fld.WATCH_WAKES_TX.inPort ∧ Fld.WATCH_WAKES_RX.inPort ∧
    Fld.WATCH_WAKE_FALSE.inPort ∧ Fld.WATCH_LPI_MISMATCH.inPort ∧ Fld.WATCH_QUIET_SF.inPort ∧
    Fld.WATCH_PRED_RETRAINS.inPort := by
  decide

@[simp] theorem inPort_DIAG :
    Fld.DIAG_TDR_RUN.inPort ∧ Fld.DIAG_TDR_EVENTS.inPort ∧ Fld.DIAG_TDR_VALID.inPort ∧ Fld.DIAG_TDR_RUNS.inPort ∧
    Fld.DIAG_TDR_UNFITS.inPort := by
  decide

@[simp] theorem inPort_SURVEY :
    Fld.SURVEY_SV_BASE_SAVE.inPort ∧ Fld.SURVEY_METRIC.inPort ∧ Fld.SURVEY_RUN.inPort ∧ Fld.SURVEY_LAST_BIN.inPort ∧
    Fld.SURVEY_CUR_SRC.inPort ∧ Fld.SURVEY_PARTNER_MON.inPort ∧ Fld.SURVEY_PROFILES.inPort ∧
    Fld.SURVEY_SV_EVENTS.inPort := by
  decide

@[simp] theorem inPort_HOST :
    Fld.HOST_HOST_UP.inPort ∧ Fld.HOST_LB_ACTIVE.inPort ∧ Fld.HOST_PAUSED.inPort ∧ Fld.HOST_LANE_DROP.inPort ∧
    Fld.HOST_CTRL_RX.inPort ∧ Fld.HOST_PFC_TX.inPort ∧ Fld.HOST_PAUSE_TX.inPort := by
  decide

@[simp] theorem inPort_TSU :
    Fld.TSU_TX_TS_OVF.inPort ∧ Fld.TSU_RX_TS_OVF.inPort := by
  decide

@[simp] theorem inPort_STATS :
    Fld.STATS_RX_FRAMES.inPort ∧ Fld.STATS_RX_OCTETS.inPort := by
  decide

@[simp] theorem inPort_OAM :
    Fld.OAM_SEND.inPort ∧ Fld.OAM_RX_TYPE.inPort ∧ Fld.OAM_RX_LEN.inPort ∧ Fld.OAM_RX_FULL.inPort ∧
    Fld.OAM_MSG_TX.inPort ∧ Fld.OAM_MSG_RX.inPort ∧ Fld.OAM_RESENDS.inPort ∧ Fld.OAM_UNDELIVERED.inPort ∧
    Fld.OAM_RX_BUSY.inPort ∧ Fld.OAM_RC_NAK_RX.inPort := by
  decide

@[simp] theorem inPort_CAL :
    Fld.CAL_HYB_RECAL.inPort ∧ Fld.CAL_LAST_KIND.inPort ∧ Fld.CAL_LAST_OUTCOME.inPort ∧ Fld.CAL_LAST_REASON.inPort ∧
    Fld.CAL_RUNS_UNFIT.inPort ∧ Fld.CAL_RUNS_IMPLAUSIBLE.inPort ∧ Fld.CAL_HYB_RECALS.inPort := by
  decide

@[simp] theorem isPoolBlk_sticky_ENGPOOL :
    isPoolBlk Sticky.ENGPOOL_TRAIN_SLOW.blk := by
  decide

@[simp] theorem isPortBlk_sticky_TXSH :
    isPortBlk Sticky.TXSH_CE_UNCOVERED.blk := by
  decide

@[simp] theorem isPortBlk_sticky_TONES :
    isPortBlk Sticky.TONES_PILOT_SHORT.blk ∧ isPortBlk Sticky.TONES_OH_ERR.blk ∧
    isPortBlk Sticky.TONES_SYNC_FLAG_MISS.blk ∧ isPortBlk Sticky.TONES_SYNC_FLAG_UNEXP.blk ∧
    isPortBlk Sticky.TONES_SWITCHED.blk := by
  decide

@[simp] theorem isPortBlk_sticky_PORT_CTL :
    isPortBlk Sticky.PORT_CTL_LINK_UP.blk ∧ isPortBlk Sticky.PORT_CTL_LINK_DOWN.blk ∧
    isPortBlk Sticky.PORT_CTL_RETRAIN.blk ∧ isPortBlk Sticky.PORT_CTL_RECONF_DONE.blk ∧
    isPortBlk Sticky.PORT_CTL_RECONF_FAIL.blk ∧ isPortBlk Sticky.PORT_CTL_PARTNER_RECONF.blk := by
  decide

@[simp] theorem isPortBlk_sticky_LINKUP :
    isPortBlk Sticky.LINKUP_DME_SEEN.blk ∧ isPortBlk Sticky.LINKUP_WARM_REJECTED.blk ∧
    isPortBlk Sticky.LINKUP_HS_TIMEOUT.blk ∧ isPortBlk Sticky.LINKUP_TA_ADJUSTED.blk ∧
    isPortBlk Sticky.LINKUP_ALIGN_LOST.blk := by
  decide

@[simp] theorem isPortBlk_sticky_OAM :
    isPortBlk Sticky.OAM_RX_READY.blk ∧ isPortBlk Sticky.OAM_UNDELIVERED.blk ∧ isPortBlk Sticky.OAM_RX_DROPPED.blk ∧
    isPortBlk Sticky.OAM_RC_LATE.blk := by
  decide

@[simp] theorem isPortBlk_sticky_AFE :
    isPortBlk Sticky.AFE_ADC_CLIPPED.blk ∧ isPortBlk Sticky.AFE_HYB_CHANGED.blk := by
  decide

@[simp] theorem isPortBlk_sticky_ECHO :
    isPortBlk Sticky.ECHO_ECHO_LOW.blk := by
  decide

@[simp] theorem isPortBlk_sticky_EQ :
    isPortBlk Sticky.EQ_TEQ_ON.blk ∧ isPortBlk Sticky.EQ_IMPULSE.blk ∧ isPortBlk Sticky.EQ_MARGIN_LOW.blk ∧
    isPortBlk Sticky.EQ_CW_SKIPPED.blk := by
  decide

@[simp] theorem isPortBlk_sticky_FEC :
    isPortBlk Sticky.FEC_CW_FAIL.blk ∧ isPortBlk Sticky.FEC_CRC_FAIL.blk ∧ isPortBlk Sticky.FEC_OVERLOAD.blk ∧
    isPortBlk Sticky.FEC_DQ_OVF.blk := by
  decide

@[simp] theorem isPortBlk_sticky_LAYBY_P :
    isPortBlk Sticky.LAYBY_P_HOLD.blk ∧ isPortBlk Sticky.LAYBY_P_HOLD_MAX.blk ∧ isPortBlk Sticky.LAYBY_P_GIVEUP.blk ∧
    isPortBlk Sticky.LAYBY_P_RX_NOSLOT.blk ∧ isPortBlk Sticky.LAYBY_P_GAP_TIMEOUT.blk ∧
    isPortBlk Sticky.LAYBY_P_NOTICE_OVF.blk := by
  decide

@[simp] theorem isPortBlk_sticky_STREAM :
    isPortBlk Sticky.STREAM_TAILDROP.blk ∧ isPortBlk Sticky.STREAM_EXPIRED.blk ∧
    isPortBlk Sticky.STREAM_LATE_NOTICE.blk := by
  decide

@[simp] theorem isPortBlk_sticky_BURST :
    isPortBlk Sticky.BURST_FALSE_DETECT.blk ∧ isPortBlk Sticky.BURST_LATE_START_LOSS.blk ∧
    isPortBlk Sticky.BURST_CAPTURED.blk ∧ isPortBlk Sticky.BURST_SCHEDULE_VIOLATION.blk ∧
    isPortBlk Sticky.BURST_HDR_ERR.blk ∧ isPortBlk Sticky.BURST_GEN_MISS.blk := by
  decide

@[simp] theorem isPortBlk_sticky_ROUNDABOUT :
    isPortBlk Sticky.ROUNDABOUT_JOINED.blk ∧ isPortBlk Sticky.ROUNDABOUT_MEMBER_DROPPED.blk ∧
    isPortBlk Sticky.ROUNDABOUT_KNOCK_REFUSED.blk ∧ isPortBlk Sticky.ROUNDABOUT_GATEHOUSE_CLASH.blk ∧
    isPortBlk Sticky.ROUNDABOUT_NOISE_STALE.blk ∧ isPortBlk Sticky.ROUNDABOUT_SCHED_LOST.blk := by
  decide

@[simp] theorem isPortBlk_sticky_WATCH :
    isPortBlk Sticky.WATCH_IMPULSE_LONG.blk ∧ isPortBlk Sticky.WATCH_GRADE_LOW.blk ∧
    isPortBlk Sticky.WATCH_PRED_LOW.blk ∧ isPortBlk Sticky.WATCH_PRED_RETRAIN.blk ∧
    isPortBlk Sticky.WATCH_LPI_MISMATCH.blk ∧ isPortBlk Sticky.WATCH_WAKE_FALSE.blk := by
  decide

@[simp] theorem isPortBlk_sticky_DIAG :
    isPortBlk Sticky.DIAG_TDR_DONE.blk ∧ isPortBlk Sticky.DIAG_TDR_FAULT.blk ∧ isPortBlk Sticky.DIAG_TDR_UNFIT.blk := by
  decide

@[simp] theorem isPortBlk_sticky_SURVEY :
    isPortBlk Sticky.SURVEY_SV_EVENT.blk ∧ isPortBlk Sticky.SURVEY_SV_VF_MISMATCH.blk ∧
    isPortBlk Sticky.SURVEY_SV_LOG_FULL.blk := by
  decide

@[simp] theorem isPortBlk_sticky_HOST :
    isPortBlk Sticky.HOST_LANE_DOWN.blk := by
  decide

@[simp] theorem isPortBlk_sticky_TSU :
    isPortBlk Sticky.TSU_TX_TS_READY.blk ∧ isPortBlk Sticky.TSU_RX_TS_READY.blk ∧ isPortBlk Sticky.TSU_TS_OVF.blk := by
  decide

@[simp] theorem isPortBlk_STREAM : isPortBlk .STREAM := by
  decide

@[simp] theorem isPortBlk_CAL : isPortBlk .CAL := by
  decide

@[simp] theorem inPort_impulseBin (blocks : Nat) : (impulseBin blocks).inPort := by
  unfold impulseBin
  repeat' split
  all_goals decide

@[simp] theorem inPort_sizeBin (n : Nat) : (sizeBin n).inPort := by
  unfold sizeBin
  repeat' split
  all_goals decide

@[simp] theorem inPort_trimBit (j : Nat) : (trimBit j).1.inPort := by
  unfold trimBit
  dsimp only
  split <;> simp

@[simp] theorem inPort_abortLate_TDR_RUN : Fld.DIAG_TDR_RUN.abortLate.inPort := by
  decide

end Sys2Proof.Machine
end


section
/-! SUPPORT. Every operation of the model on a port keeps what lies outside of the port: one equation for each, in the order
of the definitions (O59). -/

namespace Sys2Proof.Machine

/-! ### Flow control and states of a port -/

@[simp] theorem outside_setSt (p st : Nat) (s : State) : outside p (setSt p st s) = outside p s := by
  simp [setSt]

@[simp] theorem outside_sendFlow (p ended : Nat) (pause : Bool) (s : State) :
    outside p (sendFlow p ended pause s) = outside p s := by
  simp [sendFlow]

/-! ### Lay-by, streams and frames (R238 to R263) -/

@[simp] theorem outside_modStream (p i : Nat) (f : StreamEnt → StreamEnt) (s : State) :
    outside p (modStream p i f s) = outside p s := by
  simp [modStream]

@[simp] theorem outside_countStream (p i k n : Nat) (s : State) : outside p (countStream p i k n s) = outside p s := by
  simp [countStream]

@[simp] theorem outside_notePeak (p : Nat) (s : State) : outside p (notePeak p s) = outside p s := by
  unfold notePeak
  split <;> simp

@[simp] theorem outside_setClassQ (p c : Nat) (q : List QFrame) (s : State) :
    outside p (setClassQ p c q s) = outside p s := by
  simp [setClassQ]

@[simp] theorem outside_updPressure (p c : Nat) (s : State) : outside p (updPressure p c s) = outside p s := by
  simp [updPressure]

@[simp] theorem outside_updPressures (p : Nat) (s : State) : outside p (updPressures p s) = outside p s := by
  simp [updPressures]

@[simp] theorem outside_appendStamp (p : Nat) (rx : Bool) (stream kind key t8 : Nat) (s : State) :
    outside p (appendStamp p rx stream kind key t8 s) = outside p s := by
  simp [appendStamp]

@[simp] theorem outside_modPms (p node c : Nat) (f : Pms → Pms) (s : State) :
    outside p (modPms p node c f s) = outside p s := by
  simp [modPms]

@[simp] theorem outside_openCw (p i : Nat) (s : State) : outside p (openCw p i s) = outside p s := by
  simp [openCw]

@[simp] theorem outside_startFrame (p c : Nat) (s : State) : outside p (startFrame p c s) = outside p s := by
  unfold startFrame
  split <;> simp

@[simp] theorem outside_mapBytes (p c n : Nat) (s : State) : outside p (mapBytes p c n s) = outside p s := by
  unfold mapBytes
  dsimp only
  split
  · split <;> simp
  · simp

@[simp] theorem outside_mapClass (p c k : Nat) (s : State) : outside p (mapClass p c k s) = outside p s := by
  induction k generalizing s with
  | zero => rfl
  | succ k ih =>
    unfold mapClass
    split
    · split <;> simp [ih]
    · rfl

@[simp] theorem outside_settleClass (p c : Nat) (s : State) : outside p (settleClass p c s) = outside p s := by
  simp [settleClass]

@[simp] theorem outside_settleClasses (p : Nat) (s : State) : outside p (settleClasses p s) = outside p s := by
  simp [settleClasses]

@[simp] theorem outside_sweepFrames (p i k : Nat) (s : State) : outside p (sweepFrames p i k s) = outside p s := by
  induction k generalizing s with
  | zero => rfl
  | succ k ih =>
    unfold sweepFrames
    split
    · split <;> simp [ih]
    · rfl

@[simp] theorem outside_settleCw (p : Nat) (w : TxCw) (s : State) : outside p (settleCw p w s) = outside p s := by
  simp [settleCw]

@[simp] theorem outside_dropCw (p : Nat) (w : TxCw) (s : State) : outside p (dropCw p w s) = outside p s := by
  simp [dropCw]

@[simp] theorem outside_ackCw (p : Nat) (w : TxCw) (s : State) : outside p (ackCw p w s) = outside p s := by
  simp [ackCw]

@[simp] theorem outside_expireTx (p i n : Nat) (s : State) : outside p (expireTx p i n s) = outside p s := by
  simp [expireTx]

@[simp] theorem outside_queueNotice (p : Nat) (w : TxCw) (s : State) : outside p (queueNotice p w s) = outside p s := by
  simp [queueNotice]

@[simp] theorem outside_giveUp (p : Nat) {ctr : Option Fld} (h : ∀ f ∈ ctr, f.inPort) (w : TxCw) (s : State) :
    outside p (giveUp p ctr w s) = outside p s := by
  cases ctr with
  | none => simp [giveUp]
  | some f => simp [giveUp, h f rfl]

@[simp] theorem outside_schedule (p : Nat) (w : TxCw) (s : State) : outside p (schedule p w s) = outside p s := by
  simp [schedule]

@[simp] theorem outside_scheduleAll (p : Nat) (q : TxCw → Bool) (s : State) :
    outside p (scheduleAll p q s) = outside p s := by
  simp [scheduleAll]

@[simp] theorem outside_onMilepost (p node c cum nack : Nat) (ripe : TxCw → Bool) (s : State) :
    outside p (onMilepost p node c cum nack ripe s) = outside p s := by
  simp [onMilepost]

@[simp] theorem outside_advanceRx (p node c : Nat) (s : State) : outside p (advanceRx p node c s) = outside p s := by
  simp [advanceRx]

@[simp] theorem outside_modRx (p node c ms : Nat) (f : RxCw → RxCw) (s : State) :
    outside p (modRx p node c ms f s) = outside p s := by
  simp [modRx]

@[simp] theorem outside_freeSpent (p node c : Nat) (s : State) : outside p (freeSpent p node c s) = outside p s := by
  simp [freeSpent]

@[simp] theorem outside_consume (p node c : Nat) (ms : List Nat) (k : Nat) (s : State) :
    outside p (consume p node c ms k s) = outside p s := by
  unfold consume
  split <;> simp

@[simp] theorem outside_expireRx (p i n : Nat) (s : State) : outside p (expireRx p i n s) = outside p s := by
  simp [expireRx]

@[simp] theorem outside_setCut (p node i ms left : Nat) (s : State) :
    outside p (setCut p node i ms left s) = outside p s := by
  simp [setCut]

@[simp] theorem outside_dropHead (p node i : Nat) (w : RxCw) (s : State) :
    outside p (dropHead p node i w s) = outside p s := by
  simp [dropHead]

@[simp] theorem outside_discardBroken (p node i k : Nat) (s : State) :
    outside p (discardBroken p node i k s) = outside p s := by
  induction k generalizing s with
  | zero => rfl
  | succ k ih =>
    unfold discardBroken
    dsimp only
    split
    · simp [ih]
    · split <;> simp [ih]

@[simp] theorem outside_settleRx (p node c : Nat) (s : State) : outside p (settleRx p node c s) = outside p s := by
  simp [settleRx]

@[simp] theorem outside_cutGiven (p node c ms : Nat) (stream : Option Nat) (s : State) :
    outside p (cutGiven p node c ms stream s) = outside p s := by
  simp [cutGiven]

@[simp] theorem outside_resolveGiven (p node c ms : Nat) (stream : Option Nat) (s : State) :
    outside p (resolveGiven p node c ms stream s) = outside p s := by
  simp [resolveGiven]

@[simp] theorem outside_onNotice (p node c stream ms : Nat) (s : State) :
    outside p (onNotice p node c stream ms s) = outside p s := by
  unfold onNotice
  dsimp only
  split <;> simp

@[simp] theorem outside_noteHigh (p node c ms : Nat) (s : State) : outside p (noteHigh p node c ms s) = outside p s := by
  simp [noteHigh]

@[simp] theorem outside_putRx (p : Nat) (w : RxCw) (s : State) : outside p (putRx p w s) = outside p s := by
  simp [putRx]

@[simp] theorem outside_storeRx (p : Nat) (w : RxCw) (s : State) : outside p (storeRx p w s) = outside p s := by
  unfold storeRx
  dsimp only
  repeat' split
  all_goals simp

@[simp] theorem outside_stampRx (p : Nat) (w : RxCw) (s : State) : outside p (stampRx p w s) = outside p s := by
  have go : ∀ (x : Port) (rxA : Nat) (l : List RxCw) (t : State), outside p (stampRx.go p w x rxA l t) = outside p t := by
    intro x rxA l
    induction l with
    | nil => exact fun _ => rfl
    | cons v l ih =>
      intro t
      unfold stampRx.go
      rw [ih]
      split
      · split <;> simp
      · rfl
  unfold stampRx
  simp [go]

@[simp] theorem outside_dropFixed (p : Nat) (s : State) : outside p (dropFixed p s) = outside p s := by
  simp [dropFixed]

@[simp] theorem outside_resendAll (p : Nat) (s : State) : outside p (resendAll p s) = outside p s := by
  simp [resendAll]

/-! ### Tone tables (R128, R135 to R152) -/

@[simp] theorem outside_noteTables (p : Nat) (s : State) : outside p (noteTables p s) = outside p s := by
  simp [noteTables]

@[simp] theorem outside_setTable (p t : Nat) (m : NMap ToneEntry) (s : State) :
    outside p (setTable p t m s) = outside p s := by
  simp [setTable]

/-! ### Changes of a port's state (R157 to R159, R179, R190 to R195) -/

@[simp] theorem outside_oamNext (p : Nat) (s : State) : outside p (oamNext p s) = outside p s := by
  unfold oamNext
  split <;> simp

@[simp] theorem outside_oamPost (p type : Nat) (payload : List Byte) (s : State) :
    outside p (oamPost p type payload s) = outside p s := by
  simp [oamPost]

@[simp] theorem outside_sendLost (p : Nat) (s : State) : outside p (sendLost p s) = outside p s := by
  simp [sendLost]

@[simp] theorem outside_oamDiscard (p : Nat) (s : State) : outside p (oamDiscard p s) = outside p s := by
  simp [oamDiscard]

@[simp] theorem outside_dropSwitches (p : Nat) (s : State) : outside p (dropSwitches p s) = outside p s := by
  simp [dropSwitches]

@[simp] theorem outside_rcDrop (p : Nat) (s : State) : outside p (rcDrop p s) = outside p s := by
  simp [rcDrop]

@[simp] theorem outside_rcAbandon (p oc : Nat) (s : State) : outside p (rcAbandon p oc s) = outside p s := by
  simp [rcAbandon]

@[simp] theorem outside_setCause (p c : Nat) (s : State) : outside p (setCause p c s) = outside p s := by
  simp [setCause]

@[simp] theorem outside_noteMuted (p : Nat) (s : State) : outside p (noteMuted p s) = outside p s := by
  simp [noteMuted]

@[simp] theorem outside_enterSt (p st : Nat) (s : State) : outside p (enterSt p st s) = outside p s := by
  simp [enterSt]

@[simp] theorem outside_leaveShow (p : Nat) (s : State) : outside p (leaveShow p s) = outside p s := by
  simp [leaveShow]

@[simp] theorem outside_newLink (p : Nat) (s : State) : outside p (newLink p s) = outside p s := by
  simp [newLink]

@[simp] theorem outside_leaveCompat (p : Nat) (s : State) : outside p (leaveCompat p s) = outside p s := by
  simp [leaveCompat]

@[simp] theorem outside_dropLink (p : Nat) (s : State) : outside p (dropLink p s) = outside p s := by
  simp [dropLink]

@[simp] theorem outside_abortLinkCmds (p : Nat) (s : State) : outside p (abortLinkCmds p s) = outside p s := by
  simp [abortLinkCmds]

@[simp] theorem outside_toDisabled (p : Nat) (s : State) : outside p (toDisabled p s) = outside p s := by
  simp [toDisabled]

@[simp] theorem outside_toLinkDown (p : Nat) (cause : Option Nat) (s : State) :
    outside p (toLinkDown p cause s) = outside p s := by
  unfold toLinkDown
  split <;> simp

@[simp] theorem outside_toLinkFail (p cause : Nat) (s : State) : outside p (toLinkFail p cause s) = outside p s := by
  simp [toLinkFail]

@[simp] theorem outside_latchDisabled (p : Nat) (s : State) : outside p (latchDisabled p s) = outside p s := by
  simp [latchDisabled]

@[simp] theorem outside_toListen (p : Nat) (s : State) : outside p (toListen p s) = outside p s := by
  simp [toListen]

@[simp] theorem outside_setPhase (p n : Nat) (s : State) : outside p (setPhase p n s) = outside p s := by
  simp [setPhase]

@[simp] theorem outside_toFast (p : Nat) (s : State) : outside p (toFast p s) = outside p s := by
  simp [toFast]

@[simp] theorem outside_fastFails (p : Nat) (s : State) : outside p (fastFails p s) = outside p s := by
  simp [fastFails]

@[simp] theorem outside_retrainBy (p cause : Nat) (fast req : Bool) (s : State) :
    outside p (retrainBy p cause fast req s) = outside p s := by
  simp [retrainBy]

@[simp] theorem outside_forceProfile (p : Nat) (s : State) : outside p (forceProfile p s) = outside p s := by
  simp [forceProfile]

@[simp] theorem outside_toShowtime (p : Nat) (s : State) : outside p (toShowtime p s) = outside p s := by
  simp [toShowtime]

@[simp] theorem outside_leaveDisabled (p : Nat) (s : State) : outside p (leaveDisabled p s) = outside p s := by
  simp [leaveDisabled]

@[simp] theorem outside_sendPage (p : Nat) (null : Bool) (s : State) : outside p (sendPage p null s) = outside p s := by
  simp [sendPage]

@[simp] theorem outside_compatEntry (p st : Nat) (s : State) : outside p (compatEntry p st s) = outside p s := by
  simp [compatEntry]

@[simp] theorem outside_startSpur (p : Nat) (s : State) : outside p (startSpur p s) = outside p s := by
  unfold startSpur
  dsimp only
  split
  · simp
  · split <;> simp

@[simp] theorem outside_startLinkup (p : Nat) (s : State) : outside p (startLinkup p s) = outside p s := by
  simp [startLinkup]

/-! ### Launched symbols -/

@[simp] theorem outside_launch (p kind : Nat) (pfx : Int) (pts : List TonePt) (s : State) :
    outside p (launch p kind pfx pts s) = outside p s := by
  simp [launch]

@[simp] theorem outside_sendFrame (p : Nat) (setB : Bool) (type seq : Nat) (payload : List Byte) (s : State) :
    outside p (sendFrame p setB type seq payload s) = outside p s := by
  simp [sendFrame]

/-! ### Handshake, training and compatibility modes (R157 to R180, R196, R197) -/

@[simp] theorem outside_sendHs (p type : Nat) (payload : List Byte) (s : State) :
    outside p (sendHs p type payload s) = outside p s := by
  simp [sendHs]

@[simp] theorem outside_sendCap (p : Nat) (s : State) : outside p (sendCap p s) = outside p s := by
  simp [sendCap]

@[simp] theorem outside_newCap (p : Nat) (draw : BitVec 16) (s : State) : outside p (newCap p draw s) = outside p s := by
  simp [newCap]

@[simp] theorem outside_enterCap (p : Nat) (initiator : Bool) (since : Nat) (draw : BitVec 16) (s : State) :
    outside p (enterCap p initiator since draw s) = outside p s := by
  simp [enterCap]

@[simp] theorem outside_backToSeek (p : Nat) (s : State) : outside p (backToSeek p s) = outside p s := by
  simp [backToSeek]

@[simp] theorem outside_hearHs {p : Nat} {f : State → State} {s : State} (h : HsHead) (type : Nat)
    (payload : List Byte) (hf : outside p (f s) = outside p s) :
    outside p (hearHs p h type payload f s) = outside p s := by
  unfold hearHs
  split
  · rfl
  · split
    · exact hf
    · split <;> simp

@[simp] theorem outside_resolveCap (p : Nat) (draw : BitVec 16) (s : State) :
    outside p (resolveCap p draw s) = outside p s := by
  unfold resolveCap
  dsimp only
  split
  · split
    · rfl
    · split
      · rfl
      · split
        · simp
        · split <;> simp
  · rfl

@[simp] theorem outside_onCap (p : Nat) (h : HsHead) (c : Cap) (draw : BitVec 16) (s : State) :
    outside p (onCap p h c draw s) = outside p s := by
  simp [onCap]

@[simp] theorem outside_onCapAck (p seq : Nat) (fullReq : Bool) (draw : BitVec 16) (s : State) :
    outside p (onCapAck p seq fullReq draw s) = outside p s := by
  simp [onCapAck]

@[simp] theorem outside_seekOnce (p gap : Nat) (s : State) : outside p (seekOnce p gap s) = outside p s := by
  simp [seekOnce]

@[simp] theorem outside_beginT1 (p : Nat) (s : State) : outside p (beginT1 p s) = outside p s := by
  unfold beginT1
  dsimp only
  split <;> simp

@[simp] theorem outside_warmReject (p : Nat) (s : State) : outside p (warmReject p s) = outside p s := by
  simp [warmReject]

@[simp] theorem outside_maybeReject (p : Nat) (s : State) : outside p (maybeReject p s) = outside p s := by
  simp [maybeReject]

@[simp] theorem outside_trainSend (p kind : Nat) (payload : List Byte) (s : State) :
    outside p (trainSend p kind payload s) = outside p s := by
  simp [trainSend]

@[simp] theorem outside_sendVerdict (p : Nat) (s : State) : outside p (sendVerdict p s) = outside p s := by
  simp [sendVerdict]

@[simp] theorem outside_warmFails (p : Nat) (s : State) : outside p (warmFails p s) = outside p s := by
  simp [warmFails]

@[simp] theorem outside_onVerdict (p : Nat) (passed : Bool) (erle : BitVec 12) (warmOk : Bool) (s : State) :
    outside p (onVerdict p passed erle warmOk s) = outside p s := by
  simp [onVerdict]

@[simp] theorem outside_trainTeq (p : Nat) (s : State) : outside p (trainTeq p s) = outside p s := by
  unfold trainTeq
  split
  · dsimp only
    rw [outside_spend, outside_sticky (by simp), outside_setAll _ _ (by simp), outside_fresh, outside_modSig]
  · simp

@[simp] theorem outside_beginT3 (p ce : Nat) (s : State) : outside p (beginT3 p ce s) = outside p s := by
  simp [beginT3]

@[simp] theorem outside_onNamed (p c : Nat) (s : State) : outside p (onNamed p c s) = outside p s := by
  unfold onNamed
  dsimp only
  split <;> simp

@[simp] theorem outside_onLock (p : Nat) (s : State) : outside p (onLock p s) = outside p s := by
  simp [onLock]

@[simp] theorem outside_onCountMark (p : Nat) (s : State) : outside p (onCountMark p s) = outside p s := by
  simp [onCountMark]

@[simp] theorem outside_sendTa (p ta : Nat) (s : State) : outside p (sendTa p ta s) = outside p s := by
  simp [sendTa]

@[simp] theorem outside_judgeRange (p : Nat) (rtts : List Nat) (s : State) :
    outside p (judgeRange p rtts s) = outside p s := by
  simp [judgeRange]

@[simp] theorem outside_onRangingMark (p rtt : Nat) (s : State) : outside p (onRangingMark p rtt s) = outside p s := by
  simp [onRangingMark]

@[simp] theorem outside_onTa (p ta symbol : Nat) (s : State) : outside p (onTa p ta symbol s) = outside p s := by
  simp [onTa]

@[simp] theorem outside_maybeCe (p : Nat) (s : State) : outside p (maybeCe p s) = outside p s := by
  unfold maybeCe
  dsimp only
  split <;> simp

@[simp] theorem outside_onProbe (p spread : Nat) (s : State) : outside p (onProbe p spread s) = outside p s := by
  unfold onProbe
  dsimp only
  split
  · simp
  · split <;> simp

@[simp] theorem outside_onSpread (p spread : Nat) (s : State) : outside p (onSpread p spread s) = outside p s := by
  simp [onSpread]

@[simp] theorem outside_onCe (p ce symbol : Nat) (s : State) : outside p (onCe p ce symbol s) = outside p s := by
  simp [onCe]

@[simp] theorem outside_loadFails (p cause : Nat) (s : State) : outside p (loadFails p cause s) = outside p s := by
  simp [loadFails]

@[simp] theorem outside_onT3End (p id : Nat) (s : State) : outside p (onT3End p id s) = outside p s := by
  simp [onT3End]

@[simp] theorem outside_maybeT5 (p : Nat) (s : State) : outside p (maybeT5 p s) = outside p s := by
  simp [maybeT5]

@[simp] theorem outside_onTones (p : Nat) (last : Bool) (entries : List (Nat × Nat × Int)) (s : State) :
    outside p (onTones p last entries s) = outside p s := by
  simp [onTones]

@[simp] theorem outside_onPhaseTimeout (p : Nat) (gone : Bool) (s : State) :
    outside p (onPhaseTimeout p gone s) = outside p s := by
  simp [onPhaseTimeout]

@[simp] theorem outside_onTraining (p kind : Nat) (b : List Byte) (s : State) :
    outside p (onTraining p kind b s) = outside p s := by
  simp [onTraining]

/-! ### Reconfiguration and OAM messages (R182 to R192) -/

@[simp] theorem outside_rcSend (p op arg : Nat) (s : State) : outside p (rcSend p op arg s) = outside p s := by
  simp [rcSend]

@[simp] theorem outside_rcNext (p : Nat) (s : State) : outside p (rcNext p s) = outside p s := by
  unfold rcNext
  split <;> simp

@[simp] theorem outside_rcPost (p op arg : Nat) (s : State) : outside p (rcPost p op arg s) = outside p s := by
  simp [rcPost]

@[simp] theorem outside_rcClear (p : Nat) (s : State) : outside p (rcClear p s) = outside p s := by
  simp [rcClear]

@[simp] theorem outside_rcAnswer (p op seq : Nat) (nak : Option Nat) (s : State) :
    outside p (rcAnswer p op seq nak s) = outside p s := by
  simp [rcAnswer]

@[simp] theorem outside_sendReconfReq (p : Nat) (s : State) : outside p (sendReconfReq p s) = outside p s := by
  simp [sendReconfReq]

@[simp] theorem outside_acceptReconf (p : Nat) (s : State) : outside p (acceptReconf p s) = outside p s := by
  simp [acceptReconf]

@[simp] theorem outside_maybeCommit (p : Nat) (s : State) : outside p (maybeCommit p s) = outside p s := by
  simp [maybeCommit]

@[simp] theorem outside_sendDrained (p : Nat) (s : State) : outside p (sendDrained p s) = outside p s := by
  simp [sendDrained]

@[simp] theorem outside_pendBoth (p sf : Nat) (s : State) : outside p (pendBoth p sf s) = outside p s := by
  simp [pendBoth]

@[simp] theorem outside_startSwap (p : Nat) (tab : NMap ToneEntry) (s : State) :
    outside p (startSwap p tab s) = outside p s := by
  simp [startSwap]

@[simp] theorem outside_dropSwap (p : Nat) (s : State) : outside p (dropSwap p s) = outside p s := by
  simp [dropSwap]

@[simp] theorem outside_startHyb (p : Nat) (s : State) : outside p (startHyb p s) = outside p s := by
  simp [startHyb]

@[simp] theorem outside_endHyb (p oc : Nat) (s : State) : outside p (endHyb p oc s) = outside p s := by
  simp [endHyb]

@[simp] theorem outside_onTaAdj (p seq delta sf : Nat) (s : State) :
    outside p (onTaAdj p seq delta sf s) = outside p s := by
  simp [onTaAdj]

@[simp] theorem outside_onSwapReq (p seq sf : Nat) (s : State) : outside p (onSwapReq p seq sf s) = outside p s := by
  simp [onSwapReq]

@[simp] theorem outside_onReconfReq (p seq arg : Nat) (s : State) :
    outside p (onReconfReq p seq arg s) = outside p s := by
  simp [onReconfReq]

@[simp] theorem outside_onDrained (p seq : Nat) (s : State) : outside p (onDrained p seq s) = outside p s := by
  simp [onDrained]

@[simp] theorem outside_onRcCommit (p seq sf : Nat) (s : State) : outside p (onRcCommit p seq sf s) = outside p s := by
  simp [onRcCommit]

@[simp] theorem outside_onCalPause (p seq sf : Nat) (s : State) : outside p (onCalPause p seq sf s) = outside p s := by
  simp [onCalPause]

@[simp] theorem outside_onRcAck (p seq op : Nat) (s : State) : outside p (onRcAck p seq op s) = outside p s := by
  unfold onRcAck
  split <;> simp

@[simp] theorem outside_rcCancel (p op oc : Nat) (s : State) : outside p (rcCancel p op oc s) = outside p s := by
  simp [rcCancel]

@[simp] theorem outside_onRcNak (p seq op reason : Nat) (s : State) :
    outside p (onRcNak p seq op reason s) = outside p s := by
  unfold onRcNak
  split <;> simp

@[simp] theorem outside_rcWithdraw (p : Nat) (s : State) : outside p (rcWithdraw p s) = outside p s := by
  unfold rcWithdraw
  split <;> simp

@[simp] theorem outside_onSoftware (p mid type : Nat) (payload : List Byte) (s : State) :
    outside p (onSoftware p mid type payload s) = outside p s := by
  simp [onSoftware]

@[simp] theorem outside_onMask (p : Nat) (bps : List (Nat × Int)) (notches : List (Nat × Nat)) (s : State) :
    outside p (onMask p bps notches s) = outside p s := by
  simp [onMask]

@[simp] theorem outside_oamDelivered (p : Nat) (m : OamMsg) (s : State) :
    outside p (oamDelivered p m s) = outside p s := by
  simp [oamDelivered]

@[simp] theorem outside_oamLost (p : Nat) (m : OamMsg) (s : State) : outside p (oamLost p m s) = outside p s := by
  simp [oamLost]

@[simp] theorem outside_onOamAck (p mid : Nat) (s : State) : outside p (onOamAck p mid s) = outside p s := by
  unfold onOamAck
  split <;> simp

@[simp] theorem outside_onOamMessage (p mid type : Nat) (payload : List Byte) (crcOk : Bool) (s : State) :
    outside p (onOamMessage p mid type payload crcOk s) = outside p s := by
  simp [onOamMessage]

@[simp] theorem outside_staleLost (p : Nat) (m : OamMsg) (s : State) : outside p (staleLost p m s) = outside p s := by
  simp [staleLost]

/-! ### Transmitted symbols (R131 to R144, R174 to R176) -/

@[simp] theorem outside_dropUnfit (p n k : Nat) (s : State) : outside p (dropUnfit p n k s) = outside p s := by
  induction k generalizing s with
  | zero => rfl
  | succ k ih =>
    unfold dropUnfit
    split
    · split <;> simp [ih]
    · rfl

@[simp] theorem outside_stampTx (p : Nat) (frames : List Nat) (s : State) :
    outside p (stampTx p frames s) = outside p s := by
  simp [stampTx]

@[simp] theorem outside_sendCw (p : Nat) (w : TxCw) (sym last cycle : Nat) (s : State) :
    outside p (sendCw p w sym last cycle s) = outside p s := by
  simp [sendCw]

@[simp] theorem outside_nextCodeword (p sym last : Nat) (s : State) :
    outside p (nextCodeword p sym last s).2 = outside p s := by
  unfold nextCodeword
  dsimp only
  repeat' split
  all_goals simp

@[simp] theorem outside_fillBits (p sym cap total k l : Nat) (m : List Bool) (s : State) :
    outside p (fillBits p sym cap total k l m s).2 = outside p s := by
  induction k generalizing l m s with
  | zero => rfl
  | succ k ih =>
    unfold fillBits
    split
    · rfl
    · split
      · rfl
      · simp [ih]

@[simp] theorem outside_oamOut (p : Nat) (s : State) : outside p (oamOut p s).2 = outside p s := by
  unfold oamOut
  dsimp only
  repeat' split
  all_goals simp

@[simp] theorem outside_rcOut (p : Nat) (s : State) : outside p (rcOut p s).2 = outside p s := by
  unfold rcOut
  split <;> simp

@[simp] theorem outside_overheadOut (p c pos : Nat) (s : State) : outside p (overheadOut p c pos s).2 = outside p s := by
  simp [overheadOut]

@[simp] theorem outside_makeSlip (p : Nat) (may : Bool) (s : State) : outside p (makeSlip p may s).2 = outside p s := by
  unfold makeSlip
  dsimp only
  split <;> simp

@[simp] theorem outside_takeCounter (p : Nat) (s : State) : outside p (takeCounter p s).2 = outside p s := by
  simp [takeCounter]

@[simp] theorem outside_dataSymbol (p c pos : Nat) (s : State) : outside p (dataSymbol p c pos s) = outside p s := by
  simp [dataSymbol]

@[simp] theorem outside_trainSymbol (p c : Nat) (may : Bool) (s : State) :
    outside p (trainSymbol p c may s) = outside p s := by
  simp [trainSymbol]

@[simp] theorem outside_messageOut (p cap : Nat) (s : State) : outside p (messageOut p cap s).2 = outside p s := by
  simp [messageOut]

@[simp] theorem outside_sendTraining (p : Nat) (s : State) : outside p (sendTraining p s) = outside p s := by
  unfold sendTraining
  simp only [outside_ite, apply_ite Prod.snd, outside_when, outside_maybeReject, outside_launch, outside_modLink,
    outside_messageOut, outside_modSig, outside_makeSlip, outside_onNamed, outside_setF, ownFld_iff, inPort_TONES, true_and,
    true_or, ite_self]

@[simp] theorem outside_sendSymbol (p : Nat) (s : State) : outside p (sendSymbol p s) = outside p s := by
  simp [sendSymbol]

/-! ### Received symbols (R205 to R222) -/

@[simp] theorem outside_enterHold (p : Nat) (s : State) : outside p (enterHold p s) = outside p s := by
  simp [enterHold]

@[simp] theorem outside_judgeHold (p : Nat) (s : State) : outside p (judgeHold p s) = outside p s := by
  simp [judgeHold]

@[simp] theorem outside_closeEvent (p blocks : Nat) (s : State) : outside p (closeEvent p blocks s) = outside p s := by
  simp [closeEvent]

@[simp] theorem outside_noteScan (p : Nat) (k : Scan) (s : State) : outside p (noteScan p k s) = outside p s := by
  simp [noteScan]

@[simp] theorem outside_examine (p : Nat) (o : RxSymbol) (other : Bool) (s : State) :
    outside p (examine p o other s).2 = outside p s := by
  simp [examine]

@[simp] theorem outside_endImpulse (p blocks : Nat) (s : State) : outside p (endImpulse p blocks s) = outside p s := by
  simp [endImpulse]

@[simp] theorem outside_adaptEcho (p mu : Nat) (l : List ToneRx) (s : State) :
    outside p (adaptEcho p mu l s) = outside p s := by
  unfold adaptEcho
  dsimp only
  rw [outside_fresh, outside_modSig]

@[simp] theorem outside_adaptFeq (p : Nat) (l : List ToneRx) (s : State) : outside p (adaptFeq p l s) = outside p s := by
  unfold adaptFeq
  dsimp only
  split
  · rfl
  · rw [outside_fresh, outside_modSig]

@[simp] theorem outside_noteNoise (p i : Nat) (kind : RxKind) (l : List ToneRx) (s : State) :
    outside p (noteNoise p i kind l s) = outside p s := by
  simp [noteNoise]

@[simp] theorem outside_searchHybrid (p i : Nat) (o : RxSymbol) (s : State) :
    outside p (searchHybrid p i o s) = outside p s := by
  unfold searchHybrid
  split
  · extract_lets f zeroed started sum added
    have hadded : outside p added = outside p s := by
      rw [outside_modSig, outside_ite, outside_modSig, outside_setF (by simp [f]), outside_when _ (by simp), ite_self]
    clear_value added
    split
    · exact hadded
    · split <;> simp [f, hadded]
  · split
    · extract_lets old hits counted ok
      have hcounted : outside p counted = outside p s := outside_modSig p _ s
      clear_value counted
      split <;> simp [hcounted]
    · rfl

@[simp] theorem outside_timing (p : Nat) (slope : Rat) (s : State) : outside p (timing p slope s) = outside p s := by
  simp [timing]

@[simp] theorem outside_processSymbol (p : Nat) (o : RxSymbol) (kind : RxKind) (i c : Nat) (s : State) :
    outside p (processSymbol p o kind i c s).2 = outside p s := by
  unfold processSymbol
  dsimp only
  repeat' split
  all_goals simp

@[simp] theorem outside_noteOverload (p : Nat) (s : State) : outside p (noteOverload p s) = outside p s := by
  simp [noteOverload]

@[simp] theorem outside_failCw (p : Nat) (s : State) : outside p (failCw p s) = outside p s := by
  simp [failCw]

@[simp] theorem outside_queueCw (p : Nat) (w : DqCw) (s : State) : outside p (queueCw p w s).2 = outside p s := by
  unfold queueCw
  split <;> simp

@[simp] theorem outside_finishCw (p : Nat) (s : State) : outside p (finishCw p s) = outside p s := by
  simp [finishCw]

@[simp] theorem outside_takeBits (p : Nat) (erased : Bool) (k l : Nat) (s : State) :
    outside p (takeBits p erased k l s) = outside p s := by
  induction k generalizing l s with
  | zero => rfl
  | succ k ih =>
    unfold takeBits
    simp [ih]

@[simp] theorem outside_countSymbol (p : Nat) (o : RxSymbol) (kind : RxKind) (n : Nat) (marked : Bool) (s : State) :
    outside p (countSymbol p o kind n marked s) = outside p s := by
  simp [countSymbol]

@[simp] theorem outside_receiveSymbol (p : Nat) (o : RxSymbol) (s : State) :
    outside p (receiveSymbol p o s) = outside p s := by
  simp [receiveSymbol]

/-! ### Superframes and overhead fields (R131, R132, R145, R249 to R252) -/

@[simp] theorem outside_applyReconf (p : Nat) (s : State) : outside p (applyReconf p s) = outside p s := by
  unfold applyReconf
  dsimp only
  split <;> simp

@[simp] theorem outside_finishReconf (p : Nat) (s : State) : outside p (finishReconf p s) = outside p s := by
  simp [finishReconf]

@[simp] theorem outside_switchTx (p : Nat) (s : State) : outside p (switchTx p s) = outside p s := by
  simp [switchTx]

@[simp] theorem outside_switchRx (p : Nat) (s : State) : outside p (switchRx p s) = outside p s := by
  simp [switchRx]

@[simp] theorem outside_turnFeq (p : Nat) (d : Int) (s : State) : outside p (turnFeq p d s) = outside p s := by
  unfold turnFeq
  dsimp only
  rw [outside_fresh, outside_modSig]

@[simp] theorem outside_applyTa (p : Nat) (s : State) : outside p (applyTa p s) = outside p s := by
  unfold applyTa
  split <;> simp

@[simp] theorem outside_judgeAlign (p : Nat) (e : Int) (s : State) : outside p (judgeAlign p e s) = outside p s := by
  simp [judgeAlign]

@[simp] theorem outside_judgeLpi (p : Nat) (s : State) : outside p (judgeLpi p s) = outside p s := by
  simp [judgeLpi]

@[simp] theorem outside_noteDecoding (p samples : Nat) (s : State) :
    outside p (noteDecoding p samples s) = outside p s := by
  unfold noteDecoding
  split <;> simp

@[simp] theorem outside_boundary (p : Nat) (e : Int) (s : State) : outside p (boundary p e s) = outside p s := by
  simp [boundary]

@[simp] theorem outside_onSync (p : Nat) (found inverted : Bool) (o : RxSymbol) (s : State) :
    outside p (onSync p found inverted o s) = outside p s := by
  simp [onSync]

@[simp] theorem outside_closeMessage (p mid : Nat) (bs : List Byte) (s : State) :
    outside p (closeMessage p mid bs s) = outside p s := by
  simp [closeMessage]

@[simp] theorem outside_onSegment (p : Nat) (seg : List Byte) (s : State) :
    outside p (onSegment p seg s) = outside p s := by
  unfold onSegment
  split <;> simp

@[simp] theorem outside_onRcBytes (p : Nat) (bs : List Byte) (s : State) :
    outside p (onRcBytes p bs s) = outside p s := by
  simp [onRcBytes]

@[simp] theorem outside_onImpulse (p : Nat) (s : State) : outside p (onImpulse p s) = outside p s := by
  simp [onImpulse]

@[simp] theorem outside_onOverhead (p : Nat) (bs : List Byte) (s : State) :
    outside p (onOverhead p bs s) = outside p s := by
  simp [onOverhead]

/-! ### Line quality, low-power idle, reflectometry, survey (R186, R310 to R335) -/

@[simp] theorem outside_autoHyb (p : Nat) (s : State) : outside p (autoHyb p s) = outside p s := by
  simp [autoHyb]

@[simp] theorem outside_noteErle (p erle : Nat) (s : State) : outside p (noteErle p erle s) = outside p s := by
  simp [noteErle]

@[simp] theorem outside_judgeSwap (p : Nat) (s : State) : outside p (judgeSwap p s) = outside p s := by
  simp [judgeSwap]

@[simp] theorem outside_noteIlShow (p : Nat) (il : List (Nat × BitVec 12)) (s : State) :
    outside p (noteIlShow p il s) = outside p s := by
  unfold noteIlShow
  split
  · rfl
  · dsimp only
    rw [outside_spend, outside_modWatch, outside_fresh]

@[simp] theorem outside_noteMargin (p : Nat) (m : Int) (s : State) : outside p (noteMargin p m s) = outside p s := by
  simp [noteMargin]

@[simp] theorem outside_onMargins (p : Nat) (il : List (Nat × BitVec 12)) (s : State) :
    outside p (onMargins p il s) = outside p s := by
  simp [onMargins]

@[simp] theorem outside_restartInterval (p : Nat) (s : State) : outside p (restartInterval p s) = outside p s := by
  simp [restartInterval]

@[simp] theorem outside_predict (p : Nat) (s : State) : outside p (predict p s) = outside p s := by
  simp [predict]

@[simp] theorem outside_endInterval (p : Nat) (s : State) : outside p (endInterval p s) = outside p s := by
  simp [endInterval]

@[simp] theorem outside_leaveQuiet (p : Nat) (s : State) : outside p (leaveQuiet p s) = outside p s := by
  simp [leaveQuiet]

@[simp] theorem outside_endTdr (p oc : Nat) (s : State) : outside p (endTdr p oc s) = outside p s := by
  simp [endTdr]

@[simp] theorem outside_unfitTdr (p : Nat) (s : State) : outside p (unfitTdr p s) = outside p s := by
  simp [unfitTdr]

@[simp] theorem outside_writeLog (p source bin : Nat) (mag : Int) (s : State) :
    outside p (writeLog p source bin mag s) = outside p s := by
  have lodge : ownPage p (keyPage (Fld.LODGE_LOG_OVF.key 0)) = true := by
    rw [keyPage_key (by decide)]
    rfl
  have logged : ∀ (l : NMap (List Nat)) (t : State), outside p { t with log := l } = outside p t := fun _ _ => rfl
  unfold writeLog
  dsimp only
  split
  · rw [logged, outside_count (by simp)]
  · rw [outside_sticky (by simp), outside_setF_page lodge, logged, outside_count (by simp)]

@[simp] theorem outside_judgeProfile (p source persist : Nat) (event : Bool) (now base : List Int) (s : State) :
    outside p (judgeProfile p source persist event now base s).2 = outside p s := by
  unfold judgeProfile
  dsimp only
  split <;> simp

@[simp] theorem outside_newProfile (p source : Nat) (rho : List Int) (s : State) :
    outside p (newProfile p source rho s) = outside p s := by
  simp [newProfile]

@[simp] theorem outside_finishTdr (p : Nat) (peaks : List Reflection) (loss : List (Nat × Nat)) (s : State) :
    outside p (finishTdr p peaks loss s) = outside p s := by
  simp [finishTdr, outside_fresh]

@[simp] theorem outside_sendChirp (p : Nat) (s : State) : outside p (sendChirp p s) = outside p s := by
  simp [sendChirp]

@[simp] theorem outside_endSilence (p : Nat) (partnerPower : Bool) (peaks : List Reflection) (loss : List (Nat × Nat))
    (s : State) : outside p (endSilence p partnerPower peaks loss s) = outside p s := by
  simp [endSilence]

@[simp] theorem outside_showProfile (p : Nat) (rho : List Int) (s : State) :
    outside p (showProfile p rho s) = outside p s := by
  simp [showProfile]

/-! ### Decoded codewords and frames toward the host (R234 to R262, R342) -/

@[simp] theorem outside_enqueue (p i : Nat) (bs : List Byte) (s : State) :
    outside p (enqueue p i bs s).2 = outside p s := by
  unfold enqueue
  dsimp only
  repeat' split
  all_goals simp

@[simp] theorem outside_laneDrop (p n : Nat) (s : State) : outside p (laneDrop p n s) = outside p s := by
  simp [laneDrop]

theorem outside_deliver {p i c : Nat} {fixed : Bool} {bs : List Byte} {s t : State} :
    deliver p i c fixed bs s = some t → outside p t = outside p s := by
  revert t
  unfold deliver
  dsimp only
  repeat' split
  all_goals simp

@[simp] theorem outside_noteReleased (p i ms : Nat) (s : State) : outside p (noteReleased p i ms s) = outside p s := by
  simp [noteReleased]

@[simp] theorem outside_releaseFrame (p i : Nat) (s : State) : outside p (releaseFrame p i s) = outside p s := by
  unfold releaseFrame
  dsimp only
  split
  · split
    · rename_i t h
      simp [outside_deliver h]
    · rfl
  · rfl

@[simp] theorem outside_deliverFixed (p i : Nat) (bs : List Byte) (s : State) :
    outside p (deliverFixed p i bs s) = outside p s := by
  unfold deliverFixed
  split
  · rename_i t h
    simp [outside_deliver h]
  · simp

@[simp] theorem outside_delivered (p : Nat) (bs : List Byte) (s : State) :
    outside p (delivered p bs s) = outside p s := by
  simp [delivered]

@[simp] theorem outside_sendEgress (p : Nat) (s : State) : outside p (sendEgress p s) = outside p s := by
  unfold sendEgress
  dsimp only
  repeat' split
  all_goals simp

@[simp] theorem outside_takeBroadcast (p node i k : Nat) (l : List Byte) (s : State) :
    outside p (takeBroadcast p node i k l s) = outside p s := by
  induction k generalizing l s with
  | zero => rfl
  | succ k ih =>
    unfold takeBroadcast
    dsimp only
    split
    · simp [ih]
    · split
      · rw [ih]
        split
        · rename_i t h
          simp [outside_deliver h]
        · simp
      · simp

@[simp] theorem outside_onBroadcast (p node i first : Nat) (data : List Byte) (s : State) :
    outside p (onBroadcast p node i first data s) = outside p s := by
  simp [onBroadcast]

@[simp] theorem outside_loseBroadcast (p node : Nat) (s : State) : outside p (loseBroadcast p node s) = outside p s := by
  simp [loseBroadcast]

@[simp] theorem outside_decodeFailed (p : Nat) (w : DqCw) (s : State) : outside p (decodeFailed p w s) = outside p s := by
  simp [decodeFailed]

@[simp] theorem outside_actNotices (p : Nat) (l : List (Nat × Nat)) (s : State) :
    outside p (actNotices p l s) = outside p s := by
  simp [actNotices]

@[simp] theorem outside_onCodeword (p : Nat) (w : DqCw) (info : List Byte) (s : State) :
    outside p (onCodeword p w info s) = outside p s := by
  unfold onCodeword
  dsimp only
  repeat' split
  all_goals simp

@[simp] theorem outside_codewordEnds (p : Nat) (c : DecodedCw) (s : State) :
    outside p (codewordEnds p c s) = outside p s := by
  unfold codewordEnds
  split
  · simp
  · split <;> simp

@[simp] theorem outside_fromPhy (p : Nat) (bs : List Byte) (s : State) : outside p (fromPhy p bs s) = outside p s := by
  simp [fromPhy]

/-! ### The host lane (R340) -/

@[simp] theorem outside_laneFalls (p : Nat) (s : State) : outside p (laneFalls p s) = outside p s := by
  simp [laneFalls]

@[simp] theorem outside_laneRefresh (p : Nat) (s : State) : outside p (laneRefresh p s) = outside p s := by
  simp [laneRefresh]

/-! ### Calibration (R385 to R389) -/

@[simp] theorem outside_endRun (p kind oc reason : Nat) (s : State) :
    outside p (endRun p kind oc reason s) = outside p s := by
  simp [endRun]

@[simp] theorem outside_hybDone (p : Nat) (gain10 : Int) (hybR hybC : Nat) (coefs : List (Nat × Int × Int)) (s : State) :
    outside p (hybDone p gain10 hybR hybC coefs s) = outside p s := by
  simp [hybDone]

/-! ### Spur mode (R272 to R305) -/

@[simp] theorem outside_modNode (p n : Nat) (f : NodeSt → NodeSt) (s : State) :
    outside p (modNode p n f s) = outside p s := by
  simp [modNode]

@[simp] theorem outside_sendSp (p kind : Nat) (pts : List TonePt) (s : State) :
    outside p (sendSp p kind pts s) = outside p s := by
  simp [sendSp]

@[simp] theorem outside_sendPreamble (p : Nat) (s : State) : outside p (sendPreamble p s) = outside p s := by
  simp [sendPreamble]

@[simp] theorem outside_sendBurst (p dest kind len gen : Nat) (loads : NMap Nat) (bits : List Bool) (s : State) :
    outside p (sendBurst p dest kind len gen loads bits s) = outside p s := by
  simp [sendBurst]

@[simp] theorem outside_sendBroadcast (p : Nat) (w : TxCw) (s : State) :
    outside p (sendBroadcast p w s) = outside p s := by
  simp [sendBroadcast]

@[simp] theorem outside_nextTo (p dest : Nat) (s : State) : outside p (nextTo p dest s).2 = outside p s := by
  unfold nextTo
  dsimp only
  repeat' split
  all_goals simp

@[simp] theorem outside_codewordsTo (p dest k : Nat) (l : List Bool) (s : State) :
    outside p (codewordsTo p dest k l s).2 = outside p s := by
  induction k generalizing l s with
  | zero => rfl
  | succ k ih =>
    unfold codewordsTo
    simp [ih]

@[simp] theorem outside_sendGrant (p k : Nat) (l : Bool) (m : Nat) (s : State) :
    outside p (sendGrant p k l m s) = outside p s := by
  induction k generalizing l m s with
  | zero => rfl
  | succ k ih =>
    unfold sendGrant
    dsimp only
    split
    · rfl
    · split
      · simp [ih]
      · split <;> simp

@[simp] theorem outside_abandonRx (p : Nat) (s : State) : outside p (abandonRx p s) = outside p s := by
  simp [abandonRx]

@[simp] theorem outside_startGrant (p slot : Nat) (s : State) : outside p (startGrant p slot s) = outside p s := by
  unfold startGrant
  split <;> simp

@[simp] theorem outside_forceSpur (p : Nat) (s : State) : outside p (forceSpur p s) = outside p s := by
  simp [forceSpur]

@[simp] theorem outside_toSpurShow (p st : Nat) (s : State) : outside p (toSpurShow p st s) = outside p s := by
  simp [toSpurShow]

@[simp] theorem outside_toSpListen (p : Nat) (cause : Option Nat) (s : State) :
    outside p (toSpListen p cause s) = outside p s := by
  unfold toSpListen
  split <;> simp

@[simp] theorem outside_spListenEnds (p : Nat) (s : State) : outside p (spListenEnds p s) = outside p s := by
  simp [spListenEnds]

@[simp] theorem outside_cycleStats (p cycle : Nat) (s : State) : outside p (cycleStats p cycle s) = outside p s := by
  simp [cycleStats]

@[simp] theorem outside_startCycle (p : Nat) (s : State) : outside p (startCycle p s) = outside p s := by
  simp [startCycle]

@[simp] theorem outside_followSchedule (p no : Nat) (c : Schedule) (s : State) :
    outside p (followSchedule p no c s) = outside p s := by
  simp [followSchedule]

@[simp] theorem outside_knockUnanswered (p : Nat) (s : State) : outside p (knockUnanswered p s) = outside p s := by
  simp [knockUnanswered]

@[simp] theorem outside_onSchedule (p : Nat) (c : Schedule) (no sender : Nat) (s : State) :
    outside p (onSchedule p c no sender s) = outside p s := by
  unfold onSchedule
  dsimp only
  repeat' split
  all_goals simp

@[simp] theorem outside_missSchedule (p : Nat) (s : State) : outside p (missSchedule p s) = outside p s := by
  unfold missSchedule
  dsimp only
  repeat' split
  all_goals simp

@[simp] theorem outside_missGrant (p node : Nat) (s : State) : outside p (missGrant p node s) = outside p s := by
  simp [missGrant]

@[simp] theorem outside_knockSymbols (p : Nat) (block : List Byte) (s : State) :
    outside p (knockSymbols p block s) = outside p s := by
  simp [knockSymbols]

@[simp] theorem outside_sendKnock (p draw : Nat) (s : State) : outside p (sendKnock p draw s) = outside p s := by
  simp [sendKnock]

@[simp] theorem outside_onKnock (p uid node : Nat) (s : State) : outside p (onKnock p uid node s) = outside p s := by
  simp [onKnock]

@[simp] theorem outside_setAcq (p : Nat) (k : Acq) (s : State) : outside p (setAcq p k s) = outside p s := by
  simp [setAcq]

@[simp] theorem outside_reacquire (p : Nat) (above : Bool) (s : State) :
    outside p (reacquire p above s) = outside p s := by
  simp [reacquire]

@[simp] theorem outside_falseDetect (p : Nat) (s : State) : outside p (falseDetect p s) = outside p s := by
  simp [falseDetect]

@[simp] theorem outside_loseLate (p : Nat) (s : State) : outside p (loseLate p s) = outside p s := by
  simp [loseLate]

@[simp] theorem outside_onDetect (p frozen : Nat) (s : State) : outside p (onDetect p frozen s) = outside p s := by
  simp [onDetect]

@[simp] theorem outside_onSyncFound (p lvl afc preamble : Nat) (s : State) :
    outside p (onSyncFound p lvl afc preamble s) = outside p s := by
  simp [onSyncFound]

@[simp] theorem outside_closeSearch (p : Nat) (above : Bool) (s : State) :
    outside p (closeSearch p above s) = outside p s := by
  simp [closeSearch]

@[simp] theorem outside_onRise (p : Nat) (above : Bool) (s : State) : outside p (onRise p above s) = outside p s := by
  simp [onRise]

@[simp] theorem outside_formCommon (p : Nat) (s : State) : outside p (formCommon p s) = outside p s := by
  unfold formCommon
  dsimp only
  split
  · simp
  · split <;> simp

@[simp] theorem outside_judgeTable (p sender : Nat) (snr : NMap Int) (s : State) :
    outside p (judgeTable p sender snr s) = outside p s := by
  simp [judgeTable]

@[simp] theorem outside_noteStale (p : Nat) (s : State) : outside p (noteStale p s) = outside p s := by
  simp [noteStale]

@[simp] theorem outside_useHeader (p : Nat) (h : Header) (snr : Option (List (Nat × Int))) (s : State) :
    outside p (useHeader p h snr s) = outside p s := by
  unfold useHeader
  split <;> simp

@[simp] theorem outside_onHeader (p slot : Nat) (crcOk : Bool) (h : Header) (snr : Option (List (Nat × Int)))
    (s : State) : outside p (onHeader p slot crcOk h snr s) = outside p s := by
  simp [onHeader]

@[simp] theorem outside_queueCws (p : Nat) (w : DqCw) (k : Nat) (s : State) :
    outside p (queueCws p w k s) = outside p s := by
  induction k generalizing s with
  | zero => rfl
  | succ k ih =>
    unfold queueCws
    simp [ih]

@[simp] theorem outside_endBurst (p : Nat) (above : Bool) (s : State) : outside p (endBurst p above s) = outside p s := by
  unfold endBurst
  dsimp only
  repeat' split
  all_goals simp

@[simp] theorem outside_onTable (p sender dest gen : Nat) (loads : List (Nat × Nat)) (s : State) :
    outside p (onTable p sender dest gen loads s) = outside p s := by
  simp [onTable]

@[simp] theorem outside_sendTable (p dest : Nat) (t : SpTable) (s : State) :
    outside p (sendTable p dest t s) = outside p s := by
  simp [sendTable]

@[simp] theorem outside_tableOut (p node : Nat) (s : State) : outside p (tableOut p node s) = outside p s := by
  unfold tableOut
  dsimp only
  repeat' split
  all_goals simp

@[simp] theorem outside_tableAgain (p node : Nat) (s : State) : outside p (tableAgain p node s) = outside p s := by
  unfold tableAgain
  dsimp only
  split <;> simp

@[simp] theorem outside_onIdleSlot (p : Nat) (power : List (Nat × Int)) (s : State) :
    outside p (onIdleSlot p power s) = outside p s := by
  simp [onIdleSlot]

/-! ### MAC control (R343) -/

@[simp] theorem outside_macControl (p opcode enable : Nat) (quanta : List Nat) (s : State) :
    outside p (macControl p opcode enable quanta s) = outside p s := by
  simp [macControl]

end Sys2Proof.Machine
end


section
/-! SUPPORT. Every line and host-lane event answers a state with the same outside of its port (O59). -/

namespace Sys2Proof.Machine

/-- What a command answers has the same outside of port `p`. -/
def KeepsOutside (p : Nat) (s : State) (a : Answer) : Prop := ∀ t, a = .next t → outside p t = outside p s

@[simp] theorem keepsOutside_next (p : Nat) (s t : State) : KeepsOutside p s (.next t) ↔ outside p t = outside p s := by
  simp [KeepsOutside]

@[simp] theorem outside_portEvent {p : Nat} {f : State → State} {s : State} (h : outside p (f s) = outside p s) :
    outside p (portEvent p f s) = outside p s := by
  unfold portEvent
  split
  · rfl
  · exact h

theorem keepsOutside_event {p : Nat} {f : State → State} {s : State} (h : outside p (f s) = outside p s) :
    KeepsOutside p s (.next (portEvent p f s)) := (keepsOutside_next p s _).mpr (outside_portEvent h)

/-! ### Events whose meaning looks something up -/

@[simp] theorem keepsOutside_execAckTimeout (p : Fin 8) (s : State) : KeepsOutside p s (execAckTimeout p s) := by
  refine keepsOutside_event ?_
  split <;> simp

@[simp] theorem keepsOutside_execAdmission (p cls : Fin 8) (s : State) : KeepsOutside p s (execAdmission p cls s) := by
  refine keepsOutside_event ?_
  split <;> simp

@[simp] theorem keepsOutside_execDeadlineExpiry (p : Fin 8) (node : Fin 16) (cls : Fin 8) (milestone : BitVec 16)
    (s : State) : KeepsOutside p s (execDeadlineExpiry p node cls milestone s) := by
  refine keepsOutside_event ?_
  split <;> simp

@[simp] theorem keepsOutside_execTailResend (p : Fin 8) (node : Fin 16) (cls : Fin 8) (s : State) :
    KeepsOutside p s (execTailResend p node cls s) := by
  refine keepsOutside_event ?_
  dsimp only
  split <;> simp

@[simp] theorem keepsOutside_execCaptured (p : Fin 8) (above : Bool) (s : State) :
    KeepsOutside p s (execCaptured p above s) := by
  refine keepsOutside_event ?_
  split <;> simp

/-! ### O59 -/

/-- A line or host-lane event of a port keeps what lies outside of it. -/
theorem keepsOutside_exec {c : Instr} {p : Fin 8} (h : linePort c = some p) (s : State) : KeepsOutside p s (exec c s) := by
  cases c <;> simp only [linePort, Option.some.injEq, reduceCtorEq] at h <;> subst h
  all_goals simp [exec, execSymbolTx, execSymbolRx, execSuperframeBoundary, execSyncSymbolRx, execOverheadRx,
    execImpulseHoldMax, execLinkupStart, execHsListenTimeout, execSeekCycle, execSeek, execDmePageDetect, execHsTimeout,
    execCap, execCapAck, execCapRepeat, execHsCapTimeout, execEchoVerdict, execSlaveLock, execCountMarkRx,
    execRangingMark, execTaAnnounce, execProbeEnd, execT3End, execTones, execMask, execTrainingMessageResend,
    execPhaseTimeout, execShowtimeEntry, execLinkFailTimeout, execTaAdj, execSwapReq, execReconfReq, execDrained,
    execDrainComplete, execRcCommit, execCalPause, execRcAck, execRcNak, execReconfTimeout, execOamMessageRx, execOamAck,
    execRetrainMargin, execRetrainPilot, execRetrainSfSync, execRetrainCwFail, execFastRetrainNoSignal,
    execFastRetrainTimeout, execAnResolved, execCompatLinkFail, execCompatLinkUp, execErleShowUpdate, execMarginUpdate,
    execImpulseEventEnd, execFcRefresh, execCodewordDecoded, execGapLimitExpiry, execFrameRelease, execEgressFrameTx,
    execCycleStart, execScheduleRx, execScheduleMiss, execGrantStart, execGrantMiss, execKnockSend, execKnockRx,
    execEnergyDetect, execBurstDetect, execSyncFound, execSyncSearchClose, execEnergyRise, execLateStartLoss,
    execHeaderRx, execBurstEnd, execReArm, execSpListenTimeout, execTableRx, execTableSend, execTableResend,
    execIdleSlotNoise, execWatchIntervalEnd, execWakeBurst, execWakeDetect, execLpiMismatch, execTdrSilenceEnd,
    execSurveyProfile, execHostLockChange, execMacControlFrame, execPauseQuantaExpiry, execBgCalRun, execHybRecalDone]

/-! ### What the three parts of the outside say -/

theorem port_eq_of_outside {p : Nat} {s t : State} (h : outside p t = outside p s) {k : Nat} (hk : k ≠ p) :
    t.port k = s.port k := by
  have part := congrFun (congrArg (·.2.1) h) k
  simpa [outside, hk] using part

theorem getF_eq_of_outside {p : Nat} {s t : State} (h : outside p t = outside p s) {u : Nat} {f : Fld}
    (hk : ownPage p (keyPage (f.key u)) = false) : getF u f t = getF u f s := by
  have part := congrFun (congrArg (·.1) h) (f.key u)
  simp only [outside, hk, Bool.false_eq_true, if_false, Option.some.injEq, Prod.mk.injEq] at part
  obtain ⟨hf, ht⟩ := part
  unfold getF mapGetD
  rw [hf, ht]

theorem rest_eq_of_outside {p : Nat} {s t : State} (h : outside p t = outside p s) :
    { t with fields := s.fields, tmr := s.tmr, irqOut := s.irqOut, events := s.events, latchAt := s.latchAt
             faultAt := s.faultAt, injOpen := s.injOpen, ports := s.ports, sent := s.sent, fresh := s.fresh
             log := s.log } = s := by
  have part := congrArg (·.2.2) h
  cases s
  cases t
  simpa [outside] using part

/-- The blocks that an event of port `p` leaves lie in no page of the port. -/
theorem ownPage_eq_false (p : Fin 8) {b : Blk} {u : Nat} (hx : (b, u) ∈ allBlks) (hb : b ∉ [Blk.CHAIN, .LODGE])
    (hp : b ∈ portBlks → u ≠ p.val) (hv : b ∈ [Blk.DECPOOL, .ENGPOOL, .LAYBY] → u ≠ pavOf p) :
    ownPage p (blkPage b u) = false := by
  have pages : ∀ p : Fin 8, ∀ x ∈ allBlks, x.1 ∉ [Blk.CHAIN, .LODGE] → (x.1 ∈ portBlks → x.2 ≠ p.val) →
      (x.1 ∈ [Blk.DECPOOL, .ENGPOOL, .LAYBY] → x.2 ≠ pavOf p) → ownPage p (blkPage x.1 x.2) = false := by
    decide +kernel
  exact pages p (b, u) hx hb hp hv

/-- Settles O59: every line event is a port event, and what it calls keeps the outside of the port. -/
theorem lineEventsTouchTheirPortAlone : Obligations.LineEventsTouchTheirPortAlone := by
  intro c p s t hc ht
  have h : outside p t = outside p s := keepsOutside_exec hc s t ht
  refine ⟨fun k hk => port_eq_of_outside h hk, fun b u f hx hf hb hp hv => getF_eq_of_outside h ?_, rest_eq_of_outside h⟩
  rw [keyPage_key_of_mem u hf]
  exact ownPage_eq_false p hx hb hp hv

end Sys2Proof.Machine
end

section
/-! SUPPORT. A tail whose deadline falls in the cycle of its resend (O51): the deadline wins (R263), so the codeword stays
SENT, where the statement has it scheduled for resend whatever comes next in the queue. -/

namespace Sys2Proof.Machine

/-- A codeword of node 0 and class 2, sent once and not acknowledged. -/
def overdueTail : TxCw :=
  { node := 0, cls := 2, ms := 5, stream := 7, st := .sent, opened := false, sends := 1, data := [], firstDelim := 127
    frames := [], firstSym := 0, lastSym := 0, cycle := 0 }

/-- Port 3 holds the codeword at the partner's cumulative milestone, which mileposts have repeated; its stream has tries left,
and the next command in the queue is the expiry of its deadline. -/
def overdueState : State :=
  { pending := [.deadlineExpiry 3 0 2 5]
    clk := { rootPresent := true }
    ports := [(3, { cws := [overdueTail], pms := [(2, { txAck := 5, tailRun := 1 })]
                    streams := [(7, { cfg := { retx := true, maxTries := 4 } })] })] }

theorem overdueState_live : Live (3 : Fin 8) overdueState := by
  unfold Live
  decide

theorem overdueState_tail : (overdueState.port 3).cws.find? (fun v => v.node == 0 && v.cls == 2 &&
    v.ms == (pmsOf 3 0 2 overdueState).txAck && v.st != .queued) = some overdueTail := by
  decide

theorem overdueState_tries : overdueTail.sends < triesOf (streamOf 3 overdueTail.stream overdueState) := by
  decide

/-- The deadline wins over the resend: the codeword is as it was. -/
theorem tailResend_overdue {t : State} (h : exec (.tailResend 3 0 2) overdueState = .next t) :
    overdueTail ∈ (t.port 3).cws := by
  have answer : ∃ u, exec (.tailResend 3 0 2) overdueState = .next u ∧ overdueTail ∈ (u.port 3).cws :=
    ⟨_, rfl, by decide +kernel⟩
  obtain ⟨u, hu, hmem⟩ := answer
  rw [hu] at h
  cases h
  exact hmem

/-- Refutes O51: of the clause on TAIL_RESEND, where the deadline of the codeword comes next in the queue. -/
theorem not_framesEnterTheLayby : ¬ Obligations.FramesEnterTheLayby := by
  intro h
  obtain ⟨-, -, live⟩ := h 3 ⟨.inband 0, 0, 0, 0⟩ 0 ⟨[], 0, 0⟩ ⟨0, [], false, 0, 0⟩ overdueTail 2 0 0 overdueState
  obtain ⟨-, -, -, tail, -⟩ := live overdueState_live
  obtain ⟨t, ht, -, scheduled⟩ := tail overdueState_tail (by decide) overdueState_tries
  have resent : overdueTail.st = .resend := scheduled overdueTail (tailResend_overdue ht) (by decide)
  cases resent

end Sys2Proof.Machine
end

section
/-! SUPPORT. Reading a register field after a status change: fields outside of the status words keep their value, a sticky bit
that is set reads 1, a counter that counts reads one more. -/

namespace Sys2Proof.Machine

/-! ### Where a field lies -/

/-- A field lies in another page than a block. -/
def Away (u : Nat) (g : Fld) (b : Blk) (v : Nat) : Prop := keyPage (g.key u) ≠ blkPage b v

/-- A field lies neither in BLK_STS nor in BLK_FIRST of a block, the two words that a status change writes. -/
def OffStatus (u : Nat) (g : Fld) (b : Blk) (v : Nat) : Prop :=
  g.key u / 32 ≠ blkBase b v + 0x004 ∧ g.key u / 32 ≠ blkBase b v + 0x00C

theorem key_div (u : Nat) {f : Fld} (h : f.lo < 32) : f.key u / 32 = blkBase f.blk u + f.off := by
  simp only [Fld.key, Fld.addr]
  omega

theorem Away.offStatus {u v : Nat} {g : Fld} {b : Blk} (h : Away u g b v) : OffStatus u g b v := by
  simp only [Away, keyPage] at h
  simp only [OffStatus, blkBase_eq_page]
  omega

theorem Away.key_ne {u v : Nat} {f g : Fld} (h : Away u g f.blk v) (hf : f.off * 32 + f.lo < 32 * 4096) :
    g.key u ≠ f.key v := fun e => h (by rw [e, keyPage_key hf])

/-- A field of another word of its block lies in no status word at all. -/
theorem offStatus_of_off {g : Fld} (hl : g.lo < 32) (ho : g.off < 4096) (h : g.off ≠ 0x004 ∧ g.off ≠ 0x00C) (u : Nat) (b : Blk)
    (v : Nat) : OffStatus u g b v := by
  obtain ⟨h4, hC⟩ := h
  simp only [OffStatus, key_div u hl, blkBase_eq_page]
  omega

theorem away_of_page {u v : Nat} {g : Fld} {b : Blk} (hg : g.off * 32 + g.lo < 32 * 4096) (h : blkPage g.blk u ≠ blkPage b v) :
    Away u g b v := by
  rw [Away, keyPage_key hg]
  exact h

/-- A field of a block's status word is no field that lies outside of it. -/
theorem OffStatus.key_ne {u v : Nat} {g f : Fld} {b : Blk} (h : OffStatus u g b v) (hb : f.blk = b) (hl : f.lo < 32)
    (ho : f.off = 0x004 ∨ f.off = 0x00C) : g.key u ≠ f.key v := by
  intro e
  obtain ⟨h4, hC⟩ := h
  rw [e, key_div v hl, hb] at h4 hC
  omega

/-! ### Status -/

section
variable {u v : Nat} {g : Fld} {b : Blk}

theorem getF_setStsBits (h : OffStatus u g b v) (mask : Nat) (s : State) :
    getF u g (setStsBits b v mask s) = getF u g s := by
  unfold setStsBits
  rw [getF_setF_other _ _ (h.key_ne rfl (by simp [Fld.seq]) (.inl rfl)),
    getF_setF_other _ _ (h.key_ne rfl (by simp [Fld.sts]) (.inl rfl))]

theorem getF_irqOut (l : List Nat) (s : State) : getF u g { s with irqOut := l } = getF u g s := rfl

theorem getF_queueEvent (hc : OffStatus u g .CHAIN 0) (m : Nat) (s : State) :
    getF u g (queueEvent m b v s) = getF u g s := by
  unfold queueEvent
  split
  · rfl
  · split
    · rfl
    · dsimp only
      split
      · rw [getF_setStsBits hc, getF_irqOut, getF_setStsBits hc]
      · rw [getF_setStsBits hc]

theorem getF_irqUpdate (hc : OffStatus u g .CHAIN 0) (s : State) : getF u g (irqUpdate b v s) = getF u g s := by
  unfold irqUpdate
  split
  · split
    · rfl
    · dsimp only
      split
      · rw [getF_queueEvent hc, getF_irqOut]
      · rfl
  · rfl

theorem getF_sticky {k : Sticky} (h : OffStatus u g k.blk v) (hc : OffStatus u g .CHAIN 0) (s : State) :
    getF u g (sticky k v s) = getF u g s := by
  unfold sticky
  rw [getF_irqUpdate hc, getF_setStsBits h]

theorem getF_latchFirst (h : OffStatus u g b v) (cls src detail inj : Nat) (s : State) :
    getF u g (latchFirst b v cls src detail inj s) = getF u g s := by
  unfold latchFirst
  dsimp only
  split
  · exact getF_setF_other _ _ (h.key_ne rfl (by simp [Fld.firstOvf]) (.inr rfl))
  · refine (getF_setAll_other _ _ fun e he => ?_).trans rfl
    simp only [List.mem_cons, List.not_mem_nil, or_false] at he
    rcases he with rfl | rfl | rfl | rfl | rfl | rfl | rfl <;>
      exact h.key_ne rfl (by simp [Fld.firstDetail, Fld.firstSeq, Fld.firstSrc, Fld.firstInj, Fld.firstClass, Fld.firstOvf,
        Fld.firstValid]) (.inr rfl)

theorem getF_correctedFault (h : OffStatus u g b v) (hc : OffStatus u g .CHAIN 0) (src detail : Nat) (s : State) :
    getF u g (correctedFault b v src detail s) = getF u g s := by
  have displace : ∀ t, getF u g (displaceWindow b v t) = getF u g t := fun _ => rfl
  unfold correctedFault recordFault
  rw [displace, getF_irqUpdate hc, getF_latchFirst h, getF_setStsBits h]

theorem getF_countBy {f : Fld} (hk : g.key u ≠ f.key v) (h : OffStatus u g f.blk v) (hc : OffStatus u g .CHAIN 0) (k : Nat)
    (s : State) : getF u g (countBy v f k s) = getF u g s := by
  unfold countBy
  dsimp only
  split
  · rw [getF_correctedFault h hc, getF_setF_other _ _ hk]
  · exact getF_setF_other _ _ hk

theorem getF_count {f : Fld} (hk : g.key u ≠ f.key v) (h : OffStatus u g f.blk v) (hc : OffStatus u g .CHAIN 0) (s : State) :
    getF u g (count v f s) = getF u g s := getF_countBy hk h hc 1 s

/-- A block in another page: neither its status nor its counters reach the field. -/
theorem getF_countBy_away {f : Fld} (h : Away u g f.blk v) (hf : f.off * 32 + f.lo < 32 * 4096) (hc : Away u g .CHAIN 0) (k : Nat)
    (s : State) : getF u g (countBy v f k s) = getF u g s := getF_countBy (h.key_ne hf) h.offStatus hc.offStatus k s

/-- A command field that ends writes its own word alone. -/
theorem getF_cmdStop {f : Fld} (hl : f.lo + 4 < 32) (h : g.key u / 32 ≠ blkBase f.blk v + f.off) (oc : Nat) (s : State) :
    getF u g (cmdStop v f oc s) = getF u g s := by
  have field : g.key u ≠ f.key v := fun e => h (by rw [e, key_div v (by omega)])
  have outcome : g.key u ≠ f.outcome.key v := fun e => h (by
    rw [e, key_div v (show f.outcome.lo < 32 by simp only [Fld.outcome]; omega)]
    rfl)
  have late : g.key u ≠ f.abortLate.key v := fun e => h (by
    rw [e, key_div v (show f.abortLate.lo < 32 by simp only [Fld.abortLate]; omega)]
    rfl)
  have ends : ∀ o t, getF u g (cmdEnd v f o t) = getF u g t := fun o t => by
    unfold cmdEnd
    rw [getF_setF_other _ _ field, getF_setF_other _ _ outcome]
  unfold cmdStop cmdDoneLate when
  split
  · rfl
  · split
    · split
      · rw [getF_setF_other _ _ late, ends]
      · exact ends _ _
    · exact ends _ _

end

/-- A sticky bit set by hardware reads 1. -/
theorem stsSet_sticky {k : Sticky} {u : Nat} (hb : k.bit < 24) (hc : OffStatus u (.sts k.blk) .CHAIN 0) (s : State) :
    StsSet k u (sticky k u s) := by
  have seq : (Fld.sts k.blk).key u ≠ (Fld.seq k.blk).key u := by
    simp only [Fld.key, Fld.addr, Fld.sts, Fld.seq]
    omega
  unfold StsSet sticky
  rw [getF_irqUpdate hc, setStsBits, getF_setF_other _ _ seq, getF_setF_same, bitOf, bitsOf]
  have bit := congrArg Bool.toNat (Nat.testBit_mod_two_pow (getF u (.sts k.blk) s ||| 2 ^ k.bit) 24 k.bit)
  have set : (getF u (.sts k.blk) s ||| 2 ^ k.bit).testBit k.bit = true := by
    simp [Nat.testBit_two_pow_self]
  rw [set, Nat.toNat_testBit] at bit
  simpa [hb, Fld.sts] using bit

/-- A counter of 48 bits that counts. -/
theorem counted_count {u : Nat} {f : Fld} (hw : f.width = 48) (h : OffStatus u f f.blk u) (hc : OffStatus u f .CHAIN 0)
    (s : State) : Counted u f s (count u f s) := by
  have value : satAdd f.width (getF u f s) 1 % 2 ^ f.width = min (getF u f s + 1) (2 ^ 48 - 1) := by
    simp only [satAdd, hw]
    omega
  unfold Counted count countBy
  dsimp only
  split
  · rw [getF_correctedFault h hc, getF_setF_same, value]
  · rw [getF_setF_same, value]

/-! ### Ports and the rest under a status change -/

theorem StatusOnly.port {s t : State} (h : StatusOnly s t) (k : Nat) : t.port k = s.port k := by
  obtain ⟨F, T, I, E, L, D, J, rfl⟩ := h
  rfl

theorem StatusOnly.pav {s t : State} (h : StatusOnly s t) (k : Nat) : t.pav k = s.pav k := by
  obtain ⟨F, T, I, E, L, D, J, rfl⟩ := h
  rfl

@[simp] theorem port_setAll (u : Nat) (l : List (Fld × Nat)) (s : State) (k : Nat) : (setAll u l s).port k = s.port k :=
  (statusOnly_setAll u l s).port k

@[simp] theorem port_sticky (x : Sticky) (u : Nat) (s : State) (k : Nat) : (sticky x u s).port k = s.port k :=
  (statusOnly_sticky x u s).port k

@[simp] theorem port_correctedFault (b : Blk) (u src detail : Nat) (s : State) (k : Nat) :
    (correctedFault b u src detail s).port k = s.port k := (statusOnly_correctedFault b u src detail s).port k

@[simp] theorem port_countBy (u : Nat) (f : Fld) (n : Nat) (s : State) (k : Nat) : (countBy u f n s).port k = s.port k :=
  (statusOnly_countBy u f n s).port k

@[simp] theorem port_count (u : Nat) (f : Fld) (s : State) (k : Nat) : (count u f s).port k = s.port k :=
  (statusOnly_count u f s).port k

@[simp] theorem port_cmdStop (u : Nat) (f : Fld) (oc : Nat) (s : State) (k : Nat) : (cmdStop u f oc s).port k = s.port k :=
  (statusOnly_cmdStop u f oc s).port k

@[simp] theorem pav_setAll (u : Nat) (l : List (Fld × Nat)) (s : State) (k : Nat) : (setAll u l s).pav k = s.pav k :=
  (statusOnly_setAll u l s).pav k

@[simp] theorem pav_sticky (x : Sticky) (u : Nat) (s : State) (k : Nat) : (sticky x u s).pav k = s.pav k :=
  (statusOnly_sticky x u s).pav k

@[simp] theorem pav_countBy (u : Nat) (f : Fld) (n : Nat) (s : State) (k : Nat) : (countBy u f n s).pav k = s.pav k :=
  (statusOnly_countBy u f n s).pav k

@[simp] theorem pav_count (u : Nat) (f : Fld) (s : State) (k : Nat) : (count u f s).pav k = s.pav k :=
  (statusOnly_count u f s).pav k

end Sys2Proof.Machine
end

section
/-! SUPPORT. What the receive side of a port's lay-by leaves as it was (R237 to R263, R342): `rxView` holds one register field of
another page, the line signal of the port and the in-band requests of its host lane. Each operation gets one equation. -/

namespace Sys2Proof.Machine

/-! ### The view -/

/-- A register field, the line signal of a port and the in-band requests of its host lane. -/
def rxView (p u : Nat) (g : Fld) (s : State) : Nat × Signal × List IbReq :=
  (getF u g s, (s.port p).sig, (s.port p).lane.ib)

/-- The field lies in no page that the assembly of received frames and the pressure of the classes write: CHAIN, and the
port's STREAM and HOST. -/
structure Aside (p u : Nat) (g : Fld) : Prop where
  chain : Away u g .CHAIN 0
  stream : Away u g .STREAM p
  host : Away u g .HOST p

/-- Nor in one that a decoded codeword writes beside them: LAYBY_P and TSU of the port, LAYBY of its pavilion. -/
structure FarAside (p u : Nat) (g : Fld) : Prop extends Aside p u g where
  laybyP : Away u g .LAYBY_P p
  tsu : Away u g .TSU p
  layby : Away u g .LAYBY (pavOf p)

/-- A field of STREAM or HOST. -/
def Fld.inLane (f : Fld) : Bool := [Blk.STREAM, .HOST].contains f.blk && f.inBlk

/-- A field of LAYBY_P or TSU. -/
def Fld.inSlots (f : Fld) : Bool := [Blk.LAYBY_P, .TSU].contains f.blk && f.inBlk

@[simp] theorem inLane_fields :
    Fld.STREAM_FR_EXP_RX.inLane ∧ Fld.STREAM_PRESSURE.inLane ∧ Fld.STREAM_LATE_NOTICE.inLane ∧ Fld.STREAM_TAILDROP.inLane ∧
    Fld.STREAM_FIXED_DROP.inLane ∧ Fld.STREAM_OFF_DROP.inLane ∧ Fld.STREAM_FR_EXP_TX.inLane ∧ Fld.HOST_PFC_TX.inLane ∧
    Fld.HOST_PAUSE_TX.inLane ∧ Fld.HOST_LANE_DROP.inLane := by
  decide

@[simp] theorem inSlots_fields :
    Fld.LAYBY_P_NOTICE_RX.inSlots ∧ Fld.LAYBY_P_RX_DUP.inSlots ∧ Fld.LAYBY_P_RX_NOSLOT.inSlots ∧ Fld.TSU_RX_TS_OVF.inSlots ∧
    Fld.TSU_TX_TS_OVF.inSlots := by
  decide

theorem Fld.inBlk.place {f : Fld} (h : f.inBlk) : f.off * 32 + f.lo < 32 * 4096 := by
  simp only [Fld.inBlk, decide_eq_true_eq] at h
  omega

section
variable {p u : Nat} {g : Fld}

theorem Aside.away {f : Fld} (h : Aside p u g) (hf : f.inLane) : Away u g f.blk p ∧ f.off * 32 + f.lo < 32 * 4096 := by
  simp only [Fld.inLane, Bool.and_eq_true, List.contains_iff_mem, List.mem_cons, List.not_mem_nil, or_false] at hf
  obtain ⟨hb, hf⟩ := hf
  refine ⟨?_, Fld.inBlk.place hf⟩
  rcases hb with hb | hb <;> rw [hb]
  · exact h.stream
  · exact h.host

theorem FarAside.away {f : Fld} (h : FarAside p u g) (hf : f.inSlots) : Away u g f.blk p ∧ f.off * 32 + f.lo < 32 * 4096 := by
  simp only [Fld.inSlots, Bool.and_eq_true, List.contains_iff_mem, List.mem_cons, List.not_mem_nil, or_false] at hf
  obtain ⟨hb, hf⟩ := hf
  refine ⟨?_, Fld.inBlk.place hf⟩
  rcases hb with hb | hb <;> rw [hb]
  · exact h.laybyP
  · exact h.tsu

/-- A change of status or fields that keeps the field keeps the view. -/
theorem rxView_of_statusOnly {s t : State} (h : StatusOnly s t) (hg : getF u g t = getF u g s) :
    rxView p u g t = rxView p u g s := by
  simp only [rxView, hg, h.port]

@[simp] theorem rxView_modPort {f : Port → Port} (hs : ∀ x, (f x).sig = x.sig) (hl : ∀ x, (f x).lane.ib = x.lane.ib)
    (s : State) : rxView p u g (modPort p f s) = rxView p u g s := by
  simp [rxView, hs, hl]

@[simp] theorem rxView_setF {f : Fld} (h : Aside p u g) (hf : f.inLane) (v : Nat) (s : State) :
    rxView p u g (setF p f v s) = rxView p u g s :=
  rxView_of_statusOnly (statusOnly_setF p f v s) (getF_setF_other _ _ ((h.away hf).1.key_ne (h.away hf).2))

@[simp] theorem rxView_countBy {f : Fld} (h : Aside p u g) (hf : f.inLane) (k : Nat) (s : State) :
    rxView p u g (countBy p f k s) = rxView p u g s :=
  rxView_of_statusOnly (statusOnly_countBy p f k s) (getF_countBy_away (h.away hf).1 (h.away hf).2 h.chain k s)

@[simp] theorem rxView_count {f : Fld} (h : Aside p u g) (hf : f.inLane) (s : State) :
    rxView p u g (count p f s) = rxView p u g s := rxView_countBy h hf 1 s

@[simp] theorem rxView_count_slots {f : Fld} (h : FarAside p u g) (hf : f.inSlots) (s : State) :
    rxView p u g (count p f s) = rxView p u g s :=
  rxView_of_statusOnly (statusOnly_count p f s) (getF_countBy_away (h.away hf).1 (h.away hf).2 h.chain 1 s)

theorem rxView_sticky {k : Sticky} (hc : Away u g .CHAIN 0) (hk : Away u g k.blk p) (s : State) :
    rxView p u g (sticky k p s) = rxView p u g s :=
  rxView_of_statusOnly (statusOnly_sticky k p s) (getF_sticky hk.offStatus hc.offStatus s)

@[simp] theorem rxView_sticky_stream (h : Aside p u g) (s : State) :
    rxView p u g (sticky .STREAM_EXPIRED p s) = rxView p u g s ∧ rxView p u g (sticky .STREAM_TAILDROP p s) = rxView p u g s ∧
    rxView p u g (sticky .STREAM_LATE_NOTICE p s) = rxView p u g s :=
  ⟨rxView_sticky h.chain h.stream s, rxView_sticky h.chain h.stream s, rxView_sticky h.chain h.stream s⟩

@[simp] theorem rxView_sticky_slots (h : FarAside p u g) (s : State) :
    rxView p u g (sticky .LAYBY_P_RX_NOSLOT p s) = rxView p u g s ∧
    rxView p u g (sticky .TSU_RX_TS_READY p s) = rxView p u g s ∧ rxView p u g (sticky .TSU_TX_TS_READY p s) = rxView p u g s ∧
    rxView p u g (sticky .TSU_TS_OVF p s) = rxView p u g s :=
  ⟨rxView_sticky h.chain h.laybyP s, rxView_sticky h.chain h.tsu s, rxView_sticky h.chain h.tsu s,
    rxView_sticky h.chain h.tsu s⟩

@[simp] theorem rxView_emit (e : Emission) (s : State) : rxView p u g (emit e s) = rxView p u g s := (rfl)

@[simp] theorem rxView_ite (c : Prop) [Decidable c] (s t : State) :
    rxView p u g (if c then s else t) = if c then rxView p u g s else rxView p u g t := apply_ite (rxView p u g) c s t

@[simp] theorem rxView_when {f : State → State} {s : State} (c : Bool) (h : rxView p u g (f s) = rxView p u g s) :
    rxView p u g (when c f s) = rxView p u g s := by
  unfold when
  split
  · exact h
  · rfl

@[simp] theorem rxView_forAll {α : Type} {f : α → State → State} (l : List α) (s : State)
    (h : ∀ x ∈ l, ∀ t, rxView p u g (f x t) = rxView p u g t) : rxView p u g (forAll l f s) = rxView p u g s := by
  induction l generalizing s with
  | nil => rfl
  | cons x l ih =>
    exact (ih (f x s) fun y hy => h y (List.mem_cons_of_mem _ hy)).trans (h x List.mem_cons_self s)

/-! ### Pressure and streams -/

@[simp] theorem rxView_sendFlow (h : Aside p u g) (ended : Nat) (pause : Bool) (s : State) :
    rxView p u g (sendFlow p ended pause s) = rxView p u g s := by
  simp [sendFlow, h]

@[simp] theorem rxView_updPressure (h : Aside p u g) (c : Nat) (s : State) :
    rxView p u g (updPressure p c s) = rxView p u g s := by
  simp [updPressure, h]

@[simp] theorem rxView_updPressures (h : Aside p u g) (s : State) : rxView p u g (updPressures p s) = rxView p u g s := by
  simp [updPressures, h]

@[simp] theorem rxView_modStream (i : Nat) (f : StreamEnt → StreamEnt) (s : State) :
    rxView p u g (modStream p i f s) = rxView p u g s := by
  simp [modStream]

@[simp] theorem rxView_countStream (h : Aside p u g) (i k n : Nat) (s : State) :
    rxView p u g (countStream p i k n s) = rxView p u g s := by
  have fault : ∀ t, rxView p u g (correctedFault .STREAM p 1 (0x038 / 4) t) = rxView p u g t := fun t =>
    rxView_of_statusOnly (statusOnly_correctedFault _ _ _ _ t)
      (getF_correctedFault h.stream.offStatus h.chain.offStatus _ _ t)
  simp only [countStream, rxView_ite, fault, rxView_modStream, ite_self]

@[simp] theorem rxView_expireRx (h : Aside p u g) (i n : Nat) (s : State) :
    rxView p u g (expireRx p i n s) = rxView p u g s := by
  simp [expireRx, modWatch, h]

@[simp] theorem rxView_dropFixed (h : Aside p u g) (s : State) : rxView p u g (dropFixed p s) = rxView p u g s := by
  simp [dropFixed, h]

/-! ### Frames under assembly -/

@[simp] theorem rxView_modPms (node c : Nat) (f : Pms → Pms) (s : State) :
    rxView p u g (modPms p node c f s) = rxView p u g s := by
  simp [modPms]

@[simp] theorem rxView_advanceRx (node c : Nat) (s : State) : rxView p u g (advanceRx p node c s) = rxView p u g s := by
  simp [advanceRx]

@[simp] theorem rxView_modRx (node c ms : Nat) (f : RxCw → RxCw) (s : State) :
    rxView p u g (modRx p node c ms f s) = rxView p u g s := by
  simp [modRx]

@[simp] theorem rxView_freeSpent (node c : Nat) (s : State) : rxView p u g (freeSpent p node c s) = rxView p u g s := by
  simp [freeSpent]

@[simp] theorem rxView_consume (node c : Nat) (ms : List Nat) (k : Nat) (s : State) :
    rxView p u g (consume p node c ms k s) = rxView p u g s := by
  unfold consume
  split <;> simp

@[simp] theorem rxView_setCut (node i ms left : Nat) (s : State) :
    rxView p u g (setCut p node i ms left s) = rxView p u g s := by
  simp [setCut]

@[simp] theorem rxView_dropHead (h : Aside p u g) (node i : Nat) (w : RxCw) (s : State) :
    rxView p u g (dropHead p node i w s) = rxView p u g s := by
  simp [dropHead, h]

@[simp] theorem rxView_discardBroken (h : Aside p u g) (node i k : Nat) (s : State) :
    rxView p u g (discardBroken p node i k s) = rxView p u g s := by
  induction k generalizing s with
  | zero => rfl
  | succ k ih =>
    unfold discardBroken
    dsimp only
    split
    · simp [ih, h]
    · split <;> simp [ih, h]

@[simp] theorem rxView_settleRx (h : Aside p u g) (node c : Nat) (s : State) :
    rxView p u g (settleRx p node c s) = rxView p u g s := by
  simp [settleRx, h]

@[simp] theorem rxView_cutGiven (node c ms : Nat) (stream : Option Nat) (s : State) :
    rxView p u g (cutGiven p node c ms stream s) = rxView p u g s := by
  simp [cutGiven]

@[simp] theorem rxView_resolveGiven (h : Aside p u g) (node c ms : Nat) (stream : Option Nat) (s : State) :
    rxView p u g (resolveGiven p node c ms stream s) = rxView p u g s := by
  simp [resolveGiven, h]

/-! ### Frames admitted -/

@[simp] theorem rxView_startFrame (h : Aside p u g) (c : Nat) (s : State) :
    rxView p u g (startFrame p c s) = rxView p u g s := by
  unfold startFrame
  split <;> simp [h]

@[simp] theorem rxView_mapBytes (h : Aside p u g) (c n : Nat) (s : State) :
    rxView p u g (mapBytes p c n s) = rxView p u g s := by
  unfold mapBytes
  dsimp only
  split
  · split <;> simp [h]
  · simp [h]

@[simp] theorem rxView_mapClass (h : Aside p u g) (c k : Nat) (s : State) :
    rxView p u g (mapClass p c k s) = rxView p u g s := by
  induction k generalizing s with
  | zero => rfl
  | succ k ih =>
    unfold mapClass
    split
    · split <;> simp [ih, h]
    · rfl

@[simp] theorem rxView_settleClass (h : Aside p u g) (c : Nat) (s : State) :
    rxView p u g (settleClass p c s) = rxView p u g s := by
  simp [settleClass, h]

@[simp] theorem rxView_settleClasses (h : Aside p u g) (s : State) :
    rxView p u g (settleClasses p s) = rxView p u g s := by
  simp [settleClasses, h]

@[simp] theorem rxView_enqueue (h : Aside p u g) (i : Nat) (bs : List Byte) (s : State) :
    rxView p u g (enqueue p i bs s).2 = rxView p u g s := by
  unfold enqueue
  dsimp only
  repeat' split
  all_goals simp [setClassQ, h]

/-! ### Decoded codewords and frames toward the host -/

@[simp] theorem rxView_laneDrop (h : Aside p u g) (n : Nat) (s : State) :
    rxView p u g (laneDrop p n s) = rxView p u g s := by
  simp [laneDrop, h]

theorem rxView_deliver (h : Aside p u g) {i c : Nat} {fixed : Bool} {bs : List Byte} {s t : State} :
    deliver p i c fixed bs s = some t → rxView p u g t = rxView p u g s := by
  revert t
  unfold deliver
  dsimp only
  repeat' split
  all_goals simp [modLane, h]

@[simp] theorem rxView_deliverFixed (h : Aside p u g) (i : Nat) (bs : List Byte) (s : State) :
    rxView p u g (deliverFixed p i bs s) = rxView p u g s := by
  unfold deliverFixed
  split
  · rename_i t ht
    simp [h, rxView_deliver h ht]
  · simp [h]

@[simp] theorem rxView_takeBroadcast (h : Aside p u g) (node i k : Nat) (l : List Byte) (s : State) :
    rxView p u g (takeBroadcast p node i k l s) = rxView p u g s := by
  induction k generalizing l s with
  | zero => rfl
  | succ k ih =>
    unfold takeBroadcast
    dsimp only
    split
    · simp [ih, h]
    · split
      · rw [ih]
        split
        · rename_i t ht
          simp [h, rxView_deliver h ht]
        · simp [h]
      · simp

@[simp] theorem rxView_onBroadcast (h : Aside p u g) (node i first : Nat) (data : List Byte) (s : State) :
    rxView p u g (onBroadcast p node i first data s) = rxView p u g s := by
  simp [onBroadcast, h]

@[simp] theorem rxView_loseBroadcast (h : Aside p u g) (node : Nat) (s : State) :
    rxView p u g (loseBroadcast p node s) = rxView p u g s := by
  simp [loseBroadcast, h]

@[simp] theorem rxView_onNotice (h : FarAside p u g) (node c stream ms : Nat) (s : State) :
    rxView p u g (onNotice p node c stream ms s) = rxView p u g s := by
  unfold onNotice
  dsimp only
  split <;> simp [h, h.toAside]

@[simp] theorem rxView_actNotices (h : FarAside p u g) (l : List (Nat × Nat)) (s : State) :
    rxView p u g (actNotices p l s) = rxView p u g s := by
  simp [actNotices, h]

@[simp] theorem rxView_appendStamp (h : FarAside p u g) (rx : Bool) (stream kind key t8 : Nat) (s : State) :
    rxView p u g (appendStamp p rx stream kind key t8 s) = rxView p u g s := by
  simp [appendStamp, modLane, h]

@[simp] theorem rxView_notePeak (h : FarAside p u g) (s : State) : rxView p u g (notePeak p s) = rxView p u g s := by
  unfold notePeak
  split <;> exact rxView_of_statusOnly (statusOnly_setF _ _ _ _) (getF_setF_other _ _ (h.layby.key_ne (by decide)))

@[simp] theorem rxView_putRx (h : FarAside p u g) (w : RxCw) (s : State) : rxView p u g (putRx p w s) = rxView p u g s := by
  simp [putRx, noteHigh, h, h.toAside]

@[simp] theorem rxView_storeRx (h : FarAside p u g) (w : RxCw) (s : State) :
    rxView p u g (storeRx p w s) = rxView p u g s := by
  unfold storeRx
  dsimp only
  repeat' split
  all_goals simp [h]

@[simp] theorem rxView_stampRx (h : FarAside p u g) (w : RxCw) (s : State) :
    rxView p u g (stampRx p w s) = rxView p u g s := by
  have go : ∀ (x : Port) (rxA : Nat) (l : List RxCw) (t : State),
      rxView p u g (stampRx.go p w x rxA l t) = rxView p u g t := by
    intro x rxA l
    induction l with
    | nil => exact fun _ => rfl
    | cons v l ih =>
      intro t
      unfold stampRx.go
      rw [ih]
      split
      · split <;> simp [h]
      · rfl
  unfold stampRx
  simp [go]

end

end Sys2Proof.Machine
end

section
/-! SUPPORT. Codewords end (R237): what the end of a decoder core's work leaves of the queue, of the codewords held and of the
counters of the FEC block, for each result. -/

namespace Sys2Proof.Machine

/-! ### Parts of the view -/

theorem getF_of_rxView {p u : Nat} {g : Fld} {s t : State} (h : rxView p u g t = rxView p u g s) : getF u g t = getF u g s :=
  congrArg (·.1) h

theorem sig_of_rxView {p u : Nat} {g : Fld} {s t : State} (h : rxView p u g t = rxView p u g s) :
    (t.port p).sig = (s.port p).sig := congrArg (·.2.1) h

theorem ib_of_rxView {p u : Nat} {g : Fld} {s t : State} (h : rxView p u g t = rxView p u g s) :
    (t.port p).lane.ib = (s.port p).lane.ib := congrArg (·.2.2) h

/-! ### Fields of one block -/

/-- Two fields of one block in different words. -/
theorem key_ne_of_off {f g : Fld} (u : Nat) (hb : g.blk = f.blk) (hg : g.lo < 32) (hf : f.lo < 32) (ho : g.off ≠ f.off) :
    g.key u ≠ f.key u := by
  simp only [Fld.key, Fld.addr, hb]
  omega

/-- The fields of FEC that the result of a codeword counts in. -/
def resultFlds : List Fld := [.FEC_CW_FAIL, .FEC_CRC_FAIL, .FEC_CW_RX_OK]

theorem resultFlds_place {g : Fld} (hg : g ∈ resultFlds) :
    g.blk = .FEC ∧ g.lo < 32 ∧ g.off < 4096 ∧ (g.off ≠ 0x004 ∧ g.off ≠ 0x00C) ∧
    ∀ f ∈ [Fld.FEC_ITERATIONS, .FEC_OVERLOADED, .FEC_OVERLOAD_CW, .FEC_CW_IDLE_RX], f.blk = .FEC ∧ f.lo < 32 ∧ g.off ≠ f.off := by
  revert g
  decide

theorem resultFlds_width {g : Fld} (hg : g ∈ resultFlds) : g.width = 48 := by
  revert g
  decide

theorem resultFlds_offStatus {g : Fld} (hg : g ∈ resultFlds) (p : Nat) (b : Blk) (v : Nat) : OffStatus p g b v := by
  obtain ⟨-, hl, ho, hw, -⟩ := resultFlds_place hg
  exact offStatus_of_off hl ho hw p b v

theorem resultFlds_key_ne {f g : Fld} (hg : g ∈ resultFlds)
    (hf : f ∈ [Fld.FEC_ITERATIONS, .FEC_OVERLOADED, .FEC_OVERLOAD_CW, .FEC_CW_IDLE_RX]) (p : Nat) : g.key p ≠ f.key p := by
  obtain ⟨hb, hl, -, -, other⟩ := resultFlds_place hg
  obtain ⟨hfb, hfl, hne⟩ := other f hf
  exact key_ne_of_off p (hb.trans hfb.symm) hl hfl hne

theorem resultFlds_away {g : Fld} (hg : g ∈ resultFlds) (p : Nat) {b : Blk} {v : Nat}
    (h : blkPage .FEC p ≠ blkPage b v) : Away p g b v := by
  obtain ⟨hb, hl, ho, -⟩ := resultFlds_place hg
  exact away_of_page (by omega) (hb ▸ h)

theorem resultFlds_farAside {g : Fld} (hg : g ∈ resultFlds) (p : Nat) : FarAside p p g := by
  constructor
  · constructor <;> refine resultFlds_away hg p ?_ <;> simp [blkPage, blkPlace]
  all_goals refine resultFlds_away hg p ?_
  all_goals simp [blkPage, blkPlace, pavOf]
  all_goals omega

/-! ### The end of a core's work -/

/-- A core has ended the oldest codeword, and its result is still to be acted on. -/
def coreEnded (p : Nat) (c : DecodedCw) (q : List DqCw) (s : State) : State :=
  let its := min c.iterations (iterLimit p s)
  let f : Fld := if p % 2 = 0 then .DECPOOL_CW_EVEN else .DECPOOL_CW_ODD
  let t := modSig p (fun g => { g with
    dq := q, noticeHeld := [], doneCw := g.doneCw + 1, itCw := g.itCw + 1, itSum := g.itSum + its }) s
  let t := modWatch p (fun v => { v with cw := v.cw + 1 }) t
  let t := noteOverload p (count (pavOf p) f (countBy p .FEC_ITERATIONS its t))
  when (isSet p .FEC_OVERLOADED s) (count p .FEC_OVERLOAD_CW) t

/-- What the end of a codeword does, by its result, where no notice entry waits for it. -/
theorem codewordEnds_cons {p : Nat} {c : DecodedCw} {w : DqCw} {q : List DqCw} {s : State} (hq : (s.port p).sig.dq = w :: q)
    (hn : (s.port p).sig.noticeHeld = []) : codewordEnds p c s =
      if !c.converged || iterLimit p s < c.iterations then
        sticky .FEC_CW_FAIL p (count p .FEC_CW_FAIL (decodeFailed p w (coreEnded p c q s)))
      else if !cwCrcOk c.info then sticky .FEC_CRC_FAIL p (count p .FEC_CRC_FAIL (decodeFailed p w (coreEnded p c q s)))
      else onCodeword p w c.info (coreEnded p c q s) := by
  unfold codewordEnds
  rw [hq]
  dsimp only
  rw [hn]
  rfl

@[simp] theorem port_when {f : State → State} {s : State} {k : Nat} (c : Bool) (h : (f s).port k = s.port k) :
    (when c f s).port k = s.port k := by
  unfold when
  split
  · exact h
  · rfl

@[simp] theorem port_noteOverload (p : Nat) (s : State) (k : Nat) : (noteOverload p s).port k = s.port k := by
  unfold noteOverload
  dsimp only
  split
  · simp
  · split <;> simp

theorem port_coreEnded (p : Nat) (c : DecodedCw) (q : List DqCw) (s : State) :
    ((coreEnded p c q s).port p).sig.dq = q ∧ ((coreEnded p c q s).port p).rxCws = (s.port p).rxCws := by
  simp [coreEnded, modSig, modWatch]

theorem getF_noteOverload {g : Fld} (hg : g ∈ resultFlds) (p : Nat) (s : State) :
    getF p g (noteOverload p s) = getF p g s := by
  have set : ∀ v t, getF p g (setF p .FEC_OVERLOADED v t) = getF p g t := fun v t =>
    getF_setF_other _ _ (resultFlds_key_ne hg (by simp) p)
  have off := resultFlds_offStatus hg p
  unfold noteOverload when
  dsimp only
  split
  · rw [set]
    split
    · exact getF_sticky (off _ _) (off _ _) s
    · rfl
  · split
    · exact set _ s
    · rfl

theorem getF_coreEnded {g : Fld} (hg : g ∈ resultFlds) (p : Nat) (c : DecodedCw) (q : List DqCw) (s : State) :
    getF p g (coreEnded p c q s) = getF p g s := by
  have own : ∀ f ∈ [Fld.FEC_ITERATIONS, .FEC_OVERLOADED, .FEC_OVERLOAD_CW, .FEC_CW_IDLE_RX], ∀ k t,
      getF p g (countBy p f k t) = getF p g t := fun f hf k t =>
    getF_countBy (resultFlds_key_ne hg hf p) (resultFlds_offStatus hg p _ _) (resultFlds_offStatus hg p _ _) k t
  have pool : ∀ f ∈ [Fld.DECPOOL_CW_EVEN, .DECPOOL_CW_ODD], ∀ t, getF p g (count (pavOf p) f t) = getF p g t := by
    intro f hf t
    have place : f.blk = .DECPOOL ∧ f.off * 32 + f.lo < 32 * 4096 := by
      revert f
      decide
    have away : ∀ b v, b = .DECPOOL ∨ b = .CHAIN → v = pavOf p ∨ v = 0 → Away p g b v := by
      rintro b v (rfl | rfl) (rfl | rfl) <;> refine resultFlds_away hg p ?_ <;> simp [blkPage, blkPlace, pavOf] <;> omega
    exact getF_countBy_away (place.1 ▸ away _ _ (.inl rfl) (.inl rfl)) place.2 (away _ _ (.inr rfl) (.inr rfl)) 1 t
  have taken : ∀ f its t, f ∈ [Fld.DECPOOL_CW_EVEN, .DECPOOL_CW_ODD] →
      getF p g (noteOverload p (count (pavOf p) f (countBy p .FEC_ITERATIONS its t))) = getF p g t := fun f its t hf => by
    rw [getF_noteOverload hg, pool f hf, own _ (by simp)]
  have parity : (if p % 2 = 0 then Fld.DECPOOL_CW_EVEN else .DECPOOL_CW_ODD) ∈ [Fld.DECPOOL_CW_EVEN, .DECPOOL_CW_ODD] := by
    split <;> simp
  unfold coreEnded when
  dsimp only
  split
  · rw [count, own _ (by simp), taken _ _ _ parity]
    rfl
  · rw [taken _ _ _ parity]
    rfl

/-! ### A codeword without a passing result -/

@[simp] theorem rxCws_modStream (p i : Nat) (f : StreamEnt → StreamEnt) (s : State) :
    ((modStream p i f s).port p).rxCws = (s.port p).rxCws := by
  simp [modStream]

@[simp] theorem rxCws_countStream (p i k n : Nat) (s : State) :
    ((countStream p i k n s).port p).rxCws = (s.port p).rxCws := by
  unfold countStream
  dsimp only
  split <;> simp

@[simp] theorem rxCws_expireRx (p i n : Nat) (s : State) : ((expireRx p i n s).port p).rxCws = (s.port p).rxCws := by
  unfold expireRx
  split <;> simp [modWatch]

theorem rxCws_loseBroadcast (p node : Nat) (s : State) : ((loseBroadcast p node s).port p).rxCws = (s.port p).rxCws := by
  have each : ∀ (l : NMap (List Byte)) (t : State),
      ((forAll l (fun e s => expireRx p (e.1 % 4096) 1 s) t).port p).rxCws = (t.port p).rxCws := by
    intro l
    induction l with
    | nil => exact fun _ => rfl
    | cons e l ih => exact fun t => (ih _).trans (rxCws_expireRx p (e.1 % 4096) 1 t)
  unfold loseBroadcast
  dsimp only
  rw [each]
  simp

/-- A failed codeword keeps the queue, the codewords held and the counters of results. -/
theorem decodeFailed_keeps (p : Nat) (w : DqCw) (s : State) :
    ((decodeFailed p w s).port p).sig.dq = (s.port p).sig.dq ∧
    ((decodeFailed p w s).port p).rxCws = (s.port p).rxCws ∧
    ∀ g ∈ resultFlds, getF p g (decodeFailed p w s) = getF p g s := by
  have lose : ∀ t, ((loseBroadcast p w.node t).port p).sig = (t.port p).sig := fun t =>
    sig_of_rxView (rxView_loseBroadcast (resultFlds_farAside (g := .FEC_CW_FAIL) (by simp [resultFlds]) p).toAside w.node t)
  unfold decodeFailed
  dsimp only
  split
  · refine ⟨?_, ?_, fun g hg => ?_⟩
    · rw [lose]
      simp [modSig, modWatch]
    · rw [rxCws_loseBroadcast]
      simp [modSig, modWatch]
    · rw [getF_of_rxView (rxView_loseBroadcast (resultFlds_farAside hg p).toAside w.node _)]
      rfl
  · exact ⟨by simp [modSig, modWatch], by simp [modSig, modWatch], fun _ _ => rfl⟩

/-- A codeword that failed is reported in its sticky bit and its counter. -/
theorem failed_reported {p : Nat} {k : Sticky} {f : Fld} (hk : k.blk = .FEC ∧ k.bit < 24) (hf : f ∈ resultFlds) (w : DqCw)
    (s : State) : let t := sticky k p (count p f (decodeFailed p w s))
    (t.port p).sig.dq = (s.port p).sig.dq ∧ (t.port p).rxCws = (s.port p).rxCws ∧ StsSet k p t ∧ Counted p f s t := by
  obtain ⟨hq, hrx, hg⟩ := decodeFailed_keeps p w s
  have off := resultFlds_offStatus hf p
  have away : Away p (.sts k.blk) .CHAIN 0 :=
    away_of_page (by simp [Fld.sts]) (by simp [Fld.sts, hk.1, blkPage, blkPlace])
  refine ⟨by simpa using hq, by simpa using hrx, stsSet_sticky hk.2 away.offStatus _, ?_⟩
  have counts := counted_count (resultFlds_width hf) (off _ _) (off _ _) (decodeFailed p w s)
  unfold Counted at *
  rw [getF_sticky (off _ _) (off _ _), counts, hg f hf]

/-! ### A codeword with a passing CRC -/

/-- What follows from a codeword's kind keeps the queue and the count of passing codewords. -/
theorem onCodeword_keeps (p : Nat) (w : DqCw) (info : List Byte) (s : State) :
    ((onCodeword p w info s).port p).sig.dq = (s.port p).sig.dq ∧
    getF p .FEC_CW_RX_OK (onCodeword p w info s) = getF p .FEC_CW_RX_OK (count p .FEC_CW_RX_OK s) := by
  have hg : Fld.FEC_CW_RX_OK ∈ resultFlds := by simp [resultFlds]
  have h := resultFlds_farAside hg p
  have off := resultFlds_offStatus hg p
  have of_view : ∀ t, rxView p p .FEC_CW_RX_OK t = rxView p p .FEC_CW_RX_OK (count p .FEC_CW_RX_OK s) →
      (t.port p).sig.dq = (s.port p).sig.dq ∧
      getF p .FEC_CW_RX_OK t = getF p .FEC_CW_RX_OK (count p .FEC_CW_RX_OK s) := fun t ht =>
    ⟨by rw [sig_of_rxView ht, port_count], getF_of_rxView ht⟩
  unfold onCodeword
  dsimp only
  split
  · refine ⟨by simp, ?_⟩
    exact getF_count (resultFlds_key_ne hg (by simp) p) (off _ _) (off _ _) _
  · split
    · refine ⟨?_, ?_⟩
      · simp only [modSig, port_modPort_same]
        exact (of_view _ (by simp [h, h.toAside])).1
      · rw [modSig, getF_modPort]
        exact (of_view _ (by simp [h, h.toAside])).2
    · refine of_view _ ?_
      repeat' split
      all_goals simp [h, h.toAside]

/-- The end of a codeword, by its result (R237). -/
theorem codewordEnds_spec {p : Nat} {c : DecodedCw} {w : DqCw} {q : List DqCw} {s : State} (hq : (s.port p).sig.dq = w :: q)
    (hn : (s.port p).sig.noticeHeld = []) : let t := codewordEnds p c s
    (t.port p).sig.dq = q ∧
    (c.converged = false ∨ iterLimit p s < c.iterations → StsSet .FEC_CW_FAIL p t ∧ Counted p .FEC_CW_FAIL s t ∧
      (t.port p).rxCws = (s.port p).rxCws) ∧
    (c.converged = true → c.iterations ≤ iterLimit p s →
      (cwCrcOk c.info = false → StsSet .FEC_CRC_FAIL p t ∧ Counted p .FEC_CRC_FAIL s t ∧
        (t.port p).rxCws = (s.port p).rxCws) ∧
      (cwCrcOk c.info = true → Counted p .FEC_CW_RX_OK s t)) := by
  obtain ⟨dqEnded, rxEnded⟩ := port_coreEnded p c q s
  have fails : ∀ k f, k.blk = .FEC ∧ k.bit < 24 → f ∈ resultFlds →
      let t := sticky k p (count p f (decodeFailed p w (coreEnded p c q s)))
      (t.port p).sig.dq = q ∧ StsSet k p t ∧ Counted p f s t ∧ (t.port p).rxCws = (s.port p).rxCws := by
    intro k f hk hf
    obtain ⟨hdq, hrx, hset, hcount⟩ := failed_reported hk hf w (coreEnded p c q s)
    refine ⟨hdq.trans dqEnded, hset, ?_, hrx.trans rxEnded⟩
    unfold Counted at *
    rw [hcount, getF_coreEnded hf]
  rw [codewordEnds_cons hq hn]
  split
  case isTrue failed =>
    obtain ⟨hdq, hset, hcount, hrx⟩ := fails .FEC_CW_FAIL .FEC_CW_FAIL (by decide) (by simp [resultFlds])
    refine ⟨hdq, fun _ => ⟨hset, hcount, hrx⟩, fun converged inLimit => ?_⟩
    simp [converged] at failed
    omega
  case isFalse passed =>
    simp only [Bool.or_eq_true, Bool.not_eq_true', decide_eq_true_eq, not_or] at passed
    obtain ⟨converged, inLimit⟩ := passed
    split
    case isTrue badCrc =>
      obtain ⟨hdq, hset, hcount, hrx⟩ := fails .FEC_CRC_FAIL .FEC_CRC_FAIL (by decide) (by simp [resultFlds])
      refine ⟨hdq, fun failed => absurd failed (not_or.mpr ⟨converged, inLimit⟩), fun _ _ => ⟨fun _ => ⟨hset, hcount, hrx⟩, ?_⟩⟩
      intro goodCrc
      simp [goodCrc] at badCrc
    case isFalse goodCrc =>
      obtain ⟨hdq, hok⟩ := onCodeword_keeps p w c.info (coreEnded p c q s)
      have hg : Fld.FEC_CW_RX_OK ∈ resultFlds := by simp [resultFlds]
      have off := resultFlds_offStatus hg p
      refine ⟨hdq.trans dqEnded, fun failed => absurd failed (not_or.mpr ⟨converged, inLimit⟩), fun _ _ =>
        ⟨fun badCrc => absurd (by simp [badCrc]) goodCrc, fun _ => ?_⟩⟩
      have counts := counted_count rfl (off _ _) (off _ _) (coreEnded p c q s)
      unfold Counted at *
      rw [hok, counts, getF_coreEnded hg]

end Sys2Proof.Machine
end

section
/-! SUPPORT. Frames leave the lay-by toward the host (R22, R231, R255, R259, R342): events of a port that act, milestones given
up, frames released to the egress queues, frames sent. -/

namespace Sys2Proof.Machine

/-! ### Events of a port -/

theorem portEvent_live {p : Nat} {s : State} (h : Live p s) (f : State → State) : portEvent p f s = f s := by
  obtain ⟨hc, hd⟩ := h
  simp [portEvent, hc, hd]

theorem portEvent_gated {p : Nat} {s : State} (h : clocked s = false) (f : State → State) : portEvent p f s = s := by
  simp [portEvent, h]

/-- An event that acts on nothing leaves the state, whether it is abandoned or not. -/
theorem portEvent_idle {p : Nat} {f : State → State} {s : State} (h : f s = s) : portEvent p f s = s := by
  unfold portEvent
  split
  · rfl
  · exact h

/-- An event of a port that acts completes as what it does says. -/
theorem completes_portEvent {c : Instr} {p : Nat} {f : State → State} {s : State} {P : State → Prop}
    (hx : exec c s = .next (portEvent p f s)) (hl : Live p s) (h : P (f s)) : Completes c s P :=
  ⟨f s, by rw [hx, portEvent_live hl], h⟩

theorem exec_codewordDecoded (p : Fin 8) (c : DecodedCw) (s : State) :
    exec (.codewordDecoded p c) s = .next (portEvent p (fun s => codewordEnds p c s) s) := rfl

theorem exec_frameRelease (p : Fin 8) (r : Releasing) (s : State) : exec (.frameRelease p r) s =
    .next (portEvent p (fun s => if stOf p s = stCompat then fromPhy p r.phy s else releaseFrame p r.stream.toNat s) s) := rfl

theorem exec_egressFrameTx (p : Fin 8) (s : State) :
    exec (.egressFrameTx p) s = .next (portEvent p (fun s => sendEgress p s) s) := rfl

/-! ### A missing milestone (R255) -/

theorem aside_laybyP {p : Nat} {g : Fld} (hb : g.blk = .LAYBY_P) (hg : g.off * 32 + g.lo < 32 * 4096) : Aside p p g := by
  constructor <;> refine away_of_page hg ?_ <;> simp [hb, blkPage, blkPlace]

/-- A milestone given up at the gap limit is reported in GAP_TIMEOUT and counted. -/
theorem gapTimeout_reported (p node c ms : Nat) (s : State) :
    let t := updPressures p (resolveGiven p node c ms none (sticky .LAYBY_P_GAP_TIMEOUT p (count p .LAYBY_P_GAP_TIMEOUTS s)))
    StsSet .LAYBY_P_GAP_TIMEOUT p t ∧ Counted p .LAYBY_P_GAP_TIMEOUTS s t := by
  have keeps : ∀ g : Fld, g.blk = .LAYBY_P → g.off * 32 + g.lo < 32 * 4096 → ∀ t,
      getF p g (updPressures p (resolveGiven p node c ms none t)) = getF p g t := fun g hb hg t =>
    getF_of_rxView (p := p) (by simp [aside_laybyP hb hg])
  have off : ∀ b v, OffStatus p .LAYBY_P_GAP_TIMEOUTS b v := fun b v =>
    offStatus_of_off (by decide) (by decide) (by decide) p b v
  have away : Away p (.sts .LAYBY_P) .CHAIN 0 := (aside_laybyP rfl (by decide)).chain
  have set := stsSet_sticky (k := .LAYBY_P_GAP_TIMEOUT) (u := p) (by decide) away.offStatus (count p .LAYBY_P_GAP_TIMEOUTS s)
  intro t
  constructor
  · unfold StsSet at *
    rwa [keeps _ rfl (by decide)]
  · unfold Counted
    rw [keeps _ rfl (by decide), getF_sticky (off _ _) (off _ _)]
    exact counted_count rfl (off _ _) (off _ _) s

theorem exec_gapLimitExpiry {p : Fin 8} {node : Fin 16} {cls : Fin 8} {ms : BitVec 16} {s : State} (hl : Live p s)
    (hi : inShow p s = true) (ha : (pmsOf p node cls s).rxAny = true)
    (hb : msBelow ms.toNat (pmsOf p node cls s).rxHigh = true)
    (hr : resolved (s.port p) node cls (pmsOf p node cls s).rxA ms.toNat = false) :
    exec (.gapLimitExpiry p node cls ms) s = .next (updPressures p (resolveGiven p node cls ms.toNat none
      (sticky .LAYBY_P_GAP_TIMEOUT p (count p .LAYBY_P_GAP_TIMEOUTS s)))) := by
  show Host.Outcome.next (portEvent p _ s) = _
  rw [portEvent_live hl]
  simp [hi, ha, hb, hr]

/-! ### Releasing a frame (R259) -/

/-- What taking a frame out of its codewords leaves: the host lane, the streams and every register field. -/
def assemblyView (p : Nat) (s : State) : Lane × NMap StreamEnt × NMap Nat × NMap (Nat × Nat × Nat) :=
  ((s.port p).lane, (s.port p).streams, s.fields, s.tmr)

@[simp] theorem assemblyView_modPort {p : Nat} {f : Port → Port} (hl : ∀ x, (f x).lane = x.lane)
    (hs : ∀ x, (f x).streams = x.streams) (s : State) : assemblyView p (modPort p f s) = assemblyView p s := by
  simp [assemblyView, hl, hs]

@[simp] theorem assemblyView_modRx (p node c ms : Nat) (f : RxCw → RxCw) (s : State) :
    assemblyView p (modRx p node c ms f s) = assemblyView p s := by
  simp [modRx]

@[simp] theorem assemblyView_freeSpent (p node c : Nat) (s : State) :
    assemblyView p (freeSpent p node c s) = assemblyView p s := by
  simp [freeSpent, advanceRx, modPms]

theorem assemblyView_consume (p node c : Nat) (ms : List Nat) (k : Nat) (s : State) :
    assemblyView p (consume p node c ms k s) = assemblyView p s := by
  have rest : ∀ (f : RxCw → RxCw) (l : List Nat) (t : State),
      assemblyView p (forAll l (fun m => modRx p node c m f) t) = assemblyView p t := by
    intro f l
    induction l with
    | nil => exact fun _ => rfl
    | cons m l ih => exact fun t => (ih _).trans (assemblyView_modRx p node c m f t)
  unfold consume
  split
  · rfl
  · simp [rest]

/-- A frame taken out of its codewords. -/
theorem assemblyView_taken (p node c i : Nat) (ms : List Nat) (last : Nat) (s : State) :
    assemblyView p (setCut p node i last 0 (consume p node c ms 1 s)) = assemblyView p s := by
  simp [setCut, assemblyView_consume]

theorem lane_of_assemblyView {p : Nat} {s t : State} (h : assemblyView p t = assemblyView p s) :
    (t.port p).lane = (s.port p).lane := congrArg (·.1) h

theorem streamOf_of_assemblyView {p : Nat} {s t : State} (h : assemblyView p t = assemblyView p s) (i : Nat) :
    streamOf p i t = streamOf p i s := by
  have streams : (t.port p).streams = (s.port p).streams := congrArg (·.2.1) h
  rw [streamOf, streams, streamOf]

theorem getF_of_assemblyView {p : Nat} {s t : State} (h : assemblyView p t = assemblyView p s) (u : Nat) (g : Fld) :
    getF u g t = getF u g s := getF_congr (congrArg (·.2.2.1) h) (congrArg (·.2.2.2) h) u g

@[simp] theorem streamOf_modStream (p i : Nat) (f : StreamEnt → StreamEnt) (s : State) :
    streamOf p i (modStream p i f s) = f (streamOf p i s) := by
  simp [streamOf, modStream, mapGetD]

@[simp] theorem lane_modStream (p i : Nat) (f : StreamEnt → StreamEnt) (s : State) :
    ((modStream p i f s).port p).lane = (s.port p).lane := by
  simp [modStream]

/-- A counter of a stream counts in the stream's entry; SAT apart, no register field changes. -/
theorem countStream_spec (p i k n : Nat) (s : State) :
    streamOf p i (countStream p i k n s) = addStream k n (streamOf p i s) ∧
    ((countStream p i k n s).port p).lane = (s.port p).lane ∧
    ∀ u g, (∀ b v, OffStatus u g b v) → getF u g (countStream p i k n s) = getF u g s := by
  have fault : ∀ t, streamOf p i (correctedFault .STREAM p 1 (0x038 / 4) t) = streamOf p i t := fun t => by
    simp [streamOf]
  unfold countStream
  dsimp only
  split
  · refine ⟨by rw [fault, streamOf_modStream], by simp, fun u g off => ?_⟩
    rw [getF_correctedFault (off _ _) (off _ _), modStream, getF_modPort]
  · exact ⟨by simp, by simp, fun _ _ _ => rfl⟩

/-- A release noted: LD_RX and FR_DELIV of the stream. -/
theorem noteReleased_spec (p i ms : Nat) (s : State) :
    (streamOf p i (noteReleased p i ms s)).ldRx = some ms ∧
    (streamOf p i (noteReleased p i ms s)).frDeliv = satAdd 48 (streamOf p i s).frDeliv 1 ∧
    ((noteReleased p i ms s).port p).lane = (s.port p).lane ∧
    ∀ u g, (∀ b v, OffStatus u g b v) → getF u g (noteReleased p i ms s) = getF u g s := by
  obtain ⟨hst, hlane, hg⟩ := countStream_spec p i 1 1 (modStream p i (fun e => { e with ldRx := some ms }) s)
  unfold noteReleased
  exact ⟨by rw [hst, streamOf_modStream]; rfl, by rw [hst, streamOf_modStream]; rfl, hlane.trans (lane_modStream ..),
    fun u g off => (hg u g off).trans rfl⟩

/-- A delivered frame that leaves the lay-by of a port that is not in spur mode. -/
theorem releaseFrame_delivered {p i : Nat} {w : RxCw} {bs : List Byte} {used : List Nat} {last : Nat} {s t : State}
    (hs : isSpur p s = false) (hr : releasable p 0 i s = some (w, bs, used, last))
    (hd : deliver p i w.cls false bs s = some t) :
    releaseFrame p i s = noteReleased p i last (setCut p 0 i last 0 (consume p 0 w.cls used 1 t)) := by
  simp [releaseFrame, hs, hr, hd]

/-- What a release leaves of the delivery, and what it notes. -/
theorem releaseFrame_spec {p i : Nat} {w : RxCw} {bs : List Byte} {used : List Nat} {last : Nat} {s t : State}
    (hs : isSpur p s = false) (hr : releasable p 0 i s = some (w, bs, used, last))
    (hd : deliver p i w.cls false bs s = some t) :
    (streamOf p i (releaseFrame p i s)).ldRx = some last ∧
    (streamOf p i (releaseFrame p i s)).frDeliv = satAdd 48 (streamOf p i t).frDeliv 1 ∧
    ((releaseFrame p i s).port p).lane = (t.port p).lane ∧
    ∀ u g, (∀ b v, OffStatus u g b v) → getF u g (releaseFrame p i s) = getF u g t := by
  have taken := assemblyView_taken p 0 w.cls i used last t
  obtain ⟨hld, hfr, hlane, hg⟩ := noteReleased_spec p i last (setCut p 0 i last 0 (consume p 0 w.cls used 1 t))
  rw [releaseFrame_delivered hs hr hd]
  exact ⟨hld, by rw [hfr, streamOf_of_assemblyView taken], hlane.trans (lane_of_assemblyView taken),
    fun u g off => (hg u g off).trans (getF_of_assemblyView taken u g)⟩

theorem releaseFrame_none {p i : Nat} {s : State} (hs : isSpur p s = false) (hr : releasable p 0 i s = none) :
    releaseFrame p i s = s := by
  simp [releaseFrame, hs, hr]

/-! ### Where a released frame goes (R22, R340, R342) -/

/-- A frame appended to the egress queue of a class. -/
def landIn (p c i : Nat) (bs : List Byte) (s : State) : State :=
  modLane p (fun l => { l with egress := l.egress.set c ((s.port p).lane.egress.getD c [] ++ [(i, bs)]) }) s

theorem egress_landIn {p c i : Nat} {bs : List Byte} {s : State} (hc : c < (s.port p).lane.egress.length) :
    ((landIn p c i bs s).port p).lane.egress.getD c [] = (s.port p).lane.egress.getD c [] ++ [(i, bs)] := by
  simp [landIn, modLane, hc]

@[simp] theorem streamOf_landIn (p c i : Nat) (bs : List Byte) (s : State) (k : Nat) :
    streamOf p k (landIn p c i bs s) = streamOf p k s := by
  simp [landIn, modLane, streamOf]

/-- A frame that fits its class queue lands there while the lane is up and no loopback takes it. -/
theorem deliver_fits {p i c : Nat} {bs : List Byte} {s : State} (hb : getF p .HOST_LB_ACTIVE s = 0) (hu : laneUp p s = true)
    (hf : (((s.port p).lane.egress.getD c []).map fun f => f.2.length).sum + bs.length ≤ 20480) :
    deliver p i c false bs s = some (landIn p c i bs s) := by
  simp only [deliver, hb, hu]
  simp only [List.getD_eq_getElem?_getD] at hf ⊢
  simp [hf, landIn]

/-- While the lane is down it is discarded and counted. -/
theorem deliver_down {p i c : Nat} {bs : List Byte} {s : State} (hb : getF p .HOST_LB_ACTIVE s = 0) (hu : laneUp p s = false) :
    deliver p i c false bs s = some (laneDrop p 1 s) := by
  simp [deliver, hb, hu]

/-- A frame of the standard link that fits class queue 0 lands there. -/
theorem fromPhy_fits {p : Nat} {bs : List Byte} {s : State} (ht : getF p .LINKUP_T1_LINK s = 1)
    (hb : getF p .HOST_LB_ACTIVE s = 0) (hu : laneUp p s = true)
    (hf : (((s.port p).lane.egress.getD 0 []).map fun f => f.2.length).sum + bs.length ≤ 20480) :
    fromPhy p bs s = landIn p 0 0 bs s := by
  simp only [fromPhy, ht, hb, hu]
  simp only [List.getD_eq_getElem?_getD] at hf ⊢
  simp [hf, landIn]

/-! ### Frames sent (R342, R343) -/

/-- While the lane is up the fixed queue goes first. -/
theorem sendEgress_fixed {p : Nat} {f : List Byte} {q : List (List Byte)} {s : State} (hu : laneUp p s = true)
    (hq : (s.port p).lane.egFixed = f :: q) :
    sendEgress p s = delivered p f (modLane p (fun l => { l with egFixed := q }) s) := by
  simp [sendEgress, hu, hq]

/-- With the fixed queue empty and every class paused nothing is sent. -/
theorem sendEgress_paused {p : Nat} {s : State} (hq : (s.port p).lane.egFixed = []) (hp : getF p .HOST_PAUSED s = 255) :
    sendEgress p s = s := by
  have paused : ∀ c ∈ List.range 8, bitOf 255 c = true := by decide
  have none_left : (List.range 8).filter
      (fun c => !((s.port p).lane.egress.getD c []).isEmpty && !bitOf (getF p .HOST_PAUSED s) c) = [] := by
    rw [List.filter_eq_nil_iff, hp]
    intro c hc
    simp [paused c hc]
  unfold sendEgress
  dsimp only
  rw [hq, none_left]
  split <;> rfl

theorem sizeBin_place (n : Nat) : (sizeBin n).blk = .STATS ∧ (sizeBin n).lo < 32 ∧ (sizeBin n).off ≠ Fld.STATS_RX_FRAMES.off := by
  unfold sizeBin
  repeat' split
  all_goals decide

/-- A frame whose last byte has left is counted, and goes out as it is. -/
theorem delivered_spec (p : Nat) (bs : List Byte) (s : State) :
    (delivered p bs s).sent = .host p 0 bs :: s.sent ∧ (∀ k, (delivered p bs s).port k = s.port k) ∧
    Counted p .STATS_RX_FRAMES s (delivered p bs s) := by
  have off : ∀ b v, OffStatus p .STATS_RX_FRAMES b v := fun b v =>
    offStatus_of_off (by decide) (by decide) (by decide) p b v
  obtain ⟨hb, hl, ho⟩ := sizeBin_place bs.length
  have bin : (Fld.STATS_RX_FRAMES).key p ≠ (sizeBin bs.length).key p :=
    key_ne_of_off p (by rw [hb]; rfl) (by decide) hl (fun e => ho e.symm)
  have octets : (Fld.STATS_RX_FRAMES).key p ≠ Fld.STATS_RX_OCTETS.key p :=
    key_ne_of_off p rfl (by decide) (by decide) (by decide)
  refine ⟨?_, fun k => by simp [delivered], ?_⟩
  · have counts := ((statusOnly_count p .STATS_RX_FRAMES (emit (.host p 0 bs) s)).trans
      (statusOnly_countBy p .STATS_RX_OCTETS bs.length _)).trans (statusOnly_count p (sizeBin bs.length) _)
    obtain ⟨-, -, -, -, -, -, -, sent, -⟩ := counts.frame
    exact sent
  · unfold Counted delivered
    rw [getF_count bin (off _ _) (off _ _), getF_countBy octets (off _ _) (off _ _)]
    exact counted_count rfl (off _ _) (off _ _) (emit (.host p 0 bs) s)

/-! ### O52 -/

/-- Settles O52: one clause for each event, each from what the event does. -/
theorem framesLeaveTheLayby : Obligations.FramesLeaveTheLayby := by
  intro p c d rest node cls ms i w bs phy used last s x fits lands
  have drop : ∀ b v, OffStatus p.val .HOST_LANE_DROP b v := fun b v =>
    offStatus_of_off (by decide) (by decide) (by decide) _ b v
  refine ⟨fun live => ⟨fun hq hn => ?_, ?_, fun hs hc hr hb => ⟨fun hu hf => ?_, fun hu => ?_⟩, fun hc ht hb hu hf => ?_,
    fun hu f q hq => ?_⟩, fun hq => ?_, fun hs hc hr => ?_, fun hq hp => ?_, fun hc => ?_⟩
  · exact completes_portEvent (exec_codewordDecoded p c s) live (codewordEnds_spec hq hn)
  · intro m hi ha hb hr
    exact ⟨_, exec_gapLimitExpiry live hi ha hb hr, gapTimeout_reported p node cls ms.toNat s⟩
  · obtain ⟨hld, hfr, hlane, -⟩ := releaseFrame_spec hs hr (deliver_fits hb hu hf.2)
    refine completes_portEvent (exec_frameRelease p _ s) live ?_
    rw [if_neg hc]
    exact ⟨(congrArg (fun l => l.egress.getD w.cls []) hlane).trans (egress_landIn hf.1), hld,
      by rw [hfr, streamOf_landIn]⟩
  · obtain ⟨hld, -, -, hg⟩ := releaseFrame_spec hs hr (deliver_down hb hu)
    refine completes_portEvent (exec_frameRelease p _ s) live ?_
    rw [if_neg hc]
    refine ⟨?_, hld⟩
    unfold Counted
    rw [hg _ _ drop]
    exact counted_count rfl (drop _ _) (drop _ _) s
  · refine completes_portEvent (exec_frameRelease p _ s) live ?_
    rw [if_pos hc, fromPhy_fits ht hb hu hf.2]
    exact ⟨egress_landIn hf.1, rfl⟩
  · refine completes_portEvent (exec_egressFrameTx p s) live ?_
    obtain ⟨sent, port, counted⟩ := delivered_spec p f (modLane p (fun l => { l with egFixed := q }) s)
    rw [sendEgress_fixed hu hq]
    exact ⟨sent, by rw [port]; simp [modLane], counted⟩
  · rw [exec_codewordDecoded, portEvent_idle]
    unfold codewordEnds
    rw [hq]
  · rw [exec_frameRelease, portEvent_idle]
    rw [if_neg hc, releaseFrame_none hs hr]
  · rw [exec_egressFrameTx, portEvent_idle (sendEgress_paused hq hp)]
  · rw [exec_egressFrameTx, portEvent_gated hc]

end Sys2Proof.Machine
end

section
/-! SUPPORT. Loading a pavilion (R30 steps 1 to 3, R397): `loadView` holds what serving its marks and showing its resources leaves
as it was, namely a register field of another place, the layout in its tiles, an enable that waits, accesses and ports. -/

namespace Sys2Proof.Machine

/-! ### The view -/

/-- A register field, the active layout of a pavilion and whether an enable of it waits, the accesses under way, the ports. -/
def loadView (n u : Nat) (g : Fld) (s : State) :
    Nat × Option (Nat × Nat × Layout) × Bool × List Access × List Access × NMap Port :=
  (getF u g s, (s.pav n).active, (s.pav n).deferred, s.access, s.timedOut, s.ports)

/-- A field of a pavilion's wear, pools or lay-by. -/
def Fld.inPools (f : Fld) : Bool := [Blk.PAV_WEAR, .ENGPOOL, .DECPOOL, .LAYBY].contains f.blk && f.inBlk

/-- The fields of PAV_CTL that a load shows. -/
def loadFlds : List Fld := [.PAV_CTL_MODE_EVEN, .PAV_CTL_MODE_ODD, .PAV_CTL_NO_IMAGE, .PAV_CTL_LOADING]

/-- The field lies in none of the places that a load of pavilion `n` writes. -/
structure LoadAside (n u : Nat) (g : Fld) : Prop where
  four : n < 4
  chain : Away u g .CHAIN 0
  spare : Away u g .SPARE 0
  pools : ∀ b ∈ [Blk.PAV_WEAR, .ENGPOOL, .DECPOOL, .LAYBY], Away u g b n
  fec : ∀ p, Away u g .FEC p
  own : ∀ f ∈ loadFlds, g.key u ≠ f.key n

@[simp] theorem inPools_fields :
    Fld.PAV_WEAR_SUBS.inPools ∧ Fld.ENGPOOL_PIPE_SPARE_READY.inPools ∧ Fld.DECPOOL_SPARE_READY.inPools := by
  decide

section
variable {n u : Nat} {g : Fld}

theorem LoadAside.awayPools {f : Fld} (h : LoadAside n u g) (hf : f.inPools) :
    Away u g f.blk n ∧ f.off * 32 + f.lo < 32 * 4096 := by
  simp only [Fld.inPools, Bool.and_eq_true, List.contains_iff_mem] at hf
  obtain ⟨hb, hf⟩ := hf
  exact ⟨h.pools _ hb, Fld.inBlk.place hf⟩

theorem loadView_of_statusOnly {s t : State} (h : StatusOnly s t) (hg : getF u g t = getF u g s) :
    loadView n u g t = loadView n u g s := by
  obtain ⟨F, T, I, E, L, D, J, rfl⟩ := h
  simp only [loadView, hg]
  rfl

theorem loadView_setF {f : Fld} {v : Nat} (h : Away u g f.blk v) (hf : f.off * 32 + f.lo < 32 * 4096) (x : Nat) (s : State) :
    loadView n u g (setF v f x s) = loadView n u g s :=
  loadView_of_statusOnly (statusOnly_setF v f x s) (getF_setF_other _ _ (h.key_ne hf))

@[simp] theorem loadView_setF_pools {f : Fld} (h : LoadAside n u g) (hf : f.inPools) (x : Nat) (s : State) :
    loadView n u g (setF n f x s) = loadView n u g s := loadView_setF (h.awayPools hf).1 (h.awayPools hf).2 x s

theorem loadView_countBy {f : Fld} {v : Nat} (hc : Away u g .CHAIN 0) (h : Away u g f.blk v)
    (hf : f.off * 32 + f.lo < 32 * 4096) (k : Nat) (s : State) : loadView n u g (countBy v f k s) = loadView n u g s :=
  loadView_of_statusOnly (statusOnly_countBy v f k s) (getF_countBy_away h hf hc k s)

theorem loadView_sticky {k : Sticky} {v : Nat} (hc : Away u g .CHAIN 0) (h : Away u g k.blk v) (s : State) :
    loadView n u g (sticky k v s) = loadView n u g s :=
  loadView_of_statusOnly (statusOnly_sticky k v s) (getF_sticky h.offStatus hc.offStatus s)

theorem loadView_correctedFault {b : Blk} {v : Nat} (hc : Away u g .CHAIN 0) (h : Away u g b v) (src detail : Nat) (s : State) :
    loadView n u g (correctedFault b v src detail s) = loadView n u g s :=
  loadView_of_statusOnly (statusOnly_correctedFault b v src detail s)
    (getF_correctedFault h.offStatus hc.offStatus src detail s)

@[simp] theorem loadView_modNvm (f : Nvm → Nvm) (s : State) : loadView n u g (modNvm f s) = loadView n u g s := (rfl)

theorem loadView_modPav {f : Pav → Pav} {k : Nat} (ha : ∀ x, (f x).active = x.active) (hd : ∀ x, (f x).deferred = x.deferred)
    (s : State) : loadView n u g (modPav k f s) = loadView n u g s := by
  have pav : ((modPav k f s).pav n).active = (s.pav n).active ∧ ((modPav k f s).pav n).deferred = (s.pav n).deferred := by
    by_cases e : n = k
    · subst e
      simp [ha, hd]
    · rw [pav_modPav_other _ _ e]
      exact ⟨rfl, rfl⟩
  simp [loadView, pav]

@[simp] theorem loadView_ite (c : Prop) [Decidable c] (s t : State) :
    loadView n u g (if c then s else t) = if c then loadView n u g s else loadView n u g t := apply_ite (loadView n u g) c s t

@[simp] theorem loadView_when {f : State → State} {s : State} (c : Bool) (h : loadView n u g (f s) = loadView n u g s) :
    loadView n u g (when c f s) = loadView n u g s := by
  unfold when
  split
  · exact h
  · rfl

@[simp] theorem loadView_forAll {α : Type} {f : α → State → State} (l : List α) (s : State)
    (h : ∀ x ∈ l, ∀ t, loadView n u g (f x t) = loadView n u g t) : loadView n u g (forAll l f s) = loadView n u g s := by
  induction l generalizing s with
  | nil => rfl
  | cons x l ih =>
    exact (ih (f x s) fun y hy => h y (List.mem_cons_of_mem _ hy)).trans (h x List.mem_cons_self s)

/-! ### Marks served (R395 to R398) -/

@[simp] theorem loadView_noteEol (h : LoadAside n u g) (kind old new fitted : Nat) (s : State) :
    loadView n u g (noteEol kind old new fitted s) = loadView n u g s := by
  have kindSet : ∀ x t, loadView n u g (setF 0 .SPARE_EOL_KIND x t) = loadView n u g t := loadView_setF h.spare (by decide)
  unfold noteEol
  dsimp only
  split
  · rw [loadView_correctedFault h.chain h.spare]
    simp [kindSet]
  · rfl

/-- The use of a spare counted and reported. -/
theorem loadView_spareUsed (h : LoadAside n u g) (s : State) :
    loadView n u g (sticky .SPARE_SPARE_USED 0 (count 0 .SPARE_SUBSTITUTIONS s)) = loadView n u g s := by
  rw [loadView_sticky h.chain h.spare, count, loadView_countBy h.chain h.spare (by decide)]

theorem loadView_takeSpare (h : LoadAside n u g) {f : Fld} (ha : Away u g f.blk 0) (hf : f.off * 32 + f.lo < 32 * 4096)
    (kind fitted : Nat) (s : State) : loadView n u g (takeSpare f kind fitted s) = loadView n u g s := by
  unfold takeSpare
  dsimp only
  rw [loadView_noteEol h, loadView_spareUsed h, loadView_setF ha hf]

theorem loadView_takeFor (h : LoadAside n u g) {m : Mark} (hm : m.pav = n) (s : State) :
    loadView n u g (takeFor m s) = loadView n u g s := by
  have places : ∀ f ∈ [Fld.SPARE_ENG_LEFT n, .SPARE_PIPE_LEFT n, .SPARE_DEC_LEFT n, .SPARE_ROWS_MIN n],
      Away u g f.blk 0 ∧ f.off * 32 + f.lo < 32 * 4096 := by
    have four := h.four
    have spare := h.spare
    simp only [List.forall_mem_cons, Fld.SPARE_ENG_LEFT, Fld.SPARE_PIPE_LEFT, Fld.SPARE_DEC_LEFT, Fld.SPARE_ROWS_MIN]
    exact ⟨⟨spare, by omega⟩, ⟨spare, by omega⟩, ⟨spare, by omega⟩, ⟨spare, by omega⟩, by simp⟩
  have take : ∀ f ∈ [Fld.SPARE_ENG_LEFT n, .SPARE_PIPE_LEFT n, .SPARE_DEC_LEFT n, .SPARE_ROWS_MIN n], ∀ kind fitted t,
      loadView n u g (takeSpare f kind fitted t) = loadView n u g t := fun f hf =>
    loadView_takeSpare h (places f hf).1 (places f hf).2
  unfold takeFor
  rw [hm]
  split
  · exact take _ (by simp) ..
  · rw [loadView_setF_pools h (by simp), take _ (by simp)]
  · rw [loadView_setF_pools h (by simp), take _ (by simp)]
  · obtain ⟨away, place⟩ := places (.SPARE_ROWS_MIN n) (by simp)
    dsimp only
    rw [loadView_noteEol h, loadView_spareUsed h, loadView_setF away place, loadView_modNvm]

/-- Fields of a pavilion set: its pools, its wear, and what a load shows in PAV_CTL. -/
theorem loadView_setAll (h : LoadAside n u g) (l : List (Fld × Nat)) (s : State)
    (hl : ∀ f ∈ l.map (·.1), f.inPools ∨ f ∈ loadFlds) : loadView n u g (setAll n l s) = loadView n u g s := by
  refine loadView_of_statusOnly (statusOnly_setAll n l s) (getF_setAll_other l s fun e he => ?_)
  rcases hl e.1 (List.mem_map_of_mem he) with hp | ho
  · exact (h.awayPools hp).1.key_ne (h.awayPools hp).2
  · exact h.own _ ho

theorem shownFlds_places : ∀ f ∈ [Fld.PAV_CTL_MODE_EVEN, .PAV_CTL_MODE_ODD, .ENGPOOL_ENG_EVEN, .ENGPOOL_ENG_ODD,
    .ENGPOOL_ENG_IDLE, .ENGPOOL_PIPES_EVEN, .ENGPOOL_PIPES_ODD, .ENGPOOL_PIPES_IDLE, .ENGPOOL_PIPE_SPARE_READY,
    .DECPOOL_CORES_EVEN, .DECPOOL_CORES_ODD, .DECPOOL_CORES_IDLE, .DECPOOL_SPARE_READY, .LAYBY_SHARE_EVEN, .LAYBY_SHARE_ODD],
    f.inPools ∨ f ∈ loadFlds := by
  decide

theorem markFlds_places : ∀ f ∈ [Fld.PAV_WEAR_MARKED_ENG, .PAV_WEAR_MARKED_PIPE, .PAV_WEAR_MARKED_DEC, .PAV_WEAR_MARKED_ROWS],
    f.inPools ∨ f ∈ loadFlds := by
  decide

theorem loadView_showMarks (h : LoadAside n u g) (s : State) : loadView n u g (showMarks n s) = loadView n u g s :=
  loadView_setAll h _ s markFlds_places

theorem loadView_serveMark (h : LoadAside n u g) {m : Mark} (hm : m.pav = n) (s : State) :
    loadView n u g (serveMark m s) = loadView n u g s := by
  have wear : Away u g .PAV_WEAR n := h.pools _ (by simp)
  unfold serveMark
  rw [hm]
  dsimp only
  split
  · rw [loadView_modPav, loadView_sticky h.chain wear, count, loadView_countBy h.chain wear (by decide),
      loadView_takeFor h hm, loadView_showMarks h, loadView_modNvm]
    all_goals exact fun _ => rfl
  · rw [loadView_correctedFault h.chain wear, loadView_modNvm, loadView_showMarks h, loadView_modNvm]

@[simp] theorem loadView_substituteAll (h : LoadAside n u g) (s : State) :
    loadView n u g (substituteAll n s) = loadView n u g s := by
  refine loadView_forAll _ s fun m hm t => loadView_serveMark h ?_ t
  have mine : m ∈ marksOf n s := by
    simp only [List.mem_append, List.mem_filter, List.mem_mergeSort] at hm
    exact hm.elim (·.1) (·.1)
  simpa [marksOf] using (List.mem_filter.mp mine).2

/-! ### Resources shown -/

@[simp] theorem loadView_showPavLayout (h : LoadAside n u g) (s : State) :
    loadView n u g (showPavLayout n s) = loadView n u g s := by
  unfold showPavLayout
  split
  · rfl
  · exact loadView_setAll h _ s shownFlds_places

@[simp] theorem loadView_showCores (h : LoadAside n u g) (s : State) :
    loadView n u g (showCores n s) = loadView n u g s := by
  have cores : ∀ p x t, loadView n u g (setF p .FEC_CORES x t) = loadView n u g t := fun p =>
    loadView_setF (h.fec p) (by decide)
  simp [showCores, h, cores]

/-! ### The load (R30) -/

/-- The image check and the load of an enable leave the view. -/
@[simp] theorem loadView_startEnable (h : LoadAside n u g) (s : State) :
    loadView n u g (startEnable n s) = loadView n u g s := by
  have noImage : loadView n u g (setF n .PAV_CTL_NO_IMAGE 1 s) = loadView n u g s :=
    loadView_setAll h [(.PAV_CTL_NO_IMAGE, 1)] s (by decide)
  unfold startEnable
  dsimp only
  repeat' split
  · rfl
  · exact noImage
  · rw [loadView_setAll h _ _ (by simp [loadFlds]), loadView_showCores h,
      loadView_when _ (loadView_substituteAll h s)]

theorem getF_of_loadView {s t : State} (h : loadView n u g t = loadView n u g s) : getF u g t = getF u g s := congrArg (·.1) h

theorem active_of_loadView {s t : State} (h : loadView n u g t = loadView n u g s) :
    (t.pav n).active = (s.pav n).active := congrArg (·.2.1) h

theorem deferred_of_loadView {s t : State} (h : loadView n u g t = loadView n u g s) :
    (t.pav n).deferred = (s.pav n).deferred := congrArg (·.2.2.1) h

/-- Accesses and ports kept: what was quiet stays quiet. -/
theorem quiet_of_loadView {s t : State} (h : loadView n u g t = loadView n u g s) (hq : Quiet s) : Quiet t := by
  simp only [loadView, Prod.mk.injEq] at h
  obtain ⟨-, -, -, access, timedOut, ports⟩ := h
  have port : ∀ k, t.port k = s.port k := fun k => by rw [State.port, ports, State.port]
  simpa only [Quiet, access, timedOut, port] using hq

end

/-- A field lies aside of a load by the page of its block and its key. -/
theorem loadAside_of_page {n u : Nat} {g : Fld} (hn : n < 4) (hg : g.off * 32 + g.lo < 32 * 4096)
    (hb : ∀ x ∈ (.CHAIN, 0) :: (.SPARE, 0) :: [Blk.PAV_WEAR, .ENGPOOL, .DECPOOL, .LAYBY].map (·, n),
      blkPage g.blk u ≠ blkPage x.1 x.2)
    (hp : ∀ p, blkPage g.blk u ≠ blkPage .FEC p) (ho : ∀ f ∈ loadFlds, g.key u ≠ f.key n) : LoadAside n u g :=
  ⟨hn, away_of_page hg (hb (.CHAIN, 0) (by simp)), away_of_page hg (hb (.SPARE, 0) (by simp)),
    fun b h => away_of_page hg (hb (b, n) (List.mem_cons_of_mem _ (List.mem_cons_of_mem _ (List.mem_map_of_mem h)))),
    fun p => away_of_page hg (hp p), ho⟩

/-- The fields of PAV_CTL that a load does not show lie aside of it. -/
theorem loadAside_pavCtl (n : Fin 4) {g : Fld} (hg : g = .en .PAV_CTL ∨ g = .PAV_CTL_ENABLED) : LoadAside n n g := by
  have hb : g.blk = .PAV_CTL := by rcases hg with rfl | rfl <;> rfl
  have shows : ∀ f ∈ loadFlds, g.key n ≠ f.key n := by
    rcases hg with rfl | rfl <;> revert n <;> decide
  refine loadAside_of_page n.isLt (by rcases hg with rfl | rfl <;> decide) ?_ (fun p => ?_) shows
  · rw [hb]
    clear shows
    revert n
    decide
  · rw [hb, blkPage_pavilion rfl, blkPage_port rfl]
    simp only [blkPlace]
    omega

/-- NOMATCH of the ledger lies aside of a load. -/
theorem loadAside_noMatch (n : Fin 4) : LoadAside n 0 (.LAYOUT_NOMATCH n) := by
  refine loadAside_of_page n.isLt (by revert n; decide) (by revert n; decide) (fun p => ?_) (by revert n; decide)
  simp only [Fld.LAYOUT_NOMATCH, blkPage, blkPlace]
  omega

end Sys2Proof.Machine
end

section
/-! SUPPORT. What a pavilion's operations do through its two ports (R27, R28, R30, R158, R443): each keeps what lies outside of its
port; a port that stops is DISABLED and keeps its in-band requests. -/

namespace Sys2Proof.Machine

/-! ### Operations of a port that a pavilion calls -/

/-- The command fields of a port's blocks lie in its pages, none of them in the word of STATE. -/
theorem portCmds_place : ∀ f ∈ portBlks.flatMap cmdFlds, f.inPort ∧ f.lo + 4 < 32 ∧ (blkPlace f.blk).1 = .port ∧
    (blkPlace f.blk).2 * 4096 + f.off ≠ Fld.PORT_CTL_STATE.off := by
  decide +kernel

@[simp] theorem outside_abortPortCmds (p : Nat) (s : State) : outside p (abortPortCmds p s) = outside p s := by
  have stops : ∀ f ∈ portBlks.flatMap cmdFlds, ∀ t, outside p (cmdStop p f ocAborted t) = outside p t := fun f hf t =>
    outside_cmdStop (.inl ⟨rfl, (portCmds_place f hf).1⟩) _ t
  unfold abortPortCmds
  rw [outside_forAll _ _ stops, outside_modPort]

@[simp] theorem outside_discardLayby (p : Nat) (s : State) : outside p (discardLayby p s) = outside p s := by
  simp [discardLayby]

@[simp] theorem outside_startLayby (p : Nat) (s : State) : outside p (startLayby p s) = outside p s := by
  simp [startLayby]

@[simp] theorem outside_watchEnable (p : Nat) (on : Bool) (s : State) : outside p (watchEnable p on s) = outside p s := by
  simp [watchEnable]

@[simp] theorem outside_enableStream (p i : Nat) (s : State) : outside p (enableStream p i s) = outside p s := by
  have refused : Fld.STREAM_GUAR_REFUSALS.inPort ∧ isPortBlk Sticky.STREAM_GUAR_REFUSED.blk := by decide
  simp [enableStream, refused]

@[simp] theorem outside_allowTx (p : Nat) (s : State) : outside p (allowTx p s) = outside p s := by
  have allow : Fld.TXSH_TX_ALLOW.inPort := by decide
  simp [allowTx, allow]

/-! ### The layout shown in a port -/

/-- The fields that the layout gives a port. -/
def layoutFlds : List Fld :=
  [.PORT_CTL_LINE_MODE, .PORT_CTL_PERMIT, .PORT_CTL_INIT_PROFILE, .PORT_CTL_COMPAT_PERMIT, .TXSH_MASKS, .TXSH_NOTCH_SETS,
    .FEC_CORES, .LAYBY_P_SHARE, .STREAM_CLS_MODE, .STREAM_DEFAULT_STREAM, .STREAM_MISS_STREAM, .STREAM_TS_STREAM, .STREAM_SEED,
    .HOST_HOST_RATE, .PORT_CTL_PROFILE]

theorem inPort_layoutFlds : ∀ f ∈ layoutFlds, f.inPort := by
  decide

@[simp] theorem outside_loadStreams (p : Nat) (l : PortLayout) (s : State) : outside p (loadStreams p l s) = outside p s := by
  simp [loadStreams]

@[simp] theorem outside_showPortLayout (p : Nat) (s : State) : outside p (showPortLayout p s) = outside p s := by
  have fields : ∀ f ∈ layoutFlds, OwnFld p p f := fun f hf => .inl ⟨rfl, inPort_layoutFlds f hf⟩
  unfold showPortLayout
  dsimp only
  rw [outside_loadStreams, outside_modPort, outside_setAll]
  intro e he
  refine fields e.1 ?_
  simp only [List.mem_cons, List.not_mem_nil, or_false] at he
  rcases he with rfl | rfl | rfl | rfl | rfl | rfl | rfl | rfl | rfl | rfl | rfl | rfl | rfl <;> simp [layoutFlds]

@[simp] theorem outside_showHostLayout (p : Nat) (s : State) : outside p (showHostLayout p s) = outside p s := by
  simp [showHostLayout, inPort_layoutFlds .HOST_HOST_RATE (by simp [layoutFlds])]

/-! ### The enables of a port's blocks -/

/-- A block of a port takes EN written 1 within the port. -/
theorem outside_setEn_one {p : Nat} {b : Blk} (hb : isPortBlk b) (s : State) : outside p (setEn b p 1 s) = outside p s := by
  have own : OwnBlk p p b := .inl ⟨rfl, hb⟩
  have field : ∀ t, outside p (setF p (.en b) 1 t) = outside p t :=
    outside_setF_blk (f := .en b) own (by simp [Fld.en]) 1
  have rises : ∀ t, outside p (enRises b p t) = outside p t := fun t => by
    cases b <;> simp [enRises, isPortBlk, portBlks] at hb ⊢
  simp [setEn, field, rises]

/-- A block in a power domain of a port's line, logic or lane is a block of the port. -/
theorem isPortBlk_of_domain {b : Blk} {p d : Nat} (hd : d ∈ [14, 22, 30].map (· + p)) (h : blkDomain b p = d) : isPortBlk b := by
  simp only [List.map_cons, List.map_nil, List.mem_cons, List.not_mem_nil, or_false] at hd
  have elsewhere : isPortBlk b = false → blkDomain b p < 6 ∨ blkDomain b p = 6 + p ∨ blkDomain b p = 10 + p := by
    cases b <;> simp [isPortBlk, portBlks, blkDomain]
  by_contra hb
  have := elsewhere (by simpa using hb)
  omega

theorem outside_startPortEnables {p d : Nat} (hd : d ∈ [14, 22, 30].map (· + p)) (s : State) :
    outside p (startPortEnables p d s) = outside p s := by
  refine outside_forAll _ s fun b hb t => outside_setEn_one (isPortBlk_of_domain hd ?_) t
  obtain ⟨-, hb⟩ := List.mem_filter.mp hb
  simp only [Bool.and_eq_true, beq_iff_eq] at hb
  exact hb.1

/-! ### Both ports -/

/-- What depends on the outside of ports alone is kept by an operation on each of two ports. -/
theorem forPorts_keeps {α : Type} {π : State → α} {f : Nat → State → State} {n : Nat}
    (hf : ∀ p t, outside p (f p t) = outside p t) (hπ : ∀ p s t, outside p t = outside p s → π t = π s) (s : State) :
    π (forAll [2 * n, 2 * n + 1] f s) = π s :=
  (hπ _ _ _ (hf (2 * n + 1) (f (2 * n) s))).trans (hπ _ _ _ (hf (2 * n) s))

theorem pavs_of_outside {p : Nat} {s t : State} (h : outside p t = outside p s) : t.pavs = s.pavs :=
  congrArg (fun x => x.2.2.pavs) h

theorem pav_of_outside {p : Nat} {s t : State} (h : outside p t = outside p s) (n : Nat) : t.pav n = s.pav n := by
  rw [State.pav, pavs_of_outside h, State.pav]

/-- PAV_CTL of a pavilion lies outside of every port. -/
theorem getF_pavCtl_of_outside {p n : Nat} (hn : n < 4) {g : Fld} (hb : g.blk = .PAV_CTL)
    (hg : g.off * 32 + g.lo < 32 * 4096) {s t : State} (h : outside p t = outside p s) : getF n g t = getF n g s := by
  refine getF_eq_of_outside h ?_
  rw [keyPage_key hg, hb, blkPage_pavilion rfl]
  simp only [ownPage, blkPlace, Bool.or_eq_false_iff, Bool.and_eq_false_iff, beq_eq_false_iff_ne]
  have rest : ((2 + n) * 256 + 0) % 256 = 0 := by omega
  refine ⟨⟨⟨by omega, by omega⟩, by omega⟩, .inr ?_⟩
  rw [rest]
  rfl

/-! ### A port that stops keeps its in-band requests -/

/-- The in-band requests of a port's host lane. -/
def inband (p : Nat) (s : State) : List IbReq := (s.port p).lane.ib

theorem inband_of_port {p : Nat} {s t : State} (h : t.port p = s.port p) : inband p t = inband p s := by
  rw [inband, h, inband]

@[simp] theorem inband_modPort {p : Nat} {f : Port → Port} (h : ∀ x, (f x).lane.ib = x.lane.ib) (s : State) :
    inband p (modPort p f s) = inband p s := by
  simp [inband, h]

@[simp] theorem inband_setF (p u : Nat) (f : Fld) (v : Nat) (s : State) : inband p (setF u f v s) = inband p s := rfl

@[simp] theorem inband_setAll (p u : Nat) (l : List (Fld × Nat)) (s : State) : inband p (setAll u l s) = inband p s :=
  inband_of_port (port_setAll u l s p)

@[simp] theorem inband_sticky (p u : Nat) (k : Sticky) (s : State) : inband p (sticky k u s) = inband p s :=
  inband_of_port (port_sticky k u s p)

@[simp] theorem inband_countBy (p u : Nat) (f : Fld) (n : Nat) (s : State) : inband p (countBy u f n s) = inband p s :=
  inband_of_port (port_countBy u f n s p)

@[simp] theorem inband_cmdStop (p u : Nat) (f : Fld) (oc : Nat) (s : State) : inband p (cmdStop u f oc s) = inband p s :=
  inband_of_port (port_cmdStop u f oc s p)

@[simp] theorem inband_ite (p : Nat) (c : Prop) [Decidable c] (s t : State) :
    inband p (if c then s else t) = if c then inband p s else inband p t := apply_ite (inband p) c s t

@[simp] theorem inband_when {p : Nat} {f : State → State} {s : State} (c : Bool) (h : inband p (f s) = inband p s) :
    inband p (when c f s) = inband p s := by
  unfold when
  split
  · exact h
  · rfl

theorem portState_page (p : Nat) : keyPage (Fld.PORT_CTL_STATE.key p) = (8 + p) * 0x100 := by
  have first : (blkPlace Fld.PORT_CTL_STATE.blk).2 = 0 := rfl
  rw [keyPage_key (by decide), blkPage_port rfl, first, Nat.add_zero]

theorem portState_word (p : Nat) : Fld.PORT_CTL_STATE.key p / 32 = 4096 * ((8 + p) * 0x100) + Fld.PORT_CTL_STATE.off := by
  have first : (blkPlace Fld.PORT_CTL_STATE.blk).2 = 0 := rfl
  rw [key_div p (by decide), blkBase_eq_page, blkPage_port rfl, first, Nat.add_zero]

theorem aside_portState (p : Nat) : Aside p p .PORT_CTL_STATE := by
  constructor <;> rw [Away, portState_page]
  · rw [show blkPage .CHAIN 0 = 2 from rfl]
    omega
  · rw [blkPage_port rfl]
    simp [blkPlace]
  · rw [blkPage_port rfl]
    simp [blkPlace]

@[simp] theorem inband_settleClasses (p : Nat) (s : State) : inband p (settleClasses p s) = inband p s :=
  ib_of_rxView (rxView_settleClasses (aside_portState p) s)

@[simp] theorem inband_leaveShow (p : Nat) (s : State) : inband p (leaveShow p s) = inband p s := by
  simp [leaveShow, modCal, modSig, modWatch]

@[simp] theorem inband_leaveCompat (p : Nat) (s : State) : inband p (leaveCompat p s) = inband p s := by
  simp [leaveCompat]

@[simp] theorem inband_oamDiscard (p : Nat) (s : State) : inband p (oamDiscard p s) = inband p s := by
  simp [oamDiscard, sendLost, modOam]

@[simp] theorem inband_rcDrop (p : Nat) (s : State) : inband p (rcDrop p s) = inband p s := by
  simp [rcDrop, setTable, modRc, modSig]

@[simp] theorem inband_dropLink (p : Nat) (s : State) : inband p (dropLink p s) = inband p s := by
  simp [dropLink, newLink, dropSwitches, modLink]

@[simp] theorem inband_toDisabled (p : Nat) (s : State) : inband p (toDisabled p s) = inband p s := by
  simp [toDisabled, enterSt, noteMuted, setSt, setCause, abortLinkCmds]

/-- The lay-by discarded: STATE and the in-band requests of the port stay. -/
theorem discardLayby_keeps (p : Nat) (s : State) :
    stOf p (discardLayby p s) = stOf p s ∧ inband p (discardLayby p s) = inband p s := by
  have h := aside_portState p
  have frames : ∀ (lost : List TxFrame) (held : List Nat) (t : State),
      rxView p p .PORT_CTL_STATE (dropFixed p (forAll held (fun i s => countBy p .STREAM_FR_EXP_RX 1 (countStream p i 3 1 s))
        (forAll lost (fun f s => countBy p .STREAM_FR_EXP_TX 1 (countStream p f.stream 2 1 s)) t))) =
      rxView p p .PORT_CTL_STATE t := fun lost held t => by simp [h]
  unfold discardLayby
  dsimp only
  constructor
  · rw [stOf, getF_of_rxView (rxView_updPressures h _), getF_modPort]
    exact getF_of_rxView (frames _ _ s)
  · refine (ib_of_rxView (rxView_updPressures h _)).trans ?_
    rw [port_modPort_same]
    exact ib_of_rxView (frames _ _ s)

/-- A command field of a port ends beside STATE. -/
theorem stOf_cmdStop {f : Fld} (hf : f ∈ portBlks.flatMap cmdFlds) (p oc : Nat) (s : State) :
    stOf p (cmdStop p f oc s) = stOf p s := by
  obtain ⟨-, lo, port, word⟩ := portCmds_place f hf
  refine getF_cmdStop lo (fun same => word ?_) oc s
  rw [portState_word, blkBase_eq_page, blkPage_port port] at same
  omega

/-- The command fields of a port's blocks ended: STATE and the in-band requests stay. -/
theorem abortPortCmds_keeps (p : Nat) (s : State) :
    stOf p (abortPortCmds p s) = stOf p s ∧ inband p (abortPortCmds p s) = inband p s := by
  have stops : ∀ l : List Fld, (∀ f ∈ l, f ∈ portBlks.flatMap cmdFlds) → ∀ t,
      stOf p (forAll l (fun f => cmdStop p f ocAborted) t) = stOf p t ∧
      inband p (forAll l (fun f => cmdStop p f ocAborted) t) = inband p t := by
    intro l
    induction l with
    | nil => exact fun _ _ => ⟨rfl, rfl⟩
    | cons f l ih =>
      intro hl t
      obtain ⟨state, ib⟩ := ih (fun g hg => hl g (List.mem_cons_of_mem _ hg)) (cmdStop p f ocAborted t)
      exact ⟨state.trans (stOf_cmdStop (hl f List.mem_cons_self) p _ t), ib.trans (inband_cmdStop p p f _ t)⟩
  obtain ⟨state, ib⟩ := stops _ (fun _ h => h) (modPort p (fun x => { x with
    cal := { x.cal with hybWait := false, hybAbort := false, bgRun := false }
    watch := { x.watch with tdrAbort := false, baseAbort := false, acc := [] } }) s)
  exact ⟨state, ib.trans (inband_modPort (by exact fun _ => rfl) s)⟩

theorem stOf_toDisabled (p : Nat) (s : State) : stOf p (toDisabled p s) = stDisabled := by
  have muted : Fld.PORT_CTL_STATE.key p ≠ Fld.TXSH_MUTED.key p := by
    simp only [Fld.key, Fld.addr, blkBase, blkPlace, Fld.PORT_CTL_STATE, Fld.TXSH_MUTED]
    omega
  unfold toDisabled enterSt noteMuted setSt
  dsimp only
  rw [stOf, getF_setF_other _ _ muted, getF_setF_same]
  rfl

/-! ### A pavilion that stops -/

/-- A port stopped by its pavilion. -/
def stopPort (p : Nat) (s : State) : State := abortPortCmds p (discardLayby p (toDisabled p s))

theorem stopPorts_eq (n : Nat) (s : State) : stopPorts n s = stopPort (2 * n + 1) (stopPort (2 * n) s) := by
  simp [stopPorts, forAll, stopPort]

theorem outside_stopPort (p : Nat) (s : State) : outside p (stopPort p s) = outside p s := by
  simp [stopPort]

theorem stopPort_spec (p : Nat) (s : State) : stOf p (stopPort p s) = stDisabled ∧ inband p (stopPort p s) = inband p s := by
  obtain ⟨stAbort, ibAbort⟩ := abortPortCmds_keeps p (discardLayby p (toDisabled p s))
  obtain ⟨stDiscard, ibDiscard⟩ := discardLayby_keeps p (toDisabled p s)
  exact ⟨stAbort.trans (stDiscard.trans (stOf_toDisabled p s)),
    ibAbort.trans (ibDiscard.trans (inband_toDisabled p s))⟩

/-- An operation on a port that keeps its outside and its in-band requests leaves the machine quiet. -/
theorem quiet_of_outside {p : Nat} {s t : State} (h : outside p t = outside p s) (hi : inband p t = inband p s)
    (hq : Quiet s) : Quiet t := by
  obtain ⟨access, timedOut, lanes⟩ := hq
  have access' : t.access = s.access := congrArg (fun x => x.2.2.access) h
  have timedOut' : t.timedOut = s.timedOut := congrArg (fun x => x.2.2.timedOut) h
  refine ⟨access'.trans access, timedOut'.trans timedOut, fun k hk => ?_⟩
  by_cases e : k = p
  · subst e
    change ∀ q ∈ inband k t, q.todo = []
    rw [hi]
    exact lanes k hk
  · rw [port_eq_of_outside h e]
    exact lanes k hk

/-- Both ports of a stopped pavilion are DISABLED, and what was quiet stays quiet. -/
theorem stopPorts_spec (n : Nat) (s : State) :
    stOf (2 * n) (stopPorts n s) = stDisabled ∧ stOf (2 * n + 1) (stopPorts n s) = stDisabled ∧
    (Quiet s → Quiet (stopPorts n s)) := by
  obtain ⟨evenState, evenIb⟩ := stopPort_spec (2 * n) s
  obtain ⟨oddState, oddIb⟩ := stopPort_spec (2 * n + 1) (stopPort (2 * n) s)
  have other : ownPage (2 * n + 1) (keyPage (Fld.PORT_CTL_STATE.key (2 * n))) = false := by
    rw [portState_page]
    simp only [ownPage, Bool.or_eq_false_iff, Bool.and_eq_false_iff, beq_eq_false_iff_ne, pavOf]
    omega
  rw [stopPorts_eq]
  refine ⟨?_, oddState, fun hq => ?_⟩
  · exact (getF_eq_of_outside (outside_stopPort (2 * n + 1) (stopPort (2 * n) s)) other).trans evenState
  · exact quiet_of_outside (outside_stopPort _ _) oddIb (quiet_of_outside (outside_stopPort _ _) evenIb hq)

end Sys2Proof.Machine
end

section
/-! SUPPORT. EN of a block written by a master (R81 to R84): the word at offset 0 holds EN and LOCK alone, so that an accepted
write of EN does what `setEn` does, and is answered. -/

namespace Sys2Proof.Machine

/-! ### The word of EN -/

theorem fldsAt_zero (b : Blk) : fldsAt b 0x000 = [.en b, .lock b] := by
  cases b <;> decide +kernel

theorem winShape_zero (b : Blk) : winShape b 0x000 = none := by
  cases b <;> rfl

theorem actsAlways_zero {f : Fld} (h : f.off = 0x000) : actsAlways f = false := by
  simp [actsAlways, h]

/-- EN of a block with an EN of its own shows as it stands. -/
theorem presentF_en {b : Blk} (hb : enKind b = .own) (m u : Nat) (s : State) : presentF m u (.en b) s = getF u (.en b) s := by
  simp [presentF, viewF, enOf, Fld.en, hb]

/-- A write that gives a field the value it has leaves it. -/
theorem judgeF_keep {m u : Nat} {f : Fld} {v : Nat} {s : State} (ha : actsAlways f = false) (hv : v = presentF m u f s) :
    judgeF m u f v s = .keep := by
  simp [judgeF, ha, ← hv]

/-- EN takes another value, unless it is a 0 and the block is locked (R82). -/
theorem judgeF_en {m u : Nat} {b : Blk} {v : Nat} {s : State} (hb : enKind b = .own) (hv : v ≠ presentF m u (.en b) s)
    (hl : v ≠ 0 ∨ getF u (.lock b) s ≠ 1) : judgeF m u (.en b) v s = .store := by
  have ty : (Fld.en b).ty = .lrw := by simp [Fld.en, hb]
  have off : (Fld.en b).off = 0x000 := rfl
  have blk : (Fld.en b).blk = b := rfl
  have gate : gateFixed (.en b) = false := by simp [gateFixed, off]
  have unlocked : ¬((Fld.en b).off = 0x000 ∧ isSet u (.lock (Fld.en b).blk) s = true ∧ v = 0) := by
    rintro ⟨-, locked, zero⟩
    rw [blk, isSet, beq_iff_eq] at locked
    exact hl.elim (· zero) (· locked)
  simp only [judgeF, actsAlways_zero off, ty, gate, hv, unlocked]
  simp [off]

/-- The verdicts on a word that changes EN alone. -/
theorem judgeWord_en {m u : Nat} {b : Blk} {v data : Nat} {s : State} (hb : enKind b = .own)
    (hc : Changes m u (.en b) v data s) (hl : v ≠ 0 ∨ getF u (.lock b) s ≠ 1) :
    judgeWord m b u 0x000 data s = [(.en b, v, .store), (.lock b, bitsOf data 1 1, .keep)] := by
  obtain ⟨hv, hne, rest⟩ := hc
  have lockKept : bitsOf data 1 1 = presentF m u (.lock b) s := by
    refine rest (.lock b) ?_ (by simp [Fld.en, Fld.lock]) (.inr (.inr (.inl (by simp [Fld.lock, hb]))))
    simp [Fld.en, fldsAt_zero]
  have en : bitsOf data (Fld.en b).lo (Fld.en b).width = v := hv
  simp only [judgeWord, fldsAt_zero, List.map_cons, List.map_nil, en, judgeF_en hb (Ne.symm hne) hl]
  rw [show (Fld.lock b).lo = 1 from rfl, show (Fld.lock b).width = 1 from rfl, judgeF_keep (actsAlways_zero rfl) lockKept]

/-- An accepted write of EN sets it, with what follows, and is answered with code 0. -/
theorem writeReg_en {m u : Nat} {b : Blk} {v data : Nat} {x : Ext} {s : State} (hb : enKind b = .own)
    (hc : Changes m u (.en b) v data s) (hl : v ≠ 0 ∨ getF u (.lock b) s ≠ 1) :
    writeReg m b u 0x000 data x s = (0, setEn b u v s) := by
  have stored : ∀ t, storeF m u (.en b) v t = t := fun t => by simp [storeF, Fld.en]
  have after : ∀ t, afterWrite m u (.en b) v t = setEn b u v t := fun t => by simp [afterWrite, Fld.en]
  simp [writeReg, winShape_zero, writeFields, judgeWord_en hb hc hl, forAll, stored, after, endJudging]

/-! ### The answer -/

/-- An answer leaves fields, pavilions and quiet as they are. -/
theorem respond_keeps (src : Src) (mtag tag op addr code data : Nat) (s : State) :
    (∀ u f, getF u f (respond src mtag tag op addr code data s) = getF u f s) ∧
    (respond src mtag tag op addr code data s).pavs = s.pavs ∧
    (Quiet s → Quiet (respond src mtag tag op addr code data s)) := by
  cases src with
  | chain side =>
    unfold respond when
    dsimp only
    split <;> exact ⟨fun _ _ => rfl, rfl, fun h => h⟩
  | inband lane =>
    refine ⟨fun _ _ => rfl, rfl, fun ⟨access, timedOut, lanes⟩ => ⟨access, timedOut, fun p hp q hq => ?_⟩⟩
    simp only [respond, modLane] at hq
    by_cases e : p = lane.val
    · subst e
      rw [port_modPort_same] at hq
      dsimp only at hq
      split at hq
      · rename_i head rest hib
        rcases List.mem_cons.mp hq with rfl | hq
        · exact lanes _ hp head (by rw [hib]; exact List.mem_cons_self)
        · exact lanes _ hp q (by rw [hib]; exact List.mem_cons_of_mem _ hq)
      · cases hq
    · rw [port_modPort_other _ _ e] at hq
      exact lanes p hp q hq

/-- A consumed frame changes fields of CHAIN alone, and what was quiet stays quiet. -/
theorem consumeFrame_keeps (src : Src) (s : State) :
    (∀ u g, Away u g .CHAIN 0 → getF u g (consumeFrame src s) = getF u g s) ∧ (consumeFrame src s).pavs = s.pavs ∧
    (consumeFrame src s).loader = s.loader ∧ (Quiet s → Quiet (consumeFrame src s)) := by
  cases src with
  | inband lane => exact ⟨fun _ _ _ => rfl, rfl, rfl, id⟩
  | chain side =>
    have sent : ∀ c : Bool, ∃ l, when c (emit (.chain (Side.other side) idleFrame)) s = { s with sent := l } := fun c => by
      cases c
      · exact ⟨_, rfl⟩
      · exact ⟨_, rfl⟩
    obtain ⟨l, hl⟩ := sent s.forwarding
    have status := statusOnly_count 0 .CHAIN_FRAMES_IN { s with sent := l }
    have port := status.port
    obtain ⟨-, -, -, pavs, loader, -, -, -, access, timedOut, -⟩ := status.frame
    unfold consumeFrame
    dsimp only
    rw [hl]
    refine ⟨fun u g away => ?_, pavs, loader, fun ⟨a, t, lanes⟩ => ⟨access.trans a, timedOut.trans t, fun p hp => ?_⟩⟩
    · exact (getF_countBy_away away (by decide) away 1 _).trans rfl
    · rw [port]
      exact lanes p hp

/-! ### The write -/

/-- A master's access that writes EN of a block. -/
def enAccess (w : Acc) (b : Blk) (u : Nat) (s : State) : Access :=
  { req := reqOf w (blkBase b u + 0x000), op := opWrite, crossing := false, act := .ext (extOf s) }

/-- The answer of code 0 to a write of EN. -/
def enAnswer (w : Acc) (b : Blk) (u : Nat) : State → State :=
  respond w.src w.mtag.toNat w.tag.toNat opWrite (reqOf w (blkBase b u + 0x000)).addr.toNat 0 0

/-- The access carried out and answered. -/
theorem landAccess_en {w : Acc} {u : Nat} {b : Blk} {v : Nat} {s₀ s : State} (hb : enKind b = .own)
    (ht : target (blkBase b u + 0x000) = .reg b u 0x000) (hc : Changes w.mtag.toNat u (.en b) v w.data.toNat s)
    (hl : v ≠ 0 ∨ getF u (.lock b) s ≠ 1) :
    landAccess (enAccess w b u s₀) s = enAnswer w b u (setEn b u v s) := by
  have addr : target (reqOf w (blkBase b u + 0x000)).addr.toNat = .reg b u 0x000 := by
    simpa [reqOf, target_mod] using ht
  simp only [landAccess, performOp, writeOp, enAccess, addr]
  simp [reqOf, writeReg_en hb hc hl, answer, enAnswer, opWrite, opRead, opClaim, opBwrite, when]

/-- A master's accepted write of EN: the fields and pavilions that it leaves are those that `setEn` leaves. -/
theorem regWrite_en {w : Acc} {u : Nat} {b : Blk} {v : Nat} {s : State} (hs : Sets w u (.en b) v s) (hb : enKind b = .own)
    (hd : Away u (.lock b) .CHAIN 0) (hl : v ≠ 0 ∨ getF u (.lock b) s ≠ 1)
    (hq : Quiet (setEn b u v (consumeFrame w.src s))) :
    (∀ k f, getF k f (regWrite w (regAt b u 0x000) s) = getF k f (setEn b u v (consumeFrame w.src s))) ∧
    (regWrite w (regAt b u 0x000) s).pavs = (setEn b u v (consumeFrame w.src s)).pavs := by
  obtain ⟨hw, hc⟩ := hs
  have writes : Writes w b u 0x000 s := hw
  obtain ⟨-, -, -, target_eq, -⟩ := id writes
  obtain ⟨keeps, -, -, -⟩ := consumeFrame_keeps w.src s
  have lock : v ≠ 0 ∨ getF u (.lock b) (consumeFrame w.src s) ≠ 1 := by
    rwa [keeps u _ hd]
  obtain ⟨fields, pavs, quiet⟩ := respond_keeps w.src w.mtag.toNat w.tag.toNat opWrite
    (reqOf w (blkBase b u + 0x000)).addr.toNat 0 0 (setEn b u v (consumeFrame w.src s))
  have answered : regWrite w (regAt b u 0x000) s = enAnswer w b u (setEn b u v (consumeFrame w.src s)) := by
    have lands := landAccess_en (s₀ := s) hb target_eq hc lock
    rw [enAccess] at lands
    rw [regAt, regWrite_writes writes, lands]
    exact settle_quiet (quiet hq)
  rw [answered]
  exact ⟨fields, pavs⟩

/-- EN that rises. -/
theorem setEn_rises {b : Blk} {u : Nat} {s : State} (h : getF u (.en b) s ≠ 1) :
    setEn b u 1 s = enRises b u (setF u (.en b) 1 s) := by
  simp [setEn, h]

/-- EN that falls. -/
theorem setEn_falls {b : Blk} {u : Nat} {s : State} (h : getF u (.en b) s = 1) :
    setEn b u 0 s = enFalls b u (setF u (.en b) 0 s) := by
  simp [setEn, h]

end Sys2Proof.Machine
end

section
/-! SUPPORT. A pavilion enables, defers, disables and is brought up (R30, R115, R117): what each of its operations leaves in
PAV_CTL, in the ledger and in its tiles. -/

namespace Sys2Proof.Machine

/-! ### Fields of PAV_CTL -/

/-- The fields of PAV_CTL that an enable and a disable set, with EN and ENABLES. -/
def pavCtlFlds : List Fld :=
  [.en .PAV_CTL, .PAV_CTL_ENABLED, .PAV_CTL_LOADING, .PAV_CTL_NO_IMAGE, .PAV_CTL_EN_TIME, .PAV_CTL_ENABLES, .sts .PAV_CTL]

theorem pavCtlFlds_key_ne {f g : Fld} (hf : f ∈ pavCtlFlds) (hg : g ∈ pavCtlFlds) (h : g ≠ f) (n : Nat) : g.key n ≠ f.key n := by
  have places : ∀ f ∈ pavCtlFlds, ∀ g ∈ pavCtlFlds, g ≠ f → g.blk = f.blk ∧ g.off * 32 + g.lo ≠ f.off * 32 + f.lo := by decide
  obtain ⟨hb, hp⟩ := places f hf g hg h
  simp only [Fld.key, Fld.addr, hb]
  omega

theorem away_pavCtl (n : Nat) {g : Fld} (hb : g.blk = .PAV_CTL) (hg : g.off * 32 + g.lo < 32 * 4096) : Away n g .CHAIN 0 := by
  refine away_of_page hg ?_
  rw [hb, blkPage_pavilion rfl, show blkPage .CHAIN 0 = 2 from rfl]
  omega

/-- A field of PAV_CTL that lies in no status word. -/
theorem offStatus_pavCtl {g : Fld} (hg : g ∈ pavCtlFlds) (hs : g ≠ .sts .PAV_CTL) (n : Nat) (b : Blk) (v : Nat) :
    OffStatus n g b v := by
  have places : ∀ g ∈ pavCtlFlds, g ≠ .sts .PAV_CTL → g.lo < 32 ∧ g.off < 4096 ∧ g.off ≠ 0x004 ∧ g.off ≠ 0x00C := by decide
  obtain ⟨hl, ho, hw⟩ := places g hg hs
  exact offStatus_of_off hl ho hw n b v

/-! ### The load starts (R30) -/

/-- An enable with an image shows that it loads. -/
theorem startEnable_loads {n : Nat} {s : State} (he : getF n (.en .PAV_CTL) s = 1) (hd : getF n .PAV_CTL_ENABLED s ≠ 1)
    (ha : (s.pav n).active.isSome = true) (ht : (s.pav n).tiles = false) :
    getF n .PAV_CTL_LOADING (startEnable n s) = 1 ∧ getF n .PAV_CTL_NO_IMAGE (startEnable n s) = 0 := by
  have apart : Fld.PAV_CTL_NO_IMAGE.key n ≠ Fld.PAV_CTL_LOADING.key n :=
    pavCtlFlds_key_ne (by simp [pavCtlFlds]) (by simp [pavCtlFlds]) (by decide) n
  have some_image : (s.pav n).active.isNone = false := by
    rw [← Option.not_isSome, ha]
    rfl
  have loads : ∀ t, getF n .PAV_CTL_LOADING (setAll n [(.PAV_CTL_NO_IMAGE, 0), (.PAV_CTL_LOADING, 1)] t) = 1 ∧
      getF n .PAV_CTL_NO_IMAGE (setAll n [(.PAV_CTL_NO_IMAGE, 0), (.PAV_CTL_LOADING, 1)] t) = 0 := fun t => by
    simp only [setAll_cons, setAll_nil]
    rw [getF_setF_same, getF_setF_other _ _ apart, getF_setF_same]
    exact ⟨rfl, rfl⟩
  have image : startEnable n s = setAll n [(.PAV_CTL_NO_IMAGE, 0), (.PAV_CTL_LOADING, 1)]
      (showCores n (when (!(marksOf n s).isEmpty) (substituteAll n) s)) := by
    unfold startEnable
    rw [if_neg (by simp [he, isSet, hd]), if_neg (by simp [some_image])]
    simp [ht, ofBool]
  rw [image]
  exact loads _

/-- Without an image it reports so. -/
theorem startEnable_noImage {n : Nat} {s : State} (he : getF n (.en .PAV_CTL) s = 1) (hd : getF n .PAV_CTL_ENABLED s ≠ 1)
    (ha : (s.pav n).active = none) : getF n .PAV_CTL_NO_IMAGE (startEnable n s) = 1 := by
  unfold startEnable
  rw [if_neg (by simp [he, isSet, hd]), if_pos (by simp [ha]), getF_setF_same]
  rfl

/-- An APPLY that runs is seen in the field and the loader alone. -/
theorem applyRuns_congr {n : Nat} {s t : State} (h : getF 0 .LAYOUT_APPLY t = getF 0 .LAYOUT_APPLY s) (hl : t.loader = s.loader) :
    applyRuns n t = applyRuns n s := by
  simp [applyRuns, cmdRuns, isSet, h, hl]

/-- EN that rises while nothing holds it back starts the load. -/
theorem pavEnRises_starts {n : Nat} {s : State} (hd : (s.pav n).disabling = false) (ha : applyRuns n s = false) :
    pavEnRises n s = startEnable n (modPav n (fun x => { x with enCycle := s.cycles }) s) := by
  have apply' : applyRuns n (modPav n (fun x => { x with enCycle := s.cycles }) s) = applyRuns n s := applyRuns_congr rfl rfl
  unfold pavEnRises
  dsimp only
  rw [apply', pav_modPav_same, hd, ha]
  rfl

/-- Before the load of an accepted enable: EN is 1, and the rest is as the frame left it. -/
def enabling (n : Nat) (w : Acc) (s : State) : State :=
  modPav n (fun x => { x with enCycle := (setF n (.en .PAV_CTL) 1 (consumeFrame w.src s)).cycles })
    (setF n (.en .PAV_CTL) 1 (consumeFrame w.src s))

theorem enabling_spec (n : Nat) (w : Acc) (s : State) :
    getF n (.en .PAV_CTL) (enabling n w s) = 1 ∧ getF n .PAV_CTL_ENABLED (enabling n w s) = getF n .PAV_CTL_ENABLED s ∧
    ((enabling n w s).pav n).active = (s.pav n).active ∧ ((enabling n w s).pav n).tiles = (s.pav n).tiles ∧
    (Quiet s → Quiet (enabling n w s)) := by
  obtain ⟨keeps, pavs, -, quiet⟩ := consumeFrame_keeps w.src s
  have pav : (consumeFrame w.src s).pav n = s.pav n := by rw [State.pav, pavs, State.pav]
  have apart : Fld.PAV_CTL_ENABLED.key n ≠ (Fld.en .PAV_CTL).key n :=
    pavCtlFlds_key_ne (by simp [pavCtlFlds]) (by simp [pavCtlFlds]) (by decide) n
  refine ⟨?_, ?_, ?_, ?_, quiet⟩
  · rw [enabling, getF_modPav, getF_setF_same]
    rfl
  · rw [enabling, getF_modPav, getF_setF_other _ _ apart, keeps _ _ (away_pavCtl n rfl (by decide))]
  · rw [enabling, pav_modPav_same, setF_pav, pav]
  · rw [enabling, pav_modPav_same, setF_pav, pav]

/-- EN written 1 starts the load. -/
theorem setEn_enabling {n : Nat} {w : Acc} {s : State} (ho : getF n (.en .PAV_CTL) s ≠ 1) (hd : (s.pav n).disabling = false)
    (ha : applyRuns n s = false) : setEn .PAV_CTL n 1 (consumeFrame w.src s) = startEnable n (enabling n w s) := by
  obtain ⟨keeps, pavs, loader, -⟩ := consumeFrame_keeps w.src s
  have pav : (consumeFrame w.src s).pav n = s.pav n := by rw [State.pav, pavs, State.pav]
  have apply' : applyRuns n (setF n (.en .PAV_CTL) 1 (consumeFrame w.src s)) = applyRuns n s := by
    have page : Away 0 .LAYOUT_APPLY .PAV_CTL n := by
      refine away_of_page (by decide) ?_
      rw [blkPage_pavilion (b := .PAV_CTL) rfl, show blkPage Fld.LAYOUT_APPLY.blk 0 = 6 from rfl]
      omega
    refine applyRuns_congr ?_ loader
    rw [getF_setF_other _ _ (page.key_ne (f := .en .PAV_CTL) (by decide)), keeps _ _ (away_of_page (by decide) (by decide))]
  have off : getF n (.en .PAV_CTL) (consumeFrame w.src s) ≠ 1 := by
    rwa [keeps _ _ (away_pavCtl n rfl (by decide))]
  rw [setEn_rises off]
  exact pavEnRises_starts (by rw [setF_pav, pav, hd]) (apply'.trans ha)

/-- EN of PAV_CTL written by a master. -/
theorem regWrite_pavEn {n : Nat} {w : Acc} {v : Nat} {s : State} (hs : Sets w n (.en .PAV_CTL) v s)
    (hl : v ≠ 0 ∨ getF n (.lock .PAV_CTL) s ≠ 1) (hq : Quiet (setEn .PAV_CTL n v (consumeFrame w.src s))) :
    (∀ k f, getF k f (regWrite w (regAt .PAV_CTL n 0x000) s) = getF k f (setEn .PAV_CTL n v (consumeFrame w.src s))) ∧
    (regWrite w (regAt .PAV_CTL n 0x000) s).pavs = (setEn .PAV_CTL n v (consumeFrame w.src s)).pavs :=
  regWrite_en hs rfl (away_pavCtl n rfl (by decide)) hl hq

/-- No access is under way where a write of EN reaches its register. -/
theorem Sets.quiet {w : Acc} {u : Nat} {f : Fld} {v : Nat} {s : State} (h : Sets w u f v s) : Quiet s := by
  obtain ⟨⟨-, quiet, -⟩, -⟩ := h
  exact quiet

/-- EN written 1 with an image: it loads, and is not yet ENABLED. -/
theorem pavEnable_loads {n : Fin 4} {w : Acc} {s : State} (hs : Sets w n (.en .PAV_CTL) 1 s)
    (hd : getF n .PAV_CTL_ENABLED s ≠ 1) (ha : (s.pav n).active.isSome = true) (hx : (s.pav n).disabling = false)
    (hr : applyRuns n s = false) (ht : (s.pav n).tiles = false) :
    Completes (.pavEnable n w) s fun t => getF n (.en .PAV_CTL) t = 1 ∧ getF n .PAV_CTL_LOADING t = 1 ∧
      getF n .PAV_CTL_NO_IMAGE t = 0 ∧ getF n .PAV_CTL_ENABLED t ≠ 1 := by
  obtain ⟨en, enabled, active, tiles, quiet⟩ := enabling_spec n w s
  have off : getF n (.en .PAV_CTL) s ≠ 1 := by
    obtain ⟨-, -, ne, -⟩ := hs
    rwa [presentF_en rfl, (consumeFrame_keeps w.src s).1 _ _ (away_pavCtl n rfl (by decide))] at ne
  have starts := setEn_enabling (w := w) off hx hr
  have asideEn := loadAside_pavCtl n (.inl rfl)
  have asideEnabled := loadAside_pavCtl n (.inr rfl)
  obtain ⟨fields, -⟩ := regWrite_pavEn hs (.inl (by decide))
    (by rw [starts]; exact quiet_of_loadView (loadView_startEnable asideEn _) (quiet hs.quiet))
  obtain ⟨loading, noImage⟩ := startEnable_loads en (by rwa [enabled]) (by rwa [active]) (by rwa [tiles])
  refine ⟨_, rfl, ?_, ?_, ?_, ?_⟩
  · rw [fields, starts, getF_of_loadView (loadView_startEnable asideEn _), en]
  · rw [fields, starts, loading]
  · rw [fields, starts, noImage]
  · rwa [fields, starts, getF_of_loadView (loadView_startEnable asideEnabled _), enabled]

/-! ### The enable completes (R30 step 4) -/

theorem exec_pavEnableDone (n : Fin 4) (s : State) :
    exec (.pavEnableDone n) s = .next (clockEvent (fun s => enableDone n s) s) := rfl

/-- A port leaves DISABLED when its pavilion is enabled. -/
def startPort (p : Nat) (s : State) : State :=
  settleClasses p (leaveDisabled p (startLayby p (setF p .PORT_CTL_PROFILE (getF p .PORT_CTL_INIT_PROFILE s) s)))

theorem outside_startPort (p : Nat) (s : State) : outside p (startPort p s) = outside p s := by
  simp [startPort]

/-- The pavilion's own part of a completed enable. -/
def tilesLoaded (n : Nat) (s : State) : State :=
  sticky .PAV_CTL_ENABLED_EVT n (count n .PAV_CTL_ENABLES (modPav n (fun x => { x with tiles := true })
    (setAll n [(.PAV_CTL_LOADING, 0), (.PAV_CTL_ENABLED, 1),
      (.PAV_CTL_EN_TIME, min ((s.cycles - (s.pav n).enCycle) * 8 / 1000) 65535)] s)))

theorem tilesLoaded_spec (n : Nat) (s : State) :
    getF n .PAV_CTL_ENABLED (tilesLoaded n s) = 1 ∧ getF n .PAV_CTL_LOADING (tilesLoaded n s) = 0 ∧
    StsSet .PAV_CTL_ENABLED_EVT n (tilesLoaded n s) ∧ Counted n .PAV_CTL_ENABLES s (tilesLoaded n s) := by
  have apart : ∀ {f g : Fld}, f ∈ pavCtlFlds → g ∈ pavCtlFlds → g ≠ f → g.key n ≠ f.key n := fun hf hg h =>
    pavCtlFlds_key_ne hf hg h n
  have off : ∀ g ∈ pavCtlFlds, g ≠ .sts .PAV_CTL → ∀ b v, OffStatus n g b v := fun g hg h => offStatus_pavCtl hg h n
  have counts : ∀ g ∈ pavCtlFlds, g ≠ .sts .PAV_CTL → g ≠ .PAV_CTL_ENABLES → ∀ t,
      getF n g (sticky .PAV_CTL_ENABLED_EVT n (count n .PAV_CTL_ENABLES t)) = getF n g t := fun g hg hs he t => by
    rw [getF_sticky (off g hg hs _ _) (off g hg hs _ _),
      getF_count (apart (by simp [pavCtlFlds]) hg he) (off g hg hs _ _) (off g hg hs _ _)]
  have timed : ∀ g ∈ pavCtlFlds, g ≠ .PAV_CTL_EN_TIME → ∀ v t, getF n g (setF n .PAV_CTL_EN_TIME v t) = getF n g t :=
    fun g hg h v t => getF_setF_other v t (apart (by simp [pavCtlFlds]) hg h)
  have enabled : ∀ g ∈ pavCtlFlds, g ≠ .PAV_CTL_ENABLED → ∀ v t, getF n g (setF n .PAV_CTL_ENABLED v t) = getF n g t :=
    fun g hg h v t => getF_setF_other v t (apart (by simp [pavCtlFlds]) hg h)
  have loading : ∀ g ∈ pavCtlFlds, g ≠ .PAV_CTL_LOADING → ∀ v t, getF n g (setF n .PAV_CTL_LOADING v t) = getF n g t :=
    fun g hg h v t => getF_setF_other v t (apart (by simp [pavCtlFlds]) hg h)
  unfold tilesLoaded Counted
  simp only [setAll_cons, setAll_nil]
  refine ⟨?_, ?_, stsSet_sticky (by decide) (away_pavCtl n rfl (by decide)).offStatus _, ?_⟩
  · rw [counts _ (by simp [pavCtlFlds]) (by decide) (by decide), getF_modPav, timed _ (by simp [pavCtlFlds]) (by decide),
      getF_setF_same]
    rfl
  · rw [counts _ (by simp [pavCtlFlds]) (by decide) (by decide), getF_modPav, timed _ (by simp [pavCtlFlds]) (by decide),
      enabled _ (by simp [pavCtlFlds]) (by decide), getF_setF_same]
    rfl
  · have offEnables := off .PAV_CTL_ENABLES (by simp [pavCtlFlds]) (by decide)
    have mem : Fld.PAV_CTL_ENABLES ∈ pavCtlFlds := by simp [pavCtlFlds]
    rw [getF_sticky (offEnables _ _) (offEnables _ _), counted_count rfl (offEnables _ _) (offEnables _ _), getF_modPav,
      timed _ mem (by decide), enabled _ mem (by decide), loading _ mem (by decide)]

/-- An enable that nothing stops completes: the tiles are loaded, then the ports start. -/
theorem enableDone_completes {n : Nat} {s : State} (he : getF n (.en .PAV_CTL) s = 1) (hd : getF n .PAV_CTL_ENABLED s ≠ 1)
    (ha : (s.pav n).active.isSome = true) (hx : (s.pav n).disabling = false) (hf : (s.pav n).deferred = false)
    (hl : domainOn (6 + n) s = true) (hg : gateWants (6 + n) s = true) (hb : domainOn (10 + n) s = true)
    (hr : applyRuns n s = false) (hn : getF n .PAV_CTL_NO_IMAGE s ≠ 1) :
    enableDone n s = forAll [2 * n, 2 * n + 1] startPort (tilesLoaded n s) := by
  have some_image : (s.pav n).active.isNone = false := by
    rw [← Option.not_isSome, ha]
    rfl
  unfold enableDone
  dsimp only
  rw [if_neg (by simp [he, isSet, hd, some_image, hx, hf, hl, hg, hb, hr, hn])]
  rfl

/-- The starts of the ports leave PAV_CTL. -/
theorem getF_startPorts {n : Nat} (hn : n < 4) {g : Fld} (hb : g.blk = .PAV_CTL) (hg : g.off * 32 + g.lo < 32 * 4096)
    (s : State) : getF n g (forAll [2 * n, 2 * n + 1] startPort s) = getF n g s :=
  forPorts_keeps (π := getF n g) outside_startPort (fun _ _ _ h => getF_pavCtl_of_outside hn hb hg h) s

theorem startPorts_spec (n : Fin 4) (s : State) : let t := forAll [2 * n.val, 2 * n.val + 1] startPort (tilesLoaded n s)
    getF n .PAV_CTL_ENABLED t = 1 ∧ getF n .PAV_CTL_LOADING t = 0 ∧ StsSet .PAV_CTL_ENABLED_EVT n t ∧
    Counted n .PAV_CTL_ENABLES s t := by
  obtain ⟨enabled, loading, set, counted⟩ := tilesLoaded_spec n s
  have keeps : ∀ g : Fld, g.blk = .PAV_CTL → g.off * 32 + g.lo < 32 * 4096 →
      getF n g (forAll [2 * n.val, 2 * n.val + 1] startPort (tilesLoaded n s)) = getF n g (tilesLoaded n s) :=
    fun g hb hg => getF_startPorts n.isLt hb hg _
  exact ⟨(keeps _ rfl (by decide)).trans enabled, (keeps _ rfl (by decide)).trans loading,
    (congrArg (bitOf · Sticky.PAV_CTL_ENABLED_EVT.bit) (keeps (.sts .PAV_CTL) rfl (by decide))).trans set,
    (keeps _ rfl (by decide)).trans counted⟩

/-! ### The disable (R30) -/

/-- A change of status alone leaves the accesses. -/
theorem quiet_of_statusOnly {s t : State} (h : StatusOnly s t) (hq : Quiet s) : Quiet t := by
  obtain ⟨-, -, -, -, -, -, -, -, access, timedOut, -⟩ := h.frame
  have port := h.port
  simpa only [Quiet, access, timedOut, port] using hq

/-- A pavilion holds no access. -/
theorem quiet_modPav {s : State} (n : Nat) (f : Pav → Pav) (h : Quiet s) : Quiet (modPav n f s) := h

/-- EN that falls: EN stays 0, the disable is under way, both ports are DISABLED, and what was quiet stays quiet. -/
theorem pavEnFalls_spec (n : Fin 4) (s : State) :
    getF n (.en .PAV_CTL) (pavEnFalls n s) = getF n (.en .PAV_CTL) s ∧ ((pavEnFalls n s).pav n).disabling = true ∧
    stOf (2 * n.val) (pavEnFalls n s) = stDisabled ∧ stOf (2 * n.val + 1) (pavEnFalls n s) = stDisabled ∧
    (Quiet s → Quiet (pavEnFalls n s)) := by
  have apart : ∀ e ∈ [(Fld.PAV_CTL_NO_IMAGE, 0), (Fld.PAV_CTL_LOADING, 0)], (Fld.en .PAV_CTL).key n ≠ e.1.key n := by
    revert n
    decide
  have ports : ∀ t, getF n (.en .PAV_CTL) (stopPorts n t) = getF n (.en .PAV_CTL) t := fun t =>
    forPorts_keeps (f := stopPort) (π := getF n (.en .PAV_CTL)) outside_stopPort
      (fun _ _ _ h => getF_pavCtl_of_outside n.isLt rfl (by decide) h) t
  obtain ⟨even, odd, quiet⟩ := stopPorts_spec n (setAll n [(.PAV_CTL_NO_IMAGE, 0), (.PAV_CTL_LOADING, 0)] s)
  unfold pavEnFalls
  refine ⟨?_, ?_, ?_, ?_, fun hq => quiet_modPav _ _ (quiet (quiet_of_statusOnly (statusOnly_setAll ..) hq))⟩
  · rw [getF_modPav, ports, getF_setAll_other _ _ apart]
  · rw [pav_modPav_same]
  · rw [stOf, getF_modPav, ← stOf, even]
  · rw [stOf, getF_modPav, ← stOf, odd]

/-- EN written 0: both ports are DISABLED, and the disable is under way. -/
theorem pavDisable_stops {n : Fin 4} {w : Acc} {s : State} (hs : Sets w n (.en .PAV_CTL) 0 s)
    (he : getF n (.en .PAV_CTL) s = 1) (hl : getF n (.lock .PAV_CTL) s ≠ 1) :
    Completes (.pavDisable n w) s fun t => getF n (.en .PAV_CTL) t = 0 ∧ (t.pav n).disabling = true ∧
      stOf (2 * n.val) t = stDisabled ∧ stOf (2 * n.val + 1) t = stDisabled := by
  obtain ⟨keeps, -, -, quiet⟩ := consumeFrame_keeps w.src s
  have falls : setEn .PAV_CTL n 0 (consumeFrame w.src s) = pavEnFalls n (setF n (.en .PAV_CTL) 0 (consumeFrame w.src s)) :=
    setEn_falls (by rwa [keeps _ _ (away_pavCtl n rfl (by decide))])
  obtain ⟨en, disabling, even, odd, stays⟩ := pavEnFalls_spec n (setF n (.en .PAV_CTL) 0 (consumeFrame w.src s))
  obtain ⟨fields, pavs⟩ := regWrite_pavEn hs (.inr hl) (by rw [falls]; exact stays (quiet hs.quiet))
  rw [falls] at fields pavs
  refine ⟨_, rfl, ?_, ?_, ?_, ?_⟩
  · rw [fields, en, getF_setF_same]
    rfl
  · rw [State.pav, pavs, ← State.pav, disabling]
  · rw [stOf, fields, ← stOf, even]
  · rw [stOf, fields, ← stOf, odd]

/-- The disable completes: ENABLED falls, and the rest stays (R30). -/
theorem pavDisableDone_clears {n : Fin 4} {s : State} (hc : clocked s = true) (hd : (s.pav n).disabling = true) :
    Completes (.pavDisableDone n) s fun t => getF n .PAV_CTL_ENABLED t = 0 ∧ (t.pav n).disabling = false ∧
      OnlyFields [Fld.PAV_CTL_ENABLED.key n] { s with pavs := t.pavs } t := by
  have done : exec (.pavDisableDone n) s =
      .next (modPav n (fun x => { x with disabling := false }) (setF n .PAV_CTL_ENABLED 0 s)) := by
    show execPavDisableDone n s = _
    simp [execPavDisableDone, clockEvent, hc, disableDone, hd]
  refine ⟨_, done, ?_, ?_, fun u g apart => ?_, rfl⟩
  · rw [getF_modPav, getF_setF_same]
    rfl
  · rw [pav_modPav_same]
  · rw [getF_modPav]
    exact getF_setF_other _ _ (List.ne_of_not_mem_cons apart)

/-! ### The deferred enable (R115) -/

/-- What waited starts, and reports where there is no image. -/
theorem pavEnableDeferred_starts {n : Fin 4} {s : State} (hc : clocked s = true) (hf : (s.pav n).deferred = true)
    (hd : (s.pav n).disabling = false) (ha : applyRuns n s = false) :
    Completes (.pavEnableDeferred n) s fun t => (t.pav n).deferred = false ∧
      (getF n (.en .PAV_CTL) s = 1 → getF n .PAV_CTL_ENABLED s ≠ 1 → (s.pav n).active = none →
        getF n .PAV_CTL_NO_IMAGE t = 1) := by
  have starts : exec (.pavEnableDeferred n) s = .next (startEnable n (modPav n (fun x => { x with deferred := false }) s)) := by
    show execPavEnableDeferred n s = _
    simp [execPavEnableDeferred, clockEvent, hc, hf, hd, ha]
  refine ⟨_, starts, ?_, fun en enabled none => ?_⟩
  · rw [deferred_of_loadView (loadView_startEnable (loadAside_pavCtl n (.inl rfl)) _), pav_modPav_same]
  · exact startEnable_noImage en enabled (by rw [pav_modPav_same]; exact none)

end Sys2Proof.Machine
end

section
/-! SUPPORT. A pavilion brought up at boot (R117): NOMATCH of the ledger and the layout in the tiles, which nothing that a bring-up
shows and starts changes once the layout is found. -/

namespace Sys2Proof.Machine

/-! ### The view -/

/-- What a bring-up settles: NOMATCH of the pavilion and the layout in its tiles. -/
def bringView (n : Nat) (s : State) : Nat × Option (Nat × Nat × Layout) := (getF 0 (.LAYOUT_NOMATCH n) s, (s.pav n).active)

theorem away_noMatch (n : Fin 4) {b : Blk} {v : Nat} (h : blkPage b v ≠ 6) : Away 0 (.LAYOUT_NOMATCH n) b v :=
  away_of_page (by revert n; decide) h.symm

theorem offStatus_noMatch (n : Fin 4) (b : Blk) (v : Nat) : OffStatus 0 (.LAYOUT_NOMATCH n) b v :=
  offStatus_of_off (by revert n; decide) (by revert n; decide) (by revert n; decide) 0 b v

/-- The ledger lies outside of every port. -/
theorem bringView_of_outside {p : Nat} (n : Fin 4) {s t : State} (h : outside p t = outside p s) :
    bringView n t = bringView n s := by
  have ledger : ownPage p (keyPage ((Fld.LAYOUT_NOMATCH n).key 0)) = false := by
    rw [keyPage_key (by revert n; decide), show blkPage (Fld.LAYOUT_NOMATCH n).blk 0 = 6 from rfl]
    simp only [ownPage, Bool.or_eq_false_iff, Bool.and_eq_false_iff, beq_eq_false_iff_ne]
    omega
  rw [bringView, bringView, getF_eq_of_outside h ledger, pav_of_outside h]

theorem bringView_of_loadView {n : Nat} {s t : State}
    (h : loadView n 0 (.LAYOUT_NOMATCH n) t = loadView n 0 (.LAYOUT_NOMATCH n) s) : bringView n t = bringView n s := by
  rw [bringView, bringView, getF_of_loadView h, active_of_loadView h]

section
variable (n : Fin 4)

@[simp] theorem bringView_when {f : State → State} {s : State} (c : Bool) (h : bringView n (f s) = bringView n s) :
    bringView n (when c f s) = bringView n s := by
  unfold when
  split
  · exact h
  · rfl

theorem bringView_forAll {α : Type} {f : α → State → State} (l : List α) (s : State)
    (h : ∀ x ∈ l, ∀ t, bringView n (f x t) = bringView n t) : bringView n (forAll l f s) = bringView n s := by
  induction l generalizing s with
  | nil => rfl
  | cons x l ih =>
    exact (ih (f x s) fun y hy => h y (List.mem_cons_of_mem _ hy)).trans (h x List.mem_cons_self s)

theorem bringView_modPav {f : Pav → Pav} (h : ∀ x, (f x).active = x.active) (s : State) :
    bringView n (modPav n f s) = bringView n s := by
  rw [bringView, getF_modPav, pav_modPav_same, h, bringView]

theorem bringView_sticky {k : Sticky} (s : State) : bringView n (sticky k 0 s) = bringView n s := by
  rw [bringView, getF_sticky (offStatus_noMatch n _ _) (offStatus_noMatch n _ _), pav_sticky, bringView]

theorem bringView_setF {f : Fld} {v : Nat} (h : Away 0 (.LAYOUT_NOMATCH n) f.blk v) (hf : f.off * 32 + f.lo < 32 * 4096)
    (x : Nat) (s : State) : bringView n (setF v f x s) = bringView n s := by
  rw [bringView, getF_setF_other _ _ (h.key_ne hf), setF_pav, bringView]

/-! ### The search and its source (R126) -/

theorem bringView_noteFlash (slot area : Nat) (s : State) : bringView n (noteFlash slot area s) = bringView n s := by
  unfold noteFlash
  dsimp only
  split
  · rw [bringView, getF_count ((away_noMatch n (by decide)).key_ne (by decide)) (offStatus_noMatch n _ _)
      (offStatus_noMatch n _ _), pav_count]
    rfl
  · rfl

@[simp] theorem bringView_noteSearch (area : Nat) (taken : Option Nat) (s : State) :
    bringView n (noteSearch area taken s) = bringView n s :=
  bringView_forAll n _ s fun slot _ => bringView_noteFlash n slot area

theorem bringView_noteSource (src : Nat) (s : State) : bringView n (noteSource n src s) = bringView n s :=
  bringView_setF n (away_noMatch n (by decide)) (by decide) _ s

/-! ### The layout shown, the start enables (R114, R360) -/

theorem bringView_showLayout (s : State) : bringView n (showLayout n s) = bringView n s := by
  refine (bringView_forAll n _ _ fun p _ t => ?_).trans
    (bringView_when n _ (bringView_of_loadView (loadView_showPavLayout (loadAside_noMatch n) s)))
  exact (bringView_when n _ (bringView_of_outside n (outside_showHostLayout p _))).trans
    (bringView_when n _ (bringView_of_outside n (outside_showPortLayout p t)))

theorem bringView_startEnable (s : State) : bringView n (startEnable n s) = bringView n s :=
  bringView_of_loadView (loadView_startEnable (loadAside_noMatch n) s)

theorem bringView_pavEnRises (s : State) : bringView n (pavEnRises n s) = bringView n s := by
  unfold pavEnRises
  dsimp only
  split
  · rw [bringView_modPav, bringView_modPav]
    all_goals exact fun _ => rfl
  · rw [bringView_startEnable, bringView_modPav]
    exact fun _ => rfl

theorem bringView_setPavEn (s : State) : bringView n (setEn .PAV_CTL n 1 s) = bringView n s := by
  have field : bringView n (setF n (.en .PAV_CTL) 1 s) = bringView n s := by
    refine bringView_setF n (away_noMatch n ?_) (by decide) 1 s
    revert n
    decide
  unfold setEn
  dsimp only
  rw [if_neg (show ¬(1 = 0 ∧ getF n (.en .PAV_CTL) s = 1) by simp)]
  split
  · exact (bringView_pavEnRises n _).trans field
  · exact field

theorem bringView_startEnables (s : State) : bringView n (startEnables n s) = bringView n s := by
  have enable : ∀ c, bringView n (when c (setEn .PAV_CTL n 1) s) = bringView n s := fun c =>
    bringView_when n c (bringView_setPavEn n s)
  have ports : ∀ p t, bringView n (allowTx p (forAll ([14, 22, 30].map (· + p) |>.filter fun d => domainOn d t)
      (startPortEnables p) t)) = bringView n t := fun p t =>
    (bringView_of_outside n (outside_allowTx p _)).trans (bringView_forAll n _ t fun d hd k =>
      bringView_of_outside n (outside_startPortEnables (List.mem_filter.mp hd).1 k))
  unfold startEnables
  split
  · rfl
  · refine (bringView_forAll n _ _ fun p _ t => ports p t).trans ?_
    split
    · exact enable _
    · rfl

/-! ### The bring-up -/

/-- A layout is found: it is in the tiles, and NOMATCH is clear. -/
theorem bringUp_found {s : State} {img : Nat × Nat × Nat × Layout} (h : findLayout n s = some img) :
    bringView n (bringUp n true s) = (0, some img.2) := by
  have taken : ∀ t, bringView n (setF 0 (.LAYOUT_NOMATCH n) 0
      (modPav n (fun x => { x with active := some img.2, tiles := true }) t)) = (0, some img.2) := fun t => by
    rw [bringView, getF_setF_same, setF_pav, pav_modPav_same, Nat.zero_mod]
  unfold bringUp
  rw [h]
  dsimp only
  rw [bringView_startEnable, if_pos rfl, bringView_startEnables, bringView_showLayout]
  refine (bringView_when n _ ?_).trans (taken _)
  exact (bringView_when n _ (bringView_sticky n _)).trans
    ((bringView_when n _ (bringView_sticky n _)).trans (bringView_noteSource n _ _))

/-- No source holds a layout: NOMATCH. -/
theorem bringUp_noMatch {s : State} (h : findLayout n s = none) :
    getF 0 (.LAYOUT_NOMATCH n) (bringUp n true s) = 1 ∧ StsSet .LAYOUT_LEDGER_NOMATCH 0 (bringUp n true s) ∧
    ((bringUp n true s).pav n).active = (s.pav n).active := by
  have search : ∀ c, ((when c (noteSearch 0 none) s).pav n).active = (s.pav n).active := fun c =>
    congrArg (·.2) (bringView_when n c (bringView_noteSearch n 0 none s))
  unfold bringUp
  rw [h]
  dsimp only [Option.bind]
  refine ⟨?_, stsSet_sticky (by decide) (away_of_page (by decide) (by decide)).offStatus _, ?_⟩
  · rw [getF_sticky (offStatus_noMatch n _ _) (offStatus_noMatch n _ _), getF_setF_same]
    rfl
  · rw [pav_sticky, setF_pav, search]

end

/-- The bring-up of a pavilion without a layout, while firmware runs. -/
theorem exec_pavilionBringup {n : Fin 4} {s : State} (hc : coreRuns s = true) (hf : s.loader.fwRunning = true)
    (hd : domainOn (6 + n.val) s = true) (ha : (s.pav n).active = none) :
    exec (.pavilionBringup n) s = .next (bringUp n true s) := by
  show execPavilionBringup n s = _
  simp [execPavilionBringup, coreEvent, hc, hf, hd, ha]

/-! ### The statement -/

/-- Settles O37: the writes of EN through `setEn`, the completions through what each leaves in PAV_CTL, and the bring-up
through `bringView`, which nothing after the layout's choice changes. -/
theorem pavilionEnablesAndDisables : Obligations.PavilionEnablesAndDisables := by
  intro n w s
  refine ⟨fun hs hd ha hx hr ht => pavEnable_loads hs hd ha hx hr ht, ?_, pavDisable_stops, pavDisableDone_clears,
    pavEnableDeferred_starts, fun hc hf hd ha => ⟨fun none => ?_, fun img found => ?_⟩⟩
  · intro hc he hd ha hx hf hl hg hb hr hn
    have done : exec (.pavEnableDone n) s = .next (forAll [2 * n.val, 2 * n.val + 1] startPort (tilesLoaded n s)) := by
      rw [exec_pavEnableDone, clockEvent, if_pos hc, enableDone_completes he hd ha hx hf hl hg hb hr hn]
    exact ⟨_, done, startPorts_spec n s⟩
  · obtain ⟨noMatch, ledger, active⟩ := bringUp_noMatch n none
    exact ⟨_, exec_pavilionBringup hc hf hd ha, noMatch, ledger, active.trans ha⟩
  · obtain ⟨noMatch, active⟩ := Prod.mk.inj (bringUp_found n found)
    exact ⟨_, exec_pavilionBringup hc hf hd ha, noMatch, active⟩

end Sys2Proof.Machine
end

section
/-! SUPPORT. What few operations of the model change: `still` holds the byte memories, SEALED, the queue of commands, the accesses
under way and the record of what has left. Each operation that changes none of these gets one equation,
`still (op … s) = still s`; one that only sends gets `(still (op … s)).1 = (still s).1` (O5, O6, O60). -/

namespace Sys2Proof.Machine

/-! ### SEALED in the register file -/

/-- The key of SEALED. -/
def sealKey : Nat := Fld.KEEPER_SEALED.key 0

/-- A field `d` bits above the place of `f` lies elsewhere than SEALED, whatever its unit. -/
def Fld.clearOfSeal (f : Fld) (d : Nat) : Bool :=
  match f.blk with
  | .DEV_ID => f.off * 32 + f.lo + d < 4096 * 32
  | .KEEPER => f.off * 32 + f.lo + d != Fld.KEEPER_SEALED.off * 32 + Fld.KEEPER_SEALED.lo
  | _ => true

/-- A field is another one than SEALED. -/
def Fld.sparesSeal (f : Fld) : Bool := f.clearOfSeal 0

/-- A command field with its ABORT_LATE and OUTCOME lies elsewhere than SEALED. -/
def Fld.sparesCmd (f : Fld) : Bool := f.clearOfSeal 0 && f.clearOfSeal 1 && f.clearOfSeal 4

theorem two_le_blkPage {b : Blk} {u : Nat} (h : b ≠ .DEV_ID) (k : b ≠ .KEEPER) : 2 ≤ blkPage b u := by
  have number : (blkPlace b).1 = .device → 2 ≤ (blkPlace b).2 := by
    cases b <;> simp_all [blkPlace]
  cases place : (blkPlace b).1
  case device => simpa [blkPage, place] using number place
  case lodge => simp [blkPage, place]; omega
  case pavilion => rw [blkPage_pavilion place]; omega
  case port => rw [blkPage_port place]; omega

theorem key_add_ne_seal {f : Fld} {d : Nat} (h : f.clearOfSeal d = true) (u : Nat) : f.key u + d ≠ sealKey := by
  have place : sealKey = 1 * (32 * 4096) + (Fld.KEEPER_SEALED.off * 32 + Fld.KEEPER_SEALED.lo) := by decide
  rw [key_eq, place]
  unfold Fld.clearOfSeal at h
  split at h
  case h_1 hb => simp_all [blkPage, blkPlace]; omega
  case h_2 hb => simp_all [blkPage, blkPlace]; omega
  case h_3 hd hk =>
    have page := two_le_blkPage (u := u) hd hk
    have small : Fld.KEEPER_SEALED.off * 32 + Fld.KEEPER_SEALED.lo < 32 * 4096 := by decide
    omega

theorem key_ne_seal {f : Fld} (h : f.sparesSeal = true) (u : Nat) : f.key u ≠ sealKey := key_add_ne_seal h u

theorem sparesSeal_outcome {f : Fld} (h : f.sparesCmd = true) : f.outcome.sparesSeal = true := by
  simp only [Fld.sparesCmd, Bool.and_eq_true] at h
  exact h.2

theorem sparesSeal_abortLate {f : Fld} (h : f.sparesCmd = true) : f.abortLate.sparesSeal = true := by
  simp only [Fld.sparesCmd, Bool.and_eq_true] at h
  exact h.1.2

theorem sparesSeal_of_sparesCmd {f : Fld} (h : f.sparesCmd = true) : f.sparesSeal = true := by
  simp only [Fld.sparesCmd, Bool.and_eq_true] at h
  exact h.1.1

/-- The header fields of a block are others than SEALED. -/
theorem sparesSeal_header {f : Fld} (h : f.off < 0x020) (hl : f.lo < 32) : f.sparesSeal = true := by
  have place : Fld.KEEPER_SEALED.off * 32 + Fld.KEEPER_SEALED.lo = 1032 := by decide
  unfold Fld.sparesSeal Fld.clearOfSeal
  split
  · simp; omega
  · simp [place]; omega
  · rfl

@[simp] theorem sparesSeal_headers (b : Blk) :
    (Fld.en b).sparesSeal ∧ (Fld.sts b).sparesSeal ∧ (Fld.seq b).sparesSeal ∧ (Fld.clrMiss b).sparesSeal ∧
    (Fld.firstDetail b).sparesSeal ∧ (Fld.firstSeq b).sparesSeal ∧ (Fld.firstSrc b).sparesSeal ∧
    (Fld.firstInj b).sparesSeal ∧ (Fld.firstClass b).sparesSeal ∧ (Fld.firstOvf b).sparesSeal ∧
    (Fld.firstValid b).sparesSeal ∧ (Fld.ignReason b).sparesSeal ∧ (Fld.ignMtag b).sparesSeal ∧
    (Fld.ignOffset b).sparesSeal ∧ (Fld.ignCount b).sparesSeal ∧ (Fld.ignOvf b).sparesSeal ∧
    (Fld.ignValid b).sparesSeal := by
  and_intros <;> exact sparesSeal_header (Nat.le_of_ble_eq_true rfl) (Nat.le_of_ble_eq_true rfl)

theorem sparesCmd_of_blk {f : Fld} (h : f.blk ≠ .DEV_ID) (k : f.blk ≠ .KEEPER) : f.sparesCmd = true := by
  have clear : ∀ d, f.clearOfSeal d = true := fun d => by
    unfold Fld.clearOfSeal
    split <;> simp_all
  simp [Fld.sparesCmd, clear]

/-- The fields of a port's blocks are others than SEALED. -/
@[simp] theorem sparesCmd_of_inPort {f : Fld} (h : f.inPort = true) : f.sparesCmd = true := by
  have port : isPortBlk f.blk = true := (Bool.and_eq_true_iff.mp h).1
  refine sparesCmd_of_blk ?_ ?_ <;> intro e <;> rw [e] at port <;> exact absurd port (by decide)

@[simp] theorem sparesSeal_of_inPort {f : Fld} (h : f.inPort = true) : f.sparesSeal = true :=
  sparesSeal_of_sparesCmd (sparesCmd_of_inPort h)

/-! ### Fields of a numbered row -/

@[simp] theorem sparesSeal_numbered (n : Nat) :
    (Fld.PWRC_ON n).sparesSeal ∧ (Fld.LAYOUT_APPLIED_ID_HI n).sparesSeal ∧ (Fld.LAYOUT_APPLIED_ID_LO n).sparesSeal ∧
    (Fld.LAYOUT_APPLIED_SVN n).sparesSeal ∧ (Fld.LAYOUT_NOMATCH n).sparesSeal ∧ (Fld.LAYOUT_OEM_HASH n).sparesSeal ∧
    (Fld.LAYOUT_PHASE n).sparesSeal ∧ (Fld.LAYOUT_STAGED_ID_LO n).sparesSeal ∧ (Fld.POST_CMD_GET n).sparesSeal ∧
    (Fld.POST_CMD_PUT n).sparesSeal ∧ (Fld.POST_EVT_PUT n).sparesSeal ∧ (Fld.SPARE_DEC_LEFT n).sparesSeal ∧
    (Fld.SPARE_DRV_LEFT n).sparesSeal ∧ (Fld.SPARE_ENG_LEFT n).sparesSeal ∧ (Fld.SPARE_PIPE_LEFT n).sparesSeal ∧
    (Fld.SPARE_ROWS_MIN n).sparesSeal ∧ (Fld.SPARE_SUBCONV_LEFT n).sparesSeal ∧ (Fld.TSU_RX_TS n).sparesSeal ∧
    (Fld.TSU_TX_TS n).sparesSeal := by
  and_intros <;> rfl

/-! ### What is kept -/

/-- The byte memories, SEALED with its copies, the queue, and the accesses under way; beside them what has left. -/
def still (s : State) :
    (Memory × List Memory × Option Nat × Option (Nat × Nat × Nat) × List Instr × List Access × List Access) × List Emission :=
  ((s.post, s.loader.mem, mapGet s.fields sealKey, mapGet s.tmr sealKey, s.pending, s.access, s.timedOut), s.sent)

@[simp] theorem still_ite (c : Prop) [Decidable c] (s t : State) :
    still (if c then s else t) = if c then still s else still t := apply_ite still c s t

@[simp] theorem fst_ite {α β : Type} (c : Prop) [Decidable c] (x y : α × β) :
    (if c then x else y).1 = if c then x.1 else y.1 := apply_ite Prod.fst c x y

@[simp] theorem still_when (c : Bool) (f : State → State) (s : State) :
    still (when c f s) = if c then still (f s) else still s := apply_ite still (c = true) (f s) s

@[simp] theorem still_forAll {α : Type} {f : α → State → State} (l : List α) (s : State)
    (h : ∀ x ∈ l, ∀ t, still (f x t) = still t) : still (forAll l f s) = still s := by
  induction l generalizing s with
  | nil => rfl
  | cons x l ih => exact (ih (f x s) fun y hy => h y (List.mem_cons_of_mem _ hy)).trans (h x List.mem_cons_self s)

theorem kept_forAll {α : Type} {f : α → State → State} (l : List α) (s : State)
    (h : ∀ x ∈ l, ∀ t, (still (f x t)).1 = (still t).1) : (still (forAll l f s)).1 = (still s).1 := by
  induction l generalizing s with
  | nil => rfl
  | cons x l ih => exact (ih (f x s) fun y hy => h y (List.mem_cons_of_mem _ hy)).trans (h x List.mem_cons_self s)

/-- A status change keeps all but fields, and so what is kept where SEALED reads as before. -/
theorem still_of_statusOnly {s t : State} (h : StatusOnly s t) (hf : mapGet t.fields sealKey = mapGet s.fields sealKey)
    (ht : mapGet t.tmr sealKey = mapGet s.tmr sealKey) : still t = still s := by
  obtain ⟨F, T, I, E, L, D, J, rfl⟩ := h
  simp only at hf ht
  simp [still, hf, ht]

/-- An operation that keeps what lies outside of a port keeps the memories, SEALED and the accesses. -/
theorem kept_of_outside {p : Nat} {s t : State} (h : outside p t = outside p s) : (still t).1 = (still s).1 := by
  have page : ownPage p (keyPage sealKey) = false := by
    have : keyPage sealKey = 1 := by decide
    rw [this]
    simp only [ownPage, Bool.or_eq_false_iff, Bool.and_eq_false_iff, beq_eq_false_iff_ne]
    omega
  have fields := congrFun (congrArg (·.1) h) sealKey
  simp only [outside, page, Bool.false_eq_true, if_false, Option.some.injEq, Prod.mk.injEq] at fields
  have rest := congrArg (·.2.2) h
  simp only [outside, State.mk.injEq] at rest
  simp [still, fields, rest]

/-! ### Fields, status, commands -/

@[simp] theorem still_setF {f : Fld} (h : f.sparesSeal = true) (u v : Nat) (s : State) : still (setF u f v s) = still s := by
  have key : sealKey ≠ f.key u := (key_ne_seal h u).symm
  refine still_of_statusOnly (statusOnly_setF u f v s) ?_ ?_ <;>
    simp only [setF] <;> split <;> simp [mapGet_mapDel_other, mapGet_mapPut_other, key]

theorem still_setAll {u : Nat} (l : List (Fld × Nat)) (s : State) (h : ∀ e ∈ l, e.1.sparesSeal = true) :
    still (setAll u l s) = still s := by
  induction l generalizing s with
  | nil => rfl
  | cons e l ih =>
    rw [setAll_cons, ih _ fun d hd => h d (List.mem_cons_of_mem _ hd), still_setF (h e List.mem_cons_self)]

@[simp] theorem still_setStsBits (b : Blk) (u mask : Nat) (s : State) : still (setStsBits b u mask s) = still s := by
  simp [setStsBits]

@[simp] theorem still_queueEvent (m : Nat) (b : Blk) (u : Nat) (s : State) : still (queueEvent m b u s) = still s := by
  unfold queueEvent
  split
  · rfl
  · split
    · rfl
    · dsimp only
      split
      · rw [still_setStsBits]
        exact still_setStsBits _ _ _ s
      · exact still_setStsBits _ _ _ s

@[simp] theorem still_irqUpdate (b : Blk) (u : Nat) (s : State) : still (irqUpdate b u s) = still s := by
  unfold irqUpdate
  split
  · split
    · rfl
    · dsimp only
      split
      · rw [still_queueEvent]
        rfl
      · rfl
  · rfl

@[simp] theorem still_sticky (k : Sticky) (u : Nat) (s : State) : still (sticky k u s) = still s := by
  simp [sticky]

@[simp] theorem still_latchFirst (b : Blk) (u cls src detail inj : Nat) (s : State) :
    still (latchFirst b u cls src detail inj s) = still s := by
  have noted : ∀ (l : NMap Nat) (t : State), still { t with latchAt := l } = still t := fun _ _ => rfl
  unfold latchFirst
  dsimp only
  split <;> simp [noted]

@[simp] theorem still_recordFault (b : Blk) (u cls src detail inj : Nat) (s : State) :
    still (recordFault b u cls src detail inj s) = still s := by
  simp [recordFault]

@[simp] theorem still_displaceWindow (b : Blk) (u : Nat) (s : State) : still (displaceWindow b u s) = still s := (rfl)

@[simp] theorem still_correctedFault (b : Blk) (u src detail : Nat) (s : State) :
    still (correctedFault b u src detail s) = still s := by
  simp [correctedFault]

@[simp] theorem still_countBy {f : Fld} (h : f.sparesSeal = true) (u k : Nat) (s : State) :
    still (countBy u f k s) = still s := by
  simp [countBy, h]

@[simp] theorem still_count {f : Fld} (h : f.sparesSeal = true) (u : Nat) (s : State) : still (count u f s) = still s :=
  still_countBy h u 1 s

@[simp] theorem still_bump8 {f : Fld} (h : f.sparesSeal = true) (u : Nat) (s : State) : still (bump8 u f s) = still s :=
  still_setF h u _ s

@[simp] theorem still_cmdStart {f : Fld} (h : f.sparesCmd = true) (u : Nat) (s : State) : still (cmdStart u f s) = still s := by
  simp [cmdStart, sparesSeal_of_sparesCmd h, sparesSeal_outcome h, sparesSeal_abortLate h]

@[simp] theorem still_cmdEnd {f : Fld} (h : f.sparesCmd = true) (u oc : Nat) (s : State) : still (cmdEnd u f oc s) = still s := by
  simp [cmdEnd, sparesSeal_of_sparesCmd h, sparesSeal_outcome h]

@[simp] theorem still_cmdReject {f : Fld} (h : f.sparesCmd = true) (u : Nat) (s : State) : still (cmdReject u f s) = still s :=
  still_cmdEnd h u 4 s

@[simp] theorem still_cmdDone {f : Fld} (h : f.sparesCmd = true) (u : Nat) (s : State) : still (cmdDone u f s) = still s := by
  simp [cmdDone, h]

@[simp] theorem still_cmdDoneLate {f : Fld} (h : f.sparesCmd = true) (u : Nat) (late : Bool) (s : State) :
    still (cmdDoneLate u f late s) = still s := by
  simp [cmdDoneLate, h, sparesSeal_abortLate h]

@[simp] theorem still_cmdStop {f : Fld} (h : f.sparesCmd = true) (u oc : Nat) (s : State) : still (cmdStop u f oc s) = still s := by
  simp [cmdStop, h]

/-- The counters of every block are other fields than SEALED. -/
theorem sparesSeal_counter : ∀ (b : Blk), ∀ f ∈ counterFlds b, f.sparesSeal = true := by
  intro b
  cases b <;> decide +kernel

/-- The command fields of every block lie elsewhere than SEALED. -/
theorem sparesCmd_of_mem : ∀ (b : Blk), ∀ f ∈ cmdFlds b, f.sparesCmd = true := by
  intro b
  cases b <;> decide +kernel

@[simp] theorem still_clearCounters (b : Blk) (u : Nat) (s : State) : still (clearCounters b u s) = still s := by
  unfold clearCounters
  rw [still_setF (by simp), still_forAll _ _ fun f hf t => still_setF (sparesSeal_counter b f hf) u 0 t]

/-! ### Parts of the state -/

@[simp] theorem still_modPort (p : Nat) (f : Port → Port) (s : State) : still (modPort p f s) = still s := (rfl)
@[simp] theorem still_modLink (p : Nat) (f : Link → Link) (s : State) : still (modLink p f s) = still s := (rfl)
@[simp] theorem still_modSig (p : Nat) (f : Signal → Signal) (s : State) : still (modSig p f s) = still s := (rfl)
@[simp] theorem still_modRc (p : Nat) (f : Rc → Rc) (s : State) : still (modRc p f s) = still s := (rfl)
@[simp] theorem still_modOam (p : Nat) (f : Oam → Oam) (s : State) : still (modOam p f s) = still s := (rfl)
@[simp] theorem still_modWatch (p : Nat) (f : Watch → Watch) (s : State) : still (modWatch p f s) = still s := (rfl)
@[simp] theorem still_modLane (p : Nat) (f : Lane → Lane) (s : State) : still (modLane p f s) = still s := (rfl)
@[simp] theorem still_modCal (p : Nat) (f : Cal → Cal) (s : State) : still (modCal p f s) = still s := (rfl)
@[simp] theorem still_modPav (n : Nat) (f : Pav → Pav) (s : State) : still (modPav n f s) = still s := (rfl)
@[simp] theorem still_modClk (f : Clk → Clk) (s : State) : still (modClk f s) = still s := (rfl)
@[simp] theorem still_modNvm (f : Nvm → Nvm) (s : State) : still (modNvm f s) = still s := (rfl)
@[simp] theorem still_spend (s : State) : still (spend s) = still s := (rfl)
@[simp] theorem still_setNow (ns fr : Nat) (s : State) : still (setNow ns fr s) = still s := (rfl)
@[simp] theorem still_setB (m u : Nat) (f : Fld) (v : Nat) (s : State) : still (setB m u f v s) = still s := (rfl)
@[simp] theorem kept_emit (e : Emission) (s : State) : (still (emit e s)).1 = (still s).1 := (rfl)

@[simp] theorem still_modLoader {f : Loader → Loader} (h : ∀ l, (f l).mem = l.mem) (s : State) :
    still (modLoader f s) = still s := by
  simp [still, modLoader, h]

end Sys2Proof.Machine
end

section
/-! SUPPORT. Operations on a port: which keep everything of `still`, and which only send (O5, O6, O60). -/

namespace Sys2Proof.Machine

/-! ### Sending -/

/-- From `s` to `t` frames, symbols or levels have left, and nothing else of `still` has changed. -/
def Sends (s t : State) : Prop := (still t).1 = (still s).1 ∧ (still s).2 <:+ (still t).2

theorem Sends.refl (s : State) : Sends s s := ⟨rfl, List.suffix_refl _⟩

theorem Sends.trans {s t u : State} (h : Sends s t) (k : Sends t u) : Sends s u := ⟨k.1.trans h.1, h.2.trans k.2⟩

theorem sends_of_still {s t : State} (h : still t = still s) : Sends s t := by
  rw [Sends, h]
  exact Sends.refl s

/-- What keeps all of `still` may follow. -/
theorem Sends.still {s t u : State} (h : Sends s t) (k : still u = still t) : Sends s u := h.trans (sends_of_still k)

/-- What keeps all of `still` may go before. -/
theorem Sends.after {s t u : State} (h : Sends t u) (k : Machine.still t = Machine.still s) : Sends s u :=
  (sends_of_still k).trans h

theorem sends_emit (e : Emission) (s : State) : Sends s (emit e s) := ⟨rfl, List.suffix_cons e s.sent⟩

theorem sends_when {f : State → State} {s : State} (c : Bool) (h : Sends s (f s)) : Sends s (when c f s) := by
  unfold when
  split
  · exact h
  · exact .refl s

theorem sends_ite {s t u : State} (c : Prop) [Decidable c] (h : Sends s t) (k : Sends s u) : Sends s (if c then t else u) := by
  split
  · exact h
  · exact k

theorem sends_forAll {α : Type} {f : α → State → State} (l : List α) (s : State) (h : ∀ x ∈ l, ∀ t, Sends t (f x t)) :
    Sends s (forAll l f s) := by
  induction l generalizing s with
  | nil => exact .refl s
  | cons x l ih => exact (h x List.mem_cons_self s).trans (ih _ fun y hy => h y (List.mem_cons_of_mem _ hy))

/-! ### Transmit lay-by (R238 to R263) -/

@[simp] theorem still_setSt (p st : Nat) (s : State) : still (setSt p st s) = still s := by
  simp +decide [setSt]

@[simp] theorem still_modStream (p i : Nat) (f : StreamEnt → StreamEnt) (s : State) :
    still (modStream p i f s) = still s := (rfl)

@[simp] theorem still_countStream (p i k n : Nat) (s : State) : still (countStream p i k n s) = still s := by
  simp +decide [countStream]

@[simp] theorem still_startFrame (p c : Nat) (s : State) : still (startFrame p c s) = still s := by
  unfold startFrame
  split <;> simp +decide

@[simp] theorem still_mapBytes (p c n : Nat) (s : State) : still (mapBytes p c n s) = still s := by
  unfold mapBytes
  dsimp only
  split
  · split <;> simp +decide
  · simp +decide

@[simp] theorem still_mapClass (p c k : Nat) (s : State) : still (mapClass p c k s) = still s := by
  induction k generalizing s with
  | zero => rfl
  | succ k ih =>
    unfold mapClass
    split
    · split <;> simp +decide [ih]
    · rfl

@[simp] theorem still_sweepFrames (p i k : Nat) (s : State) : still (sweepFrames p i k s) = still s := by
  induction k generalizing s with
  | zero => rfl
  | succ k ih =>
    unfold sweepFrames
    split
    · split <;> simp +decide [ih]
    · rfl

@[simp] theorem still_settleCw (p : Nat) (w : TxCw) (s : State) : still (settleCw p w s) = still s := by
  simp +decide [settleCw]

@[simp] theorem still_dropCw (p : Nat) (w : TxCw) (s : State) : still (dropCw p w s) = still s := (rfl)

@[simp] theorem still_expireTx (p i n : Nat) (s : State) : still (expireTx p i n s) = still s := by
  simp +decide [expireTx]

@[simp] theorem still_queueNotice (p : Nat) (w : TxCw) (s : State) : still (queueNotice p w s) = still s := by
  simp +decide [queueNotice]

@[simp] theorem still_giveUp_none (p : Nat) (w : TxCw) (s : State) : still (giveUp p none w s) = still s := by
  simp +decide [giveUp]

@[simp] theorem still_dropFixed (p : Nat) (s : State) : still (dropFixed p s) = still s := by
  simp +decide [dropFixed]

@[simp] theorem still_startLayby (p : Nat) (s : State) : still (startLayby p s) = still s := by
  simp +decide [startLayby]

/-! ### Receive lay-by (R246 to R257) -/

@[simp] theorem still_advanceRx (p node c : Nat) (s : State) : still (advanceRx p node c s) = still s := (rfl)

@[simp] theorem still_modRx (p node c ms : Nat) (f : RxCw → RxCw) (s : State) : still (modRx p node c ms f s) = still s := (rfl)

@[simp] theorem still_freeSpent (p node c : Nat) (s : State) : still (freeSpent p node c s) = still s := (rfl)

@[simp] theorem still_consume (p node c : Nat) (ms : List Nat) (k : Nat) (s : State) : still (consume p node c ms k s) = still s := by
  unfold consume
  split
  · rfl
  · rw [still_freeSpent, still_forAll _ _ fun _ _ _ => still_modRx _ _ _ _ _ _, still_modRx]

@[simp] theorem still_setCut (p node i ms left : Nat) (s : State) : still (setCut p node i ms left s) = still s := (rfl)

@[simp] theorem still_expireRx (p i n : Nat) (s : State) : still (expireRx p i n s) = still s := by
  simp +decide [expireRx]

@[simp] theorem still_dropHead (p node i : Nat) (w : RxCw) (s : State) : still (dropHead p node i w s) = still s := by
  simp +decide [dropHead]

@[simp] theorem still_discardBroken (p node i k : Nat) (s : State) : still (discardBroken p node i k s) = still s := by
  induction k generalizing s with
  | zero => rfl
  | succ k ih =>
    unfold discardBroken
    dsimp only
    split
    · simp +decide [ih]
    · split <;> simp +decide [ih]

@[simp] theorem still_settleRx (p node c : Nat) (s : State) : still (settleRx p node c s) = still s := by
  unfold settleRx
  dsimp only
  rw [still_forAll _ _ fun _ _ _ => still_discardBroken _ _ _ _ _, still_advanceRx]

@[simp] theorem still_resolveGiven (p node c ms : Nat) (stream : Option Nat) (s : State) :
    still (resolveGiven p node c ms stream s) = still s := by
  simp only [resolveGiven, cutGiven, still_settleRx, still_modPort]
  exact still_forAll _ _ fun _ _ _ => still_setCut _ _ _ _ _ _

/-! ### Tables, OAM, reconfiguration requests -/

@[simp] theorem still_setTable (p t : Nat) (m : NMap ToneEntry) (s : State) : still (setTable p t m s) = still s := by
  simp +decide [setTable, noteTables]

@[simp] theorem still_oamNext (p : Nat) (s : State) : still (oamNext p s) = still s := by
  unfold oamNext
  split <;> rfl

@[simp] theorem still_oamPost (p type : Nat) (payload : List Byte) (s : State) : still (oamPost p type payload s) = still s := by
  simp +decide [oamPost]

@[simp] theorem still_oamDiscard (p : Nat) (s : State) : still (oamDiscard p s) = still s := by
  simp +decide [oamDiscard, sendLost]

@[simp] theorem still_rcNext (p : Nat) (s : State) : still (rcNext p s) = still s := by
  unfold rcNext
  split <;> rfl

@[simp] theorem still_sendReconfReq (p : Nat) (s : State) : still (sendReconfReq p s) = still s := by
  simp +decide [sendReconfReq, rcPost]

@[simp] theorem still_startReconf (p : Nat) (s : State) : still (startReconf p s) = still s := by
  simp +decide [startReconf]

/-! ### States of a port -/

@[simp] theorem still_dropSwitches (p : Nat) (s : State) : still (dropSwitches p s) = still s := by
  simp +decide [dropSwitches]

@[simp] theorem still_setCause (p c : Nat) (s : State) : still (setCause p c s) = still s := by
  simp +decide [setCause]

@[simp] theorem still_noteMuted (p : Nat) (s : State) : still (noteMuted p s) = still s := by
  simp +decide [noteMuted]

@[simp] theorem still_enterSt (p st : Nat) (s : State) : still (enterSt p st s) = still s := by
  simp +decide [enterSt]

@[simp] theorem still_leaveShow (p : Nat) (s : State) : still (leaveShow p s) = still s := by
  simp +decide [leaveShow]

@[simp] theorem still_newLink (p : Nat) (s : State) : still (newLink p s) = still s := (rfl)

@[simp] theorem still_leaveCompat (p : Nat) (s : State) : still (leaveCompat p s) = still s := by
  simp +decide [leaveCompat]

@[simp] theorem still_abortLinkCmds (p : Nat) (s : State) : still (abortLinkCmds p s) = still s := by
  simp +decide [abortLinkCmds]

@[simp] theorem still_latchDisabled (p : Nat) (s : State) : still (latchDisabled p s) = still s := (rfl)

@[simp] theorem still_leaveDisabled (p : Nat) (s : State) : still (leaveDisabled p s) = still s := by
  simp +decide [leaveDisabled]

@[simp] theorem still_forgetStored (p : Nat) (s : State) : still (forgetStored p s) = still s := by
  simp +decide [forgetStored]

@[simp] theorem still_watchEnable (p : Nat) (on : Bool) (s : State) : still (watchEnable p on s) = still s := by
  simp +decide [watchEnable, restartInterval]

/-! ### The survey (R326 to R335) -/

@[simp] theorem still_writeLog (p source bin : Nat) (mag : Int) (s : State) : still (writeLog p source bin mag s) = still s := by
  have log : ∀ (l : NMap (List Nat)) (t : State), still { t with log := l } = still t := fun _ _ => rfl
  simp +decide [writeLog, log]

@[simp] theorem still_judgeProfile (p source persist : Nat) (event : Bool) (now base : List Int) (s : State) :
    still (judgeProfile p source persist event now base s).2 = still s := by
  unfold judgeProfile
  dsimp only
  split
  · rfl
  · dsimp only
    simp +decide

@[simp] theorem still_newProfile (p source : Nat) (rho : List Int) (s : State) : still (newProfile p source rho s) = still s := by
  simp +decide [newProfile]

@[simp] theorem still_showProfile (p : Nat) (rho : List Int) (s : State) : still (showProfile p rho s) = still s := by
  simp +decide [showProfile]

@[simp] theorem still_profileFirst (p : Nat) (s : State) : still (profileFirst p s) = still s := by
  unfold profileFirst
  split
  · split <;> simp +decide
  · rfl

@[simp] theorem still_finishBaseSave (p : Nat) (s : State) : still (finishBaseSave p s) = still s := by
  have fresh : ∀ (n : Nat) (t : State), still { t with fresh := n } = still t := fun _ _ => rfl
  simp +decide [finishBaseSave, fresh]

/-! ### The host lane and the layout shown in a port -/

@[simp] theorem still_enableStream (p i : Nat) (s : State) : still (enableStream p i s) = still s := by
  simp +decide [enableStream]

@[simp] theorem still_laneRefresh (p : Nat) (s : State) : still (laneRefresh p s) = still s := by
  simp +decide [laneRefresh, laneFalls, laneDrop]

@[simp] theorem still_showPortLayout (p : Nat) (s : State) : still (showPortLayout p s) = still s := by
  unfold showPortLayout loadStreams
  dsimp only
  rw [still_forAll _ _ fun _ _ _ => still_enableStream _ _ _]
  simp +decide

@[simp] theorem still_showHostLayout (p : Nat) (s : State) : still (showHostLayout p s) = still s := by
  simp +decide [showHostLayout]

@[simp] theorem still_abortPortCmds (p : Nat) (s : State) : still (abortPortCmds p s) = still s := by
  have spares : ∀ f ∈ portBlks.flatMap cmdFlds, f.sparesCmd = true := fun f hf => by
    obtain ⟨b, -, hb⟩ := List.mem_flatMap.mp hf
    exact sparesCmd_of_mem b f hb
  unfold abortPortCmds
  rw [still_forAll _ _ fun f hf t => still_cmdStop (spares f hf) p ocAborted t, still_modPort]

@[simp] theorem still_allowTx (p : Nat) (s : State) : still (allowTx p s) = still s := by
  simp +decide [allowTx]

@[simp] theorem still_endRun (p kind oc reason : Nat) (s : State) : still (endRun p kind oc reason s) = still s := by
  simp +decide [endRun]

/-! ### Ports that send -/

theorem sends_sendFlow (p ended : Nat) (pause : Bool) (s : State) : Sends s (sendFlow p ended pause s) := by
  have counted : ∀ f, f.sparesSeal = true → Sends s (count p f (emit (.host p 1 (flowFrame p ended s)) s)) := fun f hf =>
    (sends_emit _ s).still (still_count hf p _)
  unfold sendFlow
  split
  · exact .refl s
  · split
    · exact counted _ rfl
    · split
      · exact counted _ rfl
      · exact .refl s

theorem sends_updPressure (p c : Nat) (s : State) : Sends s (updPressure p c s) := by
  have flows : ∀ v ended pause, Sends s (sendFlow p ended pause (setF p .STREAM_PRESSURE v s)) := fun v ended pause =>
    (sends_sendFlow p ended pause _).after (still_setF rfl p v s)
  unfold updPressure
  dsimp only
  split
  · exact flows _ _ _
  · split
    · exact flows _ _ _
    · exact .refl s

theorem sends_updPressures (p : Nat) (s : State) : Sends s (updPressures p s) :=
  sends_forAll _ s fun c _ => sends_updPressure p c

theorem sends_settleClass (p c : Nat) (s : State) : Sends s (settleClass p c s) :=
  (sends_updPressure p c _).after (by simp +decide)

theorem sends_settleClasses (p : Nat) (s : State) : Sends s (settleClasses p s) :=
  sends_forAll _ s fun c _ => sends_settleClass p c

theorem sends_discardLayby (p : Nat) (s : State) : Sends s (discardLayby p s) := by
  refine (sends_updPressures p _).after ?_
  rw [still_modPort, still_dropFixed,
    still_forAll _ _ fun i _ t => by simp +decide, still_forAll _ _ fun f _ t => by simp +decide]

theorem sends_rcDrop (p : Nat) (s : State) : Sends s (rcDrop p s) :=
  (sends_when _ (sends_settleClasses p _)).after (by simp +decide)

theorem sends_dropLink (p : Nat) (s : State) : Sends s (dropLink p s) :=
  ((sends_rcDrop p _).after (by simp +decide)).still (still_newLink p _)

theorem sends_toDisabled (p : Nat) (s : State) : Sends s (toDisabled p s) :=
  (sends_dropLink p s).still (by simp +decide [toDisabled])

theorem sends_toLinkDown (p : Nat) (cause : Option Nat) (s : State) : Sends s (toLinkDown p cause s) := by
  refine (sends_dropLink p s).still ?_
  cases cause <;> simp +decide [toLinkDown]

theorem sends_toListen (p : Nat) (s : State) : Sends s (toListen p s) :=
  (sends_dropLink p s).still (by simp +decide [toListen])

theorem sends_toFast (p : Nat) (s : State) : Sends s (toFast p s) :=
  (sends_dropLink p s).still (by simp +decide [toFast])

theorem sends_retrainBy (p cause : Nat) (fast req : Bool) (s : State) : Sends s (retrainBy p cause fast req s) := by
  unfold retrainBy
  split
  · exact .refl s
  · dsimp only
    split
    · exact (sends_toListen p _).after (by simp +decide)
    · exact ((sends_toFast p _).after (by simp +decide)).still (still_modSig p _ _)

theorem sends_muteLine (p : Nat) (s : State) : Sends s (muteLine p s) :=
  sends_ite _ (.refl s) ((sends_toLinkDown p _ _).after (by simp +decide))

theorem sends_stopPort (p : Nat) (s : State) : Sends s (stopPort p s) :=
  ((sends_toDisabled p s).trans (sends_discardLayby p _)).still (still_abortPortCmds p _)

end Sys2Proof.Machine
end

section
/-! SUPPORT. Operations of spares, pavilions, power domains, clocks, the loader, calibration, the Keeper and mode change: which keep
everything of `still`, and which only send (O5, O6, O60). -/

namespace Sys2Proof.Machine

/-! ### Events -/

theorem sends_clockEvent {f : State → State} {s : State} (h : Sends s (f s)) : Sends s (clockEvent f s) :=
  sends_ite _ h (.refl s)

theorem sends_coreEvent {f : State → State} {s : State} (h : Sends s (f s)) : Sends s (coreEvent f s) :=
  sends_ite _ h (.refl s)

theorem sends_portEvent {p : Nat} {f : State → State} {s : State} (h : Sends s (f s)) : Sends s (portEvent p f s) :=
  sends_ite _ (.refl s) h

/-! ### Spares (R394 to R404) -/

@[simp] theorem still_noteEol (kind old new fitted : Nat) (s : State) : still (noteEol kind old new fitted s) = still s := by
  simp +decide [noteEol]

@[simp] theorem still_takeSpare {f : Fld} (h : f.sparesSeal = true) (kind fitted : Nat) (s : State) :
    still (takeSpare f kind fitted s) = still s := by
  simp +decide [takeSpare, h]

@[simp] theorem still_showMarks (n : Nat) (s : State) : still (showMarks n s) = still s := by
  simp +decide [showMarks]

@[simp] theorem still_markElem (m : Mark) (s : State) : still (markElem m s) = still s := by
  simp +decide [markElem]

@[simp] theorem still_takeFor (m : Mark) (s : State) : still (takeFor m s) = still s := by
  unfold takeFor
  split <;> simp +decide

@[simp] theorem still_serveMark (m : Mark) (s : State) : still (serveMark m s) = still s := by
  simp +decide [serveMark]

@[simp] theorem still_substituteAll (n : Nat) (s : State) : still (substituteAll n s) = still s := by
  simp +decide [substituteAll]

@[simp] theorem still_markPort (p entry : Nat) (s : State) : still (markPort p entry s) = still s := by
  simp +decide [markPort]

@[simp] theorem still_losePort (p entry : Nat) (s : State) : still (losePort p entry s) = still s := by
  simp +decide [losePort]

@[simp] theorem still_serveDrivers (p : Nat) (s : State) : still (serveDrivers p s) = still s := by
  simp +decide [serveDrivers]

@[simp] theorem still_swapSubconv (p entry trim : Nat) (s : State) : still (swapSubconv p entry trim s) = still s := by
  simp +decide [swapSubconv]

theorem sends_exhaustSubconv (p entry : Nat) (s : State) : Sends s (exhaustSubconv p entry s) :=
  (sends_toDisabled p _).after (by simp +decide)

theorem sends_markSubconv (p entry : Nat) (s : State) : Sends s (markSubconv p entry s) :=
  (sends_ite _ (sends_exhaustSubconv p entry _) (.refl _)).after (still_markPort p entry s)

/-! ### Pavilions (R27 to R30, R103 to R117) -/

@[simp] theorem still_showPavLayout (n : Nat) (s : State) : still (showPavLayout n s) = still s := by
  unfold showPavLayout
  split <;> simp +decide

@[simp] theorem still_showCores (n : Nat) (s : State) : still (showCores n s) = still s := by
  simp +decide [showCores]

@[simp] theorem still_showLayout (n : Nat) (s : State) : still (showLayout n s) = still s := by
  simp +decide [showLayout]

@[simp] theorem still_startEnable (n : Nat) (s : State) : still (startEnable n s) = still s := by
  simp +decide [startEnable]

@[simp] theorem still_pavEnRises (n : Nat) (s : State) : still (pavEnRises n s) = still s := by
  simp +decide [pavEnRises]

@[simp] theorem still_disableDone (n : Nat) (s : State) : still (disableDone n s) = still s := by
  simp +decide [disableDone]

theorem sends_stopPorts (n : Nat) (s : State) : Sends s (stopPorts n s) :=
  sends_forAll _ s fun p _ t => sends_stopPort p t

theorem sends_pavEnFalls (n : Nat) (s : State) : Sends s (pavEnFalls n s) := by
  unfold pavEnFalls
  dsimp only
  exact ((sends_stopPorts n _).after (by simp +decide)).still (still_modPav n _ _)

theorem sends_enableDone (n : Nat) (s : State) : Sends s (enableDone n s) := by
  unfold enableDone
  dsimp only
  split
  · exact .refl s
  · exact (sends_forAll _ _ fun p _ t => (sends_settleClasses p _).after (by simp +decide)).after (by simp +decide)

/-! ### EN of a block -/

theorem sends_enRises (b : Blk) (u : Nat) (s : State) : Sends s (enRises b u s) := by
  unfold enRises
  split
  case h_6 => exact sends_settleClasses u s
  all_goals exact sends_of_still (by simp +decide)

theorem sends_enFalls (b : Blk) (u : Nat) (s : State) : Sends s (enFalls b u s) := by
  unfold enFalls
  split
  case h_1 => exact sends_pavEnFalls u s
  case h_2 => exact sends_toDisabled u s
  case h_3 => exact sends_muteLine u s
  case h_4 => exact sends_muteLine u s
  all_goals exact sends_of_still (by simp +decide)

theorem sends_setEn (b : Blk) (u v : Nat) (s : State) : Sends s (setEn b u v s) := by
  have set : still (setF u (.en b) v s) = still s := by simp +decide
  exact sends_ite _ ((sends_enRises b u _).after set)
    (sends_ite _ ((sends_enFalls b u _).after set) (sends_of_still set))

theorem sends_startPortEnables (p d : Nat) (s : State) : Sends s (startPortEnables p d s) :=
  sends_forAll _ s fun b _ t => sends_setEn b p 1 t

theorem sends_startEnables (n : Nat) (s : State) : Sends s (startEnables n s) := by
  unfold startEnables
  split
  · exact .refl s
  · have ports : ∀ t, Sends t (forAll [2 * n, 2 * n + 1] (fun p s => allowTx p
        (forAll ((([14, 22, 30].map (· + p)).filter fun d => domainOn d s)) (startPortEnables p) s)) t) := fun t =>
      sends_forAll _ t fun p _ r => (sends_forAll _ r fun d _ => sends_startPortEnables p d).still (still_allowTx p _)
    dsimp only
    split
    · exact (sends_when _ (sends_setEn _ _ _ s)).trans (ports _)
    · exact ports s

/-! ### Layouts brought up (R114, R117, R126) -/

@[simp] theorem still_noteSearch (area : Nat) (taken : Option Nat) (s : State) : still (noteSearch area taken s) = still s := by
  simp +decide [noteSearch, noteFlash]

@[simp] theorem still_recordApplied (n id svn : Nat) (s : State) : still (recordApplied n id svn s) = still s := by
  simp +decide [recordApplied]

@[simp] theorem still_noteSource (n src : Nat) (s : State) : still (noteSource n src s) = still s := by
  simp +decide [noteSource]

theorem sends_showReload (n : Nat) (s : State) : Sends s (showReload n s) := by
  unfold showReload
  dsimp only
  split
  · exact (sends_when _ (sends_setEn _ _ _ _)).after (by simp +decide)
  · exact sends_of_still (by simp +decide)

theorem sends_bringUp (n : Nat) (boot : Bool) (s : State) : Sends s (bringUp n boot s) := by
  unfold bringUp
  dsimp only
  split
  · refine Sends.still ?_ (still_startEnable n _)
    split
    · exact (sends_startEnables n _).after (by simp +decide)
    · exact (sends_showReload n _).after (by simp +decide)
  · exact sends_of_still (by simp +decide)

/-! ### Power domains (R375) -/

@[simp] theorem still_loseStaged (n : Nat) (s : State) : still (loseStaged n s) = still s := by
  unfold loseStaged
  dsimp only
  split <;> simp +decide

/-- Fields dropped from the register file, SEALED not among them. -/
theorem still_filter {keys : List Nat} (h : sealKey ∉ keys) (l : List Nat) (s : State) :
    still { s with fields := s.fields.filter fun e => !keys.contains e.1
                   tmr := s.tmr.filter fun e => !keys.contains e.1
                   irqOut := l } = still s := by
  have get : ∀ {α : Type} (m : NMap α), mapGet (m.filter fun e => !keys.contains e.1) sealKey = mapGet m sealKey := by
    intro α m
    unfold mapGet
    rw [List.find?_filter]
    congr 1
    refine List.find?_congr fun e _ => ?_
    by_cases hk : e.1 = sealKey
    · simp +decide [hk, h]
    · simp +decide [hk]
  unfold still
  rw [get, get]

/-- SEALED is no field that a domain turned off clears (R375). -/
theorem resetBlk_spares (b : Blk) (u : Nat) :
    sealKey ∉ ((blkFlds b).filter fun f => !f.keepsOnDomain).map fun f => f.key u := by
  have fields : ∀ b, ∀ f ∈ blkFlds b, f.keepsOnDomain = false → f.sparesSeal = true := by
    intro b
    cases b <;> decide +kernel
  intro h
  obtain ⟨f, hf, key⟩ := List.mem_map.mp h
  obtain ⟨hf, drop⟩ := List.mem_filter.mp hf
  exact key_ne_seal (fields b f hf (by simpa using drop)) u key

@[simp] theorem still_resetBlk (b : Blk) (u : Nat) (s : State) : still (resetBlk b u s) = still s :=
  still_filter (resetBlk_spares b u) _ s

@[simp] theorem still_resetDomain (d : Nat) (s : State) : still (resetDomain d s) = still s := by
  simp +decide [resetDomain]

@[simp] theorem still_loadTrims (p : Nat) (s : State) : still (loadTrims p s) = still s := by
  simp +decide [loadTrims]

theorem sends_domainOffFx (d : Nat) (s : State) : Sends s (domainOffFx d s) := by
  unfold domainOffFx
  dsimp only
  split
  · exact (sends_stopPorts (d - 6) s).still (by simp +decide)
  · split
    · exact (sends_stopPorts (d - 10) s).still (by simp +decide)
    · split
      · exact (sends_stopPort (d - 14) s).still (by simp +decide [stopPort])
      · split
        · exact (sends_toDisabled (d - 22) s).still (by simp +decide)
        · exact sends_of_still (by simp +decide)

theorem sends_domainOnFx (d : Nat) (s : State) : Sends s (domainOnFx d s) := by
  have enables : ∀ p t, Sends t (leaveDisabled p (allowTx p (when (strapFollows t) (startPortEnables p d) t))) := fun p t =>
    ((sends_when _ (sends_startPortEnables p d t)).still (still_allowTx p _)).still (still_leaveDisabled p _)
  unfold domainOnFx
  dsimp only
  split
  · exact sends_when _ (sends_bringUp (d - 6) false s)
  · split
    · exact sends_of_still (by simp +decide)
    · split
      · exact (enables (d - 14) _).after (still_showPortLayout _ s)
      · split
        · exact (enables (d - 22) _).after (still_loadTrims _ s)
        · split
          · exact (sends_when _ (sends_startPortEnables (d - 30) d _)).after (still_showHostLayout _ s)
          · exact .refl s

theorem sends_gateFollow (d : Nat) (s : State) : Sends s (gateFollow d s) := by
  unfold gateFollow
  dsimp only
  split
  · exact .refl s
  · split
    · exact (sends_domainOnFx d _).after (by simp +decide)
    · split
      · exact .refl s
      · exact (sends_domainOffFx d _).after (by simp +decide)

/-! ### Clocks and start-up (R360 to R371) -/

@[simp] theorem still_disarm (note : Bool) (s : State) : still (disarm note s) = still s := by
  have arm : ∀ (n : Nat) (t : State), still { t with armLeft := n } = still t := fun _ _ => rfl
  simp +decide [disarm, arm]

theorem sends_resumePorts (s : State) : Sends s (resumePorts s) := by
  refine sends_forAll _ s fun p _ t => ?_
  split
  · exact .refl t
  · split
    · exact sends_retrainBy p 10 true false t
    · exact (sends_toLinkDown p none t).still (still_noteMuted p _)

@[simp] theorem still_muteAll (on : Bool) (s : State) : still (muteAll on s) = still s := by
  simp +decide [muteAll]

@[simp] theorem still_measureStrap (count : Nat) (s : State) : still (measureStrap count s) = still s := by
  simp +decide [measureStrap]

@[simp] theorem still_boscQualified (count : Nat) (s : State) : still (boscQualified count s) = still s := by
  unfold boscQualified
  extract_lets qualified swapped lost
  have first : still qualified = still s := by simp +decide [qualified]
  have second : still swapped = still qualified := by simp +decide [swapped]
  have third : still lost = still swapped := by simp +decide [lost]
  simp +decide [first, second, third]

theorem sends_rootQualified (s : State) : Sends s (rootQualified s) := by
  unfold rootQualified
  extract_lets lockA onB back shown present
  have first : still shown = still s := by simp +decide [shown]
  have second : still present = still shown := rfl
  split
  · exact .refl s
  · split
    · exact (sends_resumePorts _).after (by simp +decide [first, second])
    · exact sends_of_still (second.trans first)

@[simp] theorem still_pllLock (s : State) : still (pllLock s) = still s := by
  simp +decide [pllLock]

/-- The loss of ROOT drops a mode change that is armed (R366). -/
@[simp] theorem still_dropArmed (g : Staging) (s : State) : still (sticky .CHAIN_MODE_MISSED 0
    (setAll 0 [(.CHAIN_MISSED_GEN, g.gen), (.CHAIN_STAGED_GEN, 0), (.CHAIN_STAGED, 0), (.CHAIN_ARMED, 0)]
      { s with staging := none })) = still s := by
  have staging : still { s with staging := none } = still s := rfl
  simp +decide only [still_sticky, still_setF, setAll_cons, setAll_nil, staging]

@[simp] theorem still_loseRoot (s : State) : still (loseRoot s) = still s := by
  unfold loseRoot
  extract_lets absent lost staged muted deep hold
  have first : still lost = still s := by simp +decide [lost, absent]
  have second : still staged = still lost := by
    simp only [staged]
    split
    · split
      · exact still_dropArmed _ lost
      · rfl
    · rfl
  have third : still muted = still staged := by simp +decide [muted]
  simp +decide [hold, first, second, third]

@[simp] theorem still_safeEntry (s : State) : still (safeEntry s) = still s := by
  simp +decide [safeEntry]

theorem sends_rootReturn (s : State) : Sends s (rootReturn s) := by
  unfold rootReturn
  dsimp only
  split
  · exact .refl s
  · split
    · exact sends_of_still (by simp +decide)
    · exact (sends_resumePorts _).after (by simp +decide)

@[simp] theorem still_rootToB (s : State) : still (rootToB s) = still s := by
  simp +decide [rootToB]

@[simp] theorem still_rootToA (s : State) : still (rootToA s) = still s := by
  simp +decide [rootToA]

theorem sends_pllLost (s : State) : Sends s (pllLost s) := by
  unfold pllLost
  split
  · exact .refl s
  · split
    · exact sends_of_still (by simp +decide)
    · refine (sends_forAll _ _ fun p _ t => ?_).after ?_
      · exact sends_ite _ (sends_retrainBy p 10 true false t) (.refl t)
      · simp +decide

/-! ### Power states (R374) -/

theorem sends_switchState (st : Nat) (s : State) : Sends s (switchState st s) := by
  unfold switchState
  extract_lets old switched noted downs dark
  have first : still switched = still s := by simp +decide [switched]
  have second : still noted = still switched := by simp +decide [noted]
  have third : Sends noted downs := sends_forAll _ noted fun p _ t =>
    sends_ite _ (.refl t) ((sends_toDisabled p t).still (still_setCause p 1 _))
  split
  · exact sends_of_still first
  · split
    · exact (third.after (second.trans first)).still (by simp +decide [dark])
    · split <;> exact sends_of_still (by simp +decide [first, second])

theorem sends_wakeTakes (ps : List Nat) (s : State) : Sends s (wakeTakes ps s) := by
  unfold wakeTakes
  dsimp only
  split
  · exact (sends_switchState 1 _).after (by simp +decide)
  · exact sends_of_still (by simp +decide)

theorem sends_enterState (st : Nat) (s : State) : Sends s (enterState st s) := by
  unfold enterState
  dsimp only
  split
  · split
    · exact (sends_switchState st s).trans ((sends_wakeTakes _ _).after (still_modClk _ _))
    · exact sends_switchState st s
  · exact sends_switchState st s

theorem sends_commitState (st : Nat) (s : State) : Sends s (commitState st s) :=
  (sends_enterState st _).after (by simp +decide)

theorem sends_wakeFires (p : Nat) (s : State) : Sends s (wakeFires p s) := by
  unfold wakeFires
  split
  · exact .refl s
  · split
    · exact sends_wakeTakes [p] s
    · exact sends_of_still (still_modClk _ s)

theorem sends_startStateGo (s : State) : Sends s (startStateGo s) := by
  unfold startStateGo
  split
  · exact sends_of_still (by simp +decide)
  · split
    · exact sends_of_still (by simp +decide)
    · exact (sends_enterState _ _).after (by simp +decide)

theorem sends_domainSwitched (s : State) : Sends s (domainSwitched s) := by
  unfold domainSwitched
  extract_lets gated left
  have first : Sends s gated := (sends_forAll _ _ fun d _ => sends_gateFollow d).after (still_modClk _ s)
  have second : still left = still gated := by simp +decide [left]
  split
  · exact .refl s
  · exact (first.still second).still (by simp +decide)

@[simp] theorem still_startMeas (s : State) : still (startMeas s) = still s := by
  simp +decide [startMeas]

@[simp] theorem still_tapEdge (tms tdi trst : Bool) (s : State) : still (tapEdge tms tdi trst s) = still s := by
  have data : ∀ old st : Nat, still (tapData old st tdi s) = still s := fun old st => by
    simp +decide [tapData]
  simp +decide [tapEdge, data]

/-! ### The loader (R110 to R121) -/

@[simp] theorem still_setArea (a st : Nat) (s : State) : still (setArea a st s) = still s := by
  simp +decide [setArea]

@[simp] theorem still_verifyDone (contents : Option Layout) (s : State) : still (verifyDone contents s) = still s := by
  simp +decide [verifyDone]

@[simp] theorem still_stageCopied (s : State) : still (stageCopied s) = still s := by
  unfold stageCopied
  split
  · rfl
  · extract_lets less copied
    have first : still less = still s := by simp +decide [less]
    have second : still copied = still less := by
      simp only [copied]
      split
      · simp +decide
      · rfl
    simp +decide [first, second]

theorem sends_applyCommitted (s : State) : Sends s (applyCommitted s) := by
  unfold applyCommitted
  split
  · exact .refl s
  · next n rest _ =>
    have shown : ∀ t, Sends t (showLayout n (forAll [2 * n, 2 * n + 1] (fun p s => forgetStored p (discardLayby p s)) t)) :=
      fun t => (sends_forAll _ t fun p _ r => (sends_discardLayby p r).still (still_forgetStored p _)).still
        (still_showLayout n _)
    extract_lets less applied
    have first : still less = still s := by simp +decide [less]
    have second : Sends less applied := by
      simp -zeta only [applied]
      split
      · extract_lets laid recorded shows allowed
        have third : still recorded = still less := by simp +decide [recorded, laid]
        have fourth : Sends recorded shows := shown recorded
        have fifth : still allowed = still shows := by simp +decide [allowed]
        exact (fourth.after third).still (by simp +decide [fifth])
      · exact .refl less
    exact (second.after first).still (by simp +decide)

theorem sends_flashSectorDone (s : State) : Sends s (flashSectorDone s) := by
  unfold flashSectorDone
  extract_lets l a total written img
  split
  · exact .refl s
  · exact (sends_emit _ s).still (t := written) (by simp +decide)

@[simp] theorem still_startVerify (s : State) : still (startVerify s) = still s := by
  simp +decide [startVerify]

@[simp] theorem still_startStage (s : State) : still (startStage s) = still s := by
  simp +decide [startStage]

@[simp] theorem still_startApply (s : State) : still (startApply s) = still s := by
  simp +decide [startApply]

@[simp] theorem still_confirm (s : State) : still (confirm s) = still s := by
  simp +decide [confirm]

@[simp] theorem still_raiseRollback (s : State) : still (raiseRollback s) = still s := by
  simp +decide [raiseRollback]

@[simp] theorem still_programOem (s : State) : still (programOem s) = still s := by
  simp +decide [programOem]

@[simp] theorem still_startFlash (s : State) : still (startFlash s) = still s := by
  simp +decide [startFlash]

/-! ### Loopbacks (R347) -/

theorem sends_setLoop (p mode : Nat) (s : State) : Sends s (setLoop p mode s) := by
  have enter : ∀ t, Sends t (enterLoop p t) := fun t =>
    (((sends_dropLink p _).after (still_startLayby p t)).trans ((sends_settleClasses p _).after (by simp +decide)))
  have ends : Sends s (endLoop p s) := by
    unfold endLoop
    dsimp only
    split
    · exact (sends_toLinkDown p none _).after (by simp +decide)
    · exact sends_of_still (by simp +decide)
  have settled := ends.trans (sends_settleClasses p (endLoop p s))
  unfold setLoop
  dsimp only
  split
  · exact settled
  · split
    · exact settled.still (still_sticky _ _ _)
    · refine settled.trans (Sends.still ?_ (still_setF (by simp +decide) _ _ _))
      exact sends_ite _ (enter _) (.refl _)

/-! ### Faults (R406, R407, R416) -/

theorem sends_waitPorts (n : Nat) (s : State) : Sends s (waitPorts n s) := by
  refine sends_forAll _ s fun p _ t => ?_
  extract_lets quiet down
  have first : still quiet = still t := by simp +decide [quiet]
  have second : Sends quiet down :=
    sends_ite _ ((sends_toFast p _).after (still_setCause p 16 quiet)) (sends_toLinkDown p _ _)
  split
  · exact .refl t
  · exact (second.after first).still (by simp +decide)

theorem sends_autoSub (n : Nat) (s : State) : Sends s (autoSub n s) :=
  sends_ite _ (.refl s) ((sends_waitPorts n s).still (by simp +decide))

theorem sends_containedAction (b : Blk) (u src detail : Nat) (s : State) : Sends s (containedAction b u src detail s) := by
  unfold containedAction
  split
  · extract_lets marked
    have first : still marked = still s := still_markElem _ s
    split
    · exact (sends_autoSub u _).after first
    · split
      · exact (sends_setEn _ _ _ _).after (by simp +decide [first])
      · exact sends_of_still first
  · exact (sends_toDisabled u _).after (by simp +decide)
  · exact .refl s

theorem sends_substituted (n : Nat) (s : State) : Sends s (substituted n s) := by
  unfold substituted
  dsimp only
  split
  · exact .refl s
  · refine (sends_forAll _ _ fun p _ t => ?_).after (by simp +decide)
    split
    · exact .refl t
    · exact sends_ite _ (sends_of_still (by simp +decide)) ((sends_toDisabled p _).after (by simp +decide))

@[simp] theorem still_remapSector (s : State) : still (remapSector s) = still s := by
  simp +decide [remapSector]

theorem sends_detect (b : Blk) (u src detail : Nat) (s : State) : Sends s (detect b u src detail s) := by
  unfold detect
  split
  · exact .refl s
  · split
    · exact sends_of_still (by simp +decide)
    · exact (sends_containedAction b u src detail _).after (by simp +decide)
    · exact .refl s

@[simp] theorem still_noteRow (n bank row : Nat) (s : State) : still (noteRow n bank row s) = still s := by
  simp +decide [noteRow]

theorem sends_loseSlot (p : Nat) (rx : Bool) (node cls ms : Nat) (s : State) : Sends s (loseSlot p rx node cls ms s) := by
  unfold loseSlot
  split
  · exact sends_of_still (by simp +decide)
  · split
    · exact (sends_updPressures p _).after (still_giveUp_none p _ s)
    · exact .refl s

@[simp] theorem still_selfTest (n : Nat) (e : Elem) (index : Nat) (passed : Bool) (s : State) :
    still (selfTest n e index passed s) = still s := by
  simp +decide [selfTest]

@[simp] theorem still_measureWear (n drift tj : Nat) (s : State) : still (measureWear n drift tj s) = still s := by
  simp +decide [measureWear]

/-! ### Calibration (R385 to R393) -/

@[simp] theorem still_showRun (p kurt ratio dev : Nat) (s : State) : still (showRun p kurt ratio dev s) = still s := by
  simp +decide [showRun]

@[simp] theorem still_storeTrims (p : Nat) (l : List (Nat × Int × Int × Int)) (s : State) : still (storeTrims p l s) = still s := by
  simp +decide [storeTrims]

theorem sends_noteBgFail (p : Nat) (bad : List Nat) (s : State) : Sends s (noteBgFail p bad s) :=
  (sends_forAll _ _ fun e _ t => sends_ite _ (sends_markSubconv p e t) (.refl t)).after (still_modCal p _ s)

theorem sends_bgDone (p : Nat) (power : Int) (kurt : Nat) (impulse : Bool) (dev ratio : Nat)
    (res : List (Nat × Int × Int × Int)) (s : State) : Sends s (bgDone p power kurt impulse dev ratio res s) := by
  unfold bgDone
  extract_lets shown why kept runs waits trims far jump bad swaps ended
  have first : still shown = still s := by simp +decide [shown]
  have second : still kept = still shown := by simp +decide [kept]
  have third : Sends kept ended :=
    sends_ite _ (sends_of_still (by simp +decide)) ((sends_noteBgFail p _ _).after (by simp +decide))
  split
  · exact .refl s
  · split
    · exact sends_of_still (by simp +decide [first])
    · exact (third.after (second.trans first)).still (still_forAll _ _ fun t _ => still_swapSubconv p t.1 _)

@[simp] theorem still_finishSave (s : State) : still (finishSave s) = still s := by
  unfold finishSave
  split <;> simp +decide

theorem sends_saveDone (sectorFailed : Bool) (s : State) : Sends s (saveDone sectorFailed s) :=
  sends_ite _ (.refl s) ((sends_gateFollow 2 _).after (by simp +decide))

@[simp] theorem still_startHybCmd (p : Nat) (s : State) : still (startHybCmd p s) = still s := by
  simp +decide [startHybCmd, startHyb, rcPost]

@[simp] theorem still_startSave (s : State) : still (startSave s) = still s := by
  simp +decide [startSave]

@[simp] theorem still_fullCal (p : Nat) (o : T1Meas) (s : State) : still (fullCal p o s) = still s := by
  simp +decide [fullCal]

/-! ### The Keeper and mode change (R50 to R57, R68 to R72) -/

@[simp] theorem still_renewLease (s : State) : still (renewLease s) = still s := (rfl)

@[simp] theorem still_becomeKeeper (m : Nat) (s : State) : still (becomeKeeper m s) = still s := by
  simp +decide [becomeKeeper]

@[simp] theorem still_sealCheck (m : Nat) (s : State) : still (sealCheck m s).2 = still s := by
  have lists : ∀ (l k : List Nat) (t : State), still { t with nonces := l, refused := k } = still t := fun _ _ _ => rfl
  unfold sealCheck
  dsimp only
  split
  · rfl
  · split
    · rfl
    · simp +decide [lists]

@[simp] theorem still_endNomination (oc : Nat) (s : State) : still (endNomination oc s) = still s := by
  have nominee : ∀ (n : Option Nat) (t : State), still { t with nominee := n } = still t := fun _ _ => rfl
  simp +decide [endNomination, nominee]

@[simp] theorem still_expireLease (s : State) : still (expireLease s) = still s := by
  unfold expireLease
  split <;> simp +decide

@[simp] theorem still_claimKeeper (m data : Nat) (s : State) : still (claimKeeper m data s).2 = still s := by
  unfold claimKeeper
  extract_lets held beaten r judged other ms leased
  have first : still judged = still s := by simp +decide [judged, r, held]
  have second : still leased = still judged := by simp +decide [leased]
  split
  · exact first
  · simp +decide [first, second]

@[simp] theorem still_dropStaging (s : State) : still (dropStaging s) = still s := by
  have staging : ∀ (g : Option Staging) (t : State), still { t with staging := g } = still t := fun _ _ => rfl
  simp +decide [dropStaging, staging]

@[simp] theorem still_noteMissed (gen : Nat) (s : State) : still (noteMissed gen s) = still s := by
  simp +decide [noteMissed]

@[simp] theorem still_onPrepare (m data : Nat) (s : State) : still (onPrepare m data s).2 = still s := by
  have staging : ∀ (g : Option Staging) (t : State), still { t with staging := g } = still t := fun _ _ => rfl
  unfold onPrepare
  dsimp only
  split
  · rfl
  · simp +decide [beginStaging, staging]

@[simp] theorem still_onCommit (m addr data : Nat) (s : State) : still (onCommit m addr data s) = still s := by
  have staging : ∀ (g : Option Staging) (t : State), still { t with staging := g } = still t := fun _ _ => rfl
  simp +decide [onCommit, staging]

@[simp] theorem still_commitPort (x : Nat × Nat × Nat × Nat) (s : State) : still (commitPort x s) = still s := by
  unfold commitPort
  extract_lets p staged
  have first : still staged = still s := by simp +decide [staged]
  simp +decide [first]

theorem sends_modeAtT (s : State) : Sends s (modeAtT s) := by
  unfold modeAtT
  split
  · exact .refl s
  · next g _ =>
    extract_lets dropped entered
    have first : still dropped = still s := by simp +decide [dropped]
    have second : Sends dropped entered := sends_ite _ (.refl dropped) (sends_commitState g.stateTgt dropped)
    split
    · exact .refl s
    · split
      · exact sends_of_still (by simp +decide)
      · exact (second.after first).still (by simp +decide)

end Sys2Proof.Machine
end

section
/-! SUPPORT. What every operation keeps: memories in canonical form, and SEALED once it is set (O5, O6). -/

namespace Sys2Proof.Machine

/-! ### Commands of a port that masters start -/

@[simp] theorem kept_respond (src : Src) (mtag tag op addr code data : Nat) (s : State) :
    (still (respond src mtag tag op addr code data s)).1 = (still s).1 := by
  unfold respond
  split
  · unfold when
    split <;> rfl
  · rfl

theorem kept_disableStream (p i : Nat) (s : State) : (still (disableStream p i s)).1 = (still s).1 :=
  kept_of_outside (p := p) (by simp [disableStream])

@[simp] theorem kept_enqueue (p i : Nat) (bs : List Byte) (s : State) : (still (enqueue p i bs s).2).1 = (still s).1 :=
  kept_of_outside (outside_enqueue p i bs s)

@[simp] theorem kept_emitLine (p : Nat) (e : Emission) (s : State) : (still (emitLine p e s)).1 = (still s).1 :=
  kept_of_outside (outside_emitLine p p e s)

theorem kept_offerFrame (p : Nat) (bs : List Byte) (s : State) : (still (offerFrame p bs s)).1 = (still s).1 := by
  simp +decide [offerFrame]

@[simp] theorem still_startTdr (p : Nat) (s : State) : still (startTdr p s) = still s := by
  simp +decide [startTdr]

theorem kept_firstChirp (p : Nat) (power : Bool) (s : State) : (still (firstChirp p power s)).1 = (still s).1 :=
  kept_of_outside (p := p) (by simp [firstChirp])

@[simp] theorem still_startBaseSave (p : Nat) (s : State) : still (startBaseSave p s) = still s := by
  simp +decide [startBaseSave]

@[simp] theorem still_startSend (p : Nat) (s : State) : still (startSend p s) = still s := by
  simp +decide [startSend]

@[simp] theorem still_startRelease (p : Nat) (s : State) : still (startRelease p s) = still s := by
  simp +decide [startRelease]

@[simp] theorem still_abortSend (p : Nat) (s : State) : still (abortSend p s) = still s := by
  simp +decide [abortSend]

theorem sends_startRetrainCmd (p : Nat) (s : State) : Sends s (startRetrainCmd p s) := by
  unfold startRetrainCmd
  split
  · exact sends_of_still (by simp +decide)
  · exact (sends_retrainBy p 10 true true _).after (by simp +decide)

theorem kept_startT1 (p : Nat) (s : State) : (still (startT1 p s)).1 = (still s).1 := by
  unfold startT1
  split
  · rfl
  · have begun : (still (beginT1 p (serveDrivers p s))).1 = (still s).1 :=
      (kept_of_outside (p := p) (by simp)).trans (congrArg Prod.fst (still_serveDrivers p s))
    dsimp only
    split
    · exact (sends_toDisabled p _).1.trans begun
    · exact begun

theorem kept_t1Window (p : Nat) (o : T1Meas) (s : State) : (still (t1Window p o s)).1 = (still s).1 := by
  have fails : ∀ t, (still (toLinkFail p 6 t)).1 = (still t).1 := fun t => kept_of_outside (outside_toLinkFail p 6 t)
  have begins : ∀ t, (still (beginT2 p t)).1 = (still t).1 := fun t => kept_of_outside (p := p) (by simp [beginT2])
  unfold t1Window
  extract_lets l own n echoes pass noted measured first tuned judged
  have one : still measured = still s := by simp +decide [measured, noted, echoes]
  have two : still tuned = still measured := by simp +decide [tuned, setS]
  have three : still judged = still tuned := by simp +decide [judged]
  simp +decide [fails, begins, one, two, three]

theorem outside_warmSurvey (p : Nat) (rho : List Int) (s : State) : outside p (warmSurvey p rho s).2 = outside p s := by
  unfold warmSurvey
  dsimp only
  repeat' split
  all_goals simp

theorem kept_t1WindowEnds (p : Nat) (o : T1Meas) (s : State) : (still (t1WindowEnds p o s)).1 = (still s).1 := by
  unfold t1WindowEnds
  split
  · rfl
  · extract_lets calibrated r
    have first : still calibrated = still s := by simp +decide [calibrated]
    rw [← first]
    split
    · exact (kept_t1Window p o _).trans (by simp [r, kept_of_outside (outside_warmSurvey p _ _)])
    · exact kept_t1Window p o _

/-! ### Memories and SEALED -/

/-- From `s` to `t` memories in canonical form stay so, and SEALED stays set. -/
def Guards (s t : State) : Prop :=
  (CanonicalMemory s → CanonicalMemory t) ∧ (getF 0 .KEEPER_SEALED s = 1 → getF 0 .KEEPER_SEALED t = 1)

theorem Guards.refl (s : State) : Guards s s := ⟨id, id⟩

theorem Guards.trans {s t u : State} (h : Guards s t) (k : Guards t u) : Guards s u := ⟨k.1 ∘ h.1, k.2 ∘ h.2⟩

theorem getF_sealed_of_kept {s t : State} (h : (still t).1 = (still s).1) :
    getF 0 .KEEPER_SEALED t = getF 0 .KEEPER_SEALED s := by
  simp only [still, sealKey, Prod.mk.injEq] at h
  obtain ⟨-, -, fields, copies, -⟩ := h
  simp only [getF, mapGetD, fields, copies]

theorem guards_of_kept {s t : State} (h : (still t).1 = (still s).1) : Guards s t := by
  refine ⟨fun c => ?_, fun c => (getF_sealed_of_kept h).trans c⟩
  simp only [still, Prod.mk.injEq] at h
  obtain ⟨post, mem, -⟩ := h
  rw [CanonicalMemory, post, mem]
  exact c

theorem guards_of_still {s t : State} (h : still t = still s) : Guards s t := guards_of_kept (congrArg Prod.fst h)

theorem Sends.guards {s t : State} (h : Sends s t) : Guards s t := guards_of_kept h.1

/-- What keeps all of `still` may follow. -/
theorem Guards.still {s t u : State} (h : Guards s t) (k : Machine.still u = Machine.still t) : Guards s u :=
  h.trans (guards_of_still k)

/-- What keeps all of `still` may go before. -/
theorem Guards.after {s t u : State} (h : Guards t u) (k : Machine.still t = Machine.still s) : Guards s u :=
  (guards_of_still k).trans h

theorem guards_ite {s t u : State} (c : Prop) [Decidable c] (h : Guards s t) (k : Guards s u) :
    Guards s (if c then t else u) := by
  split
  · exact h
  · exact k

theorem guards_when {f : State → State} {s : State} (c : Bool) (h : Guards s (f s)) : Guards s (when c f s) :=
  guards_ite _ h (.refl s)

theorem guards_forAll {α : Type} {f : α → State → State} (l : List α) (s : State) (h : ∀ x ∈ l, ∀ t, Guards t (f x t)) :
    Guards s (forAll l f s) := by
  induction l generalizing s with
  | nil => exact .refl s
  | cons x l ih => exact (h x List.mem_cons_self s).trans (ih _ fun y hy => h y (List.mem_cons_of_mem _ hy))

/-! ### Post-office memory (R58 to R63) -/

theorem guards_postWord (a v : Nat) (s : State) : Guards s { s with post := writeWord s.post a v } :=
  ⟨fun h => ⟨writeWord_wf _ _ h.1, h.2⟩, id⟩

theorem guards_setEntryWord (ring pos w v : Nat) (s : State) : Guards s (setEntryWord ring pos w v s) :=
  guards_postWord _ v s

theorem guards_setCmdState (m pos st : Nat) (s : State) : Guards s (setCmdState m pos st s) := guards_postWord _ _ s

theorem guards_postEvent (m kind cmd cookie oc : Nat) (results ledger : List Nat) (s : State) :
    Guards s (postEvent m kind cmd cookie oc results ledger s) :=
  (guards_forAll _ s fun _ _ => guards_setEntryWord _ _ _ _).still (still_setF (by simp) _ _ _)

theorem guards_postFor (m pos kind oc : Nat) (results ledger : List Nat) (s : State) :
    Guards s (postFor m pos kind oc results ledger s) := guards_postEvent _ _ _ _ _ _ _ s

theorem guards_setLedger (m pos : Nat) (ledger : List Nat) (s : State) : Guards s (setLedger m pos ledger s) :=
  guards_forAll _ s fun _ _ => guards_setEntryWord _ _ _ _

theorem guards_takeCommand (m : Nat) (s : State) : Guards s (takeCommand m s) := by
  unfold takeCommand
  extract_lets get pos posted taken
  have first : still taken = still s := still_setF (by simp) _ _ s
  split
  · exact .refl s
  · split
    · exact (guards_setCmdState m pos 2 taken).after first
    · exact ((guards_setCmdState m pos 3 taken).trans (guards_postFor m pos 1 _ _ _ _)).after first

theorem guards_completeCommand (m pos : Nat) (oc : Option Nat) (changes : Bool) (results : List Nat) (s : State) :
    Guards s (completeCommand m pos oc changes results s) := by
  unfold completeCommand
  split
  · exact .refl s
  · dsimp only
    split
    · exact guards_setLedger m pos _ s
    · split
      · exact .refl s
      · exact ((guards_setLedger m pos _ s).trans (guards_setCmdState m pos 3 _)).trans (guards_postFor m pos 1 _ _ _ _)

theorem guards_interruptPost (s : State) : Guards s (interruptPost s) :=
  guards_forAll _ s fun _ _ _ => guards_forAll _ _ fun _ _ t => (guards_setCmdState _ _ 4 t).trans ⟨id, id⟩

theorem guards_reportInterrupted (s : State) : Guards s (reportInterrupted s) := by
  refine guards_ite _ (.refl s) (guards_forAll _ s fun e _ t => guards_ite _ (.refl t) ?_)
  have reported : Guards t { t with interrupted := t.interrupted.filter (· != e) } := ⟨id, id⟩
  exact reported.trans (guards_postFor _ _ _ _ _ _ _)

/-! ### The image buffer (R110) -/

theorem guards_storeWord (a ofs v : Nat) (s : State) :
    Guards s (modLoader (fun l => { l with mem := l.mem.modify a fun m => writeWord m ofs v
                                           stored := l.stored.modify a fun w => addNat w ofs }) s) := by
  refine ⟨fun h => ⟨h.1, fun m hm => ?_⟩, id⟩
  obtain ⟨i, hi, rfl⟩ := List.mem_iff_getElem.mp hm
  simp only [modLoader, List.length_modify] at hi
  simp only [modLoader, List.getElem_modify]
  have old := h.2 _ (List.getElem_mem hi)
  split
  · exact writeWord_wf _ _ old
  · exact old

theorem guards_loadWord (v : Nat) (s : State) : Guards s (loadWord v s) := by
  unfold loadWord
  extract_lets a ofs stored moved len w
  have first : Guards s stored := guards_storeWord a ofs v s
  have second : still moved = still stored := still_setF (by decide) _ _ stored
  have third : Guards s moved := first.still second
  split
  · exact .refl s
  · split
    · exact guards_of_still (still_sticky _ _ s)
    · split
      · exact third.still (still_setArea a 1 moved)
      · split
        · exact third.still (still_setArea a 1 moved)
        · exact third

/-! ### Resets (R354 to R361) -/

/-- SEALED survives every reset level (R56, R354). -/
theorem sealKey_kept : sealKey ∈ keptKeys := by decide +kernel

theorem guards_systemClear (s : State) : Guards s (systemClear s) := by
  have unstaged : still (unstageAll s) = still s := still_forAll _ s fun n _ t => still_loseStaged n t
  have get : ∀ {α : Type} (m : NMap α), mapGet (m.filter fun e => keptKeys.contains e.1) sealKey = mapGet m sealKey := by
    intro α m
    unfold mapGet
    rw [List.find?_filter]
    congr 1
    refine List.find?_congr fun e _ => ?_
    by_cases hk : e.1 = sealKey
    · simp [hk, sealKey_kept]
    · simp [hk]
  refine Guards.after (t := unstageAll s) ⟨fun _ => ⟨wf_nil, ?_⟩, fun h => ?_⟩ unstaged
  · intro m hm
    simp only [systemClear, List.mem_cons, List.not_mem_nil, or_false, or_self] at hm
    exact hm ▸ wf_nil
  · have fields := get (unstageAll s).fields
    have copies := get (unstageAll s).tmr
    simp only [sealKey] at fields copies
    simpa only [getF, mapGetD, systemClear, fields, copies] using h

end Sys2Proof.Machine
end

section
/-! SUPPORT. Resets, faults, writes and accesses keep memories in canonical form and SEALED set (O5, O6). -/

namespace Sys2Proof.Machine

/-! ### Resets (R354 to R361) -/

theorem clearBlk_spares (b : Blk) (h : b ≠ .KEEPER) (k : b ≠ .DEV_ID) : sealKey ∉ (blkFlds b).map fun f => f.key 0 := by
  intro hk
  obtain ⟨f, hf, key⟩ := List.mem_map.mp hk
  have place := blkFlds_blk_lo hf
  exact key_ne_seal (sparesSeal_of_sparesCmd (sparesCmd_of_blk (place.1 ▸ k) (place.1 ▸ h))) 0 key

theorem still_clearBlk {b : Blk} (h : b ≠ .KEEPER) (k : b ≠ .DEV_ID) (s : State) : still (clearBlk b s) = still s :=
  still_filter (clearBlk_spares b h k) _ s

theorem guards_powerClear (s : State) : Guards s (powerClear s) := by
  unfold powerClear
  extract_lets cleared shown
  have first : Guards s cleared := ((guards_systemClear s).still (still_clearBlk (by decide) (by decide) _)).still
    (still_clearBlk (by decide) (by decide) _)
  have second : still shown = still cleared := by simp +decide [shown]
  have stopped : ∀ t : State, still { t with forwarding := false } = still t := fun _ => rfl
  exact first.still (by rw [still_modClk, stopped, second])

@[simp] theorem still_loseLodge (s : State) : still (loseLodge s) = still s := by
  unfold loseLodge
  extract_lets cleared emptied
  have first : still cleared = still s := still_clearBlk (by decide) (by decide) s
  have second : still emptied = still cleared := rfl
  simp [first, second]

/-- The commands of the management core lie elsewhere than SEALED. -/
theorem sparesCmd_coreCmds : ∀ c ∈ coreCmds, c.2.sparesCmd = true := by decide

theorem guards_coreClear (activate : Bool) (s : State) : Guards s (coreClear activate s) := by
  unfold coreClear
  extract_lets stopped emptied watched failed id loaded caused cleared disarmed staged
  have one : still stopped = still s :=
    still_forAll _ s fun c hc t => still_cmdStop (sparesCmd_coreCmds c hc) c.1 ocInterrupted t
  have two : still emptied = still stopped := by simp [emptied]
  have three : still watched = still emptied := by simp [watched]
  have four : still loaded = still watched := by simp [loaded]
  have five : still caused = still loaded := by simp +decide [caused]
  have six : still cleared = still caused := by simp +decide [cleared]
  have seven : still disarmed = still cleared := by simp +decide [disarmed]
  have eight : still staged = still disarmed := by
    have drop : ∀ (g : Option Staging) (t : State), still { t with staging := g } = still t := fun _ _ => rfl
    simp only [staged]
    split
    · split
      · rfl
      · rw [still_setF (by decide), drop]
    · rfl
  refine (guards_interruptPost staged).after ?_
  rw [eight, seven, six, five, four, three, two, one]

@[simp] theorem still_noteCause (bit level : Nat) (s : State) : still (noteCause bit level s) = still s := by
  unfold noteCause
  extract_lets first mask wide noted begun n counted
  have one : still noted = still s := by simp +decide [noted]
  have two : still begun = still noted := still_modClk _ _
  have three : still counted = still begun := still_setF (by decide) _ _ _
  simp +decide [one, two, three]

theorem guards_assertReset (bit level : Nat) (s : State) : Guards s (assertReset bit level s) := by
  unfold assertReset
  split
  · exact (guards_powerClear s).still (still_noteCause _ _ _)
  · split
    · exact (guards_systemClear s).still (still_noteCause _ _ _)
    · dsimp only
      split
      · exact guards_of_still (still_noteCause _ _ s)
      · exact ((guards_coreClear _ _).after (still_noteCause _ _ s)).still (still_modClk _ _)

@[simp] theorem still_writeCause (s : State) : still (writeCause s) = still s := by
  unfold writeCause
  extract_lets held slot e l
  have causes : ∀ t : State, still { t with causes := l } = still t := fun _ => rfl
  simp +decide only [setAll_cons, setAll_nil, still_setF, causes]

theorem sends_endEpisode (s : State) : Sends s (endEpisode s) := by
  unfold endEpisode
  extract_lets wide noted ended reverted
  have one : still noted = still s := by simp [noted]
  have two : still ended = still noted := still_modClk _ _
  have three : still reverted = still ended := by simp [reverted]
  split
  · exact .refl s
  · split
    · split
      · exact (sends_resumePorts _).after (by simp [one, two, three])
      · exact sends_of_still (by simp [one, two, three])
    · exact sends_of_still (by simp [one, two])

theorem guards_fatalLadder (b : Blk) (u src : Nat) (s : State) : Guards s (fatalLadder b u src s) := by
  unfold fatalLadder
  extract_lets saved muted
  have one : still muted = still s := by simp +decide [muted, saved]
  split
  · exact ((guards_assertReset 7 1 _).after (still_modClk _ _)).after one
  · exact (guards_assertReset 6 2 _).after one

theorem guards_fatal (b : Blk) (u src detail : Nat) (s : State) : Guards s (fatal b u src detail s) :=
  (guards_fatalLadder b u src _).after (by simp)

/-! ### Start-up (R360 to R363, R385, R391) -/

theorem guards_nvmRead (a b started : Bool) (corrected : Nat) (duty : Nat × Nat) (flashId : Nat) (s : State) :
    Guards s (nvmRead a b started corrected duty flashId s) := by
  unfold nvmRead
  extract_lets counted old lost declared chosen loaded enabled flash
  have one : still counted = still s := by simp +decide [counted]
  have two : still old = still counted := by simp +decide [old]
  have three : still chosen = still old := by
    simp only [chosen]
    split <;> simp +decide
  have four : still loaded = still chosen := still_forAll _ _ fun p _ t => still_loadTrims p t
  have five : still enabled = still loaded := by simp +decide [enabled]
  have six : still flash = still enabled := by simp +decide [flash]
  split
  · exact .refl s
  · split
    · exact (guards_fatal _ _ _ _ _).after (two.trans one)
    · refine guards_of_still ?_
      simp +decide [six, five, four, three, two, one]

theorem guards_runFirmware (src id svn : Nat) (s : State) : Guards s (runFirmware src id svn s) :=
  (guards_reportInterrupted _).after (by simp +decide)

theorem guards_startFirmware (s : State) : Guards s (startFirmware s) := by
  unfold startFirmware
  extract_lets found noted
  have one : still noted = still s := still_noteSearch _ _ s
  split
  · exact .refl s
  · cases found with
    | none => exact guards_of_still one
    | some x => exact (guards_runFirmware _ _ _ _).after (by simp [one])

theorem guards_boscFails (s : State) : Guards s (boscFails s) := by
  unfold boscFails
  extract_lets sel spared
  have one : still spared = still s := by simp +decide [spared]
  split
  · exact .refl s
  · exact (guards_fatal _ _ _ _ _).after (by simp [one])

theorem guards_startActivate (s : State) : Guards s (startActivate s) := by
  unfold startActivate
  split
  · exact guards_of_still (by simp +decide)
  · exact (guards_assertReset 9 1 _).after (by simp +decide)

theorem guards_activated (s : State) : Guards s (activated s) := by
  unfold activated
  extract_lets free ran
  have one : still free = still s := still_modLoader (fun _ => rfl) s
  have two : Guards free ran := (guards_runFirmware _ _ _ _).still (still_cmdStop (by decide) _ _ _)
  split
  · exact .refl s
  · exact (two.after one).still (by simp +decide)

theorem guards_trialExpires (s : State) : Guards s (trialExpires s) := guards_ite _ (guards_assertReset 10 1 s) (.refl s)

/-! ### Injection (R416, R417) -/

theorem still_startFire (b : Blk) (u : Nat) (s : State) : still (startFire b u s) = still s := by
  have fire : (Fld.fire b).sparesCmd = true := by cases b <;> rfl
  unfold startFire
  extract_lets src cls detail opened
  have one : still opened = still s := by
    simp +decide only [opened, setAll_cons, setAll_nil, still_setF, still_cmdStart fire]
  have listed : ∀ (l : List (Nat × Nat × Nat × Nat × Bool)) (t : State), still { t with injOpen := l } = still t := fun _ _ => rfl
  split
  · rw [listed, one]
  · exact still_cmdReject fire u s

theorem guards_windowEnds (b : Blk) (u : Nat) (s : State) : Guards s (windowEnds b u s) := by
  have fire : (Fld.fire b).sparesCmd = true := by cases b <;> rfl
  unfold windowEnds
  split
  · exact .refl s
  · extract_lets shut recorded ended
    have one : still shut = still s := rfl
    have two : still recorded = still shut := by simp +decide [recorded]
    have three : still ended = still recorded := by simp +decide [ended, fire]
    have four : still ended = still s := three.trans (two.trans one)
    split
    · exact (sends_containedAction b u _ _ _).guards.after four
    · split
      · exact (guards_fatalLadder b u _ _).after four
      · exact guards_of_still four

/-! ### SEALED and the Keeper (R55, R56, R88) -/

theorem getF_sealed_setF_one (s : State) : getF 0 .KEEPER_SEALED (setF 0 .KEEPER_SEALED 1 s) = 1 := by
  rw [getF_setF_same]
  rfl

theorem guards_seal (s : State) : Guards s (setF 0 .KEEPER_SEALED 1 s) :=
  ⟨fun h => h, fun _ => getF_sealed_setF_one s⟩

end Sys2Proof.Machine
end

section
/-! SUPPORT. Writes and accesses keep memories in canonical form and SEALED set (O5, O6). -/

namespace Sys2Proof.Machine

/-! ### Status words (R84 to R86) -/

@[simp] theorem still_recordIgnored (b : Blk) (u off m reason : Nat) (s : State) :
    still (recordIgnored b u off m reason s) = still s := by
  unfold recordIgnored
  extract_lets counted noted
  have one : still counted = still s := by simp [counted]
  have two : still noted = still counted := by simp [noted]
  simp [one, two]

@[simp] theorem still_endJudging (b : Blk) (u off m : Nat) (enabled locked : Bool) (s : State) :
    still (endJudging b u off m enabled locked s).2 = still s := by
  unfold endJudging
  split
  · exact still_recordIgnored ..
  · split
    · exact still_recordIgnored ..
    · rfl

@[simp] theorem still_clearSts (b : Blk) (u data : Nat) (s : State) : still (clearSts b u data s) = still s := by
  simp [clearSts]

@[simp] theorem still_clearFirst (b : Blk) (u data : Nat) (s : State) : still (clearFirst b u data s) = still s := by
  simp [clearFirst]

@[simp] theorem still_clearIgn (b : Blk) (u data : Nat) (s : State) : still (clearIgn b u data s) = still s := by
  simp [clearIgn]

/-! ### Table windows (R97, R98) -/

theorem kept_writeStream (p i : Nat) (l : List Nat) (s : State) : (still (writeStream p i l s).2).1 = (still s).1 := by
  unfold writeStream
  extract_lets old a c new ignored stored sen
  have one : still stored = still s := by simp [stored]
  split
  · exact congrArg Prod.fst ((still_enableStream p i stored).trans one)
  · split
    · exact (kept_disableStream p i stored).trans (congrArg Prod.fst one)
    · exact congrArg Prod.fst one

theorem still_writeTone (p e v : Nat) (s : State) : still (writeTone p e v s).2 = still s := by
  unfold writeTone
  dsimp only
  repeat' split
  all_goals simp

theorem kept_writeEntry (b : Blk) (u off e : Nat) (l : List Nat) (s : State) :
    (still (writeEntry b u off e l s).2).1 = (still s).1 := by
  unfold writeEntry
  split
  · split
    · exact kept_writeStream u e l s
    · rfl
  · exact congrArg Prod.fst (still_writeTone u e _ s)
  · split <;> rfl
  · rfl

theorem kept_writeWindow (m : Nat) (b : Blk) (u off entries words data : Nat) (s : State) :
    (still (writeWindow m b u off entries words data s).2).1 = (still s).1 := by
  unfold writeWindow
  dsimp only
  split
  · rfl
  · split
    · rfl
    · rw [still_endJudging, kept_writeEntry]
      rfl

theorem kept_readWindow (m : Nat) (b : Blk) (u off entries words : Nat) (s : State) :
    (still (readWindow m b u off entries words s).2.2).1 = (still s).1 := by
  unfold readWindow
  dsimp only
  repeat' split
  all_goals rfl

/-! ### Commands (R90) -/

@[simp] theorem still_startSnapClr {f : Fld} (h : f.sparesCmd = true) (b : Blk) (u : Nat) (s : State) :
    still (startSnapClr b u f s) = still s := by
  unfold startSnapClr
  extract_lets cleared zeroed
  have one : still cleared = still s := still_clearCounters b u s
  have two : still zeroed = still cleared := by
    simp only [zeroed]
    split <;> simp +decide
  simp [one, two, h]

@[simp] theorem still_startTimeCmd {f : Fld} (h : f.sparesCmd = true) (s : State) : still (startTimeCmd f s) = still s := by
  simp [startTimeCmd, h]

@[simp] theorem still_startSet (s : State) : still (startSet s) = still s := by
  simp +decide [startSet]

@[simp] theorem still_startStep (s : State) : still (startStep s) = still s := by
  simp +decide [startStep]

@[simp] theorem still_startReset (s : State) : still (startReset s) = still s := by
  simp +decide [startReset]

@[simp] theorem still_startWakeClr (s : State) : still (startWakeClr s) = still s := by
  simp +decide [startWakeClr]

@[simp] theorem still_startPeakClr (n : Nat) (s : State) : still (startPeakClr n s) = still s := by
  simp +decide [startPeakClr]

@[simp] theorem still_startPop (p : Nat) (rx : Bool) (s : State) : still (startPop p rx s) = still s := by
  cases rx <;> simp +decide [startPop]

theorem still_bankedEnd (m : Nat) (f : Fld) (oc : Nat) (s : State) : still (bankedEnd m f oc s) = still s := (rfl)

theorem still_acceptNomination (m : Nat) (s : State) : still (acceptNomination m s) = still s := by
  unfold acceptNomination
  dsimp only
  repeat' split
  all_goals simp [still_bankedEnd]

theorem still_requestNonce (m rand : Nat) (s : State) : still (requestNonce m rand s) = still s := by
  unfold requestNonce
  split
  · rfl
  · rw [still_bankedEnd]
    exact still_forAll _ s fun _ _ _ => still_setB _ _ _ _ _

theorem still_startKeeperCmd (m : Nat) (f : Fld) (x : Ext) (s : State) : still (startKeeperCmd m f x s) = still s := by
  unfold startKeeperCmd
  split
  · exact still_cmdStart (f := .KEEPER_NOMINATE) (by decide) 0 _
  · split
    · exact still_acceptNomination m s
    · split
      · exact still_requestNonce m _ _
      · simp +decide [startKeyProgram]

theorem guards_startLayoutCmd (f : Fld) (s : State) : Guards s (startLayoutCmd f s) := by
  unfold startLayoutCmd
  refine guards_ite _ (guards_of_still (still_startVerify s)) ?_
  refine guards_ite _ (guards_of_still (still_startStage s)) ?_
  refine guards_ite _ (guards_of_still (still_startApply s)) ?_
  refine guards_ite _ (guards_startActivate s) ?_
  refine guards_ite _ (guards_of_still (still_confirm s)) ?_
  exact guards_ite _ (guards_of_still (still_raiseRollback s)) (guards_of_still (still_programOem s))

theorem guards_startOwnCmd (m u : Nat) (f : Fld) (x : Ext) (s : State) : Guards s (startOwnCmd m u f x s) := by
  unfold startOwnCmd
  split
  case h_1 => exact guards_of_still (still_startKeeperCmd m f x s)
  case h_2 => exact guards_of_still (still_startReset s)
  case h_3 => exact guards_of_still (still_startMeas s)
  case h_4 => exact guards_ite _ (sends_startStateGo s).guards (guards_of_still (still_startWakeClr s))
  case h_5 => exact guards_startLayoutCmd f s
  case h_6 => exact guards_of_still (still_startSave s)
  case h_7 => exact guards_ite _ (guards_of_still (still_startSet s)) (guards_of_still (still_startStep s))
  case h_8 => exact guards_of_still (still_startFlash s)
  case h_9 => exact guards_of_still (still_startPeakClr u s)
  case h_10 => exact guards_ite _ (guards_of_still (still_startReconf u s)) (sends_startRetrainCmd u s).guards
  case h_11 => exact guards_of_still (by simp +decide)
  case h_12 =>
    have started : still (startTdr u { s with fresh := s.fresh + 2 }) = still s := still_startTdr u _
    exact guards_ite _ (guards_of_kept ((kept_firstChirp u _ _).trans (congrArg Prod.fst started))) (guards_of_still started)
  case h_13 => exact guards_of_still (still_startBaseSave u s)
  case h_14 => exact guards_of_still (still_startPop u _ s)
  case h_15 => exact guards_ite _ (guards_of_still (still_startSend u s)) (guards_of_still (still_startRelease u s))
  case h_16 => exact guards_of_still (still_startHybCmd u s)
  case h_17 => exact .refl s

theorem guards_startCmd {f : Fld} (h : f.sparesCmd = true) (m u : Nat) (x : Ext) (s : State) :
    Guards s (startCmd m u f x s) := by
  unfold startCmd
  refine guards_ite _ (guards_of_still (still_startFire f.blk u s)) ?_
  refine guards_ite _ (guards_of_still (still_startSnapClr h f.blk u s)) ?_
  exact guards_ite _ (guards_of_still (by simp [h])) (guards_startOwnCmd m u f x s)

theorem guards_abortCmd (u : Nat) (f : Fld) (s : State) : Guards s (abortCmd u f s) := by
  unfold abortCmd
  extract_lets noted
  have one : still noted = still s := rfl
  refine guards_of_still (Eq.trans ?_ one)
  repeat' split
  all_goals simp

/-! ### Fields (R82, R83) -/

theorem sparesSeal_or_sealed {b : Blk} {f : Fld} (hf : f ∈ blkFlds b) : f.sparesSeal = true ∨ f = .KEEPER_SEALED := by
  have fields : ∀ b, ∀ f ∈ blkFlds b, f.sparesSeal = true ∨ f = .KEEPER_SEALED := by
    intro b
    cases b <;> decide +kernel
  exact fields b f hf

/-- No write stores SEALED: it is a read-only field (R56). -/
theorem sparesSeal_of_store {b : Blk} {f : Fld} (hf : f ∈ blkFlds b) {m u v : Nat} {s : State}
    (h : judgeF m u f v s = .store) : f.sparesSeal = true := by
  have kept : judgeF m u .KEEPER_SEALED v s = .keep := by
    have acts : actsAlways .KEEPER_SEALED = false := rfl
    have type : Fld.KEEPER_SEALED.ty = .ro := rfl
    simp [judgeF, acts, type]
  rcases sparesSeal_or_sealed hf with h' | rfl
  · exact h'
  · rw [kept] at h
    exact absurd h (by decide)

/-- A command starts only in a command field, which lies elsewhere than SEALED. -/
theorem sparesCmd_of_start {b : Blk} {f : Fld} (hf : f ∈ blkFlds b) {m u v : Nat} {s : State}
    (h : judgeF m u f v s = .start) : f.sparesCmd = true := by
  have fields : ∀ b, ∀ f ∈ blkFlds b, f.ty = .cmd → f.sparesCmd = true := by
    intro b
    cases b <;> decide +kernel
  refine fields b f hf ?_
  unfold judgeF at h
  dsimp only at h
  repeat' split at h
  all_goals simp_all

@[simp] theorem still_storeF {f : Fld} (h : f.sparesSeal = true) (m u v : Nat) (s : State) : still (storeF m u f v s) = still s := by
  simp [storeF, h]

theorem guards_afterWrite (m u : Nat) (f : Fld) (v : Nat) (s : State) : Guards s (afterWrite m u f v s) := by
  have armed : ∀ n, still { s with armLeft := n } = still s := fun _ => rfl
  unfold afterWrite
  refine guards_ite _ (guards_ite _ (sends_setEn _ _ _ s).guards (.refl s)) ?_
  refine guards_ite _ (guards_of_still (still_irqUpdate _ _ s)) ?_
  split
  case h_1 => exact guards_ite _ (guards_of_still (by simp [heartbeat])) (.refl s)
  case h_2 => exact guards_ite _ (sends_gateFollow _ s).guards (.refl s)
  case h_3 => exact guards_ite _ (guards_loadWord v s) (.refl s)
  case h_4 => exact guards_reportInterrupted s
  case h_5 => exact guards_ite _ (guards_ite _ (guards_of_still (armed _)) (guards_of_still (armed 0))) (.refl s)
  case h_6 => exact guards_ite _ (guards_of_still (still_setF (by decide) _ _ s)) (.refl s)
  case h_7 => exact guards_ite _ (sends_muteLine u s).guards (.refl s)
  case h_8 => exact guards_ite _ (sends_updPressures u s).guards (.refl s)
  case h_9 => exact guards_ite _ (sends_setLoop u v s).guards (.refl s)
  case h_10 => exact guards_ite _ (guards_of_still (by simp +decide)) (.refl s)
  case h_11 => exact .refl s

theorem guards_writeFields (m : Nat) (b : Blk) (u off data : Nat) (x : Ext) (s : State) :
    Guards s (writeFields m b u off data x s).2 := by
  have inBlk : ∀ f ∈ fldsAt b off, f ∈ blkFlds b := fun f hf => List.mem_of_mem_filter hf
  unfold writeFields
  extract_lets l given stored after started aborted
  have judged : ∀ v, ∀ e ∈ given v, e.1 ∈ blkFlds b ∧ judgeF m u e.1 e.2.1 s = v := by
    intro v e he
    obtain ⟨hl, hv⟩ := List.mem_filter.mp he
    obtain ⟨f, hf, rfl⟩ := List.mem_map.mp hl
    exact ⟨inBlk f hf, by simpa using hv⟩
  have one : still stored = still s :=
    still_forAll _ s fun e he t => still_storeF (sparesSeal_of_store (judged _ e he).1 (judged _ e he).2) m u e.2.1 t
  have two : Guards stored after := guards_forAll _ stored fun e _ t => guards_afterWrite m u e.1 e.2.1 t
  have three : Guards after started := guards_forAll _ after fun e he t =>
    guards_startCmd (sparesCmd_of_start (judged _ e he).1 (judged _ e he).2) m u x t
  have four : Guards started aborted := guards_forAll _ started fun e _ t => guards_abortCmd u e.1 t
  exact (((two.after one).trans three).trans four).still (still_endJudging _ _ _ _ _ _ _)

theorem guards_writeReg (m : Nat) (b : Blk) (u off data : Nat) (x : Ext) (s : State) :
    Guards s (writeReg m b u off data x s).2 := by
  unfold writeReg
  split
  · exact guards_of_still (still_clearSts b u data s)
  · split
    · exact guards_of_still (still_clearFirst b u data s)
    · split
      · exact guards_of_still (still_clearIgn b u data s)
      · split
        · exact guards_of_kept (kept_writeWindow m b u off _ _ data s)
        · exact guards_writeFields m b u off data x s

theorem kept_captureOn (m : Nat) (b : Blk) (u off : Nat) (s : State) : (still (captureOn m b u off s)).1 = (still s).1 := by
  have shown : ∀ v, (still (setF u .LINKUP_CL45_ERR v s)).1 = (still s).1 := fun v => by simp +decide
  unfold captureOn
  dsimp only
  split
  case h_4 =>
    split
    · exact shown _
    · rfl
  all_goals repeat' split
  all_goals rfl

theorem kept_readReg (m : Nat) (b : Blk) (u off : Nat) (s : State) : (still (readReg m b u off s).2.2).1 = (still s).1 := by
  unfold readReg
  split
  · exact kept_readWindow m b u off _ _ s
  · split
    · dsimp only [readCounter]
      repeat' split
      all_goals rfl
    · exact kept_captureOn m b u off s

/-! ### Accesses (R40 to R45, R348) -/

theorem guards_performOp (a : Access) (s : State) : Guards s (performOp a s).2.2 := by
  have reads : Guards s (readOp a.req.mtag.toNat a.req.addr.toNat s).2.2 := by
    unfold readOp
    split
    · exact guards_of_kept (kept_readReg _ _ _ _ s)
    · exact .refl s
    · exact .refl s
  have writes : ∀ x, Guards s (writeOp a.req.mtag.toNat a.req.addr.toNat a.req.data.toNat x s).2 := fun x => by
    unfold writeOp
    split
    · exact guards_writeReg _ _ _ _ _ x s
    · exact guards_postWord _ _ s
    · exact .refl s
  have enables : ∀ p i on, Guards s (senOp p i on s).2 := fun p i on =>
    (guards_of_kept (kept_writeStream p i _ s)).still (still_endJudging _ _ _ _ _ _ _)
  unfold performOp
  dsimp only
  split
  · exact reads
  · split
    · exact guards_of_still (still_claimKeeper _ _ s)
    · split
      · exact writes _
      · exact writes _
      · exact enables _ _ _

theorem kept_answer (r : Req) (op code data : Nat) (s : State) : (still (answer r op code data s)).1 = (still s).1 := by
  have counted : still (when (code == 3) (countRefusal r.mtag.toNat) s) = still s := by
    have spares : (Fld.KEEPER_VISIT_REJ r.mtag.toNat).sparesSeal = true := by
      simp [Fld.sparesSeal, Fld.clearOfSeal, Fld.KEEPER_VISIT_REJ, Fld.KEEPER_SEALED]; omega
    simp [countRefusal, spares]
  unfold answer
  dsimp only
  split
  · rw [counted]
  · rw [kept_respond, counted]

theorem guards_landAccess (a : Access) (s : State) : Guards s (landAccess a s) :=
  (guards_performOp a s).trans (guards_of_kept (kept_answer _ _ _ _ _))

theorem guards_beginAccess (a : Access) (s : State) : Guards s (beginAccess a s) := by
  unfold beginAccess
  split
  · exact guards_of_kept (kept_answer _ _ _ _ s)
  · split
    · exact guards_landAccess a s
    · exact ⟨id, id⟩

theorem guards_startNext (m n : Nat) (s : State) : Guards s (startNext m n s) := by
  induction n generalizing s with
  | zero => exact .refl s
  | succ n ih =>
    unfold startNext
    split
    · exact .refl s
    · split
      · exact .refl s
      · next a _ _ =>
        have dropped : Guards s { s with access := dropFirst m s.access } := ⟨id, id⟩
        exact (dropped.trans (guards_beginAccess a _)).trans (ih _)

theorem guards_endCrossing {f : State → State} (h : ∀ t, Guards t (f t)) (m : Nat) (s : State) :
    Guards s (endCrossing m f s) := by
  have dropped : Guards s { s with access := dropFirst m s.access } := ⟨id, id⟩
  exact (dropped.trans (h _)).trans (guards_startNext m _ _)

theorem guards_submit (a : Access) (s : State) : Guards s (submit a s) := by
  unfold submit
  dsimp only
  split
  · exact guards_of_kept (kept_answer _ _ _ _ s)
  · split
    · exact guards_beginAccess a s
    · exact ⟨id, id⟩

theorem guards_resolveTimedOut (k : Nat) (landed : Bool) (s : State) : Guards s (resolveTimedOut k landed s) := by
  unfold resolveTimedOut
  split
  · exact .refl s
  · next a _ =>
    extract_lets land newest less done noted
    have one : Guards s less := ⟨id, id⟩
    have two : Guards less done := guards_ite _ (guards_performOp a less) (.refl less)
    have three : still noted = still done := by simp +decide [noted]
    exact ((one.trans two).still three).still (still_sticky _ _ _)

theorem guards_dropCrossings (n : Nat) (s : State) : Guards s (dropCrossings n s) := by
  induction n generalizing s with
  | zero => exact .refl s
  | succ n ih =>
    unfold dropCrossings
    split
    · exact .refl s
    · exact (guards_endCrossing (fun t => guards_of_kept (kept_answer _ _ _ _ t)) _ s).trans (ih _)

theorem guards_dropTimedOut (n : Nat) (s : State) : Guards s (dropTimedOut n s) := by
  induction n generalizing s with
  | zero => exact .refl s
  | succ n ih =>
    unfold dropTimedOut
    split
    · exact .refl s
    · exact (guards_resolveTimedOut _ false s).trans (ih _)

theorem guards_pumpLane (p n : Nat) (s : State) : Guards s (pumpLane p n s) := by
  induction n generalizing s with
  | zero => exact .refl s
  | succ n ih =>
    unfold pumpLane
    split
    · exact .refl s
    · split
      · exact .refl s
      · dsimp only
        split
        · exact .refl s
        · exact ((guards_submit _ _).after (still_modLane p _ s)).trans (ih _)

theorem guards_settle (s : State) : Guards s (settle s) :=
  ((guards_dropCrossings _ s).trans (guards_dropTimedOut _ _)).trans (guards_forAll _ _ fun p _ => guards_pumpLane p 17)

theorem sends_consumeFrame (src : Src) (s : State) : Sends s (consumeFrame src s) := by
  unfold consumeFrame
  split
  · exact (sends_when _ (sends_emit _ s)).still (still_count (by decide) 0 _)
  · exact .refl s

theorem guards_regAccess (w : Acc) (op a : Nat) (act : Act) (s : State) : Guards s (regAccess w op a act s) :=
  guards_ite _ (((sends_consumeFrame w.src s).guards.trans (guards_submit _ _)).trans (guards_settle _)) (.refl s)

theorem sends_forward (side : Side) (f : Frame) (s : State) : Sends s (forward side f s) := sends_when _ (sends_emit _ s)

theorem guards_arriveRequest (r : Req) (op : Nat) (s : State) : Guards s (arriveRequest r op s) := by
  unfold arriveRequest
  split
  · exact (guards_submit _ s).trans (guards_settle _)
  · split
    · exact ((sends_consumeFrame r.src s).guards.trans (guards_submit _ _)).trans (guards_settle _)
    · exact (sends_forward _ _ s).guards

end Sys2Proof.Machine
end

section
/-! SUPPORT. What commands do to memories, SEALED and the record of what has left (O4 to O6, O60). -/

namespace Sys2Proof.Machine

/-! ### Events of the device that only send -/

/-- On the way to the next state that an answer gives, the device only sends. -/
def SendsTo (s : State) (a : Answer) : Prop := ∀ t, a = .next t → Sends s t

theorem sendsTo_next {s t : State} (h : Sends s t) : SendsTo s (.next t) := by
  rintro _ ⟨⟩
  exact h

theorem sendsTo_still {s t : State} (h : still t = still s) : SendsTo s (.next t) := sendsTo_next (sends_of_still h)

theorem sends_passOn (side : Side) (f out : Frame) (s : State) : Sends s (passOn side f out s) := by
  unfold passOn
  extract_lets gone
  have first : Sends s gone := sends_forward side out s
  refine sends_ite _ (first.trans ?_) first
  exact sends_when _ (sends_emit _ gone)

@[simp] theorem still_enumerate (m data : Nat) (s : State) : still (enumerate m data s).2 = still s := by
  unfold enumerate
  extract_lets counter restart allowed freed
  have first : still freed = still s := by simp +decide [freed]
  repeat' split
  all_goals simp +decide [first]

@[simp] theorem still_takeTime (addr data : Nat) (s : State) : still (takeTime addr data s) = still s := by
  unfold takeTime
  dsimp only
  rw [still_sticky, still_setAll _ _ (by simp +decide), still_cmdStop (by decide), still_cmdStop (by decide), still_modClk,
    still_setNow]

theorem sends_startHop (s : State) : Sends s (startHop s) := by
  have waits : still { s with hopWait := true } = still s := rfl
  exact sends_ite _ ((sends_emit _ _).after waits) (.refl s)

theorem sends_sendEvent (s : State) : Sends s (sendEvent s) := by
  unfold sendEvent
  split
  · exact .refl s
  · next rest _ =>
    have left : still { s with events := rest } = still s := rfl
    exact sends_ite _ ((sends_when _ (sends_emit _ _)).after left) ((sends_when _ (sends_emit _ _)).after left)

theorem sends_chainLock (side : Side) (locked : Bool) (s : State) : SendsTo s (execChainLockChange side locked s) := by
  cases side
  case A =>
    have link : ∀ v, still (setF 0 .CHAIN_LINK_A v s) = still s := fun v => still_setF (by decide) 0 v s
    exact sendsTo_next (sends_ite _ (.refl s) (sends_ite _ (sends_of_still ((still_sticky _ _ _).trans (link _)))
      ((sends_startHop _).after (link _))))
  case B =>
    have link : ∀ v, still (setF 0 .CHAIN_LINK_B v s) = still s := fun v => still_setF (by decide) 0 v s
    exact sendsTo_next (sends_ite _ (.refl s) (sends_ite _ (sends_of_still ((still_sticky _ _ _).trans (link _)))
      (sends_of_still (link _))))

theorem sends_crcError (side : Side) (f : Frame) (s : State) : SendsTo s (execCrcErrorFrame side f s) := by
  have voided : Sends s (if replaced f s then forward side idleFrame s else
      when s.forwarding (emit (.void (Side.other side))) s) :=
    sends_ite _ (sends_forward side idleFrame s) (sends_when _ (sends_emit _ s))
  refine sendsTo_next (sends_ite _ (sends_forward side f s) (voided.still ((still_sticky _ _ _).trans ?_)))
  cases side <;> exact still_count (by decide) 0 _

/-- Staging that is complete (R69). -/
theorem still_completed (s : State) : still (match s.staging with
    | some g => if g.complete || g.dead then s
      else setF 0 .CHAIN_STAGED 1 { s with staging := some { g with complete := true } }
    | none => s) = still s := by
  split
  · split
    · rfl
    · exact still_setF (by decide) _ _ _
  · rfl

/-- A contained fault of an element (R397). -/
theorem sends_substitution (n : Nat) (e : Elem) (detail : Nat) (s : State) : Sends s
    (let src := match e with
      | .engine => some 0x10
      | .pipe => some 0x11
      | .decoder => some 0x12
      | .rows => none
    match src with
    | some k => if getF n .PAV_WEAR_AUTO_SUB s = 1 then detect .PAV_CTL n k detail s else s
    | none => s) := by
  cases e
  case rows => exact .refl s
  all_goals exact sends_ite _ (sends_detect _ _ _ _ s) (.refl s)

theorem sends_laybyEcc (n p : Nat) (corrected : Bool) (bank row : Nat) (rx : Bool) (node cls ms : Nat) (s : State) : Sends s
    (if !domainOn (10 + n) s then s
    else if corrected then noteRow n bank row (detect .LAYBY n 0x10 bank s)
    else loseSlot p rx node cls ms (detect .LAYBY n 0x11 bank s)) :=
  sends_ite _ (.refl s) (sends_ite _ ((sends_detect _ _ _ _ s).still (still_noteRow _ _ _ _))
    ((sends_detect _ _ _ _ s).trans (sends_loseSlot _ _ _ _ _ _)))

/-- The events of the device only send, but for a scrub, the end of a key write and a mode change. -/
theorem sends_deviceEvent {c : Instr} (h : deviceEvent c = true) (scrub : c ≠ .tmrScrub) (key : ∀ m, c ≠ .keyProgramDone m)
    (mode : c ≠ .modeCommitT) (s : State) : SendsTo s (exec c s) := by
  cases c
  case chainFrameForward side f => exact sendsTo_next (sends_forward side f s)
  case resp side f => exact sendsTo_next (sends_forward side f s)
  case event side f => exact sendsTo_next (sends_forward side f s)
  case reservedOpFrame side f => exact sendsTo_next (sends_forward side _ s)
  case voidFrame side => exact sendsTo_next (sends_when _ (sends_emit _ s))
  case hopRequestRx => exact sendsTo_next (sends_when _ (sends_emit _ s))
  case crcErrorFrame side f => exact sends_crcError side f s
  case eventTransmit => exact sendsTo_next (sends_sendEvent s)
  case enum side f =>
    exact sendsTo_next (sends_ite _ (sends_forward side f s) ((sends_passOn side f _ _).after (still_enumerate _ _ s)))
  case prepare side f =>
    exact sendsTo_next (sends_ite _ (sends_forward side f s) ((sends_passOn side f _ _).after (still_onPrepare _ _ s)))
  case commit side f =>
    exact sendsTo_next (sends_ite _ (sends_forward side f s) ((sends_passOn side f f _).after (still_onCommit _ _ _ s)))
  case timeset side f =>
    exact sendsTo_next (sends_ite _ (sends_forward side f s) (sends_ite _ (sends_passOn side f f s)
      ((sends_passOn side f _ _).after (still_takeTime _ _ s))))
  case chainLockChange side locked => exact sends_chainLock side locked s
  case hopMeasure => exact sendsTo_next (sends_startHop s)
  case hopReflectionRx rtt =>
    have heard : still { s with hopWait := false } = still s := rfl
    exact sendsTo_still (by split <;> simp +decide only [still_setF, setAll_cons, setAll_nil, heard])
  case hopReflectTimeout =>
    have heard : still { s with hopWait := false } = still s := rfl
    exact sendsTo_still (by split <;> simp +decide only [still_setF, setAll_cons, setAll_nil, heard])
  case leaseExpiry => exact sendsTo_still (by simp)
  case nominateTimeout => exact sendsTo_still (by simp)
  case nonceExpiry m refusal => cases refusal <;> exact sendsTo_still rfl
  case stagingComplete => exact sendsTo_next (sends_coreEvent (sends_of_still (still_completed s)))
  case verifyDone contents => exact sendsTo_next (sends_coreEvent (sends_of_still (still_verifyDone contents s)))
  case stageCopyDone => exact sendsTo_next (sends_coreEvent (sends_of_still (still_stageCopied s)))
  case applyCommit => exact sendsTo_next (sends_coreEvent (sends_applyCommitted s))
  case flashSectorDone => exact sendsTo_next (sends_coreEvent (sends_flashSectorDone s))
  case pavEnableDeferred n => exact sendsTo_next (sends_clockEvent (sends_of_still (by simp)))
  case pavilionBringup n => exact sendsTo_next (sends_coreEvent (sends_ite _ (sends_bringUp n true s) (.refl s)))
  case pavEnableDone n => exact sendsTo_next (sends_clockEvent (sends_enableDone n s))
  case pavDisableDone n => exact sendsTo_next (sends_clockEvent (sends_of_still (still_disableDone n s)))
  case deepWakeDetect p => exact sendsTo_next (sends_wakeFires p s)
  case wdtKick en time => exact sendsTo_still (by simp +decide)
  case boscQualified strapCount => exact sendsTo_still (still_boscQualified _ s)
  case rootQualified => exact sendsTo_next (sends_rootQualified s)
  case pllLock => exact sendsTo_still (still_pllLock s)
  case rootSwitchB => exact sendsTo_still (still_rootToB s)
  case rootSwitchA => exact sendsTo_still (still_rootToA s)
  case rootEdgeLoss => exact sendsTo_still (by simp +decide)
  case rootMonitorBad => exact sendsTo_still (by simp)
  case safeEntry => exact sendsTo_still (still_safeEntry s)
  case rootReturn => exact sendsTo_next (sends_rootReturn s)
  case linePllLockLoss => exact sendsTo_next (sends_pllLost s)
  case measDone count => exact sendsTo_still (by simp +decide)
  case measTimeout => exact sendsTo_still (by simp +decide)
  case tapTckEdge tms tdi trst => exact sendsTo_still (by simp)
  case bgCalDone p power kurt impulse dev ratio trims =>
    exact sendsTo_next (sends_portEvent (sends_bgDone _ _ _ _ _ _ _ s))
  case saveDone sectorFailed => exact sendsTo_next (sends_saveDone sectorFailed s)
  case svBaseSaveDone p => exact sendsTo_next (sends_portEvent (sends_of_still (by simp)))
  case wearMeasure n drift tj => exact sendsTo_next (sends_clockEvent (sends_of_still (still_measureWear _ _ _ s)))
  case autoSubstitution n e detail => exact sendsTo_next (sends_clockEvent (sends_substitution n e detail s))
  case substitutionDone n => exact sendsTo_next (sends_clockEvent (sends_substituted n s))
  case selftestKernelDone n e index passed =>
    exact sendsTo_next (sends_clockEvent (sends_of_still (still_selfTest _ _ _ _ s)))
  case armTimeExpiry => exact sendsTo_still (still_disarm true s)
  case laybyEccError p corrected bank row rx node cls ms =>
    exact sendsTo_next (sends_portEvent (sends_laybyEcc (pavOf p) p corrected bank.toNat row rx node cls ms.toNat s))
  case tmrScrub => exact absurd rfl scrub
  case keyProgramDone m => exact absurd rfl (key m)
  case modeCommitT => exact absurd rfl mode
  all_goals exact Bool.noConfusion h

end Sys2Proof.Machine
end

section
/-! SUPPORT. A change of mode leaves the machine quiet; scrubbing rewrites copies alone (O5, O6, O60). -/

namespace Sys2Proof.Machine

/-! ### What a mode change leaves quiet (R71) -/

theorem quiet_modPort {p : Nat} {f : Port → Port} (hf : ∀ x, (f x).lane.ib = x.lane.ib) {s : State} (h : Quiet s) :
    Quiet (modPort p f s) := by
  obtain ⟨access, timedOut, lanes⟩ := h
  refine ⟨access, timedOut, fun k hk => ?_⟩
  by_cases e : k = p
  · subst e
    rw [port_modPort_same, hf]
    exact lanes k hk
  · rw [port_modPort_other _ _ e]
    exact lanes k hk

theorem quiet_modRc (p : Nat) (f : Rc → Rc) {s : State} (h : Quiet s) : Quiet (modRc p f s) :=
  quiet_modPort (f := fun x => { x with rc := f x.rc }) (fun _ => rfl) h

theorem quiet_modOam (p : Nat) (f : Oam → Oam) {s : State} (h : Quiet s) : Quiet (modOam p f s) :=
  quiet_modPort (f := fun x => { x with oam := f x.oam }) (fun _ => rfl) h

theorem quiet_modClk (f : Clk → Clk) {s : State} (h : Quiet s) : Quiet (modClk f s) := h

theorem quiet_forAll {α : Type} {f : α → State → State} (l : List α) {s : State} (hf : ∀ x ∈ l, ∀ t, Quiet t → Quiet (f x t))
    (h : Quiet s) : Quiet (forAll l f s) := by
  induction l generalizing s with
  | nil => exact h
  | cons x l ih => exact ih (fun y hy => hf y (List.mem_cons_of_mem _ hy)) (hf x List.mem_cons_self s h)

theorem quiet_setCause (p c : Nat) {s : State} (h : Quiet s) : Quiet (setCause p c s) :=
  quiet_of_statusOnly (statusOnly_setF p _ c s) h

theorem quiet_toDisabled (p : Nat) {s : State} (h : Quiet s) : Quiet (toDisabled p s) :=
  quiet_of_outside (outside_toDisabled p s) (inband_toDisabled p s) h

theorem quiet_dropStaging {s : State} (h : Quiet s) : Quiet (dropStaging s) := by
  have dropped : Quiet { s with staging := none } := h
  exact quiet_of_statusOnly (statusOnly_setAll 0 _ _) dropped

theorem quiet_noteMissed (gen : Nat) {s : State} (h : Quiet s) : Quiet (noteMissed gen s) :=
  quiet_of_statusOnly (statusOnly_sticky _ 0 _) (quiet_of_statusOnly (statusOnly_setF 0 _ gen s) h)

theorem quiet_switchState (st : Nat) {s : State} (h : Quiet s) : Quiet (switchState st s) := by
  unfold switchState
  extract_lets old switched noted downs dark
  have first : Quiet switched := quiet_modClk _ (quiet_of_statusOnly (statusOnly_setF 0 _ st s) h)
  have second : Quiet noted := quiet_of_statusOnly (statusOnly_sticky _ 0 _) (quiet_of_statusOnly (statusOnly_count 0 _ _) first)
  have third : Quiet downs := quiet_forAll _ (fun p _ t ht => by
    split
    · exact ht
    · exact quiet_setCause p 1 (quiet_toDisabled p ht)) second
  have fourth : Quiet dark := quiet_modClk _ third
  split
  · exact first
  · split
    · exact quiet_of_statusOnly (statusOnly_setAll 0 _ _) fourth
    · split
      · exact quiet_modClk _ second
      · exact second

theorem quiet_wakeTakes (ps : List Nat) {s : State} (h : Quiet s) : Quiet (wakeTakes ps s) := by
  unfold wakeTakes
  extract_lets woken
  have first : Quiet woken := quiet_forAll _ (fun p _ t ht =>
    quiet_of_statusOnly (statusOnly_sticky _ 0 _) (quiet_of_statusOnly (statusOnly_count 0 _ _)
      (quiet_of_statusOnly (statusOnly_setF 0 _ _ t) ht))) h
  split
  · exact quiet_switchState 1 first
  · exact first

theorem quiet_enterState (st : Nat) {s : State} (h : Quiet s) : Quiet (enterState st s) := by
  unfold enterState
  dsimp only
  split
  · split
    · exact quiet_wakeTakes _ (quiet_modClk _ (quiet_switchState st h))
    · exact quiet_switchState st h
  · exact quiet_switchState st h

theorem quiet_commitState (st : Nat) {s : State} (h : Quiet s) : Quiet (commitState st s) := by
  unfold commitState
  extract_lets stopped
  have first : Quiet stopped := by
    simp only [stopped, when]
    split
    · exact quiet_of_statusOnly (statusOnly_cmdStop 0 _ _ s) h
    · exact h
  exact quiet_enterState st (quiet_modClk _ first)

theorem quiet_rcNext (p : Nat) {s : State} (h : Quiet s) : Quiet (rcNext p s) := by
  unfold rcNext
  split
  · exact quiet_modRc p _ (quiet_modRc p _ h)
  · exact h

theorem quiet_oamPost (p type : Nat) (payload : List Byte) {s : State} (h : Quiet s) : Quiet (oamPost p type payload s) := by
  unfold oamPost oamNext
  split
  · exact quiet_modOam p _ (quiet_modOam p _ h)
  · exact quiet_modOam p _ h

theorem quiet_startReconf (p : Nat) {s : State} (h : Quiet s) : Quiet (startReconf p s) := by
  unfold startReconf
  extract_lets q psd n started l body
  have first : Quiet started := quiet_modRc p _ (quiet_of_statusOnly (statusOnly_cmdStart p _ s) h)
  split
  · exact quiet_of_statusOnly (statusOnly_cmdEnd p _ _ s) h
  · split
    · exact quiet_oamPost p 3 body (quiet_modRc p _ first)
    · exact quiet_modRc p _ (quiet_rcNext p (quiet_modRc p _ first))

theorem quiet_commitPort (x : Nat × Nat × Nat × Nat) {s : State} (h : Quiet s) : Quiet (commitPort x s) := by
  unfold commitPort
  extract_lets p staged
  have first : Quiet staged := quiet_of_statusOnly (statusOnly_setAll p _ s) h
  split
  · exact h
  · split
    · exact first
    · exact quiet_startReconf p first

theorem quiet_modeAtT {s : State} (h : Quiet s) : Quiet (modeAtT s) := by
  unfold modeAtT
  split
  · exact h
  · extract_lets dropped entered
    have first : Quiet dropped := quiet_dropStaging h
    have second : Quiet entered := by
      simp only [entered]
      split
      · exact first
      · exact quiet_commitState _ first
    split
    · exact h
    · split
      · exact quiet_noteMissed _ first
      · exact quiet_of_statusOnly (statusOnly_setF 0 _ _ _) (quiet_forAll _ (fun x _ t => quiet_commitPort x) second)

/-! ### Scrubbing (R88) -/

theorem statusOnly_scrubField (u : Nat) (f : Fld) (s : State) : StatusOnly s (scrubField u f s) := by
  unfold scrubField
  split
  · exact .refl s
  · extract_lets v bad rewritten counted
    have first : StatusOnly s rewritten := statusOnly_setF u f v s
    split
    · exact first
    · exact ((first.trans (statusOnly_countBy 0 _ bad _)).trans (statusOnly_setAll 0 _ _)).trans
        (statusOnly_correctedFault _ _ _ _ _)

/-- Each copy of SEALED is rewritten with the majority (R88). -/
theorem sealed_scrubField {b : Blk} {u : Nat} {f : Fld} (hf : f ∈ blkFlds b) (hu : b = .KEEPER → u = 0) {s : State}
    (h : getF 0 .KEEPER_SEALED s = 1) : getF 0 .KEEPER_SEALED (scrubField u f s) = 1 := by
  unfold scrubField
  split
  · exact h
  · extract_lets v bad rewritten counted
    have first : getF 0 .KEEPER_SEALED rewritten = 1 := by
      rcases sparesSeal_or_sealed hf with spares | rfl
      · exact (getF_sealed_of_kept (congrArg Prod.fst (still_setF spares u v s))).trans h
      · obtain rfl : u = 0 := hu (blkFlds_blk_lo hf).1.symm
        have one : v = 1 := h
        simp only [rewritten, one, getF_sealed_setF_one]
    split
    · exact first
    · refine (getF_sealed_of_kept (congrArg Prod.fst ?_)).trans first
      simp +decide [counted]

end Sys2Proof.Machine
end

section
/-! CERTIFICATES. Memories in canonical form, SEALED for good, and device events that store nothing (O4 to O6, O60). -/

namespace Sys2Proof.Machine

/-! ### Every command keeps memories in canonical form, and SEALED set -/

/-- In the next state that an answer gives, memories are still in canonical form and SEALED is still set. -/
def GuardsTo (s : State) (a : Answer) : Prop := ∀ t, a = .next t → Guards s t

theorem guardsTo_next {s t : State} (h : Guards s t) : GuardsTo s (.next t) := by
  rintro _ ⟨⟩
  exact h

theorem guardsTo_regAccess (w : Acc) (op a : Nat) (act : Act) (s : State) : GuardsTo s (.next (regAccess w op a act s)) :=
  guardsTo_next (guards_regAccess w op a act s)

/-- The line events of a port. -/
theorem guardsTo_linePort {c : Instr} {p : Fin 8} (h : linePort c = some p) (s : State) : GuardsTo s (exec c s) :=
  fun t answer => guards_of_kept (kept_of_outside (keepsOutside_exec h s t answer))

theorem guards_tmrScrub (s : State) : GuardsTo s (execTmrScrub s) := by
  have units : ∀ x ∈ allBlks, x.1 = .KEEPER → x.2 = 0 := by decide +kernel
  have visit : ∀ x ∈ allBlks, ∀ t, Guards t (forAll ((blkFlds x.1).filter fun f => f.tmr) (scrubField x.2) t) :=
    fun x hx t => guards_forAll _ t fun f hf r =>
      ⟨fun h => by
        obtain ⟨-, post, -, -, loader, -⟩ := (statusOnly_scrubField x.2 f r).frame
        rw [CanonicalMemory, post, loader]
        exact h, sealed_scrubField (List.mem_of_mem_filter hf) (units x hx)⟩
  exact guardsTo_next ((guards_ite _ (.refl s) (guards_forAll _ s visit)).still (still_count (by decide) 0 _))

theorem guards_keyProgramDone (matched : Bool) (s : State) : GuardsTo s (execKeyProgramDone matched s) := by
  have spares : (Fld.KEEPER_KEY_PROGRAM).sparesCmd = true := by decide
  exact guardsTo_next (guards_ite _ (.refl s) (guards_ite _ ((guards_seal s).still (still_cmdEnd spares _ _ _))
    (guards_of_still (still_cmdEnd spares _ _ s))))

theorem guards_sendResponse (p : Nat) (s : State) : Guards s (sendResponse p s) := by
  unfold sendResponse
  split
  · exact .refl s
  · extract_lets bytes less
    have first : still less = still s := by simp +decide [less]
    refine guards_ite _ (.refl s) (Guards.trans ?_ (guards_settle _))
    exact (sends_when _ (sends_emit _ less)).guards.after first

theorem guards_onInband (p src version count : Nat) (records : List (List Byte)) (s : State) :
    Guards s (onInband p src version count records s) := by
  unfold onInband
  split
  · exact guards_of_still (by simp +decide)
  · exact (guards_settle _).after (still_modLane p _ s)

@[simp] theorem still_macControl (p opcode enable : Nat) (quanta : List Nat) (s : State) :
    still (macControl p opcode enable quanta s) = still s := by
  simp +decide [macControl]

@[simp] theorem still_noteFec (p : Nat) (f : EthFrame) (s : State) : still (noteFec p f s) = still s := by
  simp +decide [noteFec]

theorem guards_fromHost (p : Nat) (f : EthFrame) (s : State) : Guards s (fromHost p f s) := by
  unfold fromHost
  extract_lets noted body quanta op
  have first : still noted = still s := still_noteFec p f s
  refine Guards.after ?_ first
  split
  · exact .refl noted
  · split
    · exact (sends_emit _ noted).guards
    · split
      · exact guards_of_still (by simp +decide)
      · split
        · split <;> exact guards_of_still (still_macControl _ _ _ _ noted)
        · split
          · exact guards_onInband _ _ _ _ _ noted
          · exact guards_of_kept (kept_offerFrame p _ noted)

theorem guards_start (x : HsRx) (s : State) : GuardsTo s (execStart x s) := by
  have heard : (still (hearHs x.port x.head 3 [] (fun s => startT1 x.port s) s)).1 = (still s).1 := by
    unfold hearHs
    split
    · rfl
    · split
      · exact kept_startT1 x.port s
      · split
        · exact kept_of_outside (outside_backToSeek x.port s)
        · rfl
  refine guardsTo_next (guards_ite _ (.refl s) (guards_ite _ ?_ (guards_of_kept heard)))
  exact guards_of_kept (kept_startT1 x.port s)

theorem guardsTo_portEvent {p : Nat} {f : State → State} {s : State} (h : Guards s (f s)) :
    GuardsTo s (.next (portEvent p f s)) := guardsTo_next (guards_ite _ (.refl s) h)

theorem guardsTo_coreEvent {f : State → State} {s : State} (h : Guards s (f s)) : GuardsTo s (.next (coreEvent f s)) :=
  guardsTo_next (guards_ite _ h (.refl s))

theorem guards_loseLodge (s : State) (lodgeIntact : Bool) : Guards s (when (!lodgeIntact) loseLodge s) :=
  guards_when _ (guards_of_still (still_loseLodge s))

theorem guards_rstAssert (s : State) : GuardsTo s (execRstAssert s) := by
  refine guardsTo_next ?_
  split
  · extract_lets ended
    have first : still ended = still s := by simp +decide [ended]
    exact (guards_ite _ (guards_assertReset 3 2 ended) (guards_assertReset 4 1 ended)).after first
  · exact .refl s

theorem guards_supplyFault (rail : Rail) (s : State) : GuardsTo s (execSupplyFault rail s) := by
  refine guardsTo_next ?_
  dsimp only
  split
  · exact guards_ite _ (.refl s) (guards_fatal _ _ _ _ s)
  · exact .refl s

theorem guards_crossingDone (m : BitVec 4) (s : State) : GuardsTo s (execDomainCrossingDone m s) := by
  refine guardsTo_next ?_
  split
  · exact .refl s
  · refine guards_ite _ (.refl s) ((guards_endCrossing (fun t => ?_) _ s).trans (guards_settle _))
    exact guards_ite _ (guards_landAccess _ t) (guards_of_kept (kept_answer _ _ _ _ t))

theorem guards_domainTimeout (m : BitVec 4) (s : State) : GuardsTo s (execDomainTimeout m s) := by
  refine guardsTo_next ?_
  split
  · exact .refl s
  · next a _ =>
    extract_lets noted
    have first : still noted = still s := by simp +decide [noted]
    refine Guards.after ((guards_endCrossing (fun t => ?_) _ noted).trans (guards_settle _)) first
    have late : Guards t { t with timedOut := t.timedOut ++ [a] } := ⟨id, id⟩
    exact late.trans (guards_of_kept (kept_answer _ _ _ _ _))

/-- The events of the device. -/
theorem guardsTo_deviceEvent {c : Instr} (h : deviceEvent c = true) (s : State) : GuardsTo s (exec c s) := by
  by_cases scrub : c = .tmrScrub
  · exact scrub ▸ guards_tmrScrub s
  by_cases key : ∃ m, c = .keyProgramDone m
  · obtain ⟨m, rfl⟩ := key
    exact guards_keyProgramDone m s
  by_cases mode : c = .modeCommitT
  · exact mode ▸ guardsTo_next ((sends_modeAtT s).guards.trans (guards_settle _))
  exact fun t answer => (sends_deviceEvent h scrub (not_exists.mp key) mode s t answer).guards

theorem guardsTo_exec (c : Instr) (s : State) : GuardsTo s (exec c s) := by
  by_cases line : (linePort c).isSome = true
  · obtain ⟨p, hp⟩ := Option.isSome_iff_exists.mp line
    exact guardsTo_linePort hp s
  by_cases device : deviceEvent c = true
  · exact guardsTo_deviceEvent device s
  have other : ¬((linePort c).isSome || deviceEvent c) = true := by simp [line, device]
  cases c
  case read r => exact guardsTo_next (guards_arriveRequest r opRead s)
  case write r => exact guardsTo_next (guards_arriveRequest r opWrite s)
  case claim r => exact guardsTo_next (guards_arriveRequest r opClaim s)
  case bwrite side f =>
    exact guardsTo_next (guards_ite _ (sends_forward side f s).guards
      (((sends_passOn side f f s).guards.trans (guards_submit _ _)).trans (guards_settle _)))
  case domainCrossingDone m => exact guards_crossingDone m s
  case domainTimeout m => exact guards_domainTimeout m s
  case crossingResolved r =>
    exact guardsTo_next (guards_ite _ ((guards_resolveTimedOut _ _ s).trans (guards_settle _)) (.refl s))
  case domainSwitchDone => exact guardsTo_next ((sends_domainSwitched s).guards.trans (guards_settle _))
  case commandTake m => exact guardsTo_coreEvent (guards_takeCommand m s)
  case commandComplete m pos outcome changes results => exact guardsTo_coreEvent (guards_completeCommand _ _ _ _ _ s)
  case fwActivateDone => exact guardsTo_coreEvent (guards_activated s)
  case fwTrialExpiry => exact guardsTo_coreEvent (guards_trialExpires s)
  case fwConfirm w =>
    cases w with
    | some w => exact guardsTo_regAccess w opWrite _ _ s
    | none => exact guardsTo_next (guards_ite _ (guards_of_still (still_confirm s)) (.refl s))
  case hostFrame p f => exact guardsTo_portEvent (guards_fromHost p f s)
  case inbandRequest p srcMac version count records =>
    exact guardsTo_portEvent (guards_ite _ (guards_onInband _ _ _ _ _ s) (.refl s))
  case inbandResponse p => exact guardsTo_portEvent (guards_sendResponse p s)
  case start x => exact guards_start x s
  case t1WindowEnd p o => exact guardsTo_portEvent (guards_of_kept (kept_t1WindowEnds p o s))
  case powerOnReset lodgeIntact => exact guardsTo_next ((guards_loseLodge s lodgeIntact).trans (guards_assertReset 0 3 _))
  case brownOut rail lodgeIntact =>
    exact guardsTo_next (guards_ite _ (.refl s) ((guards_loseLodge s lodgeIntact).trans (guards_assertReset 1 3 _)))
  case resetN lowNs taken => exact guardsTo_next (guards_ite _ (guards_assertReset 2 2 s) (.refl s))
  case rstAssert => exact guards_rstAssert s
  case watchdogExpiry => exact guardsTo_next (guards_ite _ (guards_assertReset 5 1 s) (.refl s))
  case resetEpisodeEnd => exact guardsTo_next (sends_endEpisode s).guards
  case nvmReadDone areaA areaB started corrected duty flashId => exact guardsTo_next (guards_nvmRead _ _ _ _ _ _ s)
  case firmwareStart => exact guardsTo_next (guards_startFirmware s)
  case rootHoldExpiry => exact guardsTo_next (guards_ite _ (guards_fatal _ _ _ _ s) (.refl s))
  case boscQualTimeout => exact guardsTo_next (guards_boscFails s)
  case dbgReset =>
    exact guardsTo_next (guards_ite _ ((guards_assertReset 8 2 _).after (still_sticky _ _ s)) (.refl s))
  case supplyFault rail => exact guards_supplyFault rail s
  case faultDetect b u src detail => exact guardsTo_next (sends_detect b u _ _ s).guards
  case fatalFault b src detail => exact guardsTo_next (guards_ite _ (guards_fatal _ _ _ _ s) (.refl s))
  case injectionWindowEnd b u => exact guardsTo_next (guards_windowEnds b u s)
  case cl45Data p isWrite w =>
    exact guardsTo_next (guards_ite _ (guards_regAccess w opWrite _ _ s) (guards_regAccess w opRead _ _ s))
  case measGo w boscRuns => exact guardsTo_next ((guards_regAccess w opWrite _ _ _).after (still_modClk _ s))
  case counterLowRead | tableDataRead | nowNsRead | txSymCntRead | tsHeadRead | heartbeat | nominate | accept | nonceReq |
      keyProgram | cmdPut | evtGet | blkStsClear | blkFirstClear | blkIgnClear | tableDataWrite | snapClr | peakClr |
      setTime | stepTime | loadData | verify | stage | apply | fwActivate | rollbackRaise | oemProgram | flashProg |
      pavEnable | pavDisable | mute | portEnable | portDisable | reconfGo | send | rxRelease | retrain | storeClr |
      streamEnable | tdrRun | svBaseSave | lbMode | txPop | rxPop | tsuEnClear | rstGo | stateGo | gate | wakeClr |
      hybRecal | save | injArm | fire =>
    exact guardsTo_regAccess _ _ _ _ s
  all_goals exact absurd rfl other

/-! ### 8 ns that pass -/

@[simp] theorem still_advanceTime (s : State) : still (advanceTime s) = still s := by
  unfold advanceTime
  extract_lets sec moved
  have first : still moved = still s := by simp +decide [moved]
  split
  · rfl
  · split
    · rw [still_cmdEnd (by decide), still_setNow, first]
    · exact first

theorem sends_fillIdle (s : State) : Sends s (fillIdle s) := by
  unfold fillIdle
  extract_lets new used put filled
  have puts : ∀ side t, Sends t (put side t) := fun side t => sends_when _ (sends_emit _ t)
  have marked : ∀ (n : Nat) (t : State), still { t with slotMark := n } = still t := fun _ _ => rfl
  have first : Sends s filled := (puts .A s).trans (puts .B _)
  exact sends_ite _ (.refl s) (first.still (marked _ filled))

theorem guards_idle (s : State) : Guards s (idle s) := by
  unfold idle
  extract_lets filled
  have first : Guards s filled := (sends_fillIdle _).guards.after (still_advanceTime s)
  refine (first.trans ?_).trans (guards_settle _)
  exact ⟨id, id⟩

theorem guards_step {s t : State} (h : step s = .next t) : Guards s t := by
  match hp : s.pending with
  | [] =>
    have passed : idle s = t := Host.Outcome.next.inj ((step_nil hp).symm.trans h)
    exact passed ▸ guards_idle s
  | c :: rest =>
    have taken : Guards s { s with pending := rest } := ⟨id, id⟩
    exact taken.trans (guardsTo_exec c { s with pending := rest } t ((step_cons hp).symm.trans h))

/-! ### What device events leave (R34, R45, R71) -/

/-- No byte of memory stored, no access and no command taken, and what was sent stays sent. -/
structure Rests (s t : State) : Prop where
  post : t.post = s.post
  mem : t.loader.mem = s.loader.mem
  pending : t.pending = s.pending
  access : t.access = s.access
  timedOut : t.timedOut = s.timedOut
  sent : s.sent <:+ t.sent

theorem Rests.refl (s : State) : Rests s s := ⟨rfl, rfl, rfl, rfl, rfl, List.suffix_refl _⟩

theorem Rests.trans {s t u : State} (h : Rests s t) (k : Rests t u) : Rests s u :=
  ⟨k.post.trans h.post, k.mem.trans h.mem, k.pending.trans h.pending, k.access.trans h.access, k.timedOut.trans h.timedOut,
    h.sent.trans k.sent⟩

theorem Sends.rests {s t : State} (h : Sends s t) : Rests s t := by
  obtain ⟨kept, sent⟩ := h
  simp only [Machine.still, Prod.mk.injEq] at kept
  obtain ⟨post, mem, -, -, pending, access, timedOut⟩ := kept
  exact ⟨post, mem, pending, access, timedOut, sent⟩

theorem StatusOnly.rests {s t : State} (h : StatusOnly s t) : Rests s t := by
  obtain ⟨pending, post, -, -, loader, -, -, sent, access, timedOut, -⟩ := h.frame
  exact ⟨post, congrArg Loader.mem loader, pending, access, timedOut, sent ▸ List.suffix_refl _⟩

theorem rests_forAll {α : Type} {f : α → State → State} (l : List α) (s : State) (h : ∀ x t, Rests t (f x t)) :
    Rests s (forAll l f s) := by
  induction l generalizing s with
  | nil => exact .refl s
  | cons x l ih => exact (h x s).trans (ih _)

theorem rests_tmrScrub {s t : State} (h : exec .tmrScrub s = .next t) : Rests s t := by
  cases h
  have visited : Rests s (if s.tmr.isEmpty then s
      else forAll allBlks (fun x => forAll ((blkFlds x.1).filter fun f => f.tmr) (scrubField x.2)) s) := by
    split
    · exact .refl s
    · exact rests_forAll _ s fun x t => rests_forAll _ t fun f r => (statusOnly_scrubField x.2 f r).rests
  exact visited.trans (statusOnly_count 0 _ _).rests

theorem rests_keyProgramDone {matched : Bool} {s t : State} (h : exec (.keyProgramDone matched) s = .next t) : Rests s t := by
  cases h
  split
  · exact .refl s
  · split
    · exact (statusOnly_setF 0 _ 1 s).rests.trans (statusOnly_cmdEnd 0 _ _ _).rests
    · exact (statusOnly_cmdEnd 0 _ _ s).rests

theorem rests_deviceEvent {c : Instr} {s t : State} (h : deviceEvent c = true) (quiet : c = .modeCommitT → Quiet s)
    (answer : exec c s = .next t) : Rests s t := by
  by_cases scrub : c = .tmrScrub
  · exact rests_tmrScrub (scrub ▸ answer)
  by_cases key : ∃ m, c = .keyProgramDone m
  · obtain ⟨m, rfl⟩ := key
    exact rests_keyProgramDone answer
  by_cases mode : c = .modeCommitT
  · subst mode
    cases answer
    rw [settle_quiet (quiet_modeAtT (quiet rfl))]
    exact (sends_modeAtT s).rests
  exact (sends_deviceEvent h scrub (not_exists.mp key) mode s t answer).rests

end Sys2Proof.Machine

open Sys2Proof.Machine

/-- Settles O4: every memory is empty after reset. -/
theorem resetMemoryCanonical : Obligations.ResetMemoryCanonical := by
  refine ⟨wf_nil, fun m hm => ?_⟩
  have empty : ∀ m ∈ State.reset.loader.mem, m = [] := by decide
  exact empty m hm ▸ wf_nil

/-- Settles O5: only words of the post office and of the image buffer are stored, each by `writeWord`; resets empty both. -/
theorem stepKeepsMemoryCanonical : Obligations.StepKeepsMemoryCanonical := fun _ _ canonical h => (guards_step h).1 canonical

/-- Settles O6: no field that a command sets is SEALED, but for the programmed key, which sets it, and the scrubber, which rewrites
its majority; every reset keeps it. -/
theorem sealedIsForGood : Obligations.SealedIsForGood := fun _ _ sealed h => (guards_step h).2 sealed

/-- Settles O60: all but the key's programming and the scrubber, which change status alone, only send. -/
theorem deviceEventsStoreNothing : Obligations.DeviceEventsStoreNothing := by
  intro c s t h quiet answer
  have rests := rests_deviceEvent h quiet answer
  obtain ⟨l, sent⟩ := rests.sent
  exact ⟨⟨fun _ => by rw [rests.post], fun _ _ => by rw [rests.mem]⟩, rests.pending, rests.access, rests.timedOut, l, sent.symm⟩

end

section
/-! SUPPORT. Chain frames that a device forwards or passes on, and enumeration (R34, R35, R39, R41, R47). -/

namespace Sys2Proof.Machine

/-! ### Fields that no status change of any block writes -/

/-- A field lies neither in the status word nor in the first-fault word of its block. -/
def Fld.offStatus (g : Fld) : Bool := decide (g.lo < 32 ∧ g.off < 4096 ∧ g.off ≠ 0x004 ∧ g.off ≠ 0x00C)

theorem Fld.offStatus_spec {g : Fld} (h : g.offStatus = true) (u : Nat) (b : Blk) (v : Nat) : OffStatus u g b v := by
  obtain ⟨hl, ho, h4, hC⟩ := of_decide_eq_true h
  exact offStatus_of_off hl ho ⟨h4, hC⟩ u b v

theorem getF_sticky_off {u v : Nat} {g : Fld} (h : g.offStatus = true) (k : Sticky) (s : State) :
    getF u g (sticky k v s) = getF u g s :=
  getF_sticky (g.offStatus_spec h u _ v) (g.offStatus_spec h u .CHAIN 0) s

/-! ### Forwarding -/

theorem forward_running {s : State} (h : s.forwarding = true) (side : Side) (f : Frame) :
    forward side f s = { s with sent := .chain (Side.other side) f :: s.sent } := by
  simp only [forward, when, h, if_true, emit]

theorem forward_stopped {s : State} (h : s.forwarding = false) (side : Side) (f : Frame) : forward side f s = s := by
  simp only [forward, when, h, Bool.false_eq_true, if_false]

theorem when_emit_running {s : State} (h : s.forwarding = true) (e : Emission) :
    when s.forwarding (emit e) s = { s with sent := e :: s.sent } := by
  simp only [when, h, if_true, emit]

theorem when_emit_stopped {s : State} (h : s.forwarding = false) (e : Emission) : when s.forwarding (emit e) s = s := by
  simp only [when, h, Bool.false_eq_true, if_false]

/-- Settles O8: each of these commands is the forwarding of one frame, symbol or set, or nothing while the outputs are
stopped. -/
theorem forwardingChangesNothing : Obligations.ForwardingChangesNothing := by
  constructor
  · intro side f s h
    refine ⟨?_, ?_, ?_, ?_, ?_, fun acts => ?_⟩
    · exact congrArg Host.Outcome.next (forward_running h side f)
    · exact congrArg Host.Outcome.next (forward_running h side f)
    · exact congrArg Host.Outcome.next (forward_running h side f)
    · exact congrArg Host.Outcome.next (when_emit_running h _)
    · exact congrArg Host.Outcome.next (when_emit_running h _)
    · exact (congrArg (fun g => Host.Outcome.next (forward side g s)) (if_pos acts)).trans
        (congrArg Host.Outcome.next (forward_running h side idleFrame))
  · intro side f s h c hc
    simp only [List.mem_cons, List.not_mem_nil, or_false] at hc
    rcases hc with rfl | rfl | rfl | rfl | rfl | rfl
    · exact congrArg Host.Outcome.next (forward_stopped h side f)
    · exact congrArg Host.Outcome.next (forward_stopped h side f)
    · exact congrArg Host.Outcome.next (forward_stopped h side f)
    · exact congrArg Host.Outcome.next (when_emit_stopped h _)
    · exact congrArg Host.Outcome.next (forward_stopped h side _)
    · exact congrArg Host.Outcome.next (when_emit_stopped h _)

/-! ### Passing on -/

/-- What a device sends and where it stands in the chain is the same in two states. -/
structure SameOutputs (s t : State) : Prop where
  forwarding : t.forwarding = s.forwarding
  acting : t.acting = s.acting
  sent : t.sent = s.sent
  linkB : getF 0 .CHAIN_LINK_B t = getF 0 .CHAIN_LINK_B s

theorem SameOutputs.refl (s : State) : SameOutputs s s := ⟨rfl, rfl, rfl, rfl⟩

theorem SameOutputs.trans {s t u : State} (h : SameOutputs s t) (k : SameOutputs t u) : SameOutputs s u :=
  ⟨k.forwarding.trans h.forwarding, k.acting.trans h.acting, k.sent.trans h.sent, k.linkB.trans h.linkB⟩

theorem SameOutputs.isTail {s t : State} (h : SameOutputs s t) : isTail t = isTail s := by
  unfold Machine.isTail
  rw [h.acting, h.linkB]

theorem sameOutputs_setF {f : Fld} (h : Fld.CHAIN_LINK_B.key 0 ≠ f.key u) (v : Nat) (s : State) :
    SameOutputs s (setF u f v s) := ⟨rfl, rfl, rfl, getF_setF_other v s h⟩

theorem StatusOnly.sameOutputs {s t : State} (h : StatusOnly s t)
    (hB : getF 0 .CHAIN_LINK_B t = getF 0 .CHAIN_LINK_B s) : SameOutputs s t := by
  obtain ⟨F, T, I, E, L, D, J, rfl⟩ := h
  exact ⟨rfl, rfl, rfl, hB⟩

theorem sameOutputs_sticky (k : Sticky) (u : Nat) (s : State) : SameOutputs s (sticky k u s) :=
  (statusOnly_sticky k u s).sameOutputs (getF_sticky_off rfl k s)

theorem respond_chain {s : State} (acts : s.acting = true) (side : Side) (mtag tag op addr code data : Nat) :
    respond (.chain side) mtag tag op addr code data s =
      { s with sent := .chain side (respFrame s mtag tag op addr code data) :: s.sent } := if_pos acts

/-- A broadcast frame goes on, and from the tail its answer goes back, in a state that stands where the chain is as it was
when the frame came. -/
theorem passOn_eq {s t : State} (h : SameOutputs s t) (running : s.forwarding = true) (side : Side) (f out : Frame) :
    passOn side f out t = { t with sent := goesOn side f out s t } := by
  unfold passOn goesOn
  dsimp only
  rw [forward_running (h.forwarding.trans running), ← h.isTail, ← h.sent]
  change (if (Machine.isTail t && side == .A) = true then _ else _) = _
  split
  case isTrue tail =>
    simp only [Machine.isTail, Bool.and_eq_true, beq_iff_eq] at tail
    obtain ⟨⟨acts, -⟩, rfl⟩ := tail
    exact if_pos acts
  case isFalse => rfl

/-! ### Sticky bits of the chain block -/

theorem bitOf_eq_testBit (n i : Nat) : bitOf n i = n.testBit i := by
  simp [bitOf, bitsOf, Nat.testBit_eq_decide_div_mod_eq, beq_eq_decide]

/-- A status change of the chain block sets bits alone. -/
theorem stsSet_setStsBits {k : Sticky} (hb : k.bit < 24) (mask : Nat) (s : State)
    (h : StsSet k 0 s ∨ mask.testBit k.bit = true) (hk : k.blk = .CHAIN) : StsSet k 0 (setStsBits .CHAIN 0 mask s) := by
  unfold StsSet setStsBits at *
  rw [hk] at h ⊢
  rw [getF_setF_other _ _ (by decide), getF_setF_same, bitOf_eq_testBit]
  rw [bitOf_eq_testBit] at h
  simp only [Fld.sts, Nat.testBit_mod_two_pow, Nat.testBit_or, hb, decide_true, Bool.true_and, Bool.or_eq_true]
  exact h

theorem stsSet_queueEvent {k : Sticky} (hb : k.bit < 24) (hk : k.blk = .CHAIN) (m : Nat) {s : State} (h : StsSet k 0 s) :
    StsSet k 0 (queueEvent m .CHAIN 0 s) := by
  unfold queueEvent
  have once := stsSet_setStsBits hb 32 s (.inl h) hk
  split
  · exact h
  · split
    · exact h
    · dsimp only
      split
      · exact stsSet_setStsBits hb 32 _ (.inl once) hk
      · exact once

theorem stsSet_irqUpdate {k : Sticky} (hb : k.bit < 24) (hk : k.blk = .CHAIN) {s : State} (h : StsSet k 0 s) :
    StsSet k 0 (irqUpdate .CHAIN 0 s) := by
  unfold irqUpdate
  split
  · split
    · exact h
    · dsimp only
      split
      · exact stsSet_queueEvent hb hk _ h
      · exact h
  · exact h

theorem stsSet_sticky_chain {k : Sticky} (hk : k.blk = .CHAIN) (hb : k.bit < 24) (s : State) : StsSet k 0 (sticky k 0 s) := by
  unfold sticky
  rw [hk]
  exact stsSet_irqUpdate hb hk (stsSet_setStsBits hb _ s (.inr Nat.testBit_two_pow_self) hk)

/-! ### Broadcast frames -/

theorem exec_chain_acting {s : State} {f : Frame} (h : actsOn f s = true) (a b : State) :
    (if (!actsOn f s) = true then a else b) = b := by
  simp [h]

/-! ### Enumeration -/

/-- A device takes part in the enumeration: RESTART, where the frame bears it, is heeded, and it has no address left. -/
def Addressless (m data : Nat) (s : State) : Prop :=
  (bitOf data 31 = true → keeper s = none ∨ keeper s = some m) ∧ (bitOf data 31 = true ∨ chainAddr s = 0)

/-- The device once RESTART has taken its address. -/
def restarted (data : Nat) (s : State) : State := if bitOf data 31 then setF 0 .CHAIN_ADDR 0 s else s

theorem chainAddr_restarted {m data : Nat} {s : State} (h : Addressless m data s) : chainAddr (restarted data s) = 0 := by
  unfold restarted
  split
  case isTrue => exact getF_setF_same 0 .CHAIN_ADDR 0 s
  case isFalse off => exact h.2.resolve_left off

theorem enumerate_addressless {m data : Nat} {s : State} (h : Addressless m data s) :
    enumerate m data s =
      if 1 ≤ data % 32 ∧ data % 32 ≤ 30 then (data % 32 + 1, setF 0 .CHAIN_ADDR (data % 32) (restarted data s))
      else if data % 32 = 31 then (data % 32, sticky .CHAIN_ENUM_FULL 0 (restarted data s))
      else (data % 32, restarted data s) := by
  have free := chainAddr_restarted h
  obtain ⟨allowed, -⟩ := h
  unfold restarted at free ⊢
  unfold enumerate
  cases restart : bitOf data 31
  case true =>
    simp only [restart, if_true] at free
    rcases allowed restart with k | k <;> simp [k, free]
  case false =>
    simp only [restart, Bool.false_eq_true, if_false] at free
    simp [free]

theorem enumerate_addressed {m data : Nat} {s : State} (h : ¬Addressless m data s) : enumerate m data s = (data % 32, s) := by
  unfold Addressless at h
  unfold enumerate
  cases restart : bitOf data 31
  case true =>
    cases k : keeper s <;> simp_all
  case false =>
    simp only [restart, Bool.false_eq_true, false_implies, false_or, true_and] at h
    simp [h]

theorem sameOutputs_restarted (data : Nat) (s : State) : SameOutputs s (restarted data s) := by
  unfold restarted
  split
  case isTrue => exact sameOutputs_setF (by decide) 0 s
  case isFalse => exact .refl s

theorem exec_enum {side : Side} {f : Frame} {s t : State} {c : Nat} (acts : actsOn f s = true) (running : s.forwarding = true)
    (h : enumerate f.mtag.toNat f.data.toNat s = (c, t)) (same : SameOutputs s t) :
    exec (.enum side f) s = .next { t with sent := goesOn side f (withData f (f.data.toNat - f.data.toNat % 32 + c)) s t } := by
  change Host.Outcome.next (if (!actsOn f s) = true then _ else _) = _
  rw [exec_chain_acting acts]
  dsimp only
  rw [h, passOn_eq same running]

/-- Settles O9. -/
theorem enumAssignsAddress : Obligations.EnumAssignsAddress := by
  intro side f s acts running counter restart bare out
  have asIs : f.data.toNat - f.data.toNat % 32 + f.data.toNat % 32 = f.data.toNat := by omega
  have runs := fun c t => exec_enum (side := side) (f := f) (s := s) (t := t) (c := c) acts running
  have same := sameOutputs_restarted f.data.toNat s
  refine ⟨fun h low high => ?_, fun h full => ?_, fun h zero => ?_, fun h => ?_⟩
  · have taken := enumerate_addressless h
    rw [if_pos ⟨low, high⟩] at taken
    refine ⟨_, runs _ _ taken (same.trans (sameOutputs_setF (by decide) _ _)), ?_, ?_⟩
    · refine (getF_setF_same 0 .CHAIN_ADDR counter _).trans (Nat.mod_eq_of_lt ?_)
      change counter < 32
      omega
    · change goesOn side f (withData f (f.data.toNat - f.data.toNat % 32 + (f.data.toNat % 32 + 1))) s _ = _
      rw [← Nat.add_assoc, asIs]
      rfl
  · have taken := enumerate_addressless h
    rw [if_neg (by omega), if_pos full] at taken
    refine ⟨_, runs _ _ taken (same.trans (sameOutputs_sticky _ 0 _)), ?_, ?_, ?_⟩
    · exact (getF_sticky_off (g := .CHAIN_ADDR) rfl _ _).trans (chainAddr_restarted h)
    · exact stsSet_sticky_chain (k := .CHAIN_ENUM_FULL) rfl (by decide) _
    · rw [asIs]
      rfl
  · have taken := enumerate_addressless h
    rw [if_neg (by omega), if_neg (by omega)] at taken
    refine ⟨_, runs _ _ taken same, chainAddr_restarted h, ?_, ?_⟩
    · unfold restarted
      split
      case isTrue => exact getF_setF_other (u := 0) (f := .CHAIN_ADDR) (g := .sts .CHAIN) 0 s (by decide)
      case isFalse => rfl
    · rw [asIs]
      rfl
  · rw [runs _ _ (enumerate_addressed h) (.refl s), asIs]

end Sys2Proof.Machine
end

section
/-! SUPPORT. Events, chain errors and chain time (R41, R64 to R66). -/

namespace Sys2Proof.Machine

/-! ### Events and errors (R41, R64) -/

theorem sendEvent_chain {e : EventEntry} {rest : List EventEntry} {s : State} (queue : s.events = e :: rest) (master : e.mtag < 8)
    (acts : s.acting = true) (addressed : chainAddr s ≠ 0) (line : isSet 0 .CHAIN_RING s = false) :
    sendEvent s = { s with
      events := rest, sent := .chain .A (mkFrame (chainAddr s) e.mtag 6 0 e.addr e.data) :: s.sent } := by
  have head : eventSide { s with events := rest } = .A := by
    change (if (isSet 0 .CHAIN_RING s && _) = true then Side.B else Side.A) = .A
    rw [line]
    rfl
  have reaches : (s.acting && chainAddr s != 0) = true := by simp [acts, addressed]
  unfold sendEvent
  rw [queue]
  dsimp only
  rw [if_neg (by omega), head]
  exact if_pos reaches

/-- The counter of CRC errors of a chain input. -/
def crcErr : Side → Fld
  | .A => .CHAIN_CRC_ERR_A
  | .B => .CHAIN_CRC_ERR_B

theorem crcErr_spec (side : Side) : (crcErr side).blk = .CHAIN ∧ (crcErr side).offStatus = true ∧ (crcErr side).width = 48 := by
  cases side <;> exact ⟨rfl, rfl, rfl⟩

theorem exec_crcErrorFrame {s : State} (acts : s.acting = true) (running : s.forwarding = true) (side : Side) (f : Frame) :
    exec (.crcErrorFrame side f) s = .next (sticky .CHAIN_CRC_SEEN 0 (count 0 (crcErr side) { s with
      sent := (if replaced f s then .chain (Side.other side) idleFrame else .void (Side.other side)) :: s.sent })) := by
  have instead : (if replaced f s = true then forward side idleFrame s
        else when s.forwarding (emit (.void (Side.other side))) s) =
      { s with sent := (if replaced f s then .chain (Side.other side) idleFrame else .void (Side.other side)) :: s.sent } := by
    split
    · exact forward_running running side idleFrame
    · exact when_emit_running running _
  change Host.Outcome.next (if (!s.acting) = true then _ else _) = _
  rw [if_neg (by simp [acts]), instead]
  cases side <;> rfl

theorem statusOnly_chainError (f : Fld) (k : Sticky) (s : State) : StatusOnly s (sticky k 0 (count 0 f s)) :=
  (statusOnly_count 0 f s).trans (statusOnly_sticky k 0 _)

/-- A counter and a sticky bit of the chain block leave the fields of the other blocks. -/
theorem getF_chainError {b : Blk} {u : Nat} {g : Fld} (hb : (b, u) ∈ allBlks) (hg : g ∈ blkFlds b) (other : b ≠ .CHAIN) (f : Fld)
    (hf : f.blk = .CHAIN) (small : f.off * 32 + f.lo < 32 * 4096) (k : Sticky) (hk : k.blk = .CHAIN) (s : State) :
    getF u g (sticky k 0 (count 0 f s)) = getF u g s := by
  have away : Away u g .CHAIN 0 := by
    rw [Away, keyPage_key_of_mem u hg]
    intro page
    exact other (congrArg Prod.fst (allBlks_page_inj (x := (b, u)) (y := (.CHAIN, 0)) hb (by decide) page))
  rw [getF_sticky (hk ▸ away.offStatus) away.offStatus]
  exact getF_countBy_away (hf ▸ away) small away 1 s

/-- Settles O22. -/
theorem eventsLeaveAndErrorsAreVoided : Obligations.EventsLeaveAndErrorsAreVoided := by
  refine ⟨fun e rest s queue master acts addressed line => ?_, fun side f s acts running => ?_, fun side s running => ?_⟩
  · exact congrArg Host.Outcome.next (sendEvent_chain queue master acts addressed line)
  · obtain ⟨blk, off, width⟩ := crcErr_spec side
    refine ⟨_, exec_crcErrorFrame acts running side f, ?_⟩
    change _ = _ ∧ Counted 0 (crcErr side) s _ ∧ _
    refine ⟨?_, ?_, stsSet_sticky_chain rfl (by decide) _, fun b u g hb hg other => ?_, ?_⟩
    · obtain ⟨-, -, -, -, -, -, -, sent, -⟩ := (statusOnly_chainError (crcErr side) .CHAIN_CRC_SEEN _).frame
      exact sent
    · unfold Counted
      rw [getF_sticky_off off]
      exact counted_count width ((crcErr side).offStatus_spec off 0 _ 0) ((crcErr side).offStatus_spec off 0 .CHAIN 0) _
    · exact getF_chainError hb hg other _ blk (by cases side <;> decide) .CHAIN_CRC_SEEN rfl _
    · exact congrArg (fun u : State => { u with sent := s.sent }) ((statusOnly_iff _ _).mp (statusOnly_chainError (crcErr side) .CHAIN_CRC_SEEN _))
  · exact congrArg Host.Outcome.next (when_emit_running running _)

/-! ### Chain time (R66) -/

/-- The device once a TIMESET has set its clock. -/
def clockSet (addr data : Nat) (s : State) : State :=
  modClk (fun c => { c with timesetAt := some s.cycles })
    (setNow ((getF 0 .CHAIN_TS_SEC_HI s * 2 ^ 24 + addr) * 1000000000 + data % 2 ^ 30 + hopDelay s / 8) (hopDelay s % 8 * 8192) s)

theorem takeTime_eq (addr data : Nat) (s : State) : takeTime addr data s =
    sticky .TIME_TIME_SET 0 (setAll 0 [(.TIME_TIME_VALID, 1), (.TIME_TIME_SRC, 1)]
      (cmdStop 0 .TIME_STEP ocAborted (cmdStop 0 .TIME_SET ocAborted (clockSet addr data s)))) := by
  unfold takeTime clockSet
  dsimp only
  rw [setNow_cycles]

theorem getF_clockSet (u : Nat) (g : Fld) (addr data : Nat) (s : State) : getF u g (clockSet addr data s) = getF u g s := by
  rw [clockSet, getF_modClk, getF_setNow]

theorem statusOnly_takeTime (addr data : Nat) (s : State) : StatusOnly (clockSet addr data s) (takeTime addr data s) :=
  takeTime_eq addr data s ▸ (((statusOnly_cmdStop 0 .TIME_SET ocAborted _).trans (statusOnly_cmdStop 0 .TIME_STEP ocAborted _)).trans
    (statusOnly_setAll 0 _ _)).trans (statusOnly_sticky .TIME_TIME_SET 0 _)

theorem clock_of_statusOnly {s t : State} (f : Clk → Clk) (ns fr : Nat) (h : StatusOnly (modClk f (setNow ns fr s)) t) :
    t.secs = ns / 1000000000 % 2 ^ 48 ∧ t.nanos = ns % 1000000000 ∧ t.frac = fr % 2 ^ 16 := by
  obtain ⟨F, T, I, E, L, D, J, rfl⟩ := h
  exact ⟨rfl, rfl, rfl⟩

theorem takeTime_clock (addr data : Nat) (s : State) :
    let ns := (getF 0 .CHAIN_TS_SEC_HI s * 2 ^ 24 + addr) * 1000000000 + data % 2 ^ 30 + hopDelay s / 8
    (takeTime addr data s).secs = ns / 1000000000 % 2 ^ 48 ∧ (takeTime addr data s).nanos = ns % 1000000000 ∧
      (takeTime addr data s).frac = hopDelay s % 8 * 8192 := by
  obtain ⟨secs, nanos, frac⟩ := clock_of_statusOnly _ _ _ (statusOnly_takeTime addr data s)
  refine ⟨secs, nanos, frac.trans (Nat.mod_eq_of_lt ?_)⟩
  omega

theorem sameOutputs_setNow (ns fr : Nat) (s : State) : SameOutputs s (setNow ns fr s) := ⟨rfl, rfl, rfl, rfl⟩

theorem sameOutputs_modClk (f : Clk → Clk) (s : State) : SameOutputs s (modClk f s) := ⟨rfl, rfl, rfl, rfl⟩

theorem sameOutputs_takeTime (addr data : Nat) (s : State) : SameOutputs s (takeTime addr data s) := by
  have set : SameOutputs s (clockSet addr data s) := (sameOutputs_setNow _ _ s).trans (sameOutputs_modClk _ _)
  refine set.trans ((statusOnly_takeTime addr data s).sameOutputs ?_)
  rw [takeTime_eq, getF_sticky_off rfl, getF_setAll_other _ _ (by decide), getF_cmdStop (by decide) (by decide),
    getF_cmdStop (by decide) (by decide)]

theorem takeTime_valid (addr data : Nat) (s : State) :
    getF 0 .TIME_TIME_VALID (takeTime addr data s) = 1 ∧ getF 0 .TIME_TIME_SRC (takeTime addr data s) = 1 := by
  rw [takeTime_eq]
  constructor
  · rw [getF_sticky_off rfl, setAll_cons, getF_setAll_other _ _ (by decide), getF_setF_same]
    rfl
  · rw [getF_sticky_off rfl, setAll_cons, setAll_cons, getF_setAll_other _ _ (by decide), getF_setF_same]
    rfl

theorem stsSet_takeTime (addr data : Nat) (s : State) : StsSet .TIME_TIME_SET 0 (takeTime addr data s) :=
  stsSet_sticky (by decide) (away_of_page (by decide) (by decide)).offStatus _

theorem timeFrame_spec (f : Frame) (s : State) :
    (timeFrame f s).dest = f.dest ∧ (timeFrame f s).mtag = f.mtag ∧ (timeFrame f s).op = f.op ∧
      (timeFrame f s).addr.toNat = (nowNs s * 8 + s.frac / 8192 + Config.fwdLat) / 8 / 1000000000 % 2 ^ 24 ∧
      (timeFrame f s).data.toNat = (nowNs s * 8 + s.frac / 8192 + Config.fwdLat) / 8 % 1000000000 := by
  refine ⟨?_, ?_, ?_, ?_, ?_⟩
  · simp [timeFrame, reFrame, mkFrame]
  · simp [timeFrame, reFrame, mkFrame]
  · simp [timeFrame, reFrame, mkFrame]
  · simp [timeFrame, reFrame, mkFrame]
  · simp only [timeFrame, reFrame, mkFrame, BitVec.toNat_ofNat]
    omega

/-! ### The hop delay (R65) -/

theorem keepsFields_setAll (u : Nat) (l : List (Fld × Nat)) (s : State) :
    KeepsFields (l.map fun e => e.1.key u) s (setAll u l s) := fun _ _ h =>
  getF_setAll_other l s fun e he same => h (List.mem_map.mpr ⟨e, he, same.symm⟩)

theorem onlyFields_setAll (u : Nat) (l : List (Fld × Nat)) (s : State) :
    OnlyFields (l.map fun e => e.1.key u) s (setAll u l s) := ⟨keepsFields_setAll u l s, setAll_only u l s⟩

theorem onlyFields_setF (u : Nat) (f : Fld) (v : Nat) (s : State) : OnlyFields [f.key u] s (setF u f v s) :=
  ⟨keepsFields_setF u f v s, rfl⟩

theorem startHop_locked {s : State} (running : s.forwarding = true) (locked : getF 0 .CHAIN_LINK_A s = 1) :
    startHop s = { s with hopWait := true, sent := .hopSet .A true :: s.sent } := by
  unfold startHop
  rw [if_pos (by simp [running, isSet, locked])]
  rfl

/-- What a measurement leaves: its delay, in eighths of a nanosecond, and whether it stands. -/
theorem setHop_spec (d valid : Nat) (s : State) (hd : d < 2 ^ 16) (hv : valid < 2) :
    let t := setAll 0 [(.CHAIN_HOP_A, d), (.CHAIN_HOP_A_VALID, valid)] { s with hopWait := false }
    getF 0 .CHAIN_HOP_A t = d ∧ getF 0 .CHAIN_HOP_A_VALID t = valid ∧ t.hopWait = false ∧
      OnlyFields [Fld.CHAIN_HOP_A.key 0, Fld.CHAIN_HOP_A_VALID.key 0] { s with hopWait := false } t := by
  refine ⟨?_, ?_, rfl, onlyFields_setAll 0 [(.CHAIN_HOP_A, d), (.CHAIN_HOP_A_VALID, valid)] _⟩
  · rw [setAll_cons, getF_setAll_other _ _ (by simp +decide), getF_setF_same]
    exact Nat.mod_eq_of_lt hd
  · rw [setAll_cons, setAll_cons, getF_setAll_other _ _ (by simp), getF_setF_same]
    exact Nat.mod_eq_of_lt hv

theorem exec_hopReflectionRx {s : State} (waits : s.hopWait = true) (rtt : Nat) :
    exec (.hopReflectionRx rtt) s = .next (setAll 0 [(.CHAIN_HOP_A, min (rtt - 256) 65535), (.CHAIN_HOP_A_VALID, 1)]
      { s with hopWait := false }) := congrArg Host.Outcome.next (if_neg (by simp [waits]))

theorem exec_hopReflectTimeout {s : State} (waits : s.hopWait = true) :
    exec .hopReflectTimeout s = .next (setAll 0 [(.CHAIN_HOP_A, 0), (.CHAIN_HOP_A_VALID, 0)] { s with hopWait := false }) :=
  congrArg Host.Outcome.next (if_neg (by simp [waits]))

theorem exec_timeset {side : Side} {f : Frame} {s : State} (acts : actsOn f s = true) (running : s.forwarding = true)
    (own : isKeeper f.mtag.toNat s = true) :
    let t := takeTime f.addr.toNat f.data.toNat s
    exec (.timeset side f) s = .next { t with sent := goesOn side f (timeFrame f t) s t } := by
  intro t
  change Host.Outcome.next (if (!actsOn f s) = true then _ else _) = _
  rw [exec_chain_acting acts, if_neg (by simp [own])]
  exact congrArg Host.Outcome.next (passOn_eq (sameOutputs_takeTime _ _ s) running side f _)

theorem exec_timeset_other {side : Side} {f : Frame} {s : State} (acts : actsOn f s = true) (running : s.forwarding = true)
    (other : isKeeper f.mtag.toNat s = false) :
    exec (.timeset side f) s = .next { s with sent := goesOn side f f s s } := by
  change Host.Outcome.next (if (!actsOn f s) = true then _ else _) = _
  rw [exec_chain_acting acts, if_pos (by simp [other]), passOn_eq (.refl s) running]

theorem goesOn_sent (side : Side) (f out : Frame) (s t : State) (l : List Emission) :
    goesOn side f out s { t with sent := l } = goesOn side f out s t := rfl

/-- The lock of a chain port, and the sticky bit of its loss. -/
def chainLink : Side → Fld × Sticky
  | .A => (.CHAIN_LINK_A, .CHAIN_LINK_A_LOST)
  | .B => (.CHAIN_LINK_B, .CHAIN_LINK_B_LOST)

theorem chainLink_spec (side : Side) : (chainLink side).1.offStatus = true ∧ (chainLink side).1.width = 1 ∧
    (chainLink side).2.blk = .CHAIN ∧ (chainLink side).2.bit < 24 := by
  cases side <;> decide

theorem exec_chainLockLost {s : State} {side : Side} (locked : getF 0 (chainLink side).1 s = 1) :
    exec (.chainLockChange side false) s = .next (sticky (chainLink side).2 0 (setF 0 (chainLink side).1 0 s)) := by
  have changes : ¬(isSet 0 (chainLink side).1 s == false) = true := by simpa [isSet] using locked
  cases side <;> exact congrArg Host.Outcome.next (if_neg changes)

theorem exec_chainLockWon {s : State} {side : Side} (unlocked : getF 0 (chainLink side).1 s ≠ 1) :
    exec (.chainLockChange side true) s = .next (if side = .A then startHop (setF 0 (chainLink side).1 1 s)
      else setF 0 (chainLink side).1 1 s) := by
  have changes : ¬(isSet 0 (chainLink side).1 s == true) = true := by simpa [isSet] using unlocked
  cases side <;> exact congrArg Host.Outcome.next (if_neg changes)

theorem getF_startHop (u : Nat) (g : Fld) (s : State) : getF u g (startHop s) = getF u g s := by
  unfold startHop
  split <;> rfl

/-- Settles O21. -/
theorem chainTimeAddsTheHopDelay : Obligations.ChainTimeAddsTheHopDelay := by
  refine ⟨fun side f s acts running => ⟨fun own hop ns hhop hns => ?_, exec_timeset_other acts running⟩,
    fun rtt side s => ⟨fun running locked => congrArg Host.Outcome.next (startHop_locked running locked),
      fun waits low high => ?_, fun waits => ?_, fun locked => ?_, fun unlocked => ?_⟩⟩
  · have inForce : hopDelay s = hop := by simp [hhop, hopDelay, isSet]
    refine ⟨_, exec_timeset acts running own, ?_⟩
    have clock := takeTime_clock f.addr.toNat f.data.toNat s
    have valid := takeTime_valid f.addr.toNat f.data.toNat s
    have sts := stsSet_takeTime f.addr.toNat f.data.toNat s
    rw [inForce, ← hns] at clock
    generalize takeTime f.addr.toNat f.data.toNat s = t at clock valid sts ⊢
    obtain ⟨secs, nanos, frac⟩ := clock
    obtain ⟨dest, mtag, op, addr, data⟩ := timeFrame_spec f t
    exact ⟨secs, nanos, frac, valid.1, valid.2, sts, timeFrame f t, (goesOn_sent ..).symm, dest, mtag, op, addr, data⟩
  · refine ⟨_, exec_hopReflectionRx waits rtt, ?_⟩
    obtain ⟨delay, valid, waits', only⟩ := setHop_spec (min (rtt - 256) 65535) 1 s (by omega) (by omega)
    refine ⟨?_, valid, waits', only⟩
    rw [delay]
    omega
  · exact ⟨_, exec_hopReflectTimeout waits, setHop_spec 0 0 s (by omega) (by omega)⟩
  · obtain ⟨off, width, blk, bit⟩ := chainLink_spec side
    have value : getF 0 (chainLink side).1 (setF 0 (chainLink side).1 0 s) = 0 := by rw [getF_setF_same, Nat.zero_mod]
    have lost := stsSet_sticky_chain blk bit (setF 0 (chainLink side).1 0 s)
    have kept := (getF_sticky_off (v := 0) off (chainLink side).2 _).trans value
    have lock : getF 0 (chainLink side).1 s = 1 := by cases side <;> exact locked
    refine ⟨_, exec_chainLockLost lock, ?_⟩
    cases side <;> exact ⟨kept, lost⟩
  · obtain ⟨off, width, blk, bit⟩ := chainLink_spec side
    have value : getF 0 (chainLink side).1 (setF 0 (chainLink side).1 1 s) = 1 := by
      rw [getF_setF_same, width]
      rfl
    have lock : getF 0 (chainLink side).1 s ≠ 1 := by cases side <;> exact unlocked
    refine ⟨_, exec_chainLockWon lock, ?_⟩
    cases side with
    | A => exact ⟨(getF_startHop ..).trans value, fun same => nomatch same⟩
    | B => exact ⟨value, fun _ => onlyFields_setF 0 .CHAIN_LINK_B 1 s⟩

end Sys2Proof.Machine
end

section
/-! SUPPORT. The synchronised mode change (R68 to R71). -/

namespace Sys2Proof.Machine

/-! ### PREPARE (R68) -/

theorem onPrepare_begins {m data gen : Nat} {s : State} (hgen : bitsOf data 16 16 = gen)
    (fresh : getF 0 .CHAIN_APPLIED_GEN s ≠ gen) (idle : s.staging = none) (valid : modeStageValid s = true)
    (own : isKeeper m s = true) : onPrepare m data s = (data, beginStaging gen s) := by
  have unstaged : stagedFor gen s = false := by rw [stagedFor, idle]
  have unarmed : armedElse gen s = false := by rw [armedElse, idle]
  unfold onPrepare
  simp [hgen, fresh, own, unstaged, unarmed, valid]

/-- DATA of PREPARE as a device forwards it whose Keeper did not send it: the foreign bit set, and where the frame came READY,
the device named and READY cleared. -/
def foreignData (data : Nat) (s : State) : Nat :=
  if bitOf (data ||| 2) 0 then (data ||| 2) - bitsOf (data ||| 2) 3 5 * 8 + chainAddr s * 8 - 1 else data ||| 2

theorem onPrepare_foreign {m data : Nat} {s : State} (fresh : getF 0 .CHAIN_APPLIED_GEN s ≠ bitsOf data 16 16)
    (other : isKeeper m s = false) : onPrepare m data s = (foreignData data s, s) := by
  unfold onPrepare foreignData
  simp [fresh, other]

theorem or_two_mod (n : Nat) : (n ||| 2) / 2 % 2 = 1 ∧ 2 ≤ n ||| 2 := by
  have bit : (n ||| 2).testBit 1 = true := by simp +decide [Nat.testBit_or]
  rw [Nat.testBit_eq_decide_div_mod_eq] at bit
  simp only [pow_one, decide_eq_true_eq] at bit
  omega

/-- Bit 0 of a foreign PREPARE is 0 and its bit 1 is 1. -/
theorem foreignData_bits (data : Nat) (s : State) : bitOf (foreignData data s % 2 ^ 32) 0 = false ∧
    bitOf (foreignData data s % 2 ^ 32) 1 = true := by
  obtain ⟨foreign, low⟩ := or_two_mod data
  unfold foreignData
  generalize data ||| 2 = d at foreign low ⊢
  simp only [bitOf, bitsOf, beq_iff_eq, beq_eq_false_iff_ne]
  split <;> omega

theorem data_withData (f : Frame) (d : Nat) : (withData f d).data.toNat = d % 2 ^ 32 := by
  simp [withData, reFrame, mkFrame]

theorem sameOutputs_beginStaging (gen : Nat) (s : State) : SameOutputs s (beginStaging gen s) :=
  ⟨rfl, rfl, rfl, (getF_setAll_other _ _ (by simp +decide)).trans rfl⟩

theorem beginStaging_spec (gen : Nat) {s : State} (idle : s.staging = none) (hgen : gen < 2 ^ 16) :
    let t := beginStaging gen s
    (t.staging.map fun g => (g.gen, g.mask, g.complete, g.armed)) = some (gen, getF 0 .CHAIN_PORT_MASK s, false, none) ∧
      getF 0 .CHAIN_STAGED_GEN t = gen ∧ getF 0 .CHAIN_STAGED t = 0 := by
  refine ⟨?_, ?_, ?_⟩
  · simp [beginStaging, idle]
  · unfold beginStaging
    rw [setAll_cons, getF_setAll_other _ _ (by decide), getF_setF_same]
    exact Nat.mod_eq_of_lt hgen
  · unfold beginStaging
    rw [setAll_cons, setAll_cons, getF_setAll_other _ _ (by decide), getF_setF_same]
    rfl

theorem exec_prepare {side : Side} {f : Frame} {s t : State} {d : Nat} (acts : actsOn f s = true)
    (running : s.forwarding = true) (h : onPrepare f.mtag.toNat f.data.toNat s = (d, t)) (same : SameOutputs s t) :
    exec (.prepare side f) s = .next { t with sent := goesOn side f (withData f d) s t } := by
  change Host.Outcome.next (if (!actsOn f s) = true then _ else _) = _
  rw [exec_chain_acting acts]
  dsimp only
  rw [h, passOn_eq same running]

/-! ### COMMIT (R70) -/

theorem onCommit_arms {m addr data d : Nat} {g : Staging} {s : State} (staged : s.staging = some g) (alive : g.dead = false)
    (hgen : g.gen = bitsOf addr 8 16) (fresh : getF 0 .CHAIN_APPLIED_GEN s ≠ g.gen) (own : isKeeper m s = true)
    (until_ : untilT (bitsOf addr 0 8) (bitsOf data 0 30) s = some d) :
    onCommit m addr data s =
      if d < 1000000 * 65536 then noteMissed g.gen s
      else setF 0 .CHAIN_ARMED 1
        { s with staging := some { g with armed := some (bitsOf addr 0 8, bitsOf data 0 30) } } := by
  have known : stagedFor g.gen s = true := by simp [stagedFor, staged, alive]
  unfold onCommit
  rw [← hgen]
  simp [fresh, known, own, until_, staged]

theorem exec_commit {side : Side} {f : Frame} {s t : State} (acts : actsOn f s = true) (running : s.forwarding = true)
    (h : onCommit f.mtag.toNat f.addr.toNat f.data.toNat s = t) (same : SameOutputs s t) :
    exec (.commit side f) s = .next { t with sent := goesOn side f f s t } := by
  change Host.Outcome.next (if (!actsOn f s) = true then _ else _) = _
  rw [exec_chain_acting acts, h, passOn_eq same running]

theorem sameOutputs_noteMissed (gen : Nat) (s : State) : SameOutputs s (noteMissed gen s) :=
  (sameOutputs_setF (f := .CHAIN_MISSED_GEN) (u := 0) (by decide) gen s).trans (sameOutputs_sticky .CHAIN_MODE_MISSED 0 _)

theorem staging_of_statusOnly {s t : State} (h : StatusOnly s t) : t.staging = s.staging := by
  obtain ⟨F, T, I, E, L, D, J, rfl⟩ := h
  rfl

theorem statusOnly_noteMissed (gen : Nat) (s : State) : StatusOnly s (noteMissed gen s) :=
  (statusOnly_setF 0 .CHAIN_MISSED_GEN gen s).trans (statusOnly_sticky .CHAIN_MODE_MISSED 0 _)

theorem noteMissed_spec (gen : Nat) (s : State) : (noteMissed gen s).staging = s.staging ∧
    StsSet .CHAIN_MODE_MISSED 0 (noteMissed gen s) ∧ getF 0 .CHAIN_MISSED_GEN (noteMissed gen s) = gen % 2 ^ 16 := by
  refine ⟨staging_of_statusOnly (statusOnly_noteMissed gen s), stsSet_sticky_chain (k := .CHAIN_MODE_MISSED) rfl (by decide) _, ?_⟩
  rw [noteMissed, getF_sticky_off rfl, getF_setF_same]
  rfl

/-! ### Completeness and T (R69, R71) -/

theorem exec_stagingComplete {g : Staging} {s : State} (runs : coreRuns s = true) (staged : s.staging = some g)
    (open_ : g.complete = false) (alive : g.dead = false) :
    exec .stagingComplete s = .next (setF 0 .CHAIN_STAGED 1 { s with staging := some { g with complete := true } }) := by
  refine congrArg Host.Outcome.next ?_
  unfold coreEvent
  rw [if_pos runs]
  dsimp only
  rw [staged]
  dsimp only
  rw [if_neg (by simp [open_, alive])]

end Sys2Proof.Machine
end

section
/-! SUPPORT. What the change of power state and the start of reconfigurations at T leave of the mode change: its staging and ARMED
(R71). -/

namespace Sys2Proof.Machine

/-! ### Fields other than ARMED -/

/-- A field, and its OUTCOME and ABORT_LATE where it is a command field, lie in another block than ARMED. -/
def Fld.offChain (f : Fld) : Bool := f.blk != .CHAIN && f.off * 32 + f.lo + 4 < 32 * 4096

theorem blkPage_ne_chain {b : Blk} {u : Nat} (h : b ≠ .CHAIN) : blkPage b u ≠ 2 := by
  have number : (blkPlace b).1 = .device → (blkPlace b).2 ≠ 2 := by
    cases b <;> simp_all [blkPlace]
  cases place : (blkPlace b).1
  case device => simpa [blkPage, place] using number place
  case lodge => simp [blkPage, place]; omega
  case pavilion => rw [blkPage_pavilion place]; omega
  case port => rw [blkPage_port place]; omega

theorem armed_key_ne_add {f : Fld} (h : f.offChain = true) (u : Nat) {d : Nat} (hd : d ≤ 4) :
    Fld.CHAIN_ARMED.key 0 ≠ f.key u + d := by
  simp only [Fld.offChain, Bool.and_eq_true, bne_iff_ne, ne_eq, decide_eq_true_eq] at h
  obtain ⟨blk, small⟩ := h
  have page := blkPage_ne_chain (u := u) blk
  have place : Fld.CHAIN_ARMED.key 0 = 2 * (32 * 4096) + 2049 := by decide
  rw [place, key_eq]
  omega

/-! ### The mode change in progress -/

/-- The staging of a mode change, and ARMED. -/
def modeView (s : State) : Option Staging × Nat := (s.staging, getF 0 .CHAIN_ARMED s)

theorem modeView_of_statusOnly {s t : State} (h : StatusOnly s t) (hf : getF 0 .CHAIN_ARMED t = getF 0 .CHAIN_ARMED s) :
    modeView t = modeView s := by
  rw [modeView, hf, staging_of_statusOnly h]
  rfl

@[simp] theorem modeView_setF {f : Fld} (h : f.offChain = true) (u v : Nat) (s : State) :
    modeView (setF u f v s) = modeView s :=
  modeView_of_statusOnly (statusOnly_setF u f v s) (getF_setF_other v s (armed_key_ne_add h u (d := 0) (by omega)))

@[simp] theorem modeView_setAll {u : Nat} (l : List (Fld × Nat)) (s : State) (h : ∀ e ∈ l, e.1.offChain = true) :
    modeView (setAll u l s) = modeView s :=
  modeView_of_statusOnly (statusOnly_setAll u l s)
    (getF_setAll_other l s fun e he => armed_key_ne_add (h e he) u (d := 0) (by omega))

@[simp] theorem modeView_sticky (k : Sticky) (u : Nat) (s : State) : modeView (sticky k u s) = modeView s :=
  modeView_of_statusOnly (statusOnly_sticky k u s) (getF_sticky_off rfl k s)

theorem modeView_correctedFault (b : Blk) (u src detail : Nat) (s : State) :
    modeView (correctedFault b u src detail s) = modeView s :=
  modeView_of_statusOnly (statusOnly_correctedFault b u src detail s)
    (getF_correctedFault (Fld.CHAIN_ARMED.offStatus_spec rfl 0 b u) (Fld.CHAIN_ARMED.offStatus_spec rfl 0 .CHAIN 0) src detail s)

@[simp] theorem modeView_countBy {f : Fld} (h : f.offChain = true) (u k : Nat) (s : State) :
    modeView (countBy u f k s) = modeView s := by
  refine modeView_of_statusOnly (statusOnly_countBy u f k s) ?_
  have other : Fld.CHAIN_ARMED.key 0 ≠ f.key u := armed_key_ne_add h u (d := 0) (by omega)
  exact getF_countBy other (Fld.CHAIN_ARMED.offStatus_spec rfl 0 f.blk u) (Fld.CHAIN_ARMED.offStatus_spec rfl 0 .CHAIN 0) k s

@[simp] theorem modeView_count {f : Fld} (h : f.offChain = true) (u : Nat) (s : State) : modeView (count u f s) = modeView s :=
  modeView_countBy h u 1 s

theorem modeView_setF_outcome {f : Fld} (h : f.offChain = true) (u v : Nat) (s : State) :
    modeView (setF u f.outcome v s) = modeView s :=
  modeView_of_statusOnly (statusOnly_setF u _ v s) (getF_setF_other v s (armed_key_ne_add h u (d := 4) (by omega)))

theorem modeView_setF_abortLate {f : Fld} (h : f.offChain = true) (u v : Nat) (s : State) :
    modeView (setF u f.abortLate v s) = modeView s :=
  modeView_of_statusOnly (statusOnly_setF u _ v s) (getF_setF_other v s (armed_key_ne_add h u (d := 1) (by omega)))

@[simp] theorem modeView_cmdEnd {f : Fld} (h : f.offChain = true) (u oc : Nat) (s : State) :
    modeView (cmdEnd u f oc s) = modeView s := by
  rw [cmdEnd, modeView_setF h, modeView_setF_outcome h]

@[simp] theorem modeView_cmdReject {f : Fld} (h : f.offChain = true) (u : Nat) (s : State) :
    modeView (cmdReject u f s) = modeView s := modeView_cmdEnd h u 4 s

@[simp] theorem modeView_cmdStart {f : Fld} (h : f.offChain = true) (u : Nat) (s : State) :
    modeView (cmdStart u f s) = modeView s := by
  rw [cmdStart, modeView_setF h, modeView_setF_outcome h, modeView_setF_abortLate h]

@[simp] theorem modeView_cmdStop {f : Fld} (h : f.offChain = true) (u oc : Nat) (s : State) :
    modeView (cmdStop u f oc s) = modeView s := by
  unfold cmdStop cmdDoneLate when
  split
  · rfl
  · split
    · split
      · rw [modeView_setF_abortLate h, modeView_cmdEnd h]
      · exact modeView_cmdEnd h u _ s
    · exact modeView_cmdEnd h u _ s

@[simp] theorem modeView_ite (c : Prop) [Decidable c] (s t : State) :
    modeView (if c then s else t) = if c then modeView s else modeView t := apply_ite modeView c s t

@[simp] theorem modeView_when (c : Bool) (f : State → State) (s : State) :
    modeView (when c f s) = if c then modeView (f s) else modeView s := apply_ite modeView (c = true) (f s) s

@[simp] theorem modeView_forAll {α : Type} {f : α → State → State} (l : List α) (s : State)
    (h : ∀ x ∈ l, ∀ t, modeView (f x t) = modeView t) : modeView (forAll l f s) = modeView s := by
  induction l generalizing s with
  | nil => rfl
  | cons x l ih => exact (ih (f x s) fun y hy => h y (List.mem_cons_of_mem _ hy)).trans (h x List.mem_cons_self s)

@[simp] theorem modeView_modPort (p : Nat) (f : Port → Port) (s : State) : modeView (modPort p f s) = modeView s := (rfl)
@[simp] theorem modeView_modLink (p : Nat) (f : Link → Link) (s : State) : modeView (modLink p f s) = modeView s := (rfl)
@[simp] theorem modeView_modSig (p : Nat) (f : Signal → Signal) (s : State) : modeView (modSig p f s) = modeView s := (rfl)
@[simp] theorem modeView_modRc (p : Nat) (f : Rc → Rc) (s : State) : modeView (modRc p f s) = modeView s := (rfl)
@[simp] theorem modeView_modOam (p : Nat) (f : Oam → Oam) (s : State) : modeView (modOam p f s) = modeView s := (rfl)
@[simp] theorem modeView_modWatch (p : Nat) (f : Watch → Watch) (s : State) : modeView (modWatch p f s) = modeView s := (rfl)
@[simp] theorem modeView_modCal (p : Nat) (f : Cal → Cal) (s : State) : modeView (modCal p f s) = modeView s := (rfl)
@[simp] theorem modeView_modClk (f : Clk → Clk) (s : State) : modeView (modClk f s) = modeView s := (rfl)
@[simp] theorem modeView_emit (e : Emission) (s : State) : modeView (emit e s) = modeView s := (rfl)

/-! ### Ports that go down (R159) -/

@[simp] theorem modeView_countStream (p i k n : Nat) (s : State) : modeView (countStream p i k n s) = modeView s := by
  simp only [countStream, modeView_ite, modeView_correctedFault, ite_self]
  rfl

@[simp] theorem modeView_startFrame (p c : Nat) (s : State) : modeView (startFrame p c s) = modeView s := by
  unfold startFrame
  split <;> simp

@[simp] theorem modeView_mapBytes (p c n : Nat) (s : State) : modeView (mapBytes p c n s) = modeView s := by
  unfold mapBytes
  dsimp only
  split
  · split <;> simp
  · simp

@[simp] theorem modeView_mapClass (p c k : Nat) (s : State) : modeView (mapClass p c k s) = modeView s := by
  induction k generalizing s with
  | zero => rfl
  | succ k ih =>
    unfold mapClass
    split
    · split <;> simp [ih]
    · rfl

@[simp] theorem modeView_sendFlow (p ended : Nat) (pause : Bool) (s : State) : modeView (sendFlow p ended pause s) = modeView s := by
  simp +decide [sendFlow]

@[simp] theorem modeView_updPressure (p c : Nat) (s : State) : modeView (updPressure p c s) = modeView s := by
  simp +decide [updPressure]

@[simp] theorem modeView_settleClasses (p : Nat) (s : State) : modeView (settleClasses p s) = modeView s := by
  simp [settleClasses, settleClass]

@[simp] theorem modeView_setTable (p t : Nat) (m : NMap ToneEntry) (s : State) : modeView (setTable p t m s) = modeView s := by
  simp +decide [setTable, noteTables]

@[simp] theorem modeView_dropLink (p : Nat) (s : State) : modeView (dropLink p s) = modeView s := by
  simp +decide [dropLink, newLink, rcDrop, oamDiscard, sendLost, dropSwitches, leaveCompat, leaveShow]

@[simp] theorem modeView_toDisabled (p : Nat) (s : State) : modeView (toDisabled p s) = modeView s := by
  simp +decide [toDisabled, enterSt, noteMuted, setSt, setCause, abortLinkCmds]

/-! ### Power states (R374) -/

@[simp] theorem modeView_switchState (st : Nat) (s : State) : modeView (switchState st s) = modeView s := by
  simp +decide [switchState, setCause]

@[simp] theorem modeView_wakeTakes (ps : List Nat) (s : State) : modeView (wakeTakes ps s) = modeView s := by
  simp +decide [wakeTakes]

@[simp] theorem modeView_enterState (st : Nat) (s : State) : modeView (enterState st s) = modeView s := by
  unfold enterState
  dsimp only
  split
  · split <;> simp
  · simp

@[simp] theorem modeView_commitState (st : Nat) (s : State) : modeView (commitState st s) = modeView s := by
  simp +decide [commitState]

/-! ### Reconfigurations (R184) -/

@[simp] theorem modeView_rcNext (p : Nat) (s : State) : modeView (rcNext p s) = modeView s := by
  unfold rcNext rcSend
  split <;> simp

@[simp] theorem modeView_oamPost (p type : Nat) (payload : List Byte) (s : State) :
    modeView (oamPost p type payload s) = modeView s := by
  unfold oamPost oamNext
  split <;> simp

@[simp] theorem modeView_startReconf (p : Nat) (s : State) : modeView (startReconf p s) = modeView s := by
  simp +decide [startReconf, sendReconfReq, rcPost]

@[simp] theorem modeView_commitPort (x : Nat × Nat × Nat × Nat) (s : State) : modeView (commitPort x s) = modeView s := by
  unfold commitPort
  extract_lets p staged
  have first : modeView staged = modeView s := by simp +decide [staged]
  split
  · rfl
  · split
    · exact first
    · rw [modeView_startReconf, first]

/-! ### T (R71) -/

theorem modeView_dropStaging (s : State) : modeView (dropStaging s) = (none, 0) := by
  unfold modeView dropStaging
  rw [setAll_cons, setAll_cons, setAll_cons]
  exact Prod.ext rfl (getF_setF_same 0 .CHAIN_ARMED 0 _)

theorem modeView_noteMissed (gen : Nat) (s : State) : modeView (noteMissed gen s) = modeView s := by
  have key : Fld.CHAIN_ARMED.key 0 ≠ Fld.CHAIN_MISSED_GEN.key 0 := by decide
  rw [noteMissed, modeView_sticky]
  exact modeView_of_statusOnly (statusOnly_setF 0 .CHAIN_MISSED_GEN gen s) (getF_setF_other gen s key)

theorem modeAtT_complete {g : Staging} {s : State} (staged : s.staging = some g) (armed : g.armed.isSome = true)
    (alive : g.dead = false) (complete : g.complete = true) : ∃ t, modeView t = (none, 0) ∧
      modeAtT s = setF 0 .CHAIN_APPLIED_GEN g.gen t := by
  have kept : g.armed.isNone = false := by simpa using armed
  refine ⟨forAll g.snaps commitPort (if g.stateTgt = 0 then dropStaging s else commitState g.stateTgt (dropStaging s)), ?_, ?_⟩
  · rw [modeView_forAll _ _ fun x _ t => modeView_commitPort x t, modeView_ite, modeView_commitState, ite_self,
      modeView_dropStaging]
  · unfold modeAtT
    rw [staged]
    dsimp only
    rw [kept, alive, complete]
    rfl

theorem modeAtT_missed {g : Staging} {s : State} (staged : s.staging = some g) (armed : g.armed.isSome = true)
    (open_ : g.complete = false) : modeAtT s = noteMissed g.gen (dropStaging s) := by
  have kept : g.armed.isNone = false := by simpa using armed
  unfold modeAtT
  rw [staged]
  dsimp only
  rw [kept, open_, Bool.not_false, Bool.or_true]
  rfl

theorem exec_modeCommitT {s : State} (h : Quiet s) : exec .modeCommitT s = .next (modeAtT s) :=
  congrArg Host.Outcome.next (settle_quiet (quiet_modeAtT h))

/-- What T leaves of a mode change: nothing staged or armed, the generation applied, or noted as missed. -/
theorem modeAtT_spec {g : Staging} {s : State} (staged : s.staging = some g) (armed : g.armed.isSome = true)
    (alive : g.dead = false) :
    modeView (modeAtT s) = (none, 0) ∧
      (g.complete = true → getF 0 .CHAIN_APPLIED_GEN (modeAtT s) = g.gen % 2 ^ 16) ∧
      (g.complete = false → StsSet .CHAIN_MODE_MISSED 0 (modeAtT s) ∧
        getF 0 .CHAIN_MISSED_GEN (modeAtT s) = g.gen % 2 ^ 16) := by
  cases complete : g.complete with
  | true =>
    obtain ⟨t, view, result⟩ := modeAtT_complete staged armed alive complete
    have key : Fld.CHAIN_ARMED.key 0 ≠ Fld.CHAIN_APPLIED_GEN.key 0 := by decide
    rw [result, modeView_of_statusOnly (statusOnly_setF 0 _ g.gen t) (getF_setF_other _ t key)]
    exact ⟨view, fun _ => getF_setF_same 0 .CHAIN_APPLIED_GEN _ t, (nomatch ·)⟩
  | false =>
    rw [modeAtT_missed staged armed complete, modeView_noteMissed, modeView_dropStaging]
    obtain ⟨-, missed, number⟩ := noteMissed_spec g.gen (dropStaging s)
    exact ⟨rfl, (nomatch ·), fun _ => ⟨missed, number⟩⟩

/-- Settles O24. -/
theorem modeChangeStagesArmsApplies : Obligations.ModeChangeStagesArmsApplies := by
  intro side f s running
  refine ⟨fun gen hgen acts fresh idle valid own => ?_, fun gen hgen acts fresh other => ?_,
    fun g d staged alive hgen acts fresh own until_ => ?_, fun g runs staged open_ alive => ?_,
    fun g staged armed alive quiet => ?_⟩
  · have gen' : bitsOf f.data.toNat 16 16 = gen := by
      have := f.data.isLt
      rw [bitsOf, hgen]
      omega
    have small : gen < 2 ^ 16 := gen' ▸ Nat.mod_lt _ (by omega)
    refine ⟨_, exec_prepare acts running (onPrepare_begins gen' fresh idle valid own) (sameOutputs_beginStaging gen s), ?_⟩
    obtain ⟨staging, number, state⟩ := beginStaging_spec gen idle small
    generalize beginStaging gen s = t at staging number state ⊢
    exact ⟨staging, number, state, (goesOn_sent ..).symm⟩
  · have gen' : bitsOf f.data.toNat 16 16 = gen := by
      have := f.data.isLt
      rw [bitsOf, hgen]
      omega
    refine ⟨_, exec_prepare acts running (onPrepare_foreign (gen' ▸ fresh) other) (.refl s), rfl, _, (goesOn_sent ..).symm, ?_⟩
    rw [data_withData]
    exact foreignData_bits _ s
  · have small : g.gen < 2 ^ 16 := hgen ▸ Nat.mod_lt _ (by omega)
    have commit := onCommit_arms (m := f.mtag.toNat) (data := f.data.toNat) staged alive hgen fresh own
      (by simpa [bitsOf] using until_)
    refine ⟨fun far => ?_, fun near => ?_⟩
    · rw [if_neg (by omega)] at commit
      refine ⟨_, exec_commit acts running commit ⟨rfl, rfl, rfl, getF_setF_other _ _ (by decide)⟩, ?_, ?_⟩
      · exact getF_setF_same 0 .CHAIN_ARMED 1 _
      · simp [bitsOf]
    · rw [if_pos near] at commit
      refine ⟨_, exec_commit acts running commit (sameOutputs_noteMissed g.gen s), ?_⟩
      obtain ⟨staging, missed, number⟩ := noteMissed_spec g.gen s
      rw [Nat.mod_eq_of_lt small] at number
      exact ⟨staging, missed, number⟩
  · refine ⟨_, exec_stagingComplete runs staged open_ alive, getF_setF_same 0 .CHAIN_STAGED 1 _, rfl, ?_⟩
    exact onlyFields_setF 0 .CHAIN_STAGED 1 _
  · obtain ⟨view, applied, missed⟩ := modeAtT_spec staged armed alive
    exact ⟨_, exec_modeCommitT quiet, congrArg Prod.fst view, congrArg Prod.snd view, applied, missed⟩

end Sys2Proof.Machine
end

section
/-! SUPPORT. System and power-on resets (R51, R354, R355, R441). -/

namespace Sys2Proof.Machine

/-! ### Fields that a reset clears or keeps -/

theorem mapGet_filter_key {α : Type} (p : Nat → Bool) (m : NMap α) (k : Nat) :
    mapGet (m.filter fun e => p e.1) k = if p k then mapGet m k else none := by
  unfold mapGet
  rw [List.find?_filter]
  cases keep : p k with
  | true =>
    rw [if_pos rfl]
    refine congrArg _ (List.find?_congr fun e _ => ?_)
    by_cases same : e.1 = k
    · simp [same, keep]
    · simp [same]
  | false =>
    rw [if_neg (by simp)]
    have none_ : (m.find? fun e => decide (p e.1 = true ∧ (e.1 == k) = true)) = none := by
      refine List.find?_eq_none.mpr fun e _ found => ?_
      obtain ⟨held, same⟩ := of_decide_eq_true found
      rw [eq_of_beq same, keep] at held
      cases held
    rw [none_]
    rfl

theorem getF_filtered (p : Nat → Bool) (u : Nat) (f : Fld) {s t : State} (hf : t.fields = s.fields.filter fun e => p e.1)
    (ht : t.tmr = s.tmr.filter fun e => p e.1) :
    getF u f t = if p (f.key u) then getF u f s else f.base := by
  unfold getF mapGetD
  rw [hf, ht, mapGet_filter_key, mapGet_filter_key]
  cases p (f.key u) with
  | true => rfl
  | false => simp

theorem getF_systemClear (u : Nat) (f : Fld) (s : State) :
    getF u f (systemClear s) = if keptKeys.contains (f.key u) then getF u f (unstageAll s) else f.base :=
  getF_filtered (fun k => keptKeys.contains k) u f rfl rfl

theorem getF_clearBlk (b : Blk) (u : Nat) (f : Fld) (s : State) :
    getF u f (clearBlk b s) =
      if !((blkFlds b).map fun g => g.key 0).contains (f.key u) then getF u f s else f.base :=
  getF_filtered (fun k => !((blkFlds b).map fun g => g.key 0).contains k) u f rfl rfl

/-! ### Staged layouts lost -/

/-- From `s` to `t` fields and pavilions alone have changed. -/
def PavsOnly (s t : State) : Prop := ∃ F T P, t = { s with fields := F, tmr := T, pavs := P }

theorem PavsOnly.trans {s t u : State} (h : PavsOnly s t) (k : PavsOnly t u) : PavsOnly s u := by
  obtain ⟨F, T, P, rfl⟩ := h
  obtain ⟨F, T, P, rfl⟩ := k
  exact ⟨F, T, P, rfl⟩

theorem pavsOnly_loseStaged (n : Nat) (s : State) : PavsOnly s (loseStaged n s) := by
  unfold loseStaged
  extract_lets lost
  have first : PavsOnly s lost := ⟨_, _, _, rfl⟩
  split
  · exact first.trans ⟨_, _, lost.pavs, rfl⟩
  · exact first

theorem pavsOnly_unstageAll (s : State) : PavsOnly s (unstageAll s) :=
  (((pavsOnly_loseStaged 0 s).trans (pavsOnly_loseStaged 1 _)).trans (pavsOnly_loseStaged 2 _)).trans
    (pavsOnly_loseStaged 3 _)

theorem getF_loseStaged {u n : Nat} {g : Fld} (h : g.key u ≠ (Fld.LAYOUT_STAGED_ID_LO n).key 0)
    (k : g.key u ≠ (Fld.LAYOUT_PHASE n).key 0) (s : State) : getF u g (loseStaged n s) = getF u g s := by
  unfold loseStaged
  extract_lets lost
  have first : getF u g lost = getF u g s := getF_setF_other 0 s h
  split
  · rw [getF_setF_other _ _ k, first]
  · exact first

theorem getF_unstageAll {u : Nat} {g : Fld}
    (h : ∀ n < 4, g.key u ≠ (Fld.LAYOUT_STAGED_ID_LO n).key 0 ∧ g.key u ≠ (Fld.LAYOUT_PHASE n).key 0) (s : State) :
    getF u g (unstageAll s) = getF u g s := by
  have each := fun n (hn : n < 4) t => getF_loseStaged (h n hn).1 (h n hn).2 t
  change getF u g (loseStaged 3 (loseStaged 2 (loseStaged 1 (loseStaged 0 s)))) = _
  rw [each 3 (by omega), each 2 (by omega), each 1 (by omega), each 0 (by omega)]

/-! ### What a reset forgets -/

/-- No Keeper, nothing acted on or under way, no port and no pavilion; the queue as it was. -/
structure Forgotten (s t : State) : Prop where
  keeper : getF 0 .KEEPER_KVALID t = 0
  acting : t.acting = false
  pending : t.pending = s.pending
  access : t.access = []
  ports : t.ports = []
  pavs : t.pavs = []

theorem Forgotten.statusOnly {s t u : State} (h : Forgotten s t) (k : StatusOnly t u)
    (hf : getF 0 .KEEPER_KVALID u = getF 0 .KEEPER_KVALID t) : Forgotten s u := by
  obtain ⟨F, T, I, E, L, D, J, rfl⟩ := k
  exact ⟨hf.trans h.keeper, h.acting, h.pending, h.access, h.ports, h.pavs⟩

theorem Forgotten.modClk {s t : State} (h : Forgotten s t) (f : Clk → Clk) : Forgotten s (modClk f t) :=
  ⟨h.keeper, h.acting, h.pending, h.access, h.ports, h.pavs⟩

/-- What was before a reset counts by its queue alone. -/
theorem Forgotten.of_pending {s s' t : State} (h : Forgotten s t) (k : s.pending = s'.pending) : Forgotten s' t :=
  ⟨h.keeper, h.acting, h.pending.trans k, h.access, h.ports, h.pavs⟩

theorem kvalid_lost : keptKeys.contains (Fld.KEEPER_KVALID.key 0) = false := by decide +kernel

theorem forgotten_systemClear (s : State) : Forgotten s (systemClear s) := by
  obtain ⟨F, T, P, h⟩ := pavsOnly_unstageAll s
  refine ⟨?_, rfl, ?_, rfl, rfl, rfl⟩
  · rw [getF_systemClear, kvalid_lost]
    rfl
  · change (unstageAll s).pending = s.pending
    rw [h]

theorem forwarding_systemClear (s : State) : (systemClear s).forwarding = s.forwarding := by
  obtain ⟨F, T, P, h⟩ := pavsOnly_unstageAll s
  change (unstageAll s).forwarding = s.forwarding
  rw [h]

theorem Forgotten.clearBlk {s t : State} (h : Forgotten s t) (b : Blk) : Forgotten s (clearBlk b t) := by
  refine ⟨?_, h.acting, h.pending, h.access, h.ports, h.pavs⟩
  rw [getF_clearBlk]
  split
  · exact h.keeper
  · rfl

theorem powerClear_spec (s : State) : Forgotten s (powerClear s) ∧ (powerClear s).forwarding = false := by
  unfold powerClear
  extract_lets cleared shown
  have first : Forgotten s cleared := ((forgotten_systemClear s).clearBlk .RSTC).clearBlk .DEBUG
  have second : Forgotten s shown := first.statusOnly
    (statusOnly_setAll 0 [(.NVMC_WP, 0), (.CHAIN_RING, 0)] cleared) (getF_setAll_other _ _ (by decide))
  clear_value shown
  have stopped : Forgotten s { shown with forwarding := false } :=
    ⟨second.keeper, second.acting, second.pending, second.access, second.ports, second.pavs⟩
  exact ⟨stopped.modClk _, rfl⟩

/-! ### The cause of a reset (R357, R358) -/

theorem statusOnly_noteCause (bit level : Nat) (s : State) :
    StatusOnly (modClk (fun c => { c with episode := true, asserted := addNat c.asserted bit }) s) (noteCause bit level s) := by
  unfold noteCause
  extract_lets first mask wide noted begun n counted
  have one : StatusOnly (modClk (fun c => { c with episode := true, asserted := addNat c.asserted bit }) s) begun :=
    ⟨_, _, _, _, _, _, _, rfl⟩
  have two := one.trans (statusOnly_setF 0 .LODGE_RESET_COUNT (satAdd 32 n 1) begun)
  split
  · split
    · exact two.trans (statusOnly_sticky .LODGE_COUNT_SAT 0 _)
    · exact two
  · exact one

theorem getF_noteCause {u : Nat} {g : Fld} (off : g.offStatus = true) (other : g.key u ≠ Fld.RSTC_CAUSE_MASK.key 0)
    (widest : g.key u ≠ Fld.RSTC_WIDEST.key 0) (resets : g.key u ≠ Fld.LODGE_RESET_COUNT.key 0) (bit level : Nat) (s : State) :
    getF u g (noteCause bit level s) = getF u g s := by
  unfold noteCause
  extract_lets first mask wide noted begun n counted
  have one : getF u g begun = getF u g s := by
    refine (getF_modClk u g _ noted).trans (getF_setAll_other _ s fun e he => ?_)
    rcases List.mem_pair.mp he with rfl | rfl
    · exact other
    · exact widest
  have two : getF u g counted = getF u g s := (getF_setF_other _ _ resets).trans one
  split
  · split
    · rw [getF_sticky_off off, two]
    · exact two
  · exact one

theorem bitOf_or_two_pow (n : Nat) {bit : Nat} (h : bit < 16) : bitOf ((n ||| 2 ^ bit) % 2 ^ 16) bit = true := by
  rw [bitOf_eq_testBit, Nat.testBit_mod_two_pow, Nat.testBit_or, Nat.testBit_two_pow_self]
  simp [h]

theorem cause_noteCause {bit : Nat} (h : bit < 16) (level : Nat) (s : State) :
    bitOf (getF 0 .RSTC_CAUSE_MASK (noteCause bit level s)) bit = true := by
  unfold noteCause
  extract_lets first mask wide noted begun n counted
  have one : getF 0 .RSTC_CAUSE_MASK begun = (mask ||| 2 ^ bit) % 2 ^ 16 := by
    refine (getF_modClk 0 _ _ noted).trans ?_
    simp only [noted]
    rw [setAll_cons, getF_setAll_other _ _ (by simp +decide), getF_setF_same]
    rfl
  have two : getF 0 .RSTC_CAUSE_MASK counted = (mask ||| 2 ^ bit) % 2 ^ 16 := (getF_setF_other _ _ (by decide)).trans one
  have set : bitOf ((mask ||| 2 ^ bit) % 2 ^ 16) bit = true := bitOf_or_two_pow mask h
  split
  · split
    · rw [getF_sticky_off rfl, two]
      exact set
    · rw [two]
      exact set
  · rw [one]
    exact set

/-- What a reset of the system or at power-on leaves. -/
def Gone (bit : Nat) (s t : State) : Prop :=
  keeper t = none ∧ t.acting = false ∧ t.clk.episode = true ∧ bitOf (getF 0 .RSTC_CAUSE_MASK t) bit = true ∧
    t.pending = s.pending ∧ t.access = [] ∧ t.ports = [] ∧ t.pavs = []

theorem gone_noteCause {bit : Nat} (hb : bit < 16) (level : Nat) {s t : State} (h : Forgotten s t) :
    Gone bit s (noteCause bit level t) ∧ (noteCause bit level t).forwarding = t.forwarding := by
  have noted := (h.modClk (fun c => { c with episode := true, asserted := addNat c.asserted bit })).statusOnly
    (statusOnly_noteCause bit level t) (getF_noteCause rfl (by decide) (by decide) (by decide) bit level t)
  have cause := cause_noteCause hb level t
  obtain ⟨F, T, I, E, L, D, J, eq⟩ := statusOnly_noteCause bit level t
  have episode : (noteCause bit level t).clk.episode = true := by rw [eq]; rfl
  have forwarding : (noteCause bit level t).forwarding = t.forwarding := by rw [eq]; rfl
  refine ⟨⟨?_, noted.acting, episode, cause, noted.pending, noted.access, noted.ports, noted.pavs⟩, forwarding⟩
  simp [keeper, isSet, noted.keeper]

theorem gone_systemReset {bit : Nat} (hb : bit < 16) {s s' : State} (h : s'.pending = s.pending) :
    Gone bit s (assertReset bit 2 s') ∧ (assertReset bit 2 s').forwarding = s'.forwarding := by
  obtain ⟨gone, forwarding⟩ := gone_noteCause hb 2 ((forgotten_systemClear s').of_pending h)
  exact ⟨gone, forwarding.trans (forwarding_systemClear s')⟩

theorem gone_powerReset {bit : Nat} (hb : bit < 16) {s s' : State} (h : s'.pending = s.pending) :
    Gone bit s (assertReset bit 3 s') ∧ (assertReset bit 3 s').forwarding = false := by
  obtain ⟨forgotten, stopped⟩ := powerClear_spec s'
  obtain ⟨gone, forwarding⟩ := gone_noteCause hb 3 (forgotten.of_pending h)
  exact ⟨gone, forwarding.trans stopped⟩

/-! ### Commands that stop -/

theorem key_outcome (u : Nat) (f : Fld) : f.outcome.key u = f.key u + 4 := by
  simp only [Fld.key, Fld.addr, Fld.outcome]
  omega

theorem key_abortLate (u : Nat) (f : Fld) : f.abortLate.key u = f.key u + 1 := by
  simp only [Fld.key, Fld.addr, Fld.abortLate]
  omega

theorem ended_cmdEnd (u : Nat) (f : Fld) {oc : Nat} (h : oc < 16) (s : State) : Ended u f oc (cmdEnd u f oc s) := by
  have key : f.outcome.key u ≠ f.key u := by rw [key_outcome]; omega
  refine ⟨?_, ?_⟩
  · rw [cmdEnd, getF_setF_same, Nat.zero_mod]
  · rw [cmdEnd, getF_setF_other _ _ key, getF_setF_same]
    exact Nat.mod_eq_of_lt h

theorem ended_cmdDoneLate (u : Nat) (f : Fld) (late : Bool) (s : State) : Ended u f ocDone (cmdDoneLate u f late s) := by
  have ended := ended_cmdEnd u f (show ocDone < 16 by decide) s
  have key : f.key u ≠ f.abortLate.key u := by rw [key_abortLate]; omega
  have outcome : f.outcome.key u ≠ f.abortLate.key u := by rw [key_outcome, key_abortLate]; omega
  unfold cmdDoneLate when
  split
  · exact ⟨(getF_setF_other _ _ key).trans ended.1, (getF_setF_other _ _ outcome).trans ended.2⟩
  · exact ended

/-- A command that runs ends with the outcome it is stopped with. -/
theorem ended_cmdStop {u : Nat} {f : Fld} {oc : Nat} {s : State} (h : getF u f s = 1) (hoc : oc < 16) :
    Ended u f oc (cmdStop u f oc s) := by
  have runs : ¬(!cmdRuns u f s) = true := by simp [cmdRuns, isSet, h]
  unfold cmdStop
  rw [if_neg runs]
  split
  case isTrue done => exact done ▸ ended_cmdDoneLate u f false s
  case isFalse => exact ended_cmdEnd u f hoc s

/-! ### The sources of a reset (R354, R355) -/

theorem rstGo_kept : keptKeys.contains (Fld.RSTC_RST_GO.key 0) = true ∧
    keptKeys.contains (Fld.RSTC_RST_GO.outcome.key 0) = true := by decide +kernel

/-- RST_GO that has ended stays so through the system reset it asserts. -/
theorem ended_rstGo {s : State} (h : Ended 0 .RSTC_RST_GO ocDone s) (bit : Nat) :
    Ended 0 .RSTC_RST_GO ocDone (assertReset bit 2 s) := by
  obtain ⟨go, outcome⟩ := rstGo_kept
  change getF 0 .RSTC_RST_GO (noteCause bit 2 (systemClear s)) = 0 ∧
    getF 0 Fld.RSTC_RST_GO.outcome (noteCause bit 2 (systemClear s)) = ocDone
  rw [getF_noteCause rfl (by decide) (by decide) (by decide), getF_noteCause rfl (by decide) (by decide) (by decide),
    getF_systemClear, getF_systemClear, if_pos go, if_pos outcome, getF_unstageAll (by decide), getF_unstageAll (by decide)]
  exact h

theorem pending_of_still {s t : State} (h : still t = still s) : t.pending = s.pending :=
  congrArg (fun x => x.1.2.2.2.2.1) h

theorem pending_lodge (intact : Bool) (s : State) : (when (!intact) loseLodge s).pending = s.pending :=
  pending_of_still (by rw [still_when, still_loseLodge, ite_self])

theorem exec_rstAssert {s : State} {level : Nat} (h : s.clk.rstPend = some level) :
    exec .rstAssert s = .next (
      let t := cmdStop 0 .RSTC_RST_GO ocDone (modClk (fun c => { c with rstPend := none, rstWas := none }) s)
      if level = 2 then assertReset 3 2 t else assertReset 4 1 t) := by
  have due : rstDue s = some level := by rw [rstDue, h]
  change Host.Outcome.next (match rstDue s with | some level => _ | none => s) = _
  rw [due]

theorem exec_resetN {ns : Nat} {taken : Bool} (s : State) (h : 4000 ≤ ns ∨ 1000 ≤ ns ∧ taken = true) :
    exec (.resetN ns taken) s = .next (assertReset 2 2 s) :=
  congrArg Host.Outcome.next (if_pos (by simpa using h))

theorem forwarding_of_statusOnly {s t : State} (h : StatusOnly s t) : t.forwarding = s.forwarding := by
  obtain ⟨F, T, I, E, L, D, J, rfl⟩ := h
  rfl

theorem gone_rstAssert {s : State} (due : s.clk.rstPend = some 2) :
    Completes .rstAssert s fun t => Gone 3 s t ∧ t.forwarding = s.forwarding ∧
      (getF 0 .RSTC_RST_GO s = 1 → Ended 0 .RSTC_RST_GO ocDone t) := by
  refine ⟨_, (exec_rstAssert due).trans (congrArg Host.Outcome.next (if_pos rfl)), ?_⟩
  have ended := fun runs => ended_cmdStop (u := 0) (f := .RSTC_RST_GO) (oc := ocDone)
    (s := modClk (fun c => { c with rstPend := none, rstWas := none }) s) runs (by decide)
  have stop := statusOnly_cmdStop 0 .RSTC_RST_GO ocDone (modClk (fun c => { c with rstPend := none, rstWas := none }) s)
  generalize cmdStop 0 .RSTC_RST_GO ocDone (modClk (fun c => { c with rstPend := none, rstWas := none }) s) = stopped
    at ended stop ⊢
  obtain ⟨pending, -⟩ := stop.frame
  have outputs : stopped.forwarding = s.forwarding := (forwarding_of_statusOnly stop).trans (modClk_forwarding _ s)
  obtain ⟨lost, forwarding⟩ := gone_systemReset (bit := 3) (by decide) (s := s) pending
  exact ⟨lost, forwarding.trans outputs, fun runs => ended_rstGo (ended runs) 3⟩

theorem gone_dbgReset {s : State} (enabled : getF 0 .DEBUG_DBG_RST_EN s = 1) (tap : s.clk.tap = 1)
    (ir : getF 0 .DEBUG_TAP_IR s = 0xE0) :
    Completes .dbgReset s fun t => Gone 8 s t ∧ t.forwarding = s.forwarding := by
  refine ⟨_, congrArg Host.Outcome.next (if_pos (by simp [isSet, enabled, tap, ir])), ?_⟩
  have used := statusOnly_sticky .DEBUG_DBG_RESET_USED 0 s
  generalize sticky .DEBUG_DBG_RESET_USED 0 s = noted at used ⊢
  obtain ⟨pending, -⟩ := used.frame
  obtain ⟨lost, forwarding⟩ := gone_systemReset (bit := 8) (by decide) (s := s) pending
  exact ⟨lost, forwarding.trans (forwarding_of_statusOnly used)⟩

theorem gone_brownOut {rail : Rail} (live : rail ≠ .vbak) (lodge : Bool) (s : State) :
    Completes (.brownOut rail lodge) s fun t => Gone 1 s t ∧ t.forwarding = false := by
  have drops : ¬(rail == .vbak) = true := by cases rail <;> simp_all
  exact ⟨_, congrArg Host.Outcome.next (if_neg drops), gone_powerReset (by decide) (pending_lodge lodge s)⟩

/-- Settles O32: each source asserts its level on a state with the queue as it was. -/
theorem resetsForgetTheKeeper : Obligations.ResetsForgetTheKeeper := by
  intro lodge taken rail ns s gone
  refine ⟨⟨_, rfl, gone_powerReset (by decide) (pending_lodge lodge s)⟩, fun live => gone_brownOut live lodge s,
    fun long => ⟨_, exec_resetN s (.inl long), gone_systemReset (by decide) rfl⟩,
    fun long took => ⟨_, exec_resetN s (.inr ⟨long, took⟩), gone_systemReset (by decide) rfl⟩, fun short => ?_,
    gone_rstAssert, gone_dbgReset⟩
  exact congrArg Host.Outcome.next (if_neg (by simp; omega))

end Sys2Proof.Machine
end

section
/-! SUPPORT. A write of 1 to a command field that reads 0 starts that command alone and is answered OK (R42, R82, R90). -/

namespace Sys2Proof.Machine

/-! ### The word of a command field -/

/-- A command field in whose word a write acts on command, setting and write-once fields alone, each by its value. -/
def Fld.commands (f : Fld) : Bool :=
  f.ty == .cmd && f.width == 1 && !gateFixed f && winShape f.blk f.off == none &&
    !([0x000, 0x004, 0x00C, 0x010].contains f.off) && ((fldsAt f.blk f.off).filter (· == f) == [f]) &&
    (fldsAt f.blk f.off).all fun g => g.ty != .idx && !actsAlways g

theorem Fld.commands_spec {f : Fld} (h : f.commands = true) :
    f.ty = .cmd ∧ f.width = 1 ∧ gateFixed f = false ∧ winShape f.blk f.off = none ∧
      (f.off ≠ 0x000 ∧ f.off ≠ 0x004 ∧ f.off ≠ 0x00C ∧ f.off ≠ 0x010) ∧ (fldsAt f.blk f.off).filter (· == f) = [f] ∧
      ∀ g ∈ fldsAt f.blk f.off, g.ty ≠ .idx ∧ actsAlways g = false := by
  simpa [Fld.commands, and_assoc] using h

/-- The field itself is started. -/
theorem judgeF_start {m u : Nat} {f : Fld} {s : State} (always : actsAlways f = false) (gate : gateFixed f = false)
    (ty : f.ty = .cmd) (idle : presentF m u f s = 0) : judgeF m u f 1 s = .start := by
  simp [judgeF, always, gate, ty, idle]

/-- Any other field is kept: it is given its value, or none that a write changes. -/
theorem judgeF_other {m u v : Nat} {g : Fld} {s : State} (always : actsAlways g = false) (idx : g.ty ≠ .idx)
    (h : g.ty = .rw ∨ g.ty = .lrw ∨ g.ty = .wo1 ∨ g.ty = .cmd → v = presentF m u g s) : judgeF m u g v s = .keep := by
  unfold judgeF
  cases ty : g.ty <;> simp_all

theorem judgeWord_start {m u data : Nat} {f : Fld} {s : State} (hf : f.commands = true) (h : AsksStart m u f data s) :
    judgeWord m f.blk u f.off data s =
      (fldsAt f.blk f.off).map fun g => (g, bitsOf data g.lo g.width, if g = f then .start else .keep) := by
  obtain ⟨ty, width, gate, -, -, once, others⟩ := f.commands_spec hf
  obtain ⟨one, idle, rest⟩ := h
  refine List.map_congr_left fun g hg => ?_
  obtain ⟨idx, always⟩ := others g hg
  by_cases same : g = f
  · subst same
    rw [if_pos rfl, width, one, judgeF_start always gate ty idle]
  · rw [if_neg same, judgeF_other always idx (rest g hg same)]

/-- The verdicts on a word in which one field alone is not kept. -/
theorem verdicts_single {m u off data : Nat} {b : Blk} {f : Fld} {V : Verdict} {s : State}
    (once : (fldsAt b off).filter (· == f) = [f]) (hV : V ≠ .keep)
    (word : judgeWord m b u off data s =
      (fldsAt b off).map fun g => (g, bitsOf data g.lo g.width, if g = f then V else .keep)) :
    (judgeWord m b u off data s).filter (fun e => e.2.2 == V) = [(f, bitsOf data f.lo f.width, V)] ∧
      ∀ v, v ≠ V → v ≠ .keep → (judgeWord m b u off data s).filter (fun e => e.2.2 == v) = [] := by
  rw [word]
  constructor
  · have chosen : ((fun e : Fld × Nat × Verdict => e.2.2 == V) ∘ fun g =>
        (g, bitsOf data g.lo g.width, if g = f then V else .keep)) = fun g => g == f := by
      funext g
      by_cases same : g = f <;> simp [same, hV.symm]
    rw [List.filter_map, chosen, once, List.map_singleton, if_pos rfl]
  · intro v hs hk
    refine List.filter_eq_nil_iff.mpr fun e he => ?_
    obtain ⟨g, -, rfl⟩ := List.mem_map.mp he
    by_cases same : g = f
    · simpa [same] using hs.symm
    · simpa [same] using hk.symm

/-- Such a write starts the command and is answered with code 0. -/
theorem writeReg_start {m u data : Nat} {f : Fld} {x : Ext} {s : State} (hf : f.commands = true)
    (h : AsksStart m u f data s) : writeReg m f.blk u f.off data x s = (0, startCmd m u f x s) := by
  obtain ⟨-, width, -, window, ⟨-, sts, first, ign⟩, once, -⟩ := f.commands_spec hf
  obtain ⟨start, others⟩ := verdicts_single once (by decide) (judgeWord_start hf h)
  unfold writeReg
  rw [if_neg sts, if_neg first, if_neg ign, window]
  unfold writeFields
  dsimp only
  rw [start, others .store (by decide) (by decide), others .abort (by decide) (by decide),
    others .enabled (by decide) (by decide), others .locked (by decide) (by decide)]
  rfl

/-- A write that stores one field alone is answered with code 0. -/
theorem writeReg_store {m u off data : Nat} {b : Blk} {f : Fld} {x : Ext} {s : State}
    (place : off ≠ 0x004 ∧ off ≠ 0x00C ∧ off ≠ 0x010) (window : winShape b off = none)
    (once : (fldsAt b off).filter (· == f) = [f])
    (word : judgeWord m b u off data s =
      (fldsAt b off).map fun g => (g, bitsOf data g.lo g.width, if g = f then .store else .keep)) :
    writeReg m b u off data x s =
      (0, afterWrite m u f (bitsOf data f.lo f.width) (storeF m u f (bitsOf data f.lo f.width) s)) := by
  obtain ⟨sts, first, ign⟩ := place
  obtain ⟨store, others⟩ := verdicts_single once (by decide) word
  unfold writeReg
  rw [if_neg sts, if_neg first, if_neg ign, window]
  unfold writeFields
  dsimp only
  rw [store, others .start (by decide) (by decide), others .abort (by decide) (by decide),
    others .enabled (by decide) (by decide), others .locked (by decide) (by decide)]
  rfl

/-! ### A consumed frame -/

/-- A frame consumed leaves a frame in its place and changes status. -/
theorem consumeFrame_form (src : Src) (s : State) : ∃ l, StatusOnly { s with sent := l } (consumeFrame src s) := by
  cases src with
  | inband lane => exact ⟨s.sent, .refl s⟩
  | chain side =>
    obtain ⟨l, -, h⟩ := consumeFrame_chain side s
    exact ⟨l ++ s.sent, h⟩

theorem extOf_consumeFrame (src : Src) (s : State) : extOf (consumeFrame src s) = extOf s := by
  obtain ⟨l, F, T, I, E, L, D, J, h⟩ := consumeFrame_form src s
  rw [h]
  rfl

theorem keeper_consumeFrame (src : Src) (s : State) : keeper (consumeFrame src s) = keeper s := by
  obtain ⟨fields, -⟩ := consumeFrame_keeps src s
  unfold keeper isSet
  rw [fields 0 .KEEPER_KVALID (away_of_page (by decide) (by decide)), fields 0 .KEEPER_KTAG (away_of_page (by decide) (by decide))]

theorem disableMeets_consumeFrame (n : Nat) (src : Src) (s : State) : disableMeets n (consumeFrame src s) = disableMeets n s := by
  obtain ⟨fields, pavs, -⟩ := consumeFrame_keeps src s
  have en : getF n (.en .PAV_CTL) (consumeFrame src s) = getF n (.en .PAV_CTL) s := fields n _ (away_pavCtl n rfl (by decide))
  have keeps : ∀ m, isKeeper m (consumeFrame src s) = isKeeper m s := fun m => by
    rw [isKeeper, keeper_consumeFrame, isKeeper]
  have pav : (consumeFrame src s).pav n = s.pav n := by rw [State.pav, pavs, State.pav]
  have rest : (consumeFrame src s).cycles = s.cycles ∧ (consumeFrame src s).pending = s.pending := by
    obtain ⟨l, F, T, I, E, L, D, J, h⟩ := consumeFrame_form src s
    rw [h]
    exact ⟨rfl, rfl⟩
  unfold disableMeets meets
  simp only [en, keeps, pav, rest]

/-! ### Own commands -/

/-- A command field with a command of its own: neither FIRE nor SNAP_CLR. -/
def Fld.ownCommand (f : Fld) : Bool := f.commands && f != .fire f.blk && !isSnapClr f

theorem startCmd_own {m u : Nat} {f : Fld} {s : State} (hf : f.ownCommand = true) (x : Ext)
    (port : f.blk ∈ portBlks → disableMeets (pavOf u) s = false) : startCmd m u f x s = startOwnCmd m u f x s := by
  simp only [Fld.ownCommand, Bool.and_eq_true, bne_iff_ne, ne_eq, Bool.not_eq_true'] at hf
  obtain ⟨⟨-, fire⟩, snap⟩ := hf
  have stays : ¬(portBlks.contains f.blk && disableMeets (pavOf u) s) = true := by
    rw [Bool.and_eq_true, List.contains_iff_mem]
    rintro ⟨here, disables⟩
    rw [port here] at disables
    cases disables
  unfold startCmd
  rw [if_neg fire, snap, if_neg Bool.false_ne_true, if_neg stays]

theorem regAccess_writes {w : Acc} {b : Blk} {u off : Nat} {s : State} (h : Writes w b u off s) (x : Ext) :
    regAccess w opWrite (regAt b u off) (.ext x) s =
      settle (answer (reqOf w (blkBase b u + off)) opWrite
        (writeReg w.mtag.toNat b u off w.data.toNat x (consumeFrame w.src s)).1 0
        (writeReg w.mtag.toNat b u off w.data.toNat x (consumeFrame w.src s)).2) := by
  obtain ⟨reached, ⟨access, -⟩, clock, place, early⟩ := h
  obtain ⟨access', clk⟩ := consumeFrame_frame w.src s
  have place' : target (reqOf w (blkBase b u + off)).addr.toNat = .reg b u off := by
    simpa [reqOf, target_mod] using place
  unfold regAccess
  rw [if_pos reached, regAt, submit_lands (b := b) (u := u) (off := off) (access'.trans access)
    (by simpa [Clocked, clocked, clk] using clock) place' (by simp [opWrite, opClaim]) (by simp) early]
  unfold landAccess performOp
  simp only [writeOp, place']
  rfl

theorem commands_of_ownCommand {f : Fld} (h : f.ownCommand = true) : f.commands = true := by
  simp only [Fld.ownCommand, Bool.and_eq_true] at h
  exact h.1.1

/-- A master's write that starts a command, answered. -/
theorem regWrite_start {w : Acc} {u : Nat} {f : Fld} {s : State} (hf : f.ownCommand = true) (h : Starts w u f s)
    (port : f.blk ∈ portBlks → disableMeets (pavOf u) s = false) :
    regWrite w (regAt f.blk u f.off) s =
      settle (answer (reqOf w (blkBase f.blk u + f.off)) opWrite 0 0
        (startOwnCmd w.mtag.toNat u f (extOf (consumeFrame w.src s)) (consumeFrame w.src s))) := by
  obtain ⟨writes, asks⟩ := h
  rw [regWrite, regAccess_writes writes, writeReg_start (commands_of_ownCommand hf) asks,
    startCmd_own hf _ (by rwa [disableMeets_consumeFrame]), extOf_consumeFrame]

/-! ### The rows -/

/-- The command fields of the rows. -/
def rowFlds : List Fld :=
  [.KEEPER_NOMINATE, .KEEPER_ACCEPT, .KEEPER_KEY_PROGRAM, .TIME_SET, .TIME_STEP, .LAYOUT_VERIFY, .LAYOUT_STAGE, .LAYOUT_APPLY,
    .LAYOUT_FW_ACTIVATE, .LAYOUT_FW_CONFIRM, .LAYOUT_ROLLBACK_RAISE, .LAYOUT_OEM_PROGRAM, .BOOTF_FLASH_PROG, .LAYBY_PEAK_CLR,
    .PORT_CTL_RECONF_GO, .PORT_CTL_RETRAIN, .OAM_SEND, .OAM_RX_RELEASE, .LINKUP_STORE_CLR, .SURVEY_SV_BASE_SAVE, .TSU_TX_POP,
    .TSU_RX_POP, .CAL_HYB_RECAL, .RSTC_RST_GO, .PWRC_STATE_GO, .PWRC_WAKE_CLR, .NVMC_SAVE]

theorem rowFlds_eq (p : Fin 8) (n : Fin 4) : (commandRows p n).map (fun r => r.2.2) = rowFlds := rfl

theorem ownCommand_of_mem : ∀ f ∈ rowFlds, f.ownCommand = true := by decide +kernel

/-- Each row is a write to the word of its command field. -/
theorem exec_commandRow (p : Fin 8) (n : Fin 4) : ∀ row ∈ commandRows p n, ∀ (w : Acc) (s : State),
    exec (row.1 w) s = .next (regWrite w (regAt row.2.2.blk row.2.1 row.2.2.off) s) := by
  simp only [commandRows, List.forall_mem_cons, List.not_mem_nil, false_implies, implies_true, and_true]
  and_intros <;> exact fun _ _ => rfl

/-- Settles O15. -/
theorem commandRowsStartTheirCommand : Obligations.CommandRowsStartTheirCommand := by
  rintro p n row hrow w s t starts port rfl
  have own : row.2.2.ownCommand = true :=
    ownCommand_of_mem _ (rowFlds_eq p n ▸ List.mem_map_of_mem (f := fun r => r.2.2) hrow)
  rw [exec_commandRow p n row hrow w s, regWrite_start own starts port]

end Sys2Proof.Machine
end

section
/-! SUPPORT. What the operations of the Keeper leave: ownership, lease, nomination, nonces (R51 to R57). -/

namespace Sys2Proof.Machine

/-! ### The part of the state that they reach -/

/-- From `s` to `t` nothing has changed but fields, status and the Keeper's own state. -/
def KeeperOnly (s t : State) : Prop :=
  ∃ F T I E L D J B N R M a n, t = { s with
    fields := F, tmr := T, irqOut := I, events := E, latchAt := L, faultAt := D, injOpen := J, banked := B, nonces := N
    refused := R, nominee := M, armLeft := a, leaseLeft := n }

theorem KeeperOnly.refl (s : State) : KeeperOnly s s := ⟨_, _, _, _, _, _, _, _, _, _, _, _, _, rfl⟩

theorem KeeperOnly.trans {s t u : State} (h : KeeperOnly s t) (k : KeeperOnly t u) : KeeperOnly s u := by
  obtain ⟨F, T, I, E, L, D, J, B, N, R, M, a, n, rfl⟩ := h
  obtain ⟨F, T, I, E, L, D, J, B, N, R, M, a, n, rfl⟩ := k
  exact ⟨F, T, I, E, L, D, J, B, N, R, M, a, n, rfl⟩

theorem StatusOnly.keeperOnly {s t : State} (h : StatusOnly s t) : KeeperOnly s t := by
  obtain ⟨F, T, I, E, L, D, J, rfl⟩ := h
  exact ⟨_, _, _, _, _, _, _, _, _, _, _, _, _, rfl⟩

theorem KeeperOnly.quiet {s t : State} (h : KeeperOnly s t) (k : Quiet s) : Quiet t := by
  obtain ⟨F, T, I, E, L, D, J, B, N, R, M, a, n, rfl⟩ := h
  exact k

theorem leaseLeft_of_statusOnly {s t : State} (h : StatusOnly s t) : t.leaseLeft = s.leaseLeft := by
  obtain ⟨F, T, I, E, L, D, J, rfl⟩ := h
  rfl

theorem nominee_of_statusOnly {s t : State} (h : StatusOnly s t) : t.nominee = s.nominee := by
  obtain ⟨F, T, I, E, L, D, J, rfl⟩ := h
  rfl

/-- Ownership with its lease and a nomination under way. -/
def tenure (s : State) : Nat × Nat × Nat × Nat × Option Nat :=
  (getF 0 .KEEPER_KVALID s, getF 0 .KEEPER_KTAG s, getF 0 .KEEPER_LEASE s, s.leaseLeft, s.nominee)

theorem keeper_of_tenure {s t : State} (h : tenure t = tenure s) : keeper t = keeper s := by
  simp only [tenure, Prod.mk.injEq] at h
  obtain ⟨valid, tag, -⟩ := h
  simp [keeper, isSet, valid, tag]

/-! ### Disarming -/

theorem keeperOnly_disarm (note : Bool) (s : State) : KeeperOnly s (disarm note s) := by
  unfold disarm when
  split
  · have cleared : KeeperOnly s (setF 0 .INJ_ARM_LEFT 0 (setF 0 .INJ_INJ_ARM 0 { s with armLeft := 0 })) :=
      ⟨_, _, _, _, _, _, _, _, _, _, _, _, _, rfl⟩
    split
    · exact cleared.trans (statusOnly_sticky .INJ_DISARMED 0 _).keeperOnly
    · exact cleared
  · exact .refl s

theorem getF_disarm {u : Nat} {g : Fld} (off : g.offStatus = true) (arm : g.key u ≠ Fld.INJ_INJ_ARM.key 0)
    (left : g.key u ≠ Fld.INJ_ARM_LEFT.key 0) (note : Bool) (s : State) : getF u g (disarm note s) = getF u g s := by
  have cleared : getF u g (setF 0 .INJ_ARM_LEFT 0 (setF 0 .INJ_INJ_ARM 0 { s with armLeft := 0 })) = getF u g s := by
    rw [getF_setF_other _ _ left, getF_setF_other _ _ arm]
    rfl
  unfold disarm when
  split
  · split
    · rw [getF_sticky_off off, cleared]
    · exact cleared
  · rfl

theorem tenure_disarm (note : Bool) (s : State) : tenure (disarm note s) = tenure s := by
  have rest : (disarm note s).leaseLeft = s.leaseLeft ∧ (disarm note s).nominee = s.nominee := by
    unfold disarm when
    split
    · split
      · obtain ⟨F, T, I, E, L, D, J, h⟩ := statusOnly_sticky .INJ_DISARMED 0
          (setF 0 .INJ_ARM_LEFT 0 (setF 0 .INJ_INJ_ARM 0 { s with armLeft := 0 }))
        rw [h]
        exact ⟨rfl, rfl⟩
      · exact ⟨rfl, rfl⟩
    · exact ⟨rfl, rfl⟩
  unfold tenure
  rw [getF_disarm rfl (by decide) (by decide), getF_disarm rfl (by decide) (by decide),
    getF_disarm rfl (by decide) (by decide), rest.1, rest.2]

theorem tenure_of_statusOnly {s t : State} (h : StatusOnly s t)
    (hf : ∀ g ∈ [Fld.KEEPER_KVALID, .KEEPER_KTAG, .KEEPER_LEASE], getF 0 g t = getF 0 g s) : tenure t = tenure s := by
  have rest : t.leaseLeft = s.leaseLeft ∧ t.nominee = s.nominee := by
    obtain ⟨F, T, I, E, L, D, J, rfl⟩ := h
    exact ⟨rfl, rfl⟩
  unfold tenure
  rw [hf .KEEPER_KVALID (by simp), hf .KEEPER_KTAG (by simp), hf .KEEPER_LEASE (by simp), rest.1, rest.2]

theorem tenure_sticky (k : Sticky) (u : Nat) (s : State) : tenure (sticky k u s) = tenure s := by
  refine tenure_of_statusOnly (statusOnly_sticky k u s) fun g hg => ?_
  simp only [List.mem_cons, List.not_mem_nil, or_false] at hg
  rcases hg with rfl | rfl | rfl <;> exact getF_sticky_off rfl k s

/-! ### The check of sealed mode (R55) -/

/-- A master passes the check of sealed mode, or there is none. -/
def Passed (m : Nat) (s : State) : Prop := getF 0 .KEEPER_SEALED s ≠ 1 ∨ m ∈ s.nonces ∧ responseOk m s = true

theorem sealCheck_passed (m : Nat) (s : State) : (sealCheck m s).1 = true ↔ Passed m s := by
  unfold sealCheck Passed
  by_cases sealed : getF 0 .KEEPER_SEALED s = 1
  · by_cases ok : m ∈ s.nonces ∧ responseOk m s = true
    · simp [isSet, sealed, ok]
    · simp [isSet, sealed, ok]
  · simp [isSet, sealed]

/-- The check as it passes, by cases of the mode. -/
theorem sealCheck_state (m : Nat) (s : State) :
    (sealCheck m s).2 = if getF 0 .KEEPER_SEALED s = 1 then
        if (sealCheck m s).1 then { s with nonces := dropNat s.nonces m }
        else sticky .KEEPER_SEAL_FAILED 0 (count 0 .KEEPER_SEAL_FAIL
          { s with nonces := dropNat s.nonces m, refused := addNat s.refused m })
      else s := by
  by_cases sealed : getF 0 .KEEPER_SEALED s = 1
  · rw [if_pos sealed]
    unfold sealCheck
    cases s.nonces.contains m && responseOk m s <;> simp [isSet, sealed]
  · simp [sealCheck, isSet, sealed]

theorem keeperOnly_sealCheck (m : Nat) (s : State) : KeeperOnly s (sealCheck m s).2 := by
  rw [sealCheck_state]
  split
  · split
    · exact ⟨_, _, _, _, _, _, _, _, _, _, _, _, _, rfl⟩
    · have used : KeeperOnly s { s with nonces := dropNat s.nonces m, refused := addNat s.refused m } :=
        ⟨_, _, _, _, _, _, _, _, _, _, _, _, _, rfl⟩
      exact used.trans ((statusOnly_count 0 _ _).trans (statusOnly_sticky _ 0 _)).keeperOnly
  · exact .refl s

theorem getF_sealCheck {u : Nat} {g : Fld} (off : g.offStatus = true) (fail : g.key u ≠ Fld.KEEPER_SEAL_FAIL.key 0) (m : Nat)
    (s : State) : getF u g (sealCheck m s).2 = getF u g s := by
  rw [sealCheck_state]
  split
  · split
    · rfl
    · rw [getF_sticky_off off, getF_count fail (g.offStatus_spec off u _ 0) (g.offStatus_spec off u .CHAIN 0)]
      rfl
  · rfl

theorem tenure_sealCheck (m : Nat) (s : State) : tenure (sealCheck m s).2 = tenure s := by
  have rest : (sealCheck m s).2.leaseLeft = s.leaseLeft ∧ (sealCheck m s).2.nominee = s.nominee := by
    rw [sealCheck_state]
    split
    · split
      · exact ⟨rfl, rfl⟩
      · obtain ⟨F, T, I, E, L, D, J, h⟩ := (statusOnly_count 0 .KEEPER_SEAL_FAIL
          { s with nonces := dropNat s.nonces m, refused := addNat s.refused m }).trans (statusOnly_sticky .KEEPER_SEAL_FAILED 0 _)
        rw [h]
        exact ⟨rfl, rfl⟩
    · exact ⟨rfl, rfl⟩
  unfold tenure
  rw [getF_sealCheck rfl (by decide), getF_sealCheck rfl (by decide), getF_sealCheck rfl (by decide), rest.1, rest.2]

/-! ### Ownership taken (R51, R54) -/

/-- The device at a change of Keeper, with injection disarmed (R415). -/
def relieved (m : Nat) (s : State) : State := when (!isKeeper m s) (disarm true) s

theorem becomeKeeper_eq (m : Nat) (s : State) : becomeKeeper m s =
    sticky .KEEPER_KEEPER_CHANGED 0 (renewLease (setAll 0 [(.KEEPER_KTAG, m), (.KEEPER_KVALID, 1)] (relieved m s))) := rfl

theorem getF_renewLease (u : Nat) (g : Fld) (s : State) : getF u g (renewLease s) = getF u g s := rfl

theorem keeperOnly_renewLease (s : State) : KeeperOnly s (renewLease s) :=
  ⟨_, _, _, _, _, _, _, _, _, _, _, _, _, rfl⟩

theorem keeperOnly_relieved (m : Nat) (s : State) : KeeperOnly s (relieved m s) := by
  unfold relieved when
  split
  · exact keeperOnly_disarm true s
  · exact .refl s

theorem tenure_relieved (m : Nat) (s : State) : tenure (relieved m s) = tenure s := by
  unfold relieved when
  split
  · exact tenure_disarm true s
  · rfl

theorem keeperOnly_becomeKeeper (m : Nat) (s : State) : KeeperOnly s (becomeKeeper m s) := by
  rw [becomeKeeper_eq]
  exact (((keeperOnly_relieved m s).trans (statusOnly_setAll 0 _ _).keeperOnly).trans (keeperOnly_renewLease _)).trans
    (statusOnly_sticky _ 0 _).keeperOnly

theorem getF_becomeKeeper {u : Nat} {g : Fld} (off : g.offStatus = true)
    (other : ∀ f ∈ [Fld.INJ_INJ_ARM, .INJ_ARM_LEFT, .KEEPER_KTAG, .KEEPER_KVALID], g.key u ≠ f.key 0) (m : Nat) (s : State) :
    getF u g (becomeKeeper m s) = getF u g s := by
  simp only [List.forall_mem_cons] at other
  obtain ⟨arm, left, tag, valid, -⟩ := other
  have first : getF u g (relieved m s) = getF u g s := by
    unfold relieved when
    split
    · exact getF_disarm off arm left true s
    · rfl
  rw [becomeKeeper_eq, getF_sticky_off off, getF_renewLease, ← first]
  exact (getF_setF_other _ _ valid).trans (getF_setF_other _ _ tag)

theorem becomeKeeper_spec {m : Nat} (hm : m < 16) (s : State) :
    keeper (becomeKeeper m s) = some m ∧ getF 0 .KEEPER_LEASE (becomeKeeper m s) = getF 0 .KEEPER_LEASE s ∧
      (becomeKeeper m s).leaseLeft = getF 0 .KEEPER_LEASE s * 125000 ∧ (becomeKeeper m s).nominee = s.nominee ∧
      StsSet .KEEPER_KEEPER_CHANGED 0 (becomeKeeper m s) := by
  have kept := tenure_relieved m s
  simp only [tenure, Prod.mk.injEq] at kept
  obtain ⟨-, -, lease, -, nominee⟩ := kept
  refine ⟨?_, getF_becomeKeeper rfl (by decide) m s, ?_, ?_,
    stsSet_sticky (by decide) (away_of_page (by decide) (by decide)).offStatus _⟩
  · have key : Fld.KEEPER_KTAG.key 0 ≠ Fld.KEEPER_KVALID.key 0 := by decide
    have valid : getF 0 .KEEPER_KVALID (becomeKeeper m s) = 1 := by
      rw [becomeKeeper_eq, getF_sticky_off rfl, getF_renewLease]
      exact getF_setF_same 0 .KEEPER_KVALID 1 _
    have tag : getF 0 .KEEPER_KTAG (becomeKeeper m s) = m := by
      rw [becomeKeeper_eq, getF_sticky_off rfl, getF_renewLease]
      exact ((getF_setF_other 1 _ key).trans (getF_setF_same 0 .KEEPER_KTAG m _)).trans (Nat.mod_eq_of_lt hm)
    rw [keeper, isSet, valid, tag]
    rfl
  · rw [becomeKeeper_eq, leaseLeft_of_statusOnly (statusOnly_sticky _ 0 _), ← lease]
    exact congrArg (· * 125000) (getF_setAll_other _ _ (by simp +decide))
  · rw [becomeKeeper_eq, nominee_of_statusOnly (statusOnly_sticky _ 0 _), ← nominee]
    rfl

theorem keeperOnly_endNomination (oc : Nat) (s : State) : KeeperOnly s (endNomination oc s) := by
  have forgotten : KeeperOnly s { s with nominee := none } := ⟨_, _, _, _, _, _, _, _, _, _, _, _, _, rfl⟩
  exact forgotten.trans (statusOnly_cmdStop 0 .KEEPER_NOMINATE oc _).keeperOnly

theorem getF_endNomination {u : Nat} {g : Fld} (h : g.key u / 32 ≠ Fld.KEEPER_NOMINATE.addr 0) (oc : Nat) (s : State) :
    getF u g (endNomination oc s) = getF u g s :=
  getF_cmdStop (f := .KEEPER_NOMINATE) (v := 0) (by decide) h oc { s with nominee := none }

/-- A nomination ended: its command too, where it runs. -/
theorem endNomination_spec {oc : Nat} (hoc : oc < 16) (s : State) :
    (endNomination oc s).nominee = none ∧ (endNomination oc s).leaseLeft = s.leaseLeft ∧
      (getF 0 .KEEPER_NOMINATE s = 1 → Ended 0 .KEEPER_NOMINATE oc (endNomination oc s)) := by
  obtain ⟨F, T, I, E, L, D, J, h⟩ := statusOnly_cmdStop 0 .KEEPER_NOMINATE oc { s with nominee := none }
  refine ⟨?_, ?_, fun runs => ended_cmdStop (s := { s with nominee := none }) runs hoc⟩
  · rw [endNomination, h]
  · rw [endNomination, h]

theorem keeper_endNomination (oc : Nat) (s : State) : keeper (endNomination oc s) = keeper s := by
  rw [keeper, isSet, getF_endNomination (by decide), getF_endNomination (by decide)]
  rfl

/-! ### The lease that runs out (R53) -/

/-- The state in which the Keeper's lease has run out, before the loss is reported. -/
def leaseLapsed (s : State) : State := setAll 0 [(.KEEPER_KTAG, 0), (.KEEPER_KVALID, 0)] (endNomination ocTimeout s)

theorem expireLease_lapses {m : Nat} {s : State} (owned : keeper s = some m) (spent : s.leaseLeft = 0) :
    expireLease s = disarm true (queueEvent m .KEEPER 0 (sticky .KEEPER_KEEPER_LOST 0 (leaseLapsed s))) := by
  unfold expireLease
  rw [owned]
  dsimp only
  rw [if_neg (by simp [spent])]
  rfl

theorem expireLease_holds {s : State} (h : keeper s = none ∨ s.leaseLeft ≠ 0) : expireLease s = s := by
  unfold expireLease
  split
  · rfl
  · rename_i m owned
    rw [owned] at h
    rw [if_pos (h.resolve_left (by simp))]

theorem keeperOnly_expireLease (s : State) : KeeperOnly s (expireLease s) := by
  by_cases h : keeper s = none ∨ s.leaseLeft ≠ 0
  · rw [expireLease_holds h]
    exact .refl s
  · rw [not_or, not_ne_iff] at h
    obtain ⟨m, owned⟩ := Option.ne_none_iff_exists'.mp h.1
    rw [expireLease_lapses owned h.2]
    exact ((((keeperOnly_endNomination ocTimeout s).trans (statusOnly_setAll 0 _ _).keeperOnly).trans
      (statusOnly_sticky _ 0 _).keeperOnly).trans (statusOnly_queueEvent m .KEEPER 0 _).keeperOnly).trans
      (keeperOnly_disarm true _)

/-- A field that the loss of ownership leaves as it is. -/
theorem getF_lapse {u : Nat} {g : Fld} (off : g.offStatus = true) (arm : g.key u ≠ Fld.INJ_INJ_ARM.key 0)
    (left : g.key u ≠ Fld.INJ_ARM_LEFT.key 0) (m : Nat) (s : State) :
    getF u g (disarm true (queueEvent m .KEEPER 0 (sticky .KEEPER_KEEPER_LOST 0 s))) = getF u g s := by
  rw [getF_disarm off arm left, getF_queueEvent (g.offStatus_spec off u .CHAIN 0), getF_sticky_off off]

theorem lapse_rest (m : Nat) (s : State) :
    (disarm true (queueEvent m .KEEPER 0 (sticky .KEEPER_KEEPER_LOST 0 s))).leaseLeft = s.leaseLeft ∧
      (disarm true (queueEvent m .KEEPER 0 (sticky .KEEPER_KEEPER_LOST 0 s))).nominee = s.nominee := by
  have kept := tenure_disarm true (queueEvent m .KEEPER 0 (sticky .KEEPER_KEEPER_LOST 0 s))
  simp only [tenure, Prod.mk.injEq] at kept
  obtain ⟨-, -, -, lease, nominee⟩ := kept
  obtain ⟨F, T, I, E, L, D, J, h⟩ := (statusOnly_sticky .KEEPER_KEEPER_LOST 0 s).trans (statusOnly_queueEvent m .KEEPER 0 _)
  rw [lease, nominee, h]
  exact ⟨rfl, rfl⟩

theorem stsSet_lapse (m : Nat) (s : State) :
    StsSet .KEEPER_KEEPER_LOST 0 (disarm true (queueEvent m .KEEPER 0 (sticky .KEEPER_KEEPER_LOST 0 s))) := by
  have away : ∀ b, b = .CHAIN ∨ b = .INJ → Away 0 (.sts .KEEPER) b 0 := by
    rintro b (rfl | rfl) <;> exact away_of_page (by decide) (by decide)
  have cleared : ∀ t, getF 0 (.sts .KEEPER) (setF 0 .INJ_ARM_LEFT 0 (setF 0 .INJ_INJ_ARM 0 { t with armLeft := 0 })) =
      getF 0 (.sts .KEEPER) t := fun t => by
    rw [getF_setF_other _ _ (by decide), getF_setF_other _ _ (by decide)]
    rfl
  have disarmed : ∀ t, getF 0 (.sts .KEEPER) (disarm true t) = getF 0 (.sts .KEEPER) t := fun t => by
    unfold disarm when
    split
    · rw [if_pos rfl, getF_sticky (away .INJ (.inr rfl)).offStatus (away .CHAIN (.inl rfl)).offStatus, cleared]
    · rfl
  have set := stsSet_sticky (k := .KEEPER_KEEPER_LOST) (u := 0) (by decide) (away .CHAIN (.inl rfl)).offStatus s
  unfold StsSet at set ⊢
  change bitOf (getF 0 (.sts .KEEPER) _) _ = true at set ⊢
  rw [disarmed, getF_queueEvent (away .CHAIN (.inl rfl)).offStatus]
  exact set

theorem expireLease_spec {m : Nat} {s : State} (owned : keeper s = some m) (spent : s.leaseLeft = 0) :
    getF 0 .KEEPER_KVALID (expireLease s) = 0 ∧ getF 0 .KEEPER_KTAG (expireLease s) = 0 ∧
      getF 0 .KEEPER_LEASE (expireLease s) = getF 0 .KEEPER_LEASE s ∧ (expireLease s).leaseLeft = 0 ∧
      (expireLease s).nominee = none ∧ StsSet .KEEPER_KEEPER_LOST 0 (expireLease s) ∧
      (getF 0 .KEEPER_NOMINATE s = 1 → Ended 0 .KEEPER_NOMINATE ocTimeout (expireLease s)) := by
  obtain ⟨nominee, lease, ended⟩ := endNomination_spec (show ocTimeout < 16 by decide) s
  obtain ⟨lease', nominee'⟩ := lapse_rest m (leaseLapsed s)
  have sts := stsSet_lapse m (leaseLapsed s)
  have kept : ∀ g : Fld, (∀ e ∈ [(Fld.KEEPER_KTAG, 0), (.KEEPER_KVALID, 0)], g.key 0 ≠ e.1.key 0) →
      getF 0 g (leaseLapsed s) = getF 0 g (endNomination ocTimeout s) := fun g h => getF_setAll_other _ _ h
  rw [expireLease_lapses owned spent]
  refine ⟨?_, ?_, ?_, ?_, ?_, sts, fun runs => ?_⟩
  · rw [getF_lapse rfl (by decide) (by decide)]
    exact getF_setF_same 0 .KEEPER_KVALID 0 _
  · have key : Fld.KEEPER_KTAG.key 0 ≠ Fld.KEEPER_KVALID.key 0 := by decide
    rw [getF_lapse rfl (by decide) (by decide)]
    exact (getF_setF_other 0 _ key).trans (getF_setF_same 0 .KEEPER_KTAG 0 _)
  · rw [getF_lapse rfl (by decide) (by decide), kept _ (by decide), getF_endNomination (by decide)]
  · exact lease'.trans (lease.trans spent)
  · exact nominee'.trans nominee
  · obtain ⟨zero, outcome⟩ := ended runs
    refine ⟨?_, ?_⟩
    · rw [getF_lapse rfl (by decide) (by decide), kept _ (by decide), zero]
    · rw [getF_lapse rfl (by decide) (by decide), kept _ (by decide), outcome]

end Sys2Proof.Machine
end

section
/-! SUPPORT. Writes of the KEEPER block that start a command (R53 to R56), and the answer that follows. -/

namespace Sys2Proof.Machine

/-! ### The answer -/

/-- From `s` to `t` an answer has left, or stands in an in-band request. -/
def Answered (s t : State) : Prop := ∃ l P, t = { s with sent := l, ports := P }

theorem answered_respond (src : Src) (mtag tag op addr code data : Nat) (s : State) :
    Answered s (respond src mtag tag op addr code data s) := by
  cases src with
  | chain side =>
    unfold respond when
    dsimp only
    split
    · exact ⟨_, _, rfl⟩
    · exact ⟨s.sent, s.ports, rfl⟩
  | inband lane => exact ⟨_, _, rfl⟩

theorem Answered.getF {s t : State} (h : Answered s t) (u : Nat) (g : Fld) : getF u g t = getF u g s := by
  obtain ⟨l, P, rfl⟩ := h
  rfl

theorem Answered.getB {s t : State} (h : Answered s t) (m u : Nat) (g : Fld) : getB m u g t = getB m u g s := by
  obtain ⟨l, P, rfl⟩ := h
  rfl

theorem Answered.nvm {s t : State} (h : Answered s t) : t.nvm = s.nvm := by
  obtain ⟨l, P, rfl⟩ := h
  rfl

theorem Answered.clk {s t : State} (h : Answered s t) : t.clk = s.clk := by
  obtain ⟨l, P, rfl⟩ := h
  rfl

theorem Answered.keeper {s t : State} (h : Answered s t) : keeper t = keeper s := by
  obtain ⟨l, P, rfl⟩ := h
  rfl

theorem Answered.ended {s t : State} (h : Answered s t) {u : Nat} {f : Fld} {oc : Nat} (k : Ended u f oc s) : Ended u f oc t :=
  ⟨(h.getF u f).trans k.1, (h.getF u f.outcome).trans k.2⟩

theorem Answered.runs {s t : State} (h : Answered s t) {u : Nat} {f : Fld} (k : Runs u f s) : Runs u f t :=
  ⟨(h.getF u f).trans k.1, (h.getF u f.outcome).trans k.2⟩

/-- A write carried out with code 0 is answered. -/
theorem answered_zero (r : Req) {s : State} (quiet : Quiet s) : Answered s (settle (answer r opWrite 0 0 s)) := by
  have answer_eq : answer r opWrite 0 0 s = respond r.src r.mtag.toNat r.tag.toNat opWrite r.addr.toNat 0 0 s := rfl
  obtain ⟨-, -, stays⟩ := respond_keeps r.src r.mtag.toNat r.tag.toNat opWrite r.addr.toNat 0 0 s
  rw [answer_eq, settle_quiet (stays quiet)]
  exact answered_respond _ _ _ _ _ _ _ s

/-! ### Writes with what they take from outside -/

theorem Writes.quiet {w : Acc} {b : Blk} {u off : Nat} {s : State} (h : Writes w b u off s) : Quiet (consumeFrame w.src s) := by
  obtain ⟨-, -, -, stays⟩ := consumeFrame_keeps w.src s
  exact stays h.2.1

/-- A write that its register accepts. -/
theorem regAccess_answered {w : Acc} {b : Blk} {u off : Nat} {x : Ext} {s t : State} (h : Writes w b u off s)
    (done : writeReg w.mtag.toNat b u off w.data.toNat x (consumeFrame w.src s) = (0, t)) (quiet : Quiet t) :
    Answered t (regAccess w opWrite (regAt b u off) (.ext x) s) := by
  rw [regAccess_writes h, done]
  exact answered_zero _ quiet

/-- A command of the device, the Lodge or a pavilion that a write starts. -/
theorem regAccess_started {w : Acc} {u : Nat} {f : Fld} {s : State} (x : Ext) (own : f.ownCommand = true)
    (device : f.blk ∉ portBlks) (h : Starts w u f s)
    (quiet : Quiet (startOwnCmd w.mtag.toNat u f x (consumeFrame w.src s))) :
    Answered (startOwnCmd w.mtag.toNat u f x (consumeFrame w.src s)) (regAccess w opWrite (regAt f.blk u f.off) (.ext x) s) := by
  obtain ⟨writes, asks⟩ := h
  refine regAccess_answered writes ?_ quiet
  rw [writeReg_start (commands_of_ownCommand own) asks, startCmd_own own _ fun port => absurd port device]

/-! ### What a consumed frame leaves of the Keeper -/

theorem tenure_consumeFrame (src : Src) (s : State) : tenure (consumeFrame src s) = tenure s := by
  obtain ⟨l, h⟩ := consumeFrame_form src s
  obtain ⟨fields, -⟩ := consumeFrame_keeps src s
  refine (tenure_of_statusOnly h fun g hg => ?_).trans rfl
  simp only [List.mem_cons, List.not_mem_nil, or_false] at hg
  rcases hg with rfl | rfl | rfl <;> exact fields 0 _ (away_of_page (by decide) (by decide))

theorem passed_consumeFrame (m : Nat) (src : Src) (s : State) : Passed m (consumeFrame src s) ↔ Passed m s := by
  obtain ⟨l, F, T, I, E, L, D, J, h⟩ := consumeFrame_form src s
  obtain ⟨fields, -⟩ := consumeFrame_keeps src s
  unfold Passed
  rw [fields 0 .KEEPER_SEALED (away_of_page (by decide) (by decide)), h]
  rfl

end Sys2Proof.Machine
end

section
/-! SUPPORT. Lease, HEARTBEAT and handover (R53, R54), nonces and the device key (R55, R56). -/

namespace Sys2Proof.Machine

/-! ### HEARTBEAT and the lease (R53) -/

theorem fldsAt_heartbeat : fldsAt .KEEPER 0x028 = [.KEEPER_HEARTBEAT] := by decide +kernel

/-- A write of HEARTBEAT acts whatever its value. -/
theorem writeReg_heartbeat (m data : Nat) (x : Ext) (s : State) :
    writeReg m .KEEPER 0 0x028 data x s = (0, heartbeat m s) := by
  have always : actsAlways .KEEPER_HEARTBEAT = true := rfl
  have word : judgeWord m .KEEPER 0 0x028 data s = (fldsAt .KEEPER 0x028).map fun g =>
      (g, bitsOf data g.lo g.width, if g = .KEEPER_HEARTBEAT then .store else .keep) := by
    rw [judgeWord, fldsAt_heartbeat, List.map_singleton, List.map_singleton, if_pos rfl, judgeF, always]
    rfl
  rw [writeReg_store (f := .KEEPER_HEARTBEAT) (by decide) rfl (by rw [fldsAt_heartbeat]; rfl) word, storeF, if_pos (.inl always)]
  rfl

theorem heartbeat_keeper {m : Nat} {s : State} (h : keeper s = some m) : heartbeat m s = renewLease s :=
  if_pos (by simp [isKeeper, h])

theorem answered_heartbeat {w : Acc} {s : State} (h : Writes w .KEEPER 0 0x028 s) (own : keeper s = some w.mtag.toNat) :
    Completes (.heartbeat w) s (Answered (renewLease (consumeFrame w.src s))) := by
  refine ⟨_, rfl, regAccess_answered (x := extOf s) h ?_ ((keeperOnly_renewLease _).quiet h.quiet)⟩
  rw [writeReg_heartbeat, heartbeat_keeper ((keeper_consumeFrame w.src s).trans own)]

theorem lease_consumeFrame (src : Src) (s : State) : getF 0 .KEEPER_LEASE (consumeFrame src s) = getF 0 .KEEPER_LEASE s :=
  (consumeFrame_keeps src s).1 0 _ (away_of_page (by decide) (by decide))

/-- Memories, ports, pavilions and NVM are not the Keeper's. -/
theorem KeeperOnly.plant {s t : State} (h : KeeperOnly s t) :
    t.ports = s.ports ∧ t.pavs = s.pavs ∧ t.nvm = s.nvm ∧ KeepsMemory s t := by
  obtain ⟨F, T, I, E, L, D, J, B, N, R, M, a, n, rfl⟩ := h
  exact ⟨rfl, rfl, rfl, fun _ => rfl, fun _ _ => rfl⟩

theorem lease_runs_out {s : State} (owned : (keeper s).isSome = true) (spent : s.leaseLeft = 0)
    (noBeat : heartbeatMeets s = false) (noAccept : acceptMeets s = false) :
    Completes .leaseExpiry s fun t =>
      keeper t = none ∧ t.leaseLeft = 0 ∧ t.nominee = none ∧ getF 0 .KEEPER_KTAG t = 0 ∧ StsSet .KEEPER_KEEPER_LOST 0 t ∧
        (getF 0 .KEEPER_NOMINATE s = 1 → Ended 0 .KEEPER_NOMINATE ocTimeout t) ∧
        t.ports = s.ports ∧ t.pavs = s.pavs ∧ t.nvm = s.nvm ∧ KeepsMemory s t := by
  obtain ⟨m, owner⟩ := Option.isSome_iff_exists.mp owned
  refine ⟨expireLease s, congrArg Host.Outcome.next (if_neg (by simp [noBeat, noAccept])), ?_⟩
  obtain ⟨valid, tag, -, left, nominee, lost, ended⟩ := expireLease_spec owner spent
  refine ⟨?_, left, nominee, tag, lost, ended, (keeperOnly_expireLease s).plant⟩
  simp [keeper, isSet, valid]

/-! ### NOMINATE (R54) -/

theorem runs_cmdStart (u : Nat) (f : Fld) (hw : f.width = 1) (s : State) : Runs u f (cmdStart u f s) := by
  have key : f.outcome.key u ≠ f.key u := by rw [key_outcome]; omega
  refine ⟨?_, ?_⟩
  · rw [cmdStart, getF_setF_same, hw]
    rfl
  · rw [cmdStart, getF_setF_other _ _ key, getF_setF_same]
    rfl

theorem keeperOnly_startNomination (s : State) : KeeperOnly s (startNomination s) := by
  have named : KeeperOnly s { s with nominee := some (getF 0 .KEEPER_NTAG s) } :=
    ⟨_, _, _, _, _, _, _, _, _, _, _, _, _, rfl⟩
  exact named.trans (statusOnly_cmdStart 0 .KEEPER_NOMINATE _).keeperOnly

theorem getF_cmdStart {u v : Nat} {g f : Fld} (h : ∀ d ≤ 4, g.key u ≠ f.key v + d) (s : State) :
    getF u g (cmdStart v f s) = getF u g s := by
  have field : g.key u ≠ f.key v := h 0 (by omega)
  have outcome : g.key u ≠ f.outcome.key v := key_outcome v f ▸ h 4 (by omega)
  have late : g.key u ≠ f.abortLate.key v := key_abortLate v f ▸ h 1 (by omega)
  rw [cmdStart, getF_setF_other _ _ field, getF_setF_other _ _ outcome, getF_setF_other _ _ late]

theorem startNomination_spec (s : State) :
    (startNomination s).nominee = some (getF 0 .KEEPER_NTAG s) ∧ Runs 0 .KEEPER_NOMINATE (startNomination s) ∧
      keeper (startNomination s) = keeper s := by
  unfold startNomination
  have kept : keeper { s with nominee := some (getF 0 .KEEPER_NTAG s) } = keeper s := rfl
  have named : { s with nominee := some (getF 0 .KEEPER_NTAG s) }.nominee = some (getF 0 .KEEPER_NTAG s) := rfl
  generalize { s with nominee := some (getF 0 .KEEPER_NTAG s) } = t at kept named
  refine ⟨(nominee_of_statusOnly (statusOnly_cmdStart 0 _ t)).trans named, runs_cmdStart 0 .KEEPER_NOMINATE rfl t, ?_⟩
  rw [← kept, keeper, isSet, getF_cmdStart (by decide), getF_cmdStart (by decide)]
  rfl

theorem ntag_consumeFrame (src : Src) (s : State) : getF 0 .KEEPER_NTAG (consumeFrame src s) = getF 0 .KEEPER_NTAG s :=
  (consumeFrame_keeps src s).1 0 _ (away_of_page (by decide) (by decide))

theorem nominate_starts {w : Acc} {s : State} (h : Starts w 0 .KEEPER_NOMINATE s) : Completes (.nominate w) s fun t =>
    t.nominee = some (getF 0 .KEEPER_NTAG s) ∧ Runs 0 .KEEPER_NOMINATE t ∧ keeper t = keeper s := by
  have started := regAccess_started (extOf s) (by decide +kernel) (by decide) h
    ((keeperOnly_startNomination _).quiet h.1.quiet)
  obtain ⟨nominee, runs, same⟩ := startNomination_spec (consumeFrame w.src s)
  refine ⟨_, rfl, ?_, started.runs runs, ?_⟩
  · obtain ⟨l, P, h⟩ := started
    exact (congrArg State.nominee h).trans (nominee.trans (congrArg some (ntag_consumeFrame w.src s)))
  · exact started.keeper.trans (same.trans (keeper_consumeFrame w.src s))

/-! ### ACCEPT (R54, R55) -/

/-- A banked command ended at once: its master reads the OUTCOME, and nothing but banked fields has changed. -/
theorem getB_bankedEnd (m : Nat) (f : Fld) {oc : Nat} (h : oc < 16) (s : State) :
    getB m 0 f.outcome (bankedEnd m f oc s) = oc := by
  have key : f.outcome.key 0 * 16 + m ≠ f.key 0 * 16 + m := by rw [key_outcome]; omega
  rw [bankedEnd, getB_setB_other _ _ key, getB_setB_same]
  exact Nat.mod_eq_of_lt h

theorem keeperOnly_bankedEnd (m : Nat) (f : Fld) (oc : Nat) (s : State) : KeeperOnly s (bankedEnd m f oc s) :=
  ⟨_, _, _, _, _, _, _, _, _, _, _, _, _, rfl⟩

theorem tenure_bankedEnd (m : Nat) (f : Fld) (oc : Nat) (s : State) : tenure (bankedEnd m f oc s) = tenure s := rfl

theorem nominee_of_tenure {s t : State} (h : tenure t = tenure s) : t.nominee = s.nominee ∧ t.leaseLeft = s.leaseLeft ∧
    getF 0 .KEEPER_LEASE t = getF 0 .KEEPER_LEASE s := by
  simp only [tenure, Prod.mk.injEq] at h
  obtain ⟨-, -, lease, left, nominee⟩ := h
  exact ⟨nominee, left, lease⟩

theorem keeperOnly_acceptNomination (m : Nat) (s : State) : KeeperOnly s (acceptNomination m s) := by
  have checked := keeperOnly_sealCheck m s
  unfold acceptNomination
  split
  · exact keeperOnly_bankedEnd m _ _ s
  · dsimp only
    split
    · exact ((checked.trans (keeperOnly_endNomination _ _)).trans (keeperOnly_becomeKeeper m _)).trans
        (keeperOnly_bankedEnd m _ _ _)
    · exact checked.trans (keeperOnly_bankedEnd m _ _ _)

/-- The nominee accepts. -/
theorem acceptNomination_passes {m : Nat} {s : State} (hm : m < 16) (named : s.nominee = some m) (passed : Passed m s) :
    keeper (acceptNomination m s) = some m ∧ (acceptNomination m s).nominee = none ∧
      (acceptNomination m s).leaseLeft = getF 0 .KEEPER_LEASE s * 125000 ∧
      getB m 0 Fld.KEEPER_ACCEPT.outcome (acceptNomination m s) = ocDone ∧
      (getF 0 .KEEPER_NOMINATE s = 1 → Ended 0 .KEEPER_NOMINATE ocDone (acceptNomination m s)) := by
  have accepted : acceptNomination m s =
      bankedEnd m .KEEPER_ACCEPT ocDone (becomeKeeper m (endNomination ocDone (sealCheck m s).2)) := by
    unfold acceptNomination
    rw [if_neg (by simp [named])]
    exact if_pos ((sealCheck_passed m s).mpr passed)
  obtain ⟨-, -, lease⟩ := nominee_of_tenure (tenure_sealCheck m s)
  obtain ⟨nominee, -, ended⟩ := endNomination_spec (show ocDone < 16 by decide) (sealCheck m s).2
  obtain ⟨owner, -, left, kept, -⟩ := becomeKeeper_spec hm (endNomination ocDone (sealCheck m s).2)
  rw [accepted]
  refine ⟨owner, kept.trans nominee, left.trans ?_, getB_bankedEnd m _ (by decide) _, fun runs => ?_⟩
  · rw [getF_endNomination (by decide), lease]
  · obtain ⟨zero, outcome⟩ := ended ((getF_sealCheck rfl (by decide) m s).trans runs)
    exact ⟨(getF_becomeKeeper rfl (by decide) m _).trans zero, (getF_becomeKeeper rfl (by decide) m _).trans outcome⟩

/-- Any other ACCEPT ends REJECTED. -/
theorem acceptNomination_rejects {m : Nat} {s : State} (h : s.nominee ≠ some m ∨ ¬Passed m s) :
    tenure (acceptNomination m s) = tenure s ∧ getB m 0 Fld.KEEPER_ACCEPT.outcome (acceptNomination m s) = ocRejected := by
  unfold acceptNomination
  split
  case isTrue => exact ⟨rfl, getB_bankedEnd m _ (by decide) s⟩
  case isFalse named =>
    have fails : ¬(sealCheck m s).1 = true := fun p => h.elim named fun no => no ((sealCheck_passed m s).mp p)
    dsimp only
    rw [if_neg fails]
    exact ⟨(tenure_bankedEnd m _ _ _).trans (tenure_sealCheck m s), getB_bankedEnd m _ (by decide) _⟩

theorem nominate_consumeFrame (src : Src) (s : State) :
    getF 0 .KEEPER_NOMINATE (consumeFrame src s) = getF 0 .KEEPER_NOMINATE s :=
  (consumeFrame_keeps src s).1 0 _ (away_of_page (by decide) (by decide))

theorem accept_answered {w : Acc} {s : State} (h : Starts w 0 .KEEPER_ACCEPT s) :
    Completes (.accept w) s (Answered (acceptNomination w.mtag.toNat (consumeFrame w.src s))) := by
  have own : ∀ x t, startOwnCmd w.mtag.toNat 0 .KEEPER_ACCEPT x t = acceptNomination w.mtag.toNat t := fun _ _ => rfl
  have quiet := (keeperOnly_acceptNomination w.mtag.toNat _).quiet h.1.quiet
  have started := regAccess_started (extOf s) (by decide +kernel) (by decide) h (by rwa [own])
  rw [own] at started
  exact ⟨_, rfl, started⟩

theorem Answered.tenure {s t : State} (h : Answered s t) : tenure t = tenure s := by
  obtain ⟨l, P, rfl⟩ := h
  rfl

theorem accept_passes {w : Acc} {s : State} (h : Starts w 0 .KEEPER_ACCEPT s) (named : s.nominee = some w.mtag.toNat)
    (passed : Passed w.mtag.toNat s) : Completes (.accept w) s fun t =>
      keeper t = some w.mtag.toNat ∧ t.nominee = none ∧ t.leaseLeft = getF 0 .KEEPER_LEASE s * 125000 ∧
        getB w.mtag.toNat 0 Fld.KEEPER_ACCEPT.outcome t = ocDone ∧
        (getF 0 .KEEPER_NOMINATE s = 1 → Ended 0 .KEEPER_NOMINATE ocDone t) := by
  obtain ⟨t, done, answered⟩ := accept_answered h
  obtain ⟨nominee, -, lease⟩ := nominee_of_tenure (tenure_consumeFrame w.src s)
  obtain ⟨owner, none_, left, outcome, ended⟩ := acceptNomination_passes w.mtag.isLt (nominee.trans named)
    ((passed_consumeFrame _ w.src s).mpr passed)
  obtain ⟨nominee', left', -⟩ := nominee_of_tenure answered.tenure
  refine ⟨t, done, answered.keeper.trans owner, nominee'.trans none_, left'.trans (left.trans ?_),
    (answered.getB _ 0 _).trans outcome, fun runs => answered.ended (ended ((nominate_consumeFrame w.src s).trans runs))⟩
  rw [lease]

theorem accept_rejects {w : Acc} {s : State} (h : Starts w 0 .KEEPER_ACCEPT s)
    (bad : s.nominee ≠ some w.mtag.toNat ∨ ¬Passed w.mtag.toNat s) : Completes (.accept w) s fun t =>
      keeper t = keeper s ∧ t.nominee = s.nominee ∧ t.leaseLeft = s.leaseLeft ∧
        getB w.mtag.toNat 0 Fld.KEEPER_ACCEPT.outcome t = ocRejected := by
  obtain ⟨t, done, answered⟩ := accept_answered h
  obtain ⟨nominee, -, -⟩ := nominee_of_tenure (tenure_consumeFrame w.src s)
  obtain ⟨kept, outcome⟩ := acceptNomination_rejects (m := w.mtag.toNat) (s := consumeFrame w.src s)
    (bad.imp (fun no => nominee ▸ no) fun no => fun p => no ((passed_consumeFrame _ w.src s).mp p))
  have whole := answered.tenure.trans (kept.trans (tenure_consumeFrame w.src s))
  obtain ⟨nominee', left', -⟩ := nominee_of_tenure whole
  exact ⟨t, done, keeper_of_tenure whole, nominee', left', (answered.getB _ 0 _).trans outcome⟩

/-! ### NOMINATE that nobody accepts (R54) -/

theorem nomination_times_out {s : State} (named : s.nominee.isSome = true) : Completes .nominateTimeout s fun t =>
    keeper t = keeper s ∧ t.nominee = none ∧ t.leaseLeft = s.leaseLeft ∧
      (getF 0 .KEEPER_NOMINATE s = 1 → Ended 0 .KEEPER_NOMINATE ocTimeout t) :=
  ⟨_, congrArg Host.Outcome.next (if_pos named), keeper_endNomination ocTimeout s, endNomination_spec (by decide) s⟩

/-- HEARTBEAT of the Keeper restarts the lease. -/
theorem heartbeat_renews {w : Acc} {s : State} (h : Writes w .KEEPER 0 0x028 s) (own : keeper s = some w.mtag.toNat) :
    Completes (.heartbeat w) s fun t => keeper t = keeper s ∧ t.leaseLeft = getF 0 .KEEPER_LEASE s * 125000 := by
  obtain ⟨t, done, answered⟩ := answered_heartbeat h own
  obtain ⟨-, left, -⟩ := nominee_of_tenure answered.tenure
  refine ⟨t, done, answered.keeper.trans (keeper_consumeFrame w.src s), left.trans ?_⟩
  exact congrArg (· * 125000) (lease_consumeFrame w.src s)

/-- Settles O13. -/
theorem ownershipLapsesOrPassesOn : Obligations.OwnershipLapsesOrPassesOn :=
  ⟨fun _ _ => ⟨heartbeat_renews, lease_runs_out⟩,
    fun _ _ => ⟨nominate_starts, accept_passes, accept_rejects, nomination_times_out⟩⟩

end Sys2Proof.Machine
end

section
/-! SUPPORT. Nonces and the device key (R55, R56). -/

namespace Sys2Proof.Machine

/-! ### Nonces (R55) -/

theorem nonce_key (i : Nat) : (Fld.KEEPER_NONCE i).key 0 = (Fld.KEEPER_NONCE 0).key 0 + 128 * i := by
  simp only [Fld.key, Fld.addr, Fld.KEEPER_NONCE]
  omega

theorem nonceReq_key (i : Nat) {d : Nat} (hd : d ≤ 4) : (Fld.KEEPER_NONCE i).key 0 ≠ Fld.KEEPER_NONCE_REQ.key 0 + d := by
  have first : (Fld.KEEPER_NONCE 0).key 0 = Fld.KEEPER_NONCE_REQ.key 0 + 256 := by decide
  rw [nonce_key, first]
  omega

/-- The words of a nonce as they are placed. -/
def placeNonce (m : Nat) (v : Nat → Nat) (n : Nat) (s : State) : State :=
  forAll (List.range n) (fun i => setB m 0 (.KEEPER_NONCE i) (v i)) s

theorem placeNonce_succ (m : Nat) (v : Nat → Nat) (n : Nat) (s : State) :
    placeNonce m v (n + 1) s = setB m 0 (.KEEPER_NONCE n) (v n) (placeNonce m v n s) := by
  unfold placeNonce forAll
  rw [List.range_succ, List.foldl_append]
  rfl

theorem getB_placeNonce {m i n : Nat} (v : Nat → Nat) (h : i < n) (s : State) :
    getB m 0 (.KEEPER_NONCE i) (placeNonce m v n s) = v i % 2 ^ 32 := by
  induction n with
  | zero => omega
  | succ n ih =>
    rw [placeNonce_succ]
    by_cases last : i = n
    · rw [last]
      exact getB_setB_same m 0 (.KEEPER_NONCE n) (v n) _
    · have key : (Fld.KEEPER_NONCE i).key 0 * 16 + m ≠ (Fld.KEEPER_NONCE n).key 0 * 16 + m := by
        rw [nonce_key i, nonce_key n]
        omega
      rw [getB_setB_other _ _ key, ih (by omega)]

theorem placeNonce_only (m : Nat) (v : Nat → Nat) (n : Nat) (s : State) : ∃ B, placeNonce m v n s = { s with banked := B } := by
  induction n with
  | zero => exact ⟨s.banked, rfl⟩
  | succ n ih =>
    obtain ⟨B, h⟩ := ih
    rw [placeNonce_succ, h]
    exact ⟨_, rfl⟩

theorem getB_nonce_bankedEnd (m i oc : Nat) (s : State) :
    getB m 0 (.KEEPER_NONCE i) (bankedEnd m .KEEPER_NONCE_REQ oc s) = getB m 0 (.KEEPER_NONCE i) s := by
  have field := nonceReq_key i (d := 0) (by omega)
  have outcome := nonceReq_key i (d := 4) (by omega)
  rw [← key_outcome] at outcome
  rw [bankedEnd, getB_setB_other _ _ (by omega), getB_setB_other _ _ (by omega)]

theorem mem_addNat (l : List Nat) (k : Nat) : k ∈ addNat l k := by
  unfold addNat
  split
  case isTrue held => exact List.contains_iff_mem.mp held
  case isFalse => exact List.mem_cons_self

theorem not_mem_dropNat (l : List Nat) (k : Nat) : k ∉ dropNat l k := by
  simp [dropNat]

/-- NONCE_REQ that is heeded. -/
theorem requestNonce_places {m : Nat} {s : State} (rand : Nat) (h : m ∉ s.refused) :
    requestNonce m rand s = bankedEnd m .KEEPER_NONCE_REQ ocDone
      { placeNonce m (fun i => rand / 2 ^ (32 * (3 - i))) 4 s with
        nonces := addNat (placeNonce m (fun i => rand / 2 ^ (32 * (3 - i))) 4 s).nonces m } := by
  have open_ : ¬s.refused.contains m = true := by rwa [List.contains_iff_mem]
  unfold requestNonce
  rw [if_neg open_]
  rfl

theorem requestNonce_spec {m : Nat} {s : State} (rand : Nat) (h : m ∉ s.refused) :
    m ∈ (requestNonce m rand s).nonces ∧ getB m 0 Fld.KEEPER_NONCE_REQ.outcome (requestNonce m rand s) = ocDone ∧
      ∀ i < 4, getB m 0 (.KEEPER_NONCE i) (requestNonce m rand s) = rand / 2 ^ (32 * (3 - i)) % 2 ^ 32 := by
  have bound : ∀ i (t : State) l, getB m 0 (.KEEPER_NONCE i) { t with nonces := l } = getB m 0 (.KEEPER_NONCE i) t :=
    fun _ _ _ => rfl
  rw [requestNonce_places rand h]
  refine ⟨mem_addNat _ _, getB_bankedEnd m _ (by decide) _, fun i hi => ?_⟩
  rw [getB_nonce_bankedEnd, bound, getB_placeNonce _ hi]

theorem requestNonce_refused {m : Nat} {s : State} (rand : Nat) (h : m ∈ s.refused) :
    requestNonce m rand s = bankedEnd m .KEEPER_NONCE_REQ ocRejected s := if_pos (List.contains_iff_mem.mpr h)

theorem quiet_requestNonce (m rand : Nat) {s : State} (h : Quiet s) : Quiet (requestNonce m rand s) := by
  by_cases refused : m ∈ s.refused
  · rw [requestNonce_refused rand refused]
    exact h
  · obtain ⟨B, placed⟩ := placeNonce_only m (fun i => rand / 2 ^ (32 * (3 - i))) 4 s
    rw [requestNonce_places rand refused, placed]
    exact h

theorem nonceReq_answered {w : Acc} {s : State} (rand : BitVec 128) (h : Starts w 0 .KEEPER_NONCE_REQ s) :
    Completes (.nonceReq w rand) s (Answered (requestNonce w.mtag.toNat rand.toNat
      { consumeFrame w.src s with fresh := (consumeFrame w.src s).fresh + 2 })) := by
  have own : ∀ x t, startOwnCmd w.mtag.toNat 0 .KEEPER_NONCE_REQ x t =
      requestNonce w.mtag.toNat x.rand { t with fresh := t.fresh + 2 } := fun _ _ => rfl
  have calm : Quiet { consumeFrame w.src s with fresh := (consumeFrame w.src s).fresh + 2 } := h.1.quiet
  have started := regAccess_started { extOf s with rand := rand.toNat } (by decide +kernel) (by decide) h
    (by rw [own]; exact quiet_requestNonce _ _ calm)
  rw [own] at started
  exact ⟨_, rfl, started⟩

theorem nonces_consumeFrame (src : Src) (s : State) :
    (consumeFrame src s).nonces = s.nonces ∧ (consumeFrame src s).refused = s.refused := by
  obtain ⟨l, F, T, I, E, L, D, J, h⟩ := consumeFrame_form src s
  rw [h]
  exact ⟨rfl, rfl⟩

theorem nonceReq_heeded {w : Acc} {s : State} (rand : BitVec 128) (h : Starts w 0 .KEEPER_NONCE_REQ s)
    (fresh : w.mtag.toNat ∉ s.refused) : Completes (.nonceReq w rand) s fun t =>
      w.mtag.toNat ∈ t.nonces ∧ getB w.mtag.toNat 0 Fld.KEEPER_NONCE_REQ.outcome t = ocDone ∧
        ∀ i < 4, getB w.mtag.toNat 0 (.KEEPER_NONCE i) t = rand.toNat / 2 ^ (32 * (3 - i)) % 2 ^ 32 := by
  obtain ⟨t, done, answered⟩ := nonceReq_answered rand h
  have heeded : w.mtag.toNat ∉ { consumeFrame w.src s with fresh := (consumeFrame w.src s).fresh + 2 }.refused := by
    rwa [← (nonces_consumeFrame w.src s).2] at fresh
  obtain ⟨bound, outcome, words⟩ := requestNonce_spec rand.toNat heeded
  refine ⟨t, done, ?_, (answered.getB _ 0 _).trans outcome, fun i hi => (answered.getB _ 0 _).trans (words i hi)⟩
  obtain ⟨l, P, rfl⟩ := answered
  exact bound

theorem nonceReq_rejected {w : Acc} {s : State} (rand : BitVec 128) (h : Starts w 0 .KEEPER_NONCE_REQ s)
    (refused : w.mtag.toNat ∈ s.refused) : Completes (.nonceReq w rand) s fun t =>
      t.nonces = s.nonces ∧ getB w.mtag.toNat 0 Fld.KEEPER_NONCE_REQ.outcome t = ocRejected := by
  obtain ⟨t, done, answered⟩ := nonceReq_answered rand h
  rw [requestNonce_refused rand.toNat (by rwa [← (nonces_consumeFrame w.src s).2] at refused)] at answered
  refine ⟨t, done, ?_, ?_⟩
  · obtain ⟨l, P, rfl⟩ := answered
    exact (nonces_consumeFrame w.src s).1
  · rw [answered.getB, getB_bankedEnd _ _ (by decide)]

/-! ### The device key (R56) -/

theorem keyProgram_answered {w : Acc} {s : State} (h : Starts w 0 .KEEPER_KEY_PROGRAM s) :
    Completes (.keyProgram w) s (Answered (startKeyProgram (consumeFrame w.src s))) := by
  have own : ∀ x t, startOwnCmd w.mtag.toNat 0 .KEEPER_KEY_PROGRAM x t = startKeyProgram t := fun _ _ => rfl
  have quiet : Quiet (startKeyProgram (consumeFrame w.src s)) := by
    unfold startKeyProgram
    split
    · exact quiet_of_statusOnly (statusOnly_cmdEnd 0 _ _ _) h.1.quiet
    · have programmed : ∀ f, Quiet (modNvm f (consumeFrame w.src s)) := fun _ => h.1.quiet
      exact quiet_of_statusOnly (statusOnly_cmdStart 0 _ _) (programmed _)
  have started := regAccess_started (extOf s) (by decide +kernel) (by decide) h (by rwa [own])
  rw [own] at started
  exact ⟨_, rfl, started⟩

theorem nvm_of_statusOnly {s t : State} (h : StatusOnly s t) : t.nvm = s.nvm := by
  obtain ⟨-, -, -, -, -, nvm, -⟩ := h.frame
  exact nvm

theorem sealed_consumeFrame (src : Src) (s : State) : getF 0 .KEEPER_SEALED (consumeFrame src s) = getF 0 .KEEPER_SEALED s :=
  (consumeFrame_keeps src s).1 0 _ (away_of_page (by decide) (by decide))

theorem key_consumeFrame (src : Src) (s : State) {i : Nat} (h : i < 8) :
    getF 0 (.KEEPER_KEY i) (consumeFrame src s) = getF 0 (.KEEPER_KEY i) s := by
  have small : (Fld.KEEPER_KEY i).off * 32 + (Fld.KEEPER_KEY i).lo < 32 * 4096 := by
    simp only [Fld.KEEPER_KEY]
    omega
  exact (consumeFrame_keeps src s).1 0 _ (away_of_page small (show blkPage .KEEPER 0 ≠ blkPage .CHAIN 0 by decide))

theorem keyProgram_starts {w : Acc} {s : State} (h : Starts w 0 .KEEPER_KEY_PROGRAM s) (open_ : getF 0 .KEEPER_SEALED s ≠ 1) :
    Completes (.keyProgram w) s fun t =>
      Runs 0 .KEEPER_KEY_PROGRAM t ∧ t.nvm.key = (List.range 8).map fun i => getF 0 (.KEEPER_KEY i) s := by
  obtain ⟨t, done, answered⟩ := keyProgram_answered h
  have unsealed : ¬isSet 0 .KEEPER_SEALED (consumeFrame w.src s) = true := by
    simpa [isSet, sealed_consumeFrame] using open_
  unfold startKeyProgram at answered
  rw [if_neg unsealed] at answered
  refine ⟨t, done, answered.runs (runs_cmdStart 0 .KEEPER_KEY_PROGRAM rfl _), ?_⟩
  have nvm : t.nvm = _ := answered.nvm.trans (nvm_of_statusOnly (statusOnly_cmdStart 0 .KEEPER_KEY_PROGRAM _))
  rw [nvm]
  exact List.map_congr_left fun i hi => key_consumeFrame w.src s (List.mem_range.mp hi)

theorem keyProgram_rejected {w : Acc} {s : State} (h : Starts w 0 .KEEPER_KEY_PROGRAM s) (sealed : getF 0 .KEEPER_SEALED s = 1) :
    Completes (.keyProgram w) s fun t => Ended 0 .KEEPER_KEY_PROGRAM ocRejected t ∧ t.nvm = s.nvm := by
  obtain ⟨t, done, answered⟩ := keyProgram_answered h
  have shut : isSet 0 .KEEPER_SEALED (consumeFrame w.src s) = true := by
    simpa [isSet, sealed_consumeFrame] using sealed
  unfold startKeyProgram at answered
  rw [if_pos shut] at answered
  refine ⟨t, done, answered.ended (ended_cmdEnd 0 .KEEPER_KEY_PROGRAM (oc := 4) (by decide) _), ?_⟩
  obtain ⟨l, frame⟩ := consumeFrame_form w.src s
  exact answered.nvm.trans ((nvm_of_statusOnly (statusOnly_cmdEnd 0 .KEEPER_KEY_PROGRAM 4 _)).trans
    ((nvm_of_statusOnly frame).trans rfl))

theorem keyProgramDone_matches {s : State} (runs : getF 0 .KEEPER_KEY_PROGRAM s = 1) :
    Completes (.keyProgramDone true) s fun t => getF 0 .KEEPER_SEALED t = 1 ∧ Ended 0 .KEEPER_KEY_PROGRAM ocDone t := by
  have busy : ¬(!cmdRuns 0 .KEEPER_KEY_PROGRAM s) = true := by simp [cmdRuns, isSet, runs]
  refine ⟨_, congrArg Host.Outcome.next ((if_neg busy).trans (if_pos rfl)), ?_, ended_cmdEnd 0 _ (by decide) _⟩
  rw [cmdEnd, getF_setF_other _ _ (by decide), getF_setF_other _ _ (by decide), getF_setF_same]
  rfl

theorem keyProgramDone_fails {s : State} (runs : getF 0 .KEEPER_KEY_PROGRAM s = 1) :
    Completes (.keyProgramDone false) s fun t =>
      getF 0 .KEEPER_SEALED t = getF 0 .KEEPER_SEALED s ∧ Ended 0 .KEEPER_KEY_PROGRAM ocImplausible t := by
  have busy : ¬(!cmdRuns 0 .KEEPER_KEY_PROGRAM s) = true := by simp [cmdRuns, isSet, runs]
  refine ⟨_, congrArg Host.Outcome.next ((if_neg busy).trans (if_neg Bool.false_ne_true)), ?_, ended_cmdEnd 0 _ (by decide) _⟩
  rw [cmdEnd, getF_setF_other _ _ (by decide), getF_setF_other _ _ (by decide)]

/-- Settles O14. -/
theorem keeperSecretsAreBound : Obligations.KeeperSecretsAreBound := by
  refine ⟨fun w rand m s => ⟨nonceReq_heeded rand, nonceReq_rejected rand, ⟨_, rfl, ?_, rfl⟩, ⟨_, rfl, ?_, rfl⟩⟩,
    fun w s => ⟨keyProgram_starts, keyProgram_rejected, keyProgramDone_matches, keyProgramDone_fails⟩⟩
  · exact not_mem_dropNat s.nonces m.toNat
  · exact not_mem_dropNat s.refused m.toNat

end Sys2Proof.Machine
end

section
/-! SUPPORT. Core resets (R51, R69, R354, R359), RST_GO and the watchdog (R357, R358), and the end of a reset episode
(R121, R365). -/

namespace Sys2Proof.Machine

/-! ### What a core reset leaves (R359) -/

/-- What a core reset must not reach, beside fields: ownership, who acts, the clocks, and a mode change. -/
def coreView (s : State) : Option Nat × Nat × Bool × Clk × Option Staging × Bool :=
  (s.nominee, s.leaseLeft, s.acting, s.clk, s.staging, s.loader.fwRunning)

theorem coreView_of_statusOnly {s t : State} (h : StatusOnly s t) : coreView t = coreView s := by
  obtain ⟨F, T, I, E, L, D, J, rfl⟩ := h
  rfl

theorem coreView_forAll {α : Type} {f : α → State → State} (l : List α) (s : State)
    (h : ∀ x ∈ l, ∀ t, coreView (f x t) = coreView t) : coreView (forAll l f s) = coreView s := by
  induction l generalizing s with
  | nil => rfl
  | cons x l ih => exact (ih (f x s) fun y hy => h y (List.mem_cons_of_mem _ hy)).trans (h x List.mem_cons_self s)

theorem coreView_modPav (n : Nat) (f : Pav → Pav) (s : State) : coreView (modPav n f s) = coreView s := rfl

theorem coreView_modWatch (p : Nat) (f : Watch → Watch) (s : State) : coreView (modWatch p f s) = coreView s := rfl

theorem coreView_interruptPost (s : State) : coreView (interruptPost s) = coreView s :=
  coreView_forAll _ s fun _ _ t => coreView_forAll _ t fun _ _ _ => rfl

theorem forAll_cons {α : Type} (x : α) (l : List α) (f : α → State → State) (s : State) :
    forAll (x :: l) f s = forAll l f (f x s) := rfl

theorem getF_forAll {α : Type} {u : Nat} {g : Fld} {f : α → State → State} (l : List α) (s : State)
    (h : ∀ x ∈ l, ∀ t, getF u g (f x t) = getF u g t) : getF u g (forAll l f s) = getF u g s := by
  induction l generalizing s with
  | nil => rfl
  | cons x l ih => exact (ih (f x s) fun y hy => h y (List.mem_cons_of_mem _ hy)).trans (h x List.mem_cons_self s)

theorem getF_modWatch (u : Nat) (g : Fld) (p : Nat) (f : Watch → Watch) (s : State) :
    getF u g (modWatch p f s) = getF u g s := rfl

theorem getF_interruptPost (u : Nat) (g : Fld) (s : State) : getF u g (interruptPost s) = getF u g s :=
  getF_forAll _ s fun _ _ t => getF_forAll _ t fun _ _ _ => rfl

/-- The management commands stopped. -/
def coreStopped (s : State) : State := forAll coreCmds (fun c => cmdStop c.1 c.2 ocInterrupted) s

/-- A failed trial noted among the causes. -/
def causeNoted (failed : Bool) (s : State) : State :=
  when failed (fun s => setF 0 .RSTC_CAUSE_MASK (getF 0 .RSTC_CAUSE_MASK s ||| 2 ^ 10) s) s

/-- Firmware no longer shown, injection disarmed. -/
def coreShown (s : State) : State :=
  setF 0 .INJ_ALLOW_FATAL 0 (disarm true (setAll 0 [(.LAYOUT_TRIAL, 0), (.LAYOUT_FW_SVN, 0), (.LAYOUT_FW_ID_LO, 0),
    (.LAYOUT_FW_ID_HI, 0), (.BOOTF_FW_SRC, 0)] s))

/-- A staging that is not complete given up. -/
def coreUnstaged (s : State) : State :=
  match s.staging with
  | some g =>
    if g.complete then s
    else setF 0 .CHAIN_STAGED_GEN 0 { s with staging := if g.armed.isSome then some { g with dead := true } else none }
  | none => s

/-- A core reset in steps: the management commands stop, firmware stops, and what showed it and its staging are cleared. -/
theorem coreClear_steps (activate : Bool) (s : State) : ∃ failed t,
    coreClear activate s = interruptPost (coreUnstaged (coreShown (causeNoted failed t))) ∧
      (∀ r, coreView (coreStopped s) = r → coreView t = (r.1, r.2.1, r.2.2.1, r.2.2.2.1, r.2.2.2.2.1, false)) ∧
      ∀ u g, getF u g t = getF u g (coreStopped s) := by
  unfold coreClear
  extract_lets stopped emptied watched failed id loaded caused cleared disarmed staged
  have first : coreView watched = coreView stopped := by
    simp only [watched, emptied]
    rw [coreView_forAll _ _ fun p _ t => coreView_modWatch p _ t, coreView_forAll _ _ fun n _ t => coreView_modPav n _ t]
  have fields : ∀ u g, getF u g watched = getF u g stopped := fun u g => by
    simp only [watched, emptied]
    rw [getF_forAll _ _ fun p _ t => getF_modWatch u g p _ t, getF_forAll _ _ fun n _ t => getF_modPav u g n _ t]
  have stops : stopped = coreStopped s := rfl
  clear_value watched stopped
  have halted : ∀ r, coreView stopped = r → coreView loaded = (r.1, r.2.1, r.2.2.1, r.2.2.2.1, r.2.2.2.2.1, false) := by
    rintro r rfl
    rw [← first]
    rfl
  have kept : ∀ u g, getF u g loaded = getF u g stopped := fun u g => (getF_modLoader u g _ watched).trans (fields u g)
  refine ⟨failed, loaded, ?_, stops ▸ halted, stops ▸ kept⟩
  clear_value loaded failed
  rfl

/-! ### Fields after a core reset -/

/-- The fields that a core reset clears beside its commands, other than the cause. -/
def coreFlds : List Fld :=
  [.CHAIN_STAGED_GEN, .INJ_ALLOW_FATAL, .INJ_INJ_ARM, .INJ_ARM_LEFT, .LAYOUT_TRIAL, .LAYOUT_FW_SVN, .LAYOUT_FW_ID_LO,
    .LAYOUT_FW_ID_HI, .BOOTF_FW_SRC]

theorem getF_coreUnstaged {u : Nat} {g : Fld} (h : g.key u ≠ Fld.CHAIN_STAGED_GEN.key 0) (s : State) :
    getF u g (coreUnstaged s) = getF u g s := by
  unfold coreUnstaged
  split
  · split
    · rfl
    · exact getF_setF_other 0 _ h
  · rfl

theorem getF_coreShown {u : Nat} {g : Fld} (off : g.offStatus = true) (h : ∀ f ∈ coreFlds, g.key u ≠ f.key 0) (s : State) :
    getF u g (coreShown s) = getF u g s := by
  have other : ∀ e ∈ [(Fld.LAYOUT_TRIAL, 0), (.LAYOUT_FW_SVN, 0), (.LAYOUT_FW_ID_LO, 0), (.LAYOUT_FW_ID_HI, 0),
      (.BOOTF_FW_SRC, 0)], g.key u ≠ e.1.key 0 := by
    intro e he
    refine h e.1 ?_
    have mem := List.mem_map_of_mem (f := Prod.fst) he
    simp only [List.map_cons, List.map_nil] at mem
    simp only [coreFlds, List.mem_cons] at mem ⊢
    tauto
  rw [coreShown, getF_setF_other _ _ (h _ (by simp [coreFlds])),
    getF_disarm off (h _ (by simp [coreFlds])) (h _ (by simp [coreFlds])), getF_setAll_other _ _ other]

theorem getF_coreTail {u : Nat} {g : Fld} (off : g.offStatus = true) (h : ∀ f ∈ coreFlds, g.key u ≠ f.key 0) (s : State) :
    getF u g (interruptPost (coreUnstaged (coreShown s))) = getF u g s := by
  rw [getF_interruptPost, getF_coreUnstaged (h _ (by simp [coreFlds])), getF_coreShown off h]

theorem getF_causeNoted {u : Nat} {g : Fld} (h : g.key u ≠ Fld.RSTC_CAUSE_MASK.key 0) (failed : Bool) (s : State) :
    getF u g (causeNoted failed s) = getF u g s := by
  unfold causeNoted when
  split
  · exact getF_setF_other _ s h
  · rfl

/-- Fields outside of what a core reset clears read as its commands leave them. -/
theorem getF_coreClear {u : Nat} {g : Fld} (off : g.offStatus = true) (h : ∀ f ∈ coreFlds, g.key u ≠ f.key 0)
    (cause : g.key u ≠ Fld.RSTC_CAUSE_MASK.key 0) (activate : Bool) (s : State) :
    getF u g (coreClear activate s) = getF u g (coreStopped s) := by
  obtain ⟨failed, t, steps, -, fields⟩ := coreClear_steps activate s
  rw [steps, getF_coreTail off h, getF_causeNoted cause, fields]

theorem getF_cmdStops {u : Nat} {g : Fld} (l : List (Nat × Fld)) (oc : Nat) (s : State)
    (h : ∀ c ∈ l, c.2.lo + 4 < 32 ∧ g.key u / 32 ≠ blkBase c.2.blk c.1 + c.2.off) :
    getF u g (forAll l (fun c => cmdStop c.1 c.2 oc) s) = getF u g s :=
  getF_forAll l s fun c hc t => getF_cmdStop (h c hc).1 (h c hc).2 oc t

theorem bitOf_or_keeps {n k bit : Nat} (hb : bit < 16) (h : bitOf n bit = true) : bitOf ((n ||| k) % 2 ^ 16) bit = true := by
  rw [bitOf_eq_testBit] at h ⊢
  rw [Nat.testBit_mod_two_pow, Nat.testBit_or, h]
  simp [hb]

/-- The causes noted stay so. -/
theorem cause_coreClear {bit : Nat} (hb : bit < 16) (activate : Bool) {s : State}
    (h : bitOf (getF 0 .RSTC_CAUSE_MASK s) bit = true) :
    bitOf (getF 0 .RSTC_CAUSE_MASK (coreClear activate s)) bit = true := by
  obtain ⟨failed, t, steps, -, fields⟩ := coreClear_steps activate s
  have kept : getF 0 .RSTC_CAUSE_MASK t = getF 0 .RSTC_CAUSE_MASK s := by
    rw [fields, coreStopped, getF_cmdStops _ _ _ (by decide)]
  rw [steps, getF_coreTail rfl (by decide)]
  unfold causeNoted when
  split
  · rw [getF_setF_same, kept]
    exact bitOf_or_keeps hb h
  · rwa [kept]

theorem disarmed_coreClear (activate : Bool) (s : State) : getF 0 .INJ_INJ_ARM (coreClear activate s) ≠ 1 := by
  obtain ⟨failed, t, steps, -, -⟩ := coreClear_steps activate s
  have disarms : ∀ t, getF 0 .INJ_INJ_ARM (disarm true t) ≠ 1 := fun t => by
    unfold disarm
    split
    case isTrue =>
      rw [when, if_pos rfl, getF_sticky_off rfl, getF_setF_other _ _ (by decide), getF_setF_same]
      decide
    case isFalse unarmed => simpa [isSet] using unarmed
  rw [steps, getF_interruptPost, getF_coreUnstaged (by decide), coreShown, getF_setF_other _ _ (by decide)]
  exact disarms _

theorem verify_coreClear (activate : Bool) {s : State} (runs : getF 0 .LAYOUT_VERIFY s = 1) :
    Ended 0 .LAYOUT_VERIFY ocInterrupted (coreClear activate s) := by
  obtain ⟨zero, outcome⟩ := ended_cmdStop (oc := ocInterrupted) runs (by decide)
  have listed : coreCmds = (0, .LAYOUT_VERIFY) :: coreCmds.tail := rfl
  have first : coreStopped s =
      forAll coreCmds.tail (fun c => cmdStop c.1 c.2 ocInterrupted) (cmdStop 0 .LAYOUT_VERIFY ocInterrupted s) := by
    rw [coreStopped, listed, forAll_cons]
    rfl
  refine ⟨?_, ?_⟩
  · rw [getF_coreClear rfl (by decide) (by decide), first, getF_cmdStops _ _ _ (by decide), zero]
  · rw [getF_coreClear rfl (by decide) (by decide), first, getF_cmdStops _ _ _ (by decide), outcome]

theorem keeper_coreClear (activate : Bool) (s : State) : keeper (coreClear activate s) = keeper s := by
  unfold keeper isSet
  rw [getF_coreClear rfl (by decide) (by decide), getF_coreClear rfl (by decide) (by decide), coreStopped,
    getF_cmdStops _ _ _ (by decide), getF_cmdStops _ _ _ (by decide)]

/-! ### The rest of the state after a core reset -/

theorem coreView_disarm (note : Bool) (s : State) : coreView (disarm note s) = coreView s := by
  obtain ⟨F, T, I, E, L, D, J, B, N, R, M, a, n, h⟩ := keeperOnly_disarm note s
  obtain ⟨nominee, left, -⟩ := nominee_of_tenure (tenure_disarm note s)
  rw [coreView, nominee, left, h]
  rfl

theorem coreView_coreShown (s : State) : coreView (coreShown s) = coreView s := by
  rw [coreShown, coreView_of_statusOnly (statusOnly_setF 0 _ _ _), coreView_disarm,
    coreView_of_statusOnly (statusOnly_setAll 0 _ _)]

theorem coreView_causeNoted (failed : Bool) (s : State) : coreView (causeNoted failed s) = coreView s := by
  unfold causeNoted when
  split
  · exact coreView_of_statusOnly (statusOnly_setF 0 _ _ s)
  · rfl

theorem statusOnly_forAll_cmdStop (l : List (Nat × Fld)) (oc : Nat) (s : State) :
    StatusOnly s (forAll l (fun c => cmdStop c.1 c.2 oc) s) := by
  induction l generalizing s with
  | nil => exact .refl s
  | cons c l ih => exact (statusOnly_cmdStop c.1 c.2 oc s).trans (ih _)

theorem coreUnstaged_spec (s : State) : (coreUnstaged s).nominee = s.nominee ∧ (coreUnstaged s).leaseLeft = s.leaseLeft ∧
    (coreUnstaged s).acting = s.acting ∧ (coreUnstaged s).loader.fwRunning = s.loader.fwRunning ∧
    ∀ g, s.staging = some g → g.complete = false → g.armed = none → (coreUnstaged s).staging = none := by
  unfold coreUnstaged
  split
  case h_1 g staged =>
    split
    case isTrue complete =>
      refine ⟨rfl, rfl, rfl, rfl, fun g' same open_ => ?_⟩
      rw [staged, Option.some_inj] at same
      rw [← same, complete] at open_
      cases open_
    case isFalse =>
      refine ⟨rfl, rfl, rfl, rfl, fun g' same _ unarmed => ?_⟩
      rw [staged, Option.some_inj] at same
      rw [same, setF_staging]
      exact if_neg (by simp [unarmed])
  case h_2 unstaged => exact ⟨rfl, rfl, rfl, rfl, fun g same => nomatch unstaged.symm.trans same⟩

theorem coreClear_spec (activate : Bool) (s : State) :
    (coreClear activate s).nominee = s.nominee ∧ (coreClear activate s).leaseLeft = s.leaseLeft ∧
      (coreClear activate s).acting = s.acting ∧ (coreClear activate s).loader.fwRunning = false ∧
      ∀ g, s.staging = some g → g.complete = false → g.armed = none → (coreClear activate s).staging = none := by
  obtain ⟨failed, t, steps, view, -⟩ := coreClear_steps activate s
  have stopped : coreView (coreStopped s) = coreView s :=
    coreView_of_statusOnly (statusOnly_forAll_cmdStop coreCmds ocInterrupted s)
  have shown := (coreView_coreShown (causeNoted failed t)).trans ((coreView_causeNoted failed t).trans (view _ stopped))
  have post := coreView_interruptPost (coreUnstaged (coreShown (causeNoted failed t)))
  rw [← steps] at post
  obtain ⟨nominee, left, acting, runs, staging⟩ := coreUnstaged_spec (coreShown (causeNoted failed t))
  simp only [coreView, Prod.mk.injEq] at shown post
  obtain ⟨nominee₂, left₂, acting₂, -, staging₂, runs₂⟩ := shown
  obtain ⟨nominee₃, left₃, acting₃, -, staging₃, runs₃⟩ := post
  refine ⟨nominee₃.trans (nominee.trans nominee₂), left₃.trans (left.trans left₂), acting₃.trans (acting.trans acting₂),
    runs₃.trans (runs.trans runs₂), fun g staged open_ unarmed => ?_⟩
  exact staging₃.trans (staging g (staging₂.trans staged) open_ unarmed)

/-! ### A core reset asserted (R354, R357) -/

/-- What an asserted core reset leaves. -/
structure CoreReset (bit : Nat) (s t : State) : Prop where
  keeper : keeper t = keeper s
  nominee : t.nominee = s.nominee
  lease : t.leaseLeft = s.leaseLeft
  acting : t.acting = s.acting
  firmware : t.loader.fwRunning = false
  boot : t.clk.boot = 6
  armed : getF 0 .INJ_INJ_ARM t ≠ 1
  staging : ∀ g, s.staging = some g → g.complete = false → g.armed = none → t.staging = none
  cause : bitOf (getF 0 .RSTC_CAUSE_MASK t) bit = true
  verify : getF 0 .LAYOUT_VERIFY s = 1 → Ended 0 .LAYOUT_VERIFY ocInterrupted t

theorem noteCause_rest (bit level : Nat) (s : State) :
    (noteCause bit level s).clk.boot = s.clk.boot ∧ (noteCause bit level s).nominee = s.nominee ∧
      (noteCause bit level s).leaseLeft = s.leaseLeft ∧ (noteCause bit level s).acting = s.acting ∧
      (noteCause bit level s).staging = s.staging := by
  obtain ⟨F, T, I, E, L, D, J, noted⟩ := statusOnly_noteCause bit level s
  rw [noted]
  exact ⟨rfl, rfl, rfl, rfl, rfl⟩

theorem assertReset_core (bit : Nat) {s : State} (ran : 6 ≤ s.clk.boot) :
    assertReset bit 1 s = modClk (fun c => { c with boot := 6 }) (coreClear (bit == 9) (noteCause bit 1 s)) := by
  obtain ⟨boot, -⟩ := noteCause_rest bit 1 s
  unfold assertReset
  rw [if_neg (by decide), if_neg (by decide)]
  dsimp only
  rw [if_neg (by omega)]

theorem CoreReset.of_clear {bit : Nat} {activate : Bool} {s t : State} (ht : t = coreClear activate (noteCause bit 1 s))
    (hb : bit < 16) : CoreReset bit s (modClk (fun c => { c with boot := 6 }) t) := by
  obtain ⟨-, nominee', left', acting', staging'⟩ := noteCause_rest bit 1 s
  have before : Machine.keeper (noteCause bit 1 s) = Machine.keeper s := by
    unfold Machine.keeper isSet
    rw [getF_noteCause rfl (by decide) (by decide) (by decide), getF_noteCause rfl (by decide) (by decide) (by decide)]
  have verify : getF 0 .LAYOUT_VERIFY (noteCause bit 1 s) = getF 0 .LAYOUT_VERIFY s :=
    getF_noteCause rfl (by decide) (by decide) (by decide) bit 1 s
  have cause := cause_coreClear hb activate (cause_noteCause hb 1 s)
  have armed := disarmed_coreClear activate (noteCause bit 1 s)
  have owner := keeper_coreClear activate (noteCause bit 1 s)
  have ended := verify_coreClear activate (s := noteCause bit 1 s)
  obtain ⟨nominee, left, acting, runs, staging⟩ := coreClear_spec activate (noteCause bit 1 s)
  rw [← ht] at cause armed owner ended nominee left acting runs staging
  exact {
    keeper := owner.trans before
    nominee := nominee.trans nominee'
    lease := left.trans left'
    acting := acting.trans acting'
    firmware := runs
    boot := rfl
    armed := armed
    staging := fun g staged => staging g (staging'.trans staged)
    cause := cause
    verify := fun runs => ended (verify.trans runs) }

theorem coreReset_asserted {bit : Nat} (hb : bit < 16) {s : State} (ran : 6 ≤ s.clk.boot) :
    CoreReset bit s (assertReset bit 1 s) := assertReset_core bit ran ▸ .of_clear rfl hb

end Sys2Proof.Machine
end

section
/-! SUPPORT. RST_GO and the watchdog (R357, R358), and the end of a reset episode (R121, R365). -/

namespace Sys2Proof.Machine

/-! ### The sources of a core reset (R357) -/

/-- A core reset of a state that differs from another one in nothing that it keeps is a core reset of that one. -/
theorem CoreReset.of_same {bit : Nat} {s s' t : State} (h : CoreReset bit s' t) (k : Machine.keeper s' = Machine.keeper s)
    (rest : s'.nominee = s.nominee ∧ s'.leaseLeft = s.leaseLeft ∧ s'.acting = s.acting ∧ s'.staging = s.staging)
    (v : getF 0 .LAYOUT_VERIFY s' = getF 0 .LAYOUT_VERIFY s) : CoreReset bit s t := by
  obtain ⟨nominee, lease, acting, staging⟩ := rest
  exact { h with
    keeper := h.keeper.trans k
    nominee := h.nominee.trans nominee
    lease := h.lease.trans lease
    acting := h.acting.trans acting
    staging := fun g staged => h.staging g (staging.trans staged)
    verify := fun runs => h.verify (v.trans runs) }

theorem coreReset_rstAssert {s : State} (due : s.clk.rstPend = some 1) (ran : 6 ≤ s.clk.boot) :
    Completes .rstAssert s (CoreReset 4 s) := by
  have taken : ∀ u g, getF u g (modClk (fun c => { c with rstPend := none, rstWas := none }) s) = getF u g s := fun u g =>
    getF_modClk u g _ s
  have same : Machine.keeper (cmdStop 0 .RSTC_RST_GO ocDone (modClk (fun c => { c with rstPend := none, rstWas := none }) s)) =
      Machine.keeper s := by
    unfold Machine.keeper isSet
    rw [getF_cmdStop (by decide) (by decide), getF_cmdStop (by decide) (by decide), taken, taken]
  have verify : getF 0 .LAYOUT_VERIFY
      (cmdStop 0 .RSTC_RST_GO ocDone (modClk (fun c => { c with rstPend := none, rstWas := none }) s)) =
      getF 0 .LAYOUT_VERIFY s := by
    rw [getF_cmdStop (by decide) (by decide), taken]
  have stop := statusOnly_cmdStop 0 .RSTC_RST_GO ocDone (modClk (fun c => { c with rstPend := none, rstWas := none }) s)
  refine ⟨_, (exec_rstAssert due).trans (congrArg Host.Outcome.next (if_neg (by decide))), ?_⟩
  generalize cmdStop 0 .RSTC_RST_GO ocDone (modClk (fun c => { c with rstPend := none, rstWas := none }) s) = stopped
    at same verify stop ⊢
  have rest : stopped.clk.boot = s.clk.boot ∧ stopped.nominee = s.nominee ∧ stopped.leaseLeft = s.leaseLeft ∧
      stopped.acting = s.acting ∧ stopped.staging = s.staging := by
    obtain ⟨F, T, I, E, L, D, J, rfl⟩ := stop
    exact ⟨rfl, rfl, rfl, rfl, rfl⟩
  exact (coreReset_asserted (by decide) (by omega)).of_same same rest.2 verify

theorem coreReset_watchdog {s : State} (ran : 6 ≤ s.clk.boot) (enabled : getF 0 .RSTC_WDT_EN s = 1)
    (powered : domainOn 1 s = true) : Completes .watchdogExpiry s (CoreReset 5 s) :=
  ⟨_, congrArg Host.Outcome.next (if_pos (by simp [isSet, enabled, powered])), coreReset_asserted (by decide) ran⟩

/-! ### RST_GO (R357) -/

theorem rstLevel_consumeFrame (src : Src) (s : State) :
    getF 0 .RSTC_RST_LEVEL (consumeFrame src s) = getF 0 .RSTC_RST_LEVEL s :=
  (consumeFrame_keeps src s).1 0 _ (away_of_page (by decide) (by decide))

/-- RST_GO runs, and its reset is pending. -/
theorem startReset_pends {s : State} (h : getF 0 .RSTC_RST_LEVEL s = 1 ∨ getF 0 .RSTC_RST_LEVEL s = 2) :
    startReset s =
      modClk (fun c => { c with rstPend := some (getF 0 .RSTC_RST_LEVEL s) }) (cmdStart 0 .RSTC_RST_GO s) := if_pos h

theorem quiet_startReset {s : State} (h : Quiet s) : Quiet (startReset s) := by
  unfold startReset
  dsimp only
  split
  · exact quiet_modClk _ (quiet_of_statusOnly (statusOnly_cmdStart 0 _ s) h)
  · exact quiet_of_statusOnly (statusOnly_cmdEnd 0 _ _ s) h

theorem clk_of_statusOnly {s t : State} (h : StatusOnly s t) : t.clk = s.clk := by
  obtain ⟨-, -, -, -, -, -, clk, -⟩ := h.frame
  exact clk

theorem rstGo_pends {w : Acc} {s : State} (h : Starts w 0 .RSTC_RST_GO s)
    (level : getF 0 .RSTC_RST_LEVEL s = 1 ∨ getF 0 .RSTC_RST_LEVEL s = 2) : Completes (.rstGo w) s fun t =>
      Runs 0 .RSTC_RST_GO t ∧ t.clk.rstPend = some (getF 0 .RSTC_RST_LEVEL s) ∧ t.clk.episode = s.clk.episode := by
  have own : ∀ x t, startOwnCmd w.mtag.toNat 0 .RSTC_RST_GO x t = startReset t := fun _ _ => rfl
  have started := regAccess_started (extOf s) (by decide +kernel) (by decide) h
    (by rw [own]; exact quiet_startReset h.1.quiet)
  obtain ⟨-, clk⟩ := consumeFrame_frame w.src s
  have runs := runs_cmdStart 0 .RSTC_RST_GO rfl (consumeFrame w.src s)
  have kept := (clk_of_statusOnly (statusOnly_cmdStart 0 .RSTC_RST_GO (consumeFrame w.src s))).trans clk
  rw [own, startReset_pends (by rwa [rstLevel_consumeFrame]), rstLevel_consumeFrame] at started
  generalize cmdStart 0 .RSTC_RST_GO (consumeFrame w.src s) = begun at started runs kept
  obtain ⟨t, done, answered⟩ : Completes (.rstGo w) s (Answered
      (modClk (fun c => { c with rstPend := some (getF 0 .RSTC_RST_LEVEL s) }) begun)) := ⟨_, rfl, started⟩
  refine ⟨t, done, answered.runs runs, ?_⟩
  have episode : begun.clk.episode = s.clk.episode := congrArg Clk.episode kept
  rw [answered.clk]
  exact ⟨rfl, episode⟩

/-! ### The watchdog's words (R358) -/

theorem wdtKick_sets {s : State} (en : Bool) (time : BitVec 12) (core : coreRuns s = true) (ran : s.loader.fwRunning = true) :
    Completes (.wdtKick en time) s fun t => getF 0 .RSTC_WDT_EN t = ofBool en ∧ getF 0 .RSTC_WDT_TIME t = time.toNat ∧
      OnlyFields [Fld.RSTC_WDT_EN.key 0, Fld.RSTC_WDT_TIME.key 0] s t := by
  refine ⟨_, congrArg Host.Outcome.next (if_pos (by rw [ran, core]; rfl)), ?_, ?_,
    onlyFields_setAll 0 [(.RSTC_WDT_EN, ofBool en), (.RSTC_WDT_TIME, time.toNat)] s⟩
  · rw [setAll_cons, getF_setAll_other _ _ (by simp +decide), getF_setF_same]
    cases en <;> rfl
  · rw [setAll_cons, setAll_cons, getF_setAll_other _ _ (by simp), getF_setF_same]
    exact Nat.mod_eq_of_lt time.isLt

/-! ### The end of an episode (R121, R365) -/

/-- The entry that the end of an episode makes in the Lodge's cause ring. -/
def causeEntry (s : State) : Nat × Nat :=
  (getF 0 .RSTC_CAUSE_MASK s + getF 0 .RSTC_WIDEST s * 2 ^ 16, getF 0 .LODGE_RESET_COUNT s)

theorem mem_writeCause (s : State) : causeEntry s ∈ (writeCause s).causes := by
  have entered : ∀ k (l : List (Nat × Nat)), causeEntry s ∈ if k < l.length then l.set k (causeEntry s) else l ++ [causeEntry s] := by
    intro k l
    split
    case isTrue inside => exact List.mem_set inside (causeEntry s)
    case isFalse => simp
  exact entered _ s.causes

/-- The episode noted and over. -/
def episodeOver (s : State) : State :=
  modClk (fun c => { c with episode := false, asserted := [], widest := getF 0 .RSTC_WIDEST s })
    (sticky .RSTC_RESET_SEEN 0 (writeCause s))

theorem writeCause_rest (s : State) : (writeCause s).clk = s.clk ∧ (writeCause s).loader = s.loader := ⟨rfl, rfl⟩

theorem episodeOver_spec (s : State) :
    (episodeOver s).clk.episode = false ∧ StsSet .RSTC_RESET_SEEN 0 (episodeOver s) ∧
      causeEntry s ∈ (episodeOver s).causes ∧ (episodeOver s).loader = s.loader ∧
      (episodeOver s).clk.fatalCore = s.clk.fatalCore := by
  have entry := mem_writeCause s
  obtain ⟨clk, loader⟩ := writeCause_rest s
  unfold episodeOver
  generalize writeCause s = t at entry clk loader
  have seen : StsSet .RSTC_RESET_SEEN 0 (sticky .RSTC_RESET_SEEN 0 t) :=
    stsSet_sticky (by decide) (away_of_page (by decide) (by decide)).offStatus t
  have causes : (sticky .RSTC_RESET_SEEN 0 t).causes = t.causes := by
    obtain ⟨F, T, I, E, L, D, J, h⟩ := statusOnly_sticky .RSTC_RESET_SEEN 0 t
    rw [h]
  obtain ⟨-, -, -, -, loader', -, clk', -⟩ := (statusOnly_sticky .RSTC_RESET_SEEN 0 t).frame
  have fatal : (sticky .RSTC_RESET_SEEN 0 t).clk.fatalCore = s.clk.fatalCore := congrArg Clk.fatalCore (clk'.trans clk)
  refine ⟨rfl, seen, ?_, loader'.trans loader, fatal⟩
  change causeEntry s ∈ (sticky .RSTC_RESET_SEEN 0 t).causes
  rwa [causes]

theorem endEpisode_wide {s : State} (open_ : s.clk.episode = true) (wide : getF 0 .RSTC_WIDEST s ≠ 1) :
    endEpisode s = modClk (fun c => { c with boot := 1 }) (episodeOver s) := by
  unfold endEpisode
  rw [if_neg (by simp [open_])]
  exact if_neg wide

/-- A failed trial reported. -/
def revertReported (s : State) : State :=
  when s.loader.reverted (fun s => sticky .LAYOUT_FW_REVERTED 0 (modLoader (fun l => { l with reverted := false }) s)) s

theorem endEpisode_core {s : State} (open_ : s.clk.episode = true) (wide : getF 0 .RSTC_WIDEST s = 1)
    (mild : s.clk.fatalCore = false) : endEpisode s = revertReported (episodeOver s) := by
  obtain ⟨-, -, -, -, fatal⟩ := episodeOver_spec s
  have calm : (revertReported (episodeOver s)).clk.fatalCore = false := by
    have kept : ∀ t, (revertReported t).clk = t.clk := fun t => by
      unfold revertReported when
      split
      · have clk := clk_of_statusOnly (statusOnly_sticky .LAYOUT_FW_REVERTED 0 (modLoader (fun l => { l with reverted := false }) t))
        exact clk
      · rfl
    rw [kept, fatal, mild]
  unfold endEpisode
  rw [if_neg (by simp [open_])]
  dsimp only
  rw [if_pos wide]
  exact if_neg (by rw [Bool.not_eq_true]; exact calm)

theorem revertReported_spec {s : State} (seen : StsSet .RSTC_RESET_SEEN 0 s) :
    (revertReported s).clk.episode = s.clk.episode ∧ StsSet .RSTC_RESET_SEEN 0 (revertReported s) ∧
      (revertReported s).loader.reverted = false ∧
      (s.loader.reverted = true → StsSet .LAYOUT_FW_REVERTED 0 (revertReported s)) ∧ (revertReported s).causes = s.causes := by
  unfold revertReported when
  split
  case isTrue reverted =>
    have status := statusOnly_sticky .LAYOUT_FW_REVERTED 0 (modLoader (fun l => { l with reverted := false }) s)
    have away : Away 0 (.sts .RSTC) .LAYOUT 0 := away_of_page (by decide) (by decide)
    have chain : Away 0 (.sts .RSTC) .CHAIN 0 := away_of_page (by decide) (by decide)
    have still_ : StsSet .RSTC_RESET_SEEN 0
        (sticky .LAYOUT_FW_REVERTED 0 (modLoader (fun l => { l with reverted := false }) s)) := by
      unfold StsSet at seen ⊢
      change bitOf (getF 0 (.sts .RSTC) s) _ = true at seen
      change bitOf (getF 0 (.sts .RSTC) _) _ = true
      rwa [getF_sticky (k := .LAYOUT_FW_REVERTED) away.offStatus chain.offStatus, getF_modLoader]
    have reported := stsSet_sticky (k := .LAYOUT_FW_REVERTED) (u := 0) (by decide)
      (away_of_page (by decide) (by decide)).offStatus (modLoader (fun l => { l with reverted := false }) s)
    obtain ⟨-, -, -, -, loader, -, clk, -⟩ := status.frame
    refine ⟨congrArg Clk.episode clk, still_, congrArg Loader.reverted loader, fun _ => reported, ?_⟩
    dsimp only
    obtain ⟨F, T, I, E, L, D, J, h⟩ := status
    rw [h]
    rfl
  case isFalse kept =>
    exact ⟨rfl, seen, Bool.not_eq_true _ ▸ kept, fun reverted => absurd reverted kept, rfl⟩

theorem episode_ends_wide {s : State} (open_ : s.clk.episode = true) (wide : getF 0 .RSTC_WIDEST s ≠ 1) :
    Completes .resetEpisodeEnd s fun t => t.clk.episode = false ∧ t.clk.boot = 1 ∧ StsSet .RSTC_RESET_SEEN 0 t ∧
      causeEntry s ∈ t.causes := by
  obtain ⟨ended, seen, entry, -, -⟩ := episodeOver_spec s
  exact ⟨_, congrArg Host.Outcome.next (endEpisode_wide open_ wide), ended, rfl, seen, entry⟩

theorem episode_ends_core {s : State} (open_ : s.clk.episode = true) (wide : getF 0 .RSTC_WIDEST s = 1)
    (mild : s.clk.fatalCore = false) : Completes .resetEpisodeEnd s fun t =>
      t.clk.episode = false ∧ StsSet .RSTC_RESET_SEEN 0 t ∧ t.loader.reverted = false ∧
        (s.loader.reverted = true → StsSet .LAYOUT_FW_REVERTED 0 t) ∧ causeEntry s ∈ t.causes := by
  obtain ⟨ended, seen, entry, loader, -⟩ := episodeOver_spec s
  obtain ⟨episode, seen', cleared, reported, causes⟩ := revertReported_spec seen
  refine ⟨_, congrArg Host.Outcome.next (endEpisode_core open_ wide mild), episode.trans ended, seen', cleared,
    fun reverted => reported (loader ▸ reverted), causes ▸ entry⟩

/-- Settles O33. -/
theorem coreResetsAndEpisodes : Obligations.CoreResetsAndEpisodes := by
  have core : ∀ {bit : Nat} {s t : State}, CoreReset bit s t → _ := fun h =>
    And.intro h.keeper (And.intro h.nominee (And.intro h.acting (And.intro h.firmware (And.intro h.boot
      (And.intro h.armed (And.intro h.staging (And.intro h.cause h.verify)))))))
  refine ⟨fun s ran => ⟨fun enabled powered => ?_, fun due => ?_⟩, fun w en time s => ⟨rstGo_pends, wdtKick_sets en time,
    episode_ends_wide, fun open_ wide mild => ?_⟩⟩
  · obtain ⟨t, done, reset⟩ := coreReset_watchdog ran enabled powered
    exact ⟨t, done, core reset⟩
  · obtain ⟨t, done, reset⟩ := coreReset_rstAssert due ran
    exact ⟨t, done, core reset⟩
  · have entry : causeEntry s = (getF 0 .RSTC_CAUSE_MASK s + 2 ^ 16, getF 0 .LODGE_RESET_COUNT s) := by
      rw [causeEntry, wide, Nat.one_mul]
    exact entry ▸ episode_ends_core open_ wide mild

end Sys2Proof.Machine
end

section
/-! SUPPORT. Requests that arrive while nothing is under way (R34, R35, R40, R43, R45). -/

namespace Sys2Proof.Machine

/-! ### What follows an access -/

/-- Nothing follows where no crossing leads into a domain that is off and no in-band record waits. -/
theorem settle_idle {s : State} (live : ∀ a ∈ s.access, (a.crossing && !domainOn a.domain s) = false)
    (late : ∀ a ∈ s.timedOut, domainOn a.domain s = true)
    (lanes : ∀ p < 8, ∀ q ∈ (s.port p).lane.ib, q.todo = []) : settle s = s := by
  have access : ∀ n, dropCrossings n s = s := fun n => by
    cases n with
    | zero => rfl
    | succ n =>
      have none_ : s.access.find? (fun a => a.crossing && !domainOn a.domain s) = none :=
        List.find?_eq_none.mpr fun a ha => by simp [live a ha]
      unfold dropCrossings
      rw [none_]
  have timed : dropTimedOut (s.timedOut.length + 1) s = s := by
    have none_ : s.timedOut.findIdx? (fun a => !domainOn a.domain s) = none :=
      List.findIdx?_eq_none_iff.mpr fun a ha => by simp [late a ha]
    unfold dropTimedOut
    rw [none_]
  have pumped : ∀ l : List Nat, (∀ p ∈ l, p < 8) → forAll l (fun p => pumpLane p 17) s = s := by
    intro l
    induction l with
    | nil => exact fun _ => rfl
    | cons p l ih =>
      intro small
      rw [forAll_cons, pumpLane_quiet (lanes p (small p List.mem_cons_self)), ih fun q hq => small q (List.mem_cons_of_mem _ hq)]
  unfold settle
  simp only [access, timed]
  exact pumped _ fun p hp => List.mem_range.mp hp

theorem quiet_answer (r : Req) (op code data : Nat) {s : State} (h : Quiet s) : Quiet (answer r op code data s) := by
  have counted : Quiet (when (code == 3) (countRefusal r.mtag.toNat) s) := by
    unfold when
    split
    · exact quiet_of_statusOnly (statusOnly_count 0 _ s) h
    · exact h
  unfold answer
  dsimp only
  split
  · exact counted
  · obtain ⟨-, -, stays⟩ := respond_keeps r.src r.mtag.toNat r.tag.toNat op r.addr.toNat code
      (if op = opRead ∧ code = 0 then data else 0) (when (code == 3) (countRefusal r.mtag.toNat) s)
    exact stays counted

/-! ### An access with nothing before it -/

theorem submit_first {a : Access} {s : State} (h : s.access = []) : submit a s = beginAccess a s := by
  simp [submit, h]

theorem beginAccess_early {a : Access} {s : State} {k : Nat} (h : earlyCode a.req a.op s = some k) :
    beginAccess a s = answer a.req a.op k 0 s := by
  rw [beginAccess, h]

theorem beginAccess_crosses {a : Access} {s : State} (plain : a.act = .plain) (h : earlyCode a.req a.op s = none)
    (far : a.domain ≠ 3) : beginAccess a s = { s with access := { a with crossing := true } :: s.access } := by
  unfold beginAccess
  rw [h]
  exact if_neg (by simp [far, plain])

theorem beginAccess_lands {a : Access} {s : State} (h : earlyCode a.req a.op s = none) (near : a.domain = 3) :
    beginAccess a s = landAccess a s := by
  unfold beginAccess
  rw [h]
  exact if_pos (by simp [near])

theorem domainOn_of_early {r : Req} {op : Nat} {s : State} (h : earlyCode r op s = none) (far : accessDomain op r.addr.toNat ≠ 3) :
    domainOn (accessDomain op r.addr.toNat) s = true := by
  have other : op ≠ opClaim := by
    rintro rfl
    exact far rfl
  unfold earlyCode at h
  simp only [other, if_false] at h
  split at h
  · cases h
  · split at h
    · cases h
    · split at h
      case isTrue => cases h
      case isFalse on => simpa using on

/-- What an access does that nothing else is before: it is refused, or waits in its crossing, or is carried out at once. -/
theorem settle_submit (r : Req) (op : Nat) {t : State} (quiet : Quiet t) :
    (∀ k, earlyCode r op t = some k →
      settle (submit { req := r, op := op, crossing := false } t) = answer r op k 0 t) ∧
    (earlyCode r op t = none → accessDomain op r.addr.toNat ≠ 3 →
      settle (submit { req := r, op := op, crossing := false } t) =
        { t with access := [{ req := r, op := op, crossing := true }] }) ∧
    (earlyCode r op t = none → accessDomain op r.addr.toNat = 3 → ∀ code data u,
      performOp { req := r, op := op, crossing := false } t = (code, data, u) →
      settle (submit { req := r, op := op, crossing := false } t) = settle (answer r op code data u)) := by
  obtain ⟨access, late, lanes⟩ := quiet
  refine ⟨fun k early => ?_, fun early far => ?_, fun early near code data u done => ?_⟩
  · rw [submit_first access, beginAccess_early early]
    exact settle_quiet (quiet_answer r op k 0 ⟨access, late, lanes⟩)
  · rw [submit_first access, beginAccess_crosses (a := { req := r, op := op, crossing := false }) rfl early far, access]
    refine settle_idle (fun a ha => ?_) (by simp [late]) lanes
    rw [List.mem_singleton.mp ha]
    change (true && !domainOn (accessDomain op r.addr.toNat) t) = false
    rw [domainOn_of_early early far]
    rfl
  · rw [submit_first access, beginAccess_lands (a := { req := r, op := op, crossing := false }) early near]
    unfold landAccess
    rw [done]

/-! ### Requests on the chain -/

theorem quiet_consumeFrame (src : Src) {s : State} (h : Quiet s) : Quiet (consumeFrame src s) :=
  (consumeFrame_keeps src s).2.2.2 h

/-- A request that names the device is consumed. -/
theorem arriveRequest_own {r : Req} {op : Nat} {side : Side} {s : State} (src : r.src = .chain side) (acts : s.acting = true)
    (named : r.dest.toNat = chainAddr s) (addressed : chainAddr s ≠ 0) :
    arriveRequest r op s = settle (submit { req := r, op := op, crossing := false } (consumeFrame r.src s)) := by
  unfold arriveRequest
  split
  case h_1 lane inband => exact absurd (src.symm.trans inband) (by simp)
  case h_2 => exact if_pos (by simp [acts, named, addressed])

theorem exec_request (r : Req) (s : State) :
    ∀ x ∈ [(Instr.read r, opRead), (.write r, opWrite), (.claim r, opClaim)],
      exec x.1 s = .next (arriveRequest r x.2 s) := by
  simp only [List.forall_mem_cons, List.not_mem_nil, false_implies, implies_true, and_true]
  exact ⟨rfl, rfl, rfl⟩

theorem exec_bwrite {side : Side} {f : Frame} {s : State} (running : s.forwarding = true) (acts : actsOn f s = true) :
    exec (.bwrite side f) s = .next (settle (submit
      { req := ⟨.chain side, f.dest, f.mtag, f.tag, f.addr, f.data⟩, op := opBwrite, crossing := false }
      { s with sent := goesOn side f f s s })) := by
  change Host.Outcome.next (if (!actsOn f s) = true then _ else _) = _
  rw [exec_chain_acting acts, passOn_eq (.refl s) running]

/-- Settles O10. -/
theorem requestIsAnsweredOrCrosses : Obligations.RequestIsAnsweredOrCrosses := by
  unfold Obligations.RequestIsAnsweredOrCrosses
  intro runs
  have settled : ∀ (c : Instr) (r : Req) (op : Nat) (s t : State), Quiet t →
      exec c s = .next (settle (submit { req := r, op := op, crossing := false } t)) → runs c r op s t := by
    intro c r op s t quiet carried
    obtain ⟨refused, crosses, lands⟩ := settle_submit r op quiet
    refine ⟨fun k early => by rw [carried, refused k early], fun early far => by rw [carried, crosses early far],
      fun early near code data u done => ?_⟩
    have landed := carried.trans (congrArg Host.Outcome.next (lands early near code data u done))
    exact ⟨landed, fun calm => by rw [landed, settle_quiet calm]⟩
  refine ⟨fun r side op s t c hc src acts named addressed quiet ht => ?_, fun f side s running => ⟨fun idle => ?_, fun acts quiet => ?_⟩⟩
  · subst ht
    exact settled c r op s _ (quiet_consumeFrame r.src quiet)
      ((exec_request r s _ hc).trans (congrArg Host.Outcome.next (arriveRequest_own src acts named addressed)))
  · change Host.Outcome.next (if (!actsOn f s) = true then _ else _) = _
    rw [if_pos (by simp [idle]), forward_running running]
  · exact settled _ _ _ s _ quiet (exec_bwrite running acts)

end Sys2Proof.Machine
end

section
/-! SUPPORT. Crossings that complete, time out and resolve (R45). -/

namespace Sys2Proof.Machine

/-! ### A single crossing -/

theorem crossingOf_single {a : Access} {s : State} (h : s.access = [a]) (crosses : a.crossing = true) :
    crossingOf a.req.mtag.toNat s = some a := by
  simp [crossingOf, h, crosses]

theorem startNext_none (m n : Nat) {s : State} (h : s.access = []) : startNext m n s = s := by
  cases n with
  | zero => rfl
  | succ n => simp [startNext, h]

theorem endCrossing_single {a : Access} {s : State} (h : s.access = [a]) (f : State → State) :
    endCrossing a.req.mtag.toNat f s =
      startNext a.req.mtag.toNat ((f { s with access := [] }).access.length + 1) (f { s with access := [] }) := by
  unfold endCrossing
  rw [h]
  simp [dropFirst]

/-- A crossing that completes while its target has its clock. -/
theorem exec_crossingDone {a : Access} {s : State} (h : s.access = [a]) (crosses : a.crossing = true)
    (on : domainOn (accessDomain a.op a.req.addr.toNat) s = true) (clock : clocked s = true) :
    exec (.domainCrossingDone a.req.mtag) s = .next (settle (startNext a.req.mtag.toNat
      ((landAccess a { s with access := [] }).access.length + 1) (landAccess a { s with access := [] }))) := by
  have target_on : domainOn a.domain s = true := on
  refine congrArg Host.Outcome.next ?_
  rw [crossingOf_single h crosses]
  dsimp only
  rw [if_neg (by simp [target_on, clock]), endCrossing_single h]
  have there : domainOn a.domain { s with access := [] } = true := target_on
  rw [if_pos there]

theorem crossing_lands {a : Access} {s : State} (h : s.access = [a]) (crosses : a.crossing = true)
    (on : domainOn (accessDomain a.op a.req.addr.toNat) s = true) (clock : clocked s = true) :
    ∀ u, u = landAccess a { s with access := [] } →
      exec (.domainCrossingDone a.req.mtag) s = .next (settle (startNext a.req.mtag.toNat (u.access.length + 1) u)) ∧
        (Quiet u → exec (.domainCrossingDone a.req.mtag) s = .next u) := by
  rintro u rfl
  refine ⟨exec_crossingDone h crosses on clock, fun quiet => ?_⟩
  rw [exec_crossingDone h crosses on clock, startNext_none _ _ quiet.1, settle_quiet quiet]

/-! ### A crossing that times out -/

/-- In-band requests wait for nothing more. -/
def LanesIdle (s : State) : Prop := ∀ p < 8, ∀ q ∈ (s.port p).lane.ib, q.todo = []

theorem respond_accesses (src : Src) (mtag tag op addr code data : Nat) (s : State) :
    (respond src mtag tag op addr code data s).access = s.access ∧
      (respond src mtag tag op addr code data s).timedOut = s.timedOut := by
  obtain ⟨l, P, h⟩ := answered_respond src mtag tag op addr code data s
  rw [h]
  exact ⟨rfl, rfl⟩

theorem respond_ports (src : Src) (mtag tag op addr code data : Nat) (l k : List Access) (s : State) :
    (respond src mtag tag op addr code data { s with access := l, timedOut := k }).ports =
      (respond src mtag tag op addr code data s).ports := by
  cases src with
  | chain side =>
    unfold respond when
    dsimp only
    split <;> rfl
  | inband lane => rfl

theorem lanesIdle_respond (src : Src) (mtag tag op addr code data : Nat) {s : State} (h : LanesIdle s) :
    LanesIdle (respond src mtag tag op addr code data s) := by
  have calm : Quiet { s with access := [], timedOut := [] } := ⟨rfl, rfl, h⟩
  obtain ⟨-, -, stays⟩ := respond_keeps src mtag tag op addr code data { s with access := [], timedOut := [] }
  obtain ⟨-, -, lanes⟩ := stays calm
  have ports := respond_ports src mtag tag op addr code data [] [] s
  intro p hp q hq
  refine lanes p hp q ?_
  rwa [State.port, ports]

/-- The record of a timeout. -/
def timeoutNoted (a : Access) (s : State) : State :=
  setAll 0 [(.CHAIN_TO_ADDR, a.req.addr.toNat), (.CHAIN_TO_MTAG, a.req.mtag.toNat), (.CHAIN_TO_DONE, 0),
    (.CHAIN_TO_LANDED, 0), (.CHAIN_TO_VALID, 1)] s

theorem timeoutNoted_spec (a : Access) (s : State) :
    getF 0 .CHAIN_TO_ADDR (timeoutNoted a s) = a.req.addr.toNat ∧ getF 0 .CHAIN_TO_MTAG (timeoutNoted a s) = a.req.mtag.toNat ∧
      getF 0 .CHAIN_TO_VALID (timeoutNoted a s) = 1 ∧ getF 0 .CHAIN_TO_DONE (timeoutNoted a s) = 0 := by
  unfold timeoutNoted
  refine ⟨?_, ?_, ?_, ?_⟩
  · rw [setAll_cons, getF_setAll_other _ _ (by simp +decide), getF_setF_same]
    exact Nat.mod_eq_of_lt a.req.addr.isLt
  · rw [setAll_cons, setAll_cons, getF_setAll_other _ _ (by decide), getF_setF_same]
    exact Nat.mod_eq_of_lt a.req.mtag.isLt
  · exact getF_setF_same 0 .CHAIN_TO_VALID 1 _
  · rw [setAll_cons, setAll_cons, setAll_cons, getF_setAll_other _ _ (by decide), getF_setF_same]
    rfl

/-- The switch of a domain lies behind the chain block. -/
theorem on_key_ne (d : Nat) {f : Fld} (h : f.blk = .CHAIN) (small : f.off * 32 + f.lo < 32 * 4096) :
    (Fld.PWRC_ON d).key 0 ≠ f.key 0 := by
  have page : blkPage (Fld.PWRC_ON d).blk 0 = 5 := rfl
  have chain : blkPage f.blk 0 = 2 := by rw [h]; rfl
  rw [key_eq, key_eq, page, chain]
  omega

theorem domainOn_timeoutNoted (d : Nat) (a : Access) (s : State) : domainOn d (timeoutNoted a s) = domainOn d s := by
  have other : ∀ e ∈ [(Fld.CHAIN_TO_ADDR, a.req.addr.toNat), (.CHAIN_TO_MTAG, a.req.mtag.toNat), (.CHAIN_TO_DONE, 0),
      (.CHAIN_TO_LANDED, 0), (.CHAIN_TO_VALID, 1)], (Fld.PWRC_ON d).key 0 ≠ e.1.key 0 := by
    simp only [List.forall_mem_cons, List.not_mem_nil, false_implies, implies_true, and_true]
    and_intros <;> exact on_key_ne d rfl (by decide)
  rw [domainOn, isSet, timeoutNoted, getF_setAll_other _ s other]
  rfl

/-- The answer of a timed-out access leaves the machine's fields and what is under way. -/
theorem answer_timedOut (r : Req) (op : Nat) {s : State} (lanes : LanesIdle s) :
    Answered s (answer r op 6 0 s) ∧ (answer r op 6 0 s).access = s.access ∧ (answer r op 6 0 s).timedOut = s.timedOut ∧
      LanesIdle (answer r op 6 0 s) := by
  have uncounted : when ((6 : Nat) == 3) (countRefusal r.mtag.toNat) s = s := rfl
  unfold answer
  rw [uncounted]
  dsimp only
  split
  case isTrue => exact ⟨⟨s.sent, s.ports, rfl⟩, rfl, rfl, lanes⟩
  case isFalse =>
    obtain ⟨access, timedOut⟩ := respond_accesses r.src r.mtag.toNat r.tag.toNat op r.addr.toNat 6
      (if op = opRead ∧ 6 = 0 then 0 else 0) s
    exact ⟨answered_respond _ _ _ _ _ _ _ s, access, timedOut, lanesIdle_respond _ _ _ _ _ _ _ lanes⟩

/-- A crossing that times out waits among the timed-out ones, answered with code 6. -/
theorem exec_timeout {a : Access} {s : State} (h : s.access = [a]) (crosses : a.crossing = true) (none_ : s.timedOut = []) :
    exec (.domainTimeout a.req.mtag) s = .next (settle (startNext a.req.mtag.toNat
      ((answer a.req a.op 6 0 { timeoutNoted a s with access := [], timedOut := [a] }).access.length + 1)
      (answer a.req a.op 6 0 { timeoutNoted a s with access := [], timedOut := [a] }))) := by
  have noted : StatusOnly s (timeoutNoted a s) := statusOnly_setAll 0 _ s
  obtain ⟨-, -, -, -, -, -, -, -, access, timedOut, -⟩ := noted.frame
  refine congrArg Host.Outcome.next ?_
  rw [crossingOf_single h crosses]
  dsimp only
  change settle (endCrossing a.req.mtag.toNat
    (fun s => answer a.req a.op 6 0 { s with timedOut := s.timedOut ++ [a] }) (timeoutNoted a s)) = _
  rw [endCrossing_single (access.trans h)]
  dsimp only
  rw [timedOut.trans none_, List.nil_append]

theorem getF_underway (u : Nat) (g : Fld) (l k : List Access) (s : State) :
    getF u g { s with access := l, timedOut := k } = getF u g s := rfl

theorem timedOut_rests (a : Access) {s : State} (h : LanesIdle s) (on : domainOn a.domain s = true) :
    LanesIdle { s with access := [], timedOut := [a] } ∧ domainOn a.domain { s with access := [], timedOut := [a] } = true :=
  ⟨h, on⟩

theorem lanesIdle_timeoutNoted (a : Access) {s : State} (h : LanesIdle s) : LanesIdle (timeoutNoted a s) := fun p hp q hq => by
  have noted : StatusOnly s (timeoutNoted a s) := statusOnly_setAll 0 _ s
  rw [noted.port p] at hq
  exact h p hp q hq

theorem crossing_times_out {a : Access} {s : State} (h : s.access = [a]) (crosses : a.crossing = true) (none_ : s.timedOut = [])
    (lanes : LanesIdle s) (on : domainOn (accessDomain a.op a.req.addr.toNat) s = true) :
    Completes (.domainTimeout a.req.mtag) s fun t =>
      getF 0 .CHAIN_TO_ADDR t = a.req.addr.toNat ∧ getF 0 .CHAIN_TO_MTAG t = a.req.mtag.toNat ∧
        getF 0 .CHAIN_TO_VALID t = 1 ∧ getF 0 .CHAIN_TO_DONE t = 0 ∧ t.access = [] ∧ t.timedOut = [a] := by
  refine ⟨_, exec_timeout h crosses none_, ?_⟩
  have target : domainOn a.domain s = true := on
  obtain ⟨still, runs⟩ := timedOut_rests a (lanesIdle_timeoutNoted a lanes) ((domainOn_timeoutNoted a.domain a s).trans target)
  obtain ⟨answered, access, timedOut, idle⟩ := answer_timedOut a.req a.op still
  obtain ⟨addr, mtag, valid, done⟩ := timeoutNoted_spec a s
  have settled : settle (answer a.req a.op 6 0 { timeoutNoted a s with access := [], timedOut := [a] }) =
      answer a.req a.op 6 0 { timeoutNoted a s with access := [], timedOut := [a] } := by
    refine settle_idle (by simp [access]) (fun b hb => ?_) idle
    rw [timedOut, List.mem_singleton] at hb
    rw [hb, domainOn, isSet, answered.getF]
    exact runs
  have fields : ∀ g, getF 0 g (answer a.req a.op 6 0 { timeoutNoted a s with access := [], timedOut := [a] }) =
      getF 0 g (timeoutNoted a s) := fun g => (answered.getF 0 g).trans (getF_underway 0 g [] [a] _)
  rw [startNext_none _ _ access, settled]
  exact ⟨(fields _).trans addr, (fields _).trans mtag, (fields _).trans valid, (fields _).trans done, access, timedOut⟩

/-! ### A timed-out access that resolves -/

/-- What becomes of the one timed-out access when it resolves. -/
theorem resolveTimedOut_single {a : Access} {s : State} (h : s.timedOut = [a]) (landed : Bool) :
    resolveTimedOut 0 landed s =
      let land := landed && a.op != opRead && domainOn a.domain s
      sticky .CHAIN_TO_RESOLVED 0 (setAll 0 [(.CHAIN_TO_DONE, 1), (.CHAIN_TO_LANDED, ofBool land)]
        (if land then (performOp a { s with timedOut := [] }).2.2 else { s with timedOut := [] })) := by
  unfold resolveTimedOut
  rw [h]
  rfl

theorem exec_resolved {s : State} (clock : clocked s = true) (landed : Bool) :
    exec (.crossingResolved ⟨0, landed⟩) s = .next (settle (resolveTimedOut 0 landed s)) :=
  congrArg Host.Outcome.next (if_pos clock)

/-- A read, or a write withdrawn in time, resolves without effect. -/
theorem resolves_withdrawn {a : Access} {landed : Bool} {s : State} (h : s.timedOut = [a]) (access : s.access = [])
    (clock : clocked s = true) (lanes : LanesIdle s) (no : a.op = opRead ∨ landed = false) :
    Completes (.crossingResolved ⟨0, landed⟩) s fun t =>
      t.timedOut = [] ∧ getF 0 .CHAIN_TO_DONE t = 1 ∧ getF 0 .CHAIN_TO_LANDED t = 0 ∧ StsSet .CHAIN_TO_RESOLVED 0 t ∧
        KeepsMemory s t := by
  have land : (landed && a.op != opRead && domainOn a.domain s) = false := by
    rcases no with read | away
    · simp [read]
    · simp [away]
  have calm : Quiet { s with timedOut := [] } := ⟨access, rfl, lanes⟩
  have mem : KeepsMemory s { s with timedOut := [] } := ⟨fun _ => rfl, fun _ _ => rfl⟩
  have late : { s with timedOut := [] }.timedOut = [] := rfl
  refine ⟨_, exec_resolved clock landed, ?_⟩
  rw [resolveTimedOut_single h]
  dsimp only
  rw [land, if_neg Bool.false_ne_true]
  generalize { s with timedOut := [] } = u at calm mem late
  have set : StatusOnly u (setAll 0 [(.CHAIN_TO_DONE, 1), (.CHAIN_TO_LANDED, ofBool false)] u) := statusOnly_setAll 0 _ u
  have noted := set.trans (statusOnly_sticky .CHAIN_TO_RESOLVED 0 _)
  obtain ⟨-, -, -, -, -, -, -, -, -, timedOut, -⟩ := noted.frame
  obtain ⟨post, loader⟩ := noted.keepsMemory
  rw [settle_quiet (quiet_of_statusOnly noted calm)]
  refine ⟨timedOut.trans late, ?_, ?_, stsSet_sticky_chain rfl (by decide) _, fun b => (post b).trans (mem.1 b), fun i b =>
    (loader i b).trans (mem.2 i b)⟩
  · rw [getF_sticky_off rfl, setAll_cons, getF_setAll_other _ _ (by decide), getF_setF_same]
    rfl
  · rw [getF_sticky_off rfl]
    exact getF_setF_same 0 .CHAIN_TO_LANDED 0 _

/-- A write that landed takes its effect and is recorded so. -/
theorem resolves_landed {a : Access} {s : State} (h : s.timedOut = [a]) (clock : clocked s = true) (writes : a.op ≠ opRead)
    (on : domainOn (accessDomain a.op a.req.addr.toNat) s = true) :
    exec (.crossingResolved ⟨0, true⟩) s = .next (settle (sticky .CHAIN_TO_RESOLVED 0
      (setAll 0 [(.CHAIN_TO_DONE, 1), (.CHAIN_TO_LANDED, 1)] (performOp a { s with timedOut := [] }).2.2))) := by
  have land : (true && a.op != opRead && domainOn a.domain s) = true := by
    have target : domainOn a.domain s = true := on
    simp [writes, target]
  rw [exec_resolved clock, resolveTimedOut_single h]
  dsimp only
  rw [land, if_pos rfl]
  rfl

/-- Settles O11. -/
theorem crossingsEnd : Obligations.CrossingsEnd := by
  unfold Obligations.CrossingsEnd
  refine ⟨fun a s access crosses late lanes on => ⟨crossing_lands access crosses on,
    crossing_times_out access crosses late lanes on⟩, fun a landed s late access clock lanes =>
    ⟨resolves_withdrawn late access clock lanes, ?_⟩⟩
  rintro writes rfl on u rfl
  exact resolves_landed late clock writes on

end Sys2Proof.Machine
end

section
/-! SUPPORT. CLAIM (R51, R55, R57). -/

namespace Sys2Proof.Machine

/-! ### What changes the Keeper alone -/

/-- From `s` to `t` nothing has changed but fields, status, the lease, a nomination and the time armed for injection. -/
def TenureOnly (s t : State) : Prop :=
  ∃ F T I E L D J M a n, t = { s with
    fields := F, tmr := T, irqOut := I, events := E, latchAt := L, faultAt := D, injOpen := J, nominee := M, armLeft := a
    leaseLeft := n }

theorem TenureOnly.refl (s : State) : TenureOnly s s := ⟨_, _, _, _, _, _, _, _, _, _, rfl⟩

theorem TenureOnly.trans {s t u : State} (h : TenureOnly s t) (k : TenureOnly t u) : TenureOnly s u := by
  obtain ⟨F, T, I, E, L, D, J, M, a, n, rfl⟩ := h
  obtain ⟨F, T, I, E, L, D, J, M, a, n, rfl⟩ := k
  exact ⟨F, T, I, E, L, D, J, M, a, n, rfl⟩

theorem StatusOnly.tenureOnly {s t : State} (h : StatusOnly s t) : TenureOnly s t := by
  obtain ⟨F, T, I, E, L, D, J, rfl⟩ := h
  exact ⟨_, _, _, _, _, _, _, _, _, _, rfl⟩

theorem TenureOnly.keeperOnly {s t : State} (h : TenureOnly s t) : KeeperOnly s t := by
  obtain ⟨F, T, I, E, L, D, J, M, a, n, rfl⟩ := h
  exact ⟨_, _, _, _, _, _, _, _, _, _, _, _, _, rfl⟩

theorem TenureOnly.nonces {s t : State} (h : TenureOnly s t) : t.nonces = s.nonces ∧ t.refused = s.refused := by
  obtain ⟨F, T, I, E, L, D, J, M, a, n, rfl⟩ := h
  exact ⟨rfl, rfl⟩

theorem KeeperOnly.sends {s t : State} (h : KeeperOnly s t) : t.sent = s.sent ∧ t.acting = s.acting := by
  obtain ⟨F, T, I, E, L, D, J, B, N, R, M, a, n, rfl⟩ := h
  exact ⟨rfl, rfl⟩

theorem tenureOnly_disarm (note : Bool) (s : State) : TenureOnly s (disarm note s) := by
  have cleared : TenureOnly s (setF 0 .INJ_ARM_LEFT 0 (setF 0 .INJ_INJ_ARM 0 { s with armLeft := 0 })) :=
    ⟨_, _, _, _, _, _, _, _, _, _, rfl⟩
  unfold disarm when
  split
  · split
    · exact cleared.trans (statusOnly_sticky .INJ_DISARMED 0 _).tenureOnly
    · exact cleared
  · exact .refl s

theorem tenureOnly_renewLease (s : State) : TenureOnly s (renewLease s) := ⟨_, _, _, _, _, _, _, _, _, _, rfl⟩

theorem tenureOnly_becomeKeeper (m : Nat) (s : State) : TenureOnly s (becomeKeeper m s) := by
  have first : TenureOnly s (relieved m s) := by
    unfold relieved when
    split
    · exact tenureOnly_disarm true s
    · exact .refl s
  rw [becomeKeeper_eq]
  exact ((first.trans (statusOnly_setAll 0 _ _).tenureOnly).trans (tenureOnly_renewLease _)).trans
    (statusOnly_sticky _ 0 _).tenureOnly

theorem tenureOnly_expireLease (s : State) : TenureOnly s (expireLease s) := by
  by_cases h : keeper s = none ∨ s.leaseLeft ≠ 0
  · rw [expireLease_holds h]
    exact .refl s
  · rw [not_or, not_ne_iff] at h
    obtain ⟨m, owned⟩ := Option.ne_none_iff_exists'.mp h.1
    have forgotten : TenureOnly s { s with nominee := none } := ⟨_, _, _, _, _, _, _, _, _, _, rfl⟩
    have ended : TenureOnly s (endNomination ocTimeout s) :=
      forgotten.trans (statusOnly_cmdStop 0 .KEEPER_NOMINATE ocTimeout _).tenureOnly
    have lapsed : StatusOnly (endNomination ocTimeout s) (leaseLapsed s) := statusOnly_setAll 0 _ _
    have told := (lapsed.trans (statusOnly_sticky .KEEPER_KEEPER_LOST 0 _)).trans (statusOnly_queueEvent m .KEEPER 0 _)
    rw [expireLease_lapses owned h.2]
    exact (ended.trans told.tenureOnly).trans (tenureOnly_disarm true _)

/-! ### A lease that ran out before the CLAIM -/

/-- The fields whose values the loss of ownership changes. -/
def lapseFlds : List Fld := [.INJ_INJ_ARM, .INJ_ARM_LEFT, .KEEPER_KTAG, .KEEPER_KVALID]

theorem getF_expireLease {u : Nat} {g : Fld} (off : g.offStatus = true) (other : ∀ f ∈ lapseFlds, g.key u ≠ f.key 0)
    (word : g.key u / 32 ≠ Fld.KEEPER_NOMINATE.addr 0) (s : State) : getF u g (expireLease s) = getF u g s := by
  simp only [lapseFlds, List.forall_mem_cons] at other
  obtain ⟨arm, left, tag, valid, -⟩ := other
  by_cases h : keeper s = none ∨ s.leaseLeft ≠ 0
  · rw [expireLease_holds h]
  · rw [not_or, not_ne_iff] at h
    obtain ⟨m, owned⟩ := Option.ne_none_iff_exists'.mp h.1
    have lapsed : getF u g (leaseLapsed s) = getF u g (endNomination ocTimeout s) :=
      (getF_setF_other _ _ valid).trans (getF_setF_other _ _ tag)
    rw [expireLease_lapses owned h.2, getF_lapse off arm left, lapsed, getF_endNomination word]

/-- The Keeper after a look at the lease. -/
theorem keeper_expireLease (s : State) :
    keeper (expireLease s) = (if keeper s = none ∨ s.leaseLeft = 0 then none else keeper s) ∧
      (expireLease s).leaseLeft = s.leaseLeft := by
  by_cases none_ : keeper s = none
  · rw [expireLease_holds (.inl none_), if_pos (.inl none_)]
    exact ⟨none_, rfl⟩
  · by_cases spent : s.leaseLeft = 0
    · obtain ⟨m, owned⟩ := Option.ne_none_iff_exists'.mp none_
      obtain ⟨valid, -, -, left, -⟩ := expireLease_spec owned spent
      rw [if_pos (.inr spent), left, spent]
      refine ⟨?_, rfl⟩
      rw [keeper, isSet, valid]
      rfl
    · rw [expireLease_holds (.inr spent), if_neg (by simp [none_, spent])]
      exact ⟨rfl, rfl⟩

/-! ### What the check of sealed mode looks at -/

/-- Between `s` and `t` nothing has changed that the check of sealed mode looks at. -/
def SameSeal (s t : State) : Prop :=
  getF 0 .KEEPER_SEALED t = getF 0 .KEEPER_SEALED s ∧ t.nonces = s.nonces ∧ t.banked = s.banked ∧ t.nvm = s.nvm ∧
    t.pending = s.pending

theorem SameSeal.trans {s t u : State} (h : SameSeal s t) (k : SameSeal t u) : SameSeal s u := by
  obtain ⟨a, b, c, d, e⟩ := h
  obtain ⟨a', b', c', d', e'⟩ := k
  exact ⟨a'.trans a, b'.trans b, c'.trans c, d'.trans d, e'.trans e⟩

theorem SameSeal.responseOk {s t : State} (h : SameSeal s t) (m : Nat) : responseOk m t = responseOk m s := by
  obtain ⟨-, -, banked, nvm, -⟩ := h
  simp only [Machine.responseOk, getB, banked, nvm]

theorem SameSeal.passed {s t : State} (h : SameSeal s t) (m : Nat) : Passed m t ↔ Passed m s := by
  obtain ⟨sealed, nonces, -⟩ := id h
  rw [Passed, sealed, nonces, h.responseOk, Passed]

theorem SameSeal.claimBeaten {s t : State} (h : SameSeal s t) (m : Nat) : claimBeaten m t = claimBeaten m s := by
  obtain ⟨sealed, nonces, -, -, pending⟩ := id h
  have passes : ∀ k, sealPasses k t = sealPasses k s := fun k => by
    simp only [sealPasses, isSet, sealed, nonces, h.responseOk]
  simp only [Machine.claimBeaten, meets, pending, passes]

theorem sameSeal_consumeFrame (src : Src) (s : State) : SameSeal s (consumeFrame src s) := by
  obtain ⟨l, F, T, I, E, L, D, J, h⟩ := consumeFrame_form src s
  obtain ⟨fields, -⟩ := consumeFrame_keeps src s
  refine ⟨fields 0 _ (away_of_page (by decide) (by decide)), ?_⟩
  rw [h]
  exact ⟨rfl, rfl, rfl, rfl⟩

theorem sameSeal_expireLease (s : State) : SameSeal s (expireLease s) := by
  obtain ⟨F, T, I, E, L, D, J, M, a, n, h⟩ := tenureOnly_expireLease s
  refine ⟨getF_expireLease rfl (by decide) (by decide) s, ?_⟩
  rw [h]
  exact ⟨rfl, rfl, rfl, rfl⟩

/-! ### CLAIM by its outcome -/

/-- The device at a CLAIM: a lease that has run out is noticed, the sealed mode is checked. -/
def claimChecked (m : Nat) (s : State) : State := (sealCheck m (expireLease s)).2

/-- The lease that a CLAIM asks for. -/
def claimLease (data : Nat) (s : State) : State :=
  if data % 2 ^ 14 = 0 then s else setF 0 .KEEPER_LEASE (clampLease (data % 2 ^ 14)) s

/-- What a CLAIM that is heard does. -/
def claimTaken (m data : Nat) (s : State) : State :=
  if (keeper (claimLease data (claimChecked m s))).isSome then renewLease (claimLease data (claimChecked m s))
  else becomeKeeper m (claimLease data (claimChecked m s))

/-- A CLAIM is heard: it passes, and it is the first one or the Keeper's own. -/
def ClaimHeard (m : Nat) (s : State) : Prop :=
  Passed m s ∧ (if keeper s = none ∨ s.leaseLeft = 0 then claimBeaten m s = false else keeper s = some m)

theorem keeper_claimChecked (m : Nat) (s : State) :
    keeper (claimChecked m s) = (if keeper s = none ∨ s.leaseLeft = 0 then none else keeper s) ∧
      (claimChecked m s).leaseLeft = s.leaseLeft := by
  obtain ⟨owner, left⟩ := keeper_expireLease s
  obtain ⟨-, left', -⟩ := nominee_of_tenure (tenure_sealCheck m (expireLease s))
  exact ⟨(keeper_of_tenure (tenure_sealCheck m (expireLease s))).trans owner, left'.trans left⟩

theorem claimKeeper_eq (m data : Nat) (s : State) :
    claimKeeper m data s =
      if !(sealCheck m (expireLease s)).1 ||
          (match keeper (claimChecked m s) with | some k => k != m | none => false) ||
          ((keeper (expireLease s)).isNone && claimBeaten m (expireLease s)) then (3, claimChecked m s)
      else (0, claimTaken m data s) := rfl

/-- A CLAIM is taken where it is heard and refused where it is not. -/
theorem claimKeeper_cases (m data : Nat) (s : State) :
    (ClaimHeard m s → claimKeeper m data s = (0, claimTaken m data s)) ∧
      (¬ClaimHeard m s → claimKeeper m data s = (3, claimChecked m s)) := by
  have same := sameSeal_expireLease s
  have passes : (sealCheck m (expireLease s)).1 = true ↔ Passed m s := (sealCheck_passed m _).trans (same.passed m)
  obtain ⟨owner, -⟩ := keeper_claimChecked m s
  obtain ⟨owner', -⟩ := keeper_expireLease s
  rw [claimKeeper_eq, owner, owner', same.claimBeaten]
  unfold ClaimHeard
  rw [← passes]
  by_cases unowned : keeper s = none ∨ s.leaseLeft = 0
  · simp only [if_pos unowned]
    cases (sealCheck m (expireLease s)).1 <;> cases claimBeaten m s <;> simp
  · obtain ⟨k, owned⟩ := Option.ne_none_iff_exists'.mp fun no => unowned (.inl no)
    simp only [if_neg unowned]
    simp only [owned]
    cases (sealCheck m (expireLease s)).1 <;> by_cases own : k = m <;> simp [own]

theorem keeperOnly_claimChecked (m : Nat) (s : State) : KeeperOnly s (claimChecked m s) :=
  (tenureOnly_expireLease s).keeperOnly.trans (keeperOnly_sealCheck m _)

theorem tenureOnly_claimTaken (m data : Nat) (s : State) : TenureOnly (claimChecked m s) (claimTaken m data s) := by
  have leased : TenureOnly (claimChecked m s) (claimLease data (claimChecked m s)) := by
    unfold claimLease
    split
    · exact .refl _
    · exact (statusOnly_setF 0 _ _ _).tenureOnly
  unfold claimTaken
  split
  · exact leased.trans (tenureOnly_renewLease _)
  · exact leased.trans (tenureOnly_becomeKeeper m _)

end Sys2Proof.Machine
end

section
/-! SUPPORT. What a CLAIM leaves and answers (R51, R55). -/

namespace Sys2Proof.Machine

/-! ### Fields that a CLAIM keeps -/

theorem visitRej_key (m : Nat) : (Fld.KEEPER_VISIT_REJ m).key 0 = 139264 + 256 * m := by
  have base : blkBase .KEEPER 0 = 4096 := rfl
  simp only [Fld.key, Fld.addr, Fld.KEEPER_VISIT_REJ, base]
  omega

/-- The count of a master's refused visits stands apart from the other fields. -/
theorem visitRej_key_ne {m : Nat} (hm : m < 16) {k : Nat} (h : k < 139264 ∨ 143360 ≤ k) :
    (Fld.KEEPER_VISIT_REJ m).key 0 ≠ k := by
  rw [visitRej_key]
  omega

theorem visitRej_offStatus {m : Nat} (hm : m < 16) : (Fld.KEEPER_VISIT_REJ m).offStatus = true := by
  refine decide_eq_true ⟨Nat.zero_lt_succ 31, ?_⟩
  simp only [Fld.KEEPER_VISIT_REJ]
  omega

theorem visitRej_consumeFrame {m : Nat} (hm : m < 16) (src : Src) (s : State) :
    getF 0 (.KEEPER_VISIT_REJ m) (consumeFrame src s) = getF 0 (.KEEPER_VISIT_REJ m) s := by
  have pages : blkPage .KEEPER 0 ≠ blkPage .CHAIN 0 := by decide
  refine (consumeFrame_keeps src s).1 0 _ (away_of_page ?_ pages)
  simp only [Fld.KEEPER_VISIT_REJ]
  omega

theorem getF_countRefusal {m : Nat} (hm : m < 16) {g : Fld} (off : g.offStatus = true) (h : g.key 0 < 139264 ∨ 143360 ≤ g.key 0)
    (s : State) : getF 0 g (countRefusal m s) = getF 0 g s :=
  getF_count (visitRej_key_ne hm h).symm (g.offStatus_spec off 0 _ 0) (g.offStatus_spec off 0 .CHAIN 0) s

theorem getF_claimChecked {u : Nat} {g : Fld} (off : g.offStatus = true)
    (other : ∀ f ∈ Fld.KEEPER_SEAL_FAIL :: lapseFlds, g.key u ≠ f.key 0) (word : g.key u / 32 ≠ Fld.KEEPER_NOMINATE.addr 0)
    (m : Nat) (s : State) : getF u g (claimChecked m s) = getF u g s := by
  obtain ⟨fail, lapse⟩ := List.forall_mem_cons.mp other
  rw [claimChecked, getF_sealCheck off fail, getF_expireLease off lapse word]

theorem visitRej_claimChecked {m : Nat} (hm : m < 16) (s : State) :
    getF 0 (.KEEPER_VISIT_REJ m) (claimChecked m s) = getF 0 (.KEEPER_VISIT_REJ m) s := by
  refine getF_claimChecked (visitRej_offStatus hm) (fun f hf => visitRej_key_ne hm ?_) (fun same => ?_) m s
  · exact (by decide : ∀ f ∈ Fld.KEEPER_SEAL_FAIL :: lapseFlds, f.key 0 < 139264 ∨ 143360 ≤ f.key 0) f hf
  · have addr : Fld.KEEPER_NOMINATE.addr 0 = 4144 := rfl
    rw [visitRej_key, addr] at same
    omega

theorem getF_claimLease {u : Nat} {g : Fld} (h : g.key u ≠ Fld.KEEPER_LEASE.key 0) (data : Nat) (s : State) :
    getF u g (claimLease data s) = getF u g s := by
  unfold claimLease
  split
  · rfl
  · exact getF_setF_other _ _ h

theorem lease_claimLease (data : Nat) (s : State) : getF 0 .KEEPER_LEASE (claimLease data s) =
    if data % 2 ^ 14 = 0 then getF 0 .KEEPER_LEASE s else clampLease (data % 2 ^ 14) := by
  unfold claimLease
  split
  · rfl
  · rw [getF_setF_same]
    refine Nat.mod_eq_of_lt ?_
    change max 10 (min 10000 (data % 2 ^ 14)) < 2 ^ 14
    omega

theorem chainAddr_claimTaken (m data : Nat) (s : State) : chainAddr (claimTaken m data s) = chainAddr s := by
  have leased : getF 0 .CHAIN_ADDR (claimLease data (claimChecked m s)) = getF 0 .CHAIN_ADDR s := by
    rw [getF_claimLease (by decide), getF_claimChecked rfl (by decide) (by decide)]
  unfold claimTaken
  split
  · exact leased
  · exact (getF_becomeKeeper rfl (by decide) m _).trans leased

theorem chainAddr_consumeFrame (src : Src) (s : State) : chainAddr (consumeFrame src s) = chainAddr s := by
  cases src with
  | chain side =>
    have sent : getF 0 .CHAIN_ADDR (when s.forwarding (emit (.chain (Side.other side) idleFrame)) s) = getF 0 .CHAIN_ADDR s := by
      unfold when
      split <;> rfl
    exact (getF_count (f := .CHAIN_FRAMES_IN) (by decide) (Fld.offStatus_spec rfl 0 _ 0) (Fld.offStatus_spec rfl 0 _ 0) _).trans sent
  | inband lane => rfl

/-! ### The answer -/

/-- The state with the answer to a CLAIM. -/
def claimAnswered (r : Req) (side : Side) (code : Nat) (s t : State) : Prop :=
  t.sent = .chain side (respFrame s r.mtag.toNat r.tag.toNat opClaim r.addr.toNat code 0) :: (consumeFrame r.src s).sent

theorem acting_consumeFrame (src : Src) (s : State) : (consumeFrame src s).acting = s.acting := by
  obtain ⟨l, F, T, I, E, L, D, J, h⟩ := consumeFrame_form src s
  rw [h]

theorem exec_claim {r : Req} {side : Side} {s : State} (src : r.src = .chain side) (acts : s.acting = true)
    (named : r.dest.toNat = chainAddr s) (addressed : chainAddr s ≠ 0) (quiet : Quiet s) {code : Nat} {u : State}
    (done : claimKeeper r.mtag.toNat r.data.toNat (consumeFrame r.src s) = (code, u)) (calm : Quiet u) :
    exec (.claim r) s = .next (answer r opClaim code 0 u) := by
  have operates : performOp { req := r, op := opClaim, crossing := false } (consumeFrame r.src s) = (code, 0, u) := by
    change ((claimKeeper r.mtag.toNat r.data.toNat (consumeFrame r.src s)).1, 0,
      (claimKeeper r.mtag.toNat r.data.toNat (consumeFrame r.src s)).2) = _
    rw [done]
  obtain ⟨-, -, lands⟩ := settle_submit r opClaim (quiet_consumeFrame r.src quiet)
  rw [show exec (.claim r) s = .next (arriveRequest r opClaim s) from rfl, arriveRequest_own src acts named addressed,
    lands rfl rfl _ _ _ operates, settle_quiet (quiet_answer r opClaim code 0 calm)]

/-- An answer leaves from a state whose address and outputs are those of the arrival. -/
theorem claim_answers {r : Req} {side : Side} {s w : State} (src : r.src = .chain side) (acts : s.acting = true) (code : Nat)
    (kept : KeeperOnly (consumeFrame r.src s) w) (addr : chainAddr w = chainAddr s) :
    claimAnswered r side code s (respond r.src r.mtag.toNat r.tag.toNat opClaim r.addr.toNat code 0 w) := by
  obtain ⟨sent, acting⟩ := kept.sends
  rw [claimAnswered, ← sent, src, respond_chain (acting.trans ((acting_consumeFrame r.src s).trans acts)), respFrame, addr,
    respFrame]

theorem answer_zero (r : Req) (s : State) :
    answer r opClaim 0 0 s = respond r.src r.mtag.toNat r.tag.toNat opClaim r.addr.toNat 0 0 s := rfl

theorem answer_three (r : Req) (s : State) : answer r opClaim 3 0 s =
    respond r.src r.mtag.toNat r.tag.toNat opClaim r.addr.toNat 3 0 (countRefusal r.mtag.toNat s) := rfl

theorem answered_leaseLeft {s t : State} (h : Answered s t) :
    t.leaseLeft = s.leaseLeft ∧ t.nonces = s.nonces ∧ t.refused = s.refused := by
  obtain ⟨l, P, rfl⟩ := h
  exact ⟨rfl, rfl, rfl⟩

/-! ### A CLAIM that is taken -/

theorem nonces_claimChecked {m : Nat} {s : State} (sealed_ : getF 0 .KEEPER_SEALED s = 1) :
    m ∉ (claimChecked m s).nonces ∧ (¬Passed m s → m ∈ (claimChecked m s).refused ∧ Counted 0 .KEEPER_SEAL_FAIL s (claimChecked m s)) := by
  have same := sameSeal_expireLease s
  have fails : getF 0 .KEEPER_SEAL_FAIL (expireLease s) = getF 0 .KEEPER_SEAL_FAIL s :=
    getF_expireLease rfl (by decide) (by decide) s
  have passes : (sealCheck m (expireLease s)).1 = true ↔ Passed m s := (sealCheck_passed m _).trans (same.passed m)
  unfold claimChecked
  rw [sealCheck_state, if_pos (same.1.trans sealed_)]
  generalize expireLease s = e at fails passes
  by_cases ok : (sealCheck m e).1 = true
  · rw [if_pos ok]
    exact ⟨not_mem_dropNat e.nonces m, fun no => absurd (passes.mp ok) no⟩
  · rw [if_neg ok]
    have dropped : m ∉ { e with nonces := dropNat e.nonces m, refused := addNat e.refused m }.nonces := not_mem_dropNat e.nonces m
    have added : m ∈ { e with nonces := dropNat e.nonces m, refused := addNat e.refused m }.refused := mem_addNat e.refused m
    have kept : getF 0 .KEEPER_SEAL_FAIL { e with nonces := dropNat e.nonces m, refused := addNat e.refused m } =
      getF 0 .KEEPER_SEAL_FAIL s := fails
    generalize { e with nonces := dropNat e.nonces m, refused := addNat e.refused m } = d at dropped added kept
    have told := (statusOnly_count 0 .KEEPER_SEAL_FAIL d).trans (statusOnly_sticky .KEEPER_SEAL_FAILED 0 _)
    obtain ⟨nonces, refused⟩ := told.tenureOnly.nonces
    have counted := counted_count (u := 0) (f := .KEEPER_SEAL_FAIL) rfl (Fld.offStatus_spec rfl 0 _ 0)
      (Fld.offStatus_spec rfl 0 _ 0) d
    refine ⟨nonces ▸ dropped, fun _ => ⟨refused ▸ added, ?_⟩⟩
    unfold Counted at counted ⊢
    rw [getF_sticky_off rfl, counted, kept]

/-- The Keeper and its lease after a CLAIM that is heard. -/
theorem claimTaken_spec {m : Nat} (hm : m < 16) (data : Nat) {s : State} (h : ClaimHeard m s) :
    keeper (claimTaken m data s) = some m ∧
      (claimTaken m data s).leaseLeft = getF 0 .KEEPER_LEASE (claimTaken m data s) * 125000 ∧
      getF 0 .KEEPER_LEASE (claimTaken m data s) =
        (if data % 2 ^ 14 = 0 then getF 0 .KEEPER_LEASE s else clampLease (data % 2 ^ 14)) ∧
      (keeper s = none ∨ s.leaseLeft = 0 → StsSet .KEEPER_KEEPER_CHANGED 0 (claimTaken m data s)) := by
  obtain ⟨-, heard⟩ := h
  obtain ⟨owner, -⟩ := keeper_claimChecked m s
  have lease : getF 0 .KEEPER_LEASE (claimLease data (claimChecked m s)) =
      if data % 2 ^ 14 = 0 then getF 0 .KEEPER_LEASE s else clampLease (data % 2 ^ 14) := by
    rw [lease_claimLease, getF_claimChecked rfl (by decide) (by decide)]
  have kept : keeper (claimLease data (claimChecked m s)) = keeper (claimChecked m s) := by
    rw [keeper, isSet, getF_claimLease (by decide), getF_claimLease (by decide)]
    rfl
  unfold claimTaken
  by_cases unowned : keeper s = none ∨ s.leaseLeft = 0
  · rw [if_pos unowned] at owner
    rw [if_neg (by simp [kept, owner])]
    obtain ⟨now, same, left, -, changed⟩ := becomeKeeper_spec hm (claimLease data (claimChecked m s))
    exact ⟨now, by rw [left, same], same.trans lease, fun _ => changed⟩
  · rw [if_neg unowned] at owner heard
    have own : keeper (claimLease data (claimChecked m s)) = some m := kept.trans (owner.trans heard)
    rw [if_pos (by simp [own])]
    exact ⟨own, rfl, lease, fun no => absurd no unowned⟩

/-! ### CLAIM on the chain -/

theorem claimHeard_consumeFrame (m : Nat) (src : Src) (s : State) : ClaimHeard m (consumeFrame src s) ↔ ClaimHeard m s := by
  have same := sameSeal_consumeFrame src s
  obtain ⟨-, left, -⟩ := nominee_of_tenure (tenure_consumeFrame src s)
  rw [ClaimHeard, same.passed, keeper_consumeFrame, left, same.claimBeaten, ClaimHeard]

section
variable {r : Req} {side : Side} {s : State} (src : r.src = .chain side) (acts : s.acting = true)
  (named : r.dest.toNat = chainAddr s) (addressed : chainAddr s ≠ 0) (quiet : Quiet s)

include src acts named addressed quiet

theorem claim_heard (heard : ClaimHeard r.mtag.toNat s) : Completes (.claim r) s fun t =>
    Answered (claimTaken r.mtag.toNat r.data.toNat (consumeFrame r.src s)) t ∧ claimAnswered r side 0 s t := by
  obtain ⟨taken, -⟩ := claimKeeper_cases r.mtag.toNat r.data.toNat (consumeFrame r.src s)
  have kept := (keeperOnly_claimChecked r.mtag.toNat (consumeFrame r.src s)).trans
    (tenureOnly_claimTaken r.mtag.toNat r.data.toNat (consumeFrame r.src s)).keeperOnly
  refine ⟨_, exec_claim src acts named addressed quiet (taken ((claimHeard_consumeFrame _ _ s).mpr heard))
    (kept.quiet (quiet_consumeFrame r.src quiet)), answered_respond _ _ _ _ _ _ _ _, ?_⟩
  exact claim_answers src acts 0 kept ((chainAddr_claimTaken _ _ _).trans (chainAddr_consumeFrame r.src s))

theorem claim_refused (refused : ¬ClaimHeard r.mtag.toNat s) : Completes (.claim r) s fun t =>
    Answered (countRefusal r.mtag.toNat (claimChecked r.mtag.toNat (consumeFrame r.src s))) t ∧ claimAnswered r side 3 s t := by
  obtain ⟨-, bad⟩ := claimKeeper_cases r.mtag.toNat r.data.toNat (consumeFrame r.src s)
  have kept := keeperOnly_claimChecked r.mtag.toNat (consumeFrame r.src s)
  have addr : chainAddr (countRefusal r.mtag.toNat (claimChecked r.mtag.toNat (consumeFrame r.src s))) = chainAddr s := by
    rw [chainAddr, getF_countRefusal r.mtag.isLt rfl (by decide), getF_claimChecked rfl (by decide) (by decide)]
    exact chainAddr_consumeFrame r.src s
  refine ⟨_, exec_claim src acts named addressed quiet (bad (fun h => refused ((claimHeard_consumeFrame _ _ s).mp h)))
    (kept.quiet (quiet_consumeFrame r.src quiet)), answered_respond _ _ _ _ _ _ _ _, ?_⟩
  exact claim_answers src acts 3 (kept.trans (statusOnly_count 0 _ _).keeperOnly) addr

end

/-- The Keeper and its lease after a CLAIM that is not heard, with its count. -/
theorem claimRefused_spec {m : Nat} (hm : m < 16) (s : State) :
    keeper (countRefusal m (claimChecked m s)) = (if keeper s = none ∨ s.leaseLeft = 0 then none else keeper s) ∧
      (countRefusal m (claimChecked m s)).leaseLeft = s.leaseLeft ∧
      getF 0 .KEEPER_LEASE (countRefusal m (claimChecked m s)) = getF 0 .KEEPER_LEASE s ∧
      Counted 0 (.KEEPER_VISIT_REJ m) s (countRefusal m (claimChecked m s)) := by
  obtain ⟨owner, left⟩ := keeper_claimChecked m s
  have off := visitRej_offStatus hm
  have counted : Counted 0 (.KEEPER_VISIT_REJ m) (claimChecked m s) (countRefusal m (claimChecked m s)) :=
    counted_count rfl (Fld.offStatus_spec off 0 _ 0) (Fld.offStatus_spec off 0 _ 0) _
  refine ⟨?_, (leaseLeft_of_statusOnly (statusOnly_count 0 _ _)).trans left, ?_, ?_⟩
  · rw [← owner, keeper, isSet, getF_countRefusal hm rfl (by decide), getF_countRefusal hm rfl (by decide), keeper, isSet]
  · rw [getF_countRefusal hm rfl (by decide), getF_claimChecked rfl (by decide) (by decide)]
  · unfold Counted at counted ⊢
    rw [counted, visitRej_claimChecked hm]

/-- What the check of sealed mode leaves stands after the whole CLAIM. -/
theorem claim_seals {r : Req} {side : Side} {s : State} (src : r.src = .chain side) (acts : s.acting = true)
    (named : r.dest.toNat = chainAddr s) (addressed : chainAddr s ≠ 0) (quiet : Quiet s)
    (sealed_ : getF 0 .KEEPER_SEALED s = 1) : Completes (.claim r) s fun t => r.mtag.toNat ∉ t.nonces ∧
      (¬Passed r.mtag.toNat s → r.mtag.toNat ∈ t.refused ∧ Counted 0 .KEEPER_SEAL_FAIL s t) := by
  have same := sameSeal_consumeFrame r.src s
  obtain ⟨dropped, marked⟩ := nonces_claimChecked (m := r.mtag.toNat) (same.1.trans sealed_)
  have fails : getF 0 .KEEPER_SEAL_FAIL (consumeFrame r.src s) = getF 0 .KEEPER_SEAL_FAIL s :=
    (consumeFrame_keeps r.src s).1 0 _ (away_of_page (by decide) (by decide))
  by_cases heard : ClaimHeard r.mtag.toNat s
  · obtain ⟨t, done, answered, -⟩ := claim_heard src acts named addressed quiet heard
    obtain ⟨-, nonces, -⟩ := answered_leaseLeft answered
    refine ⟨t, done, ?_, fun no => absurd heard.1 no⟩
    rwa [nonces, (tenureOnly_claimTaken _ _ _).nonces.1]
  · obtain ⟨t, done, answered, -⟩ := claim_refused src acts named addressed quiet heard
    obtain ⟨-, nonces, refused⟩ := answered_leaseLeft answered
    obtain ⟨nonces', refused'⟩ := (statusOnly_count 0 (.KEEPER_VISIT_REJ r.mtag.toNat)
      (claimChecked r.mtag.toNat (consumeFrame r.src s))).tenureOnly.nonces
    refine ⟨t, done, ?_, fun no => ?_⟩
    · rw [nonces]
      exact nonces' ▸ dropped
    · obtain ⟨held, counted⟩ := marked (fun p => no ((same.passed _).mp p))
      refine ⟨?_, ?_⟩
      · rw [refused]
        exact refused' ▸ held
      · unfold Counted at counted ⊢
        rw [answered.getF, getF_countRefusal r.mtag.isLt rfl (by decide), counted, fails]

/-! ### Resets -/

theorem resets_of_keeper (lodge : Bool) (s : State) : Completes (.powerOnReset lodge) s (fun t => keeper t = none) ∧
    (s.clk.rstPend = some 2 → Completes .rstAssert s fun t => keeper t = none) ∧
    (s.clk.rstPend = some 1 → 6 ≤ s.clk.boot → Completes .rstAssert s fun t =>
      keeper t = keeper s ∧ t.leaseLeft = s.leaseLeft ∧ t.nominee = s.nominee) := by
  refine ⟨⟨_, rfl, (gone_powerReset (by decide) (pending_lodge lodge s)).1.1⟩, fun due => ?_, fun due ran => ?_⟩
  · obtain ⟨t, done, gone, -⟩ := gone_rstAssert due
    exact ⟨t, done, gone.1⟩
  · obtain ⟨t, done, reset⟩ := coreReset_rstAssert due ran
    exact ⟨t, done, reset.keeper, reset.lease, reset.nominee⟩

/-- Settles O12. -/
theorem claimMakesKeeper : Obligations.ClaimMakesKeeper := by
  refine ⟨fun r side s src acts named addressed quiet => ⟨fun passed valid => ?_, fun bad => ?_,
    claim_seals src acts named addressed quiet⟩, resets_of_keeper⟩
  all_goals
    obtain ⟨-, left, lease⟩ := nominee_of_tenure (tenure_consumeFrame r.src s)
  · have heard : ClaimHeard r.mtag.toNat s := by
      refine ⟨passed, ?_⟩
      split
      case isTrue unowned => exact (valid.resolve_right fun no => no.1 unowned).2
      case isFalse owned => exact (valid.resolve_left fun no => owned no.1).2
    obtain ⟨t, done, answered, sent⟩ := claim_heard src acts named addressed quiet heard
    obtain ⟨owner, time, value, changed⟩ := claimTaken_spec r.mtag.isLt r.data.toNat
      ((claimHeard_consumeFrame _ r.src s).mpr heard)
    have lease_t := (answered.getF 0 .KEEPER_LEASE).trans (value.trans (by rw [lease]))
    refine ⟨t, done, answered.keeper.trans owner, lease_t, ?_, sent, fun unowned => ?_⟩
    · rw [(answered_leaseLeft answered).1, time, ← answered.getF 0 .KEEPER_LEASE, lease_t]
    · unfold StsSet at changed ⊢
      rw [answered.getF]
      exact changed (by rwa [keeper_consumeFrame, left])
  · have refused : ¬ClaimHeard r.mtag.toNat s := by
      rintro ⟨passed, heard⟩
      split at heard
      case isTrue unowned =>
        rcases bad with no | ⟨no, -⟩ | ⟨-, beaten⟩
        · exact no passed
        · exact no unowned
        · exact Bool.false_ne_true (heard.symm.trans beaten)
      case isFalse owned =>
        rcases bad with no | ⟨-, no⟩ | ⟨no, -⟩
        · exact no passed
        · exact no heard
        · exact owned no
    obtain ⟨t, done, answered, sent⟩ := claim_refused src acts named addressed quiet refused
    obtain ⟨owner, time, value, counted⟩ := claimRefused_spec r.mtag.isLt (consumeFrame r.src s)
    rw [keeper_consumeFrame, left] at owner
    have visits : getF 0 (.KEEPER_VISIT_REJ r.mtag.toNat) (consumeFrame r.src s) =
        getF 0 (.KEEPER_VISIT_REJ r.mtag.toNat) s := visitRej_consumeFrame r.mtag.isLt r.src s
    refine ⟨t, done, fun owned => answered.keeper.trans (owner.trans (if_neg owned)), fun unowned =>
      answered.keeper.trans (owner.trans (if_pos unowned)), (answered_leaseLeft answered).1.trans (time.trans left),
      (answered.getF 0 _).trans (value.trans lease), sent, ?_⟩
    unfold Counted at counted ⊢
    rw [answered.getF, counted, visits]

end Sys2Proof.Machine
end

section
/-! SUPPORT. Entries of the post rings: words written and read (R58, R59). -/

namespace Sys2Proof.Machine

/-! ### Words beside a word written -/

theorem readWord_congr {m k : Memory} {a : Nat} (h : ∀ i < 4, readByte m (a + i) = readByte k (a + i)) :
    readWord m a = readWord k a :=
  congrArg beNat (List.map_congr_left fun i hi => h i (List.mem_range.mp hi))

/-! ### Words of an entry in a row -/

/-- Words of a ring entry written in a row, from word `k` on. -/
def putWords (ring pos k n : Nat) (word : Nat → Nat) (s : State) : State :=
  forAll (List.range n) (fun i => setEntryWord ring pos (k + i) (word i)) s

theorem putWords_succ (ring pos k n : Nat) (word : Nat → Nat) (s : State) :
    putWords ring pos k (n + 1) word s = setEntryWord ring pos (k + n) (word n) (putWords ring pos k n word s) := by
  simp only [putWords, forAll, List.range_succ, List.foldl_append, List.foldl_cons, List.foldl_nil]

/-- From `s` to `t` nothing has changed but post-office memory. -/
def PostOnly (s t : State) : Prop := ∃ P, t = { s with post := P }

theorem PostOnly.trans {s t u : State} (h : PostOnly s t) (k : PostOnly t u) : PostOnly s u := by
  obtain ⟨P, rfl⟩ := h
  obtain ⟨Q, rfl⟩ := k
  exact ⟨Q, rfl⟩

theorem PostOnly.getF {s t : State} (h : PostOnly s t) (u : Nat) (g : Fld) : getF u g t = getF u g s := by
  obtain ⟨P, rfl⟩ := h
  rfl

theorem PostOnly.quiet {s t : State} (h : PostOnly s t) (k : Quiet s) : Quiet t := by
  obtain ⟨P, rfl⟩ := h
  exact k

theorem postOnly_setEntryWord (ring pos w v : Nat) (s : State) : PostOnly s (setEntryWord ring pos w v s) := ⟨_, rfl⟩

theorem postOnly_putWords (ring pos k n : Nat) (word : Nat → Nat) (s : State) : PostOnly s (putWords ring pos k n word s) := by
  induction n with
  | zero => exact ⟨s.post, rfl⟩
  | succ n ih =>
    rw [putWords_succ]
    exact ih.trans (postOnly_setEntryWord _ _ _ _ _)

/-- Between `s` and `t` post-office memory has changed at most from `a` to before `b`. -/
def PostWithin (a b : Nat) (s t : State) : Prop := ∀ x, x < a ∨ b ≤ x → readByte t.post x = readByte s.post x

theorem PostWithin.trans {a b : Nat} {s t u : State} (h : PostWithin a b s t) (k : PostWithin a b t u) : PostWithin a b s u :=
  fun x hx => (k x hx).trans (h x hx)

theorem PostWithin.mono {a b a' b' : Nat} {s t : State} (h : PostWithin a b s t) (ha : a' ≤ a) (hb : b ≤ b') :
    PostWithin a' b' s t := fun x hx => h x (by omega)

/-- A word of an entry outside of what has changed. -/
theorem PostWithin.entryWord {a b : Nat} {s t : State} (h : PostWithin a b s t) {ring pos w : Nat}
    (apart : entryAt ring pos + 4 * w + 4 ≤ a ∨ b ≤ entryAt ring pos + 4 * w) : entryWord ring pos w t = entryWord ring pos w s :=
  readWord_congr fun i hi => h _ (by omega)

theorem within_setEntryWord (ring pos w v : Nat) (s : State) :
    PostWithin (entryAt ring pos + 4 * w) (entryAt ring pos + 4 * w + 4) s (setEntryWord ring pos w v s) :=
  fun _ hx => readByte_writeWord_other s.post v hx

theorem entryWord_setEntryWord (ring pos w : Nat) {v : Nat} (hv : v < 2 ^ 32) (s : State) :
    entryWord ring pos w (setEntryWord ring pos w v s) = v :=
  readWord_writeWord_same s.post _ hv

theorem within_putWords (ring pos k n : Nat) (word : Nat → Nat) (s : State) :
    PostWithin (entryAt ring pos + 4 * k) (entryAt ring pos + 4 * (k + n)) s (putWords ring pos k n word s) := by
  induction n with
  | zero => exact fun _ _ => rfl
  | succ n ih =>
    rw [putWords_succ]
    exact (ih.mono le_rfl (by omega)).trans ((within_setEntryWord _ _ _ _ _).mono (by omega) (by omega))

/-- Each word written is read back. -/
theorem entryWord_putWords (ring pos k : Nat) {n i : Nat} {word : Nat → Nat} (hi : i < n) (hv : word i < 2 ^ 32) (s : State) :
    entryWord ring pos (k + i) (putWords ring pos k n word s) = word i := by
  induction n with
  | zero => omega
  | succ n ih =>
    rw [putWords_succ]
    by_cases last : i = n
    · subst last
      exact entryWord_setEntryWord _ _ _ hv _
    · rw [(within_setEntryWord ring pos (k + n) (word n) _).entryWord (by omega)]
      exact ih (by omega)

/-! ### The state of a command entry -/

/-- An entry lies in its ring. -/
theorem entryAt_in_ring (ring pos : Nat) : ring * 4096 ≤ entryAt ring pos ∧ entryAt ring pos + 64 ≤ (ring + 1) * 4096 := by
  unfold entryAt
  omega

theorem postOnly_setCmdState (m pos st : Nat) (s : State) : PostOnly s (setCmdState m pos st s) := ⟨_, rfl⟩

theorem within_setCmdState (m pos st : Nat) (s : State) :
    PostWithin (entryAt (2 * m) pos) (entryAt (2 * m) pos + 4) s (setCmdState m pos st s) := by
  unfold setCmdState
  exact (within_setEntryWord (2 * m) pos 0 _ s).mono (by omega) (by omega)

/-- The word of a command entry whose state is set. -/
theorem entryWord_setCmdState (m pos : Nat) {st : Nat} (h : st < 16) (s : State) :
    entryWord (2 * m) pos 0 (setCmdState m pos st s) = st * 2 ^ 28 + entryWord (2 * m) pos 0 s % 2 ^ 28 := by
  unfold setCmdState
  exact entryWord_setEntryWord (2 * m) pos 0 (by omega) s

theorem cmdState_setCmdState (m pos : Nat) {st : Nat} (h : st < 16) (s : State) : cmdState m pos (setCmdState m pos st s) = st := by
  rw [cmdState, entryWord_setCmdState m pos h]
  omega

/-! ### The entry of an event -/

/-- The words of an event entry (R59). -/
def eventWords (kind cmd cookie oc : Nat) (results ledger : List Nat) : List Nat :=
  [kind * 2 ^ 28 + cmd % 2 ^ 16, cookie, oc] ++ (results ++ List.replicate 9 0).take 9 ++ (ledger ++ List.replicate 4 0).take 4

/-- The ring's memory with an event entry in it. -/
def eventPut (m kind cmd cookie oc : Nat) (results ledger : List Nat) (s : State) : State :=
  putWords (2 * m + 1) (getF 0 (.POST_EVT_PUT m) s) 0 16 (fun w => (eventWords kind cmd cookie oc results ledger).getD w 0) s

theorem postEvent_eq (m kind cmd cookie oc : Nat) (results ledger : List Nat) (s : State) :
    postEvent m kind cmd cookie oc results ledger s =
      setF 0 (.POST_EVT_PUT m) (getF 0 (.POST_EVT_PUT m) s + 1) (eventPut m kind cmd cookie oc results ledger s) := by
  simp only [eventPut, putWords, Nat.zero_add]
  rfl

theorem eventWords_getD (kind cmd cookie oc : Nat) (results ledger : List Nat) :
    (eventWords kind cmd cookie oc results ledger).getD 0 0 = kind * 2 ^ 28 + cmd % 2 ^ 16 ∧
      (eventWords kind cmd cookie oc results ledger).getD 2 0 = oc := by
  simp [eventWords]

/-- The memory of a posted event: its words 0 and 2, and the event ring alone has changed. -/
theorem eventPut_spec (m cmd cookie : Nat) {kind oc : Nat} (hk : kind < 16) (ho : oc < 2 ^ 32) (results ledger : List Nat)
    (s : State) :
    entryWord (2 * m + 1) (getF 0 (.POST_EVT_PUT m) s) 0 (eventPut m kind cmd cookie oc results ledger s) =
        kind * 2 ^ 28 + cmd % 2 ^ 16 ∧
      entryWord (2 * m + 1) (getF 0 (.POST_EVT_PUT m) s) 2 (eventPut m kind cmd cookie oc results ledger s) = oc ∧
      PostWithin ((2 * m + 1) * 4096) ((2 * m + 2) * 4096) s (eventPut m kind cmd cookie oc results ledger s) := by
  obtain ⟨first, third⟩ := eventWords_getD kind cmd cookie oc results ledger
  unfold eventPut
  generalize eventWords kind cmd cookie oc results ledger = words at first third
  generalize getF 0 (.POST_EVT_PUT m) s = put
  obtain ⟨low, high⟩ := entryAt_in_ring (2 * m + 1) put
  have read : ∀ i < 16, words.getD i 0 < 2 ^ 32 →
      entryWord (2 * m + 1) put i (putWords (2 * m + 1) put 0 16 (fun w => words.getD w 0) s) = words.getD i 0 :=
    fun i hi hv => by
      have same := entryWord_putWords (2 * m + 1) put 0 (word := fun w => words.getD w 0) hi hv s
      rwa [Nat.zero_add] at same
  refine ⟨?_, ?_, (within_putWords (2 * m + 1) put 0 16 _ s).mono (by omega) (by omega)⟩
  · rw [read 0 (by omega) (by omega), first]
  · rw [read 2 (by omega) (by omega), third]

theorem entryWord_setF (ring pos w u : Nat) (f : Fld) (v : Nat) (s : State) :
    entryWord ring pos w (setF u f v s) = entryWord ring pos w s := rfl

theorem PostWithin.setF {a b : Nat} {s t : State} (h : PostWithin a b s t) (u : Nat) (f : Fld) (v : Nat) :
    PostWithin a b s (setF u f v t) := h

/-- An event posted: its words 0 and 2, EVT_PUT, and the memory of the event ring alone. -/
theorem postEvent_spec (m cmd cookie : Nat) {kind oc : Nat} (hk : kind < 16) (ho : oc < 2 ^ 32) (results ledger : List Nat)
    (s : State) :
    getF 0 (.POST_EVT_PUT m) (postEvent m kind cmd cookie oc results ledger s) = (getF 0 (.POST_EVT_PUT m) s + 1) % 128 ∧
      entryWord (2 * m + 1) (getF 0 (.POST_EVT_PUT m) s) 0 (postEvent m kind cmd cookie oc results ledger s) =
        kind * 2 ^ 28 + cmd % 2 ^ 16 ∧
      entryWord (2 * m + 1) (getF 0 (.POST_EVT_PUT m) s) 2 (postEvent m kind cmd cookie oc results ledger s) = oc ∧
      PostWithin ((2 * m + 1) * 4096) ((2 * m + 2) * 4096) s (postEvent m kind cmd cookie oc results ledger s) := by
  obtain ⟨first, third, within⟩ := eventPut_spec m cmd cookie hk ho results ledger s
  rw [postEvent_eq, entryWord_setF, entryWord_setF]
  exact ⟨getF_setF_same 0 (.POST_EVT_PUT m) _ _, first, third, within.setF 0 _ _⟩

theorem getF_postFor {u : Nat} {g : Fld} {m : Nat} (h : g.key u ≠ (Fld.POST_EVT_PUT m).key 0) (pos kind oc : Nat)
    (results ledger : List Nat) (s : State) : getF u g (postFor m pos kind oc results ledger s) = getF u g s := by
  rw [postFor, postEvent_eq, getF_setF_other _ _ h]
  exact (postOnly_putWords _ _ _ _ _ s).getF u g

theorem quiet_postFor (m pos kind oc : Nat) (results ledger : List Nat) {s : State} (h : Quiet s) :
    Quiet (postFor m pos kind oc results ledger s) := by
  rw [postFor, postEvent_eq]
  exact quiet_of_statusOnly (statusOnly_setF 0 _ _ _) ((postOnly_putWords _ _ _ _ _ s).quiet h)

/-! ### The LEDGER of a command entry -/

theorem setLedger_eq (m pos : Nat) (ledger : List Nat) (s : State) :
    setLedger m pos ledger s = putWords (2 * m) pos 12 4 (fun i => ledger.getD i 0) s := rfl

theorem within_setLedger (m pos : Nat) (ledger : List Nat) (s : State) :
    PostWithin (entryAt (2 * m) pos + 48) (entryAt (2 * m) pos + 64) s (setLedger m pos ledger s) :=
  within_putWords (2 * m) pos 12 4 _ s

theorem ledgerOf_setLedger (m pos : Nat) {ledger : List Nat} (len : ledger.length = 4) (small : ∀ v ∈ ledger, v < 2 ^ 32)
    (s : State) : ledgerOf m pos (setLedger m pos ledger s) = ledger := by
  refine List.ext_getElem (by simp [ledgerOf, len]) fun i hi hl => ?_
  have value : ledger.getD i 0 = ledger[i] := List.getD_eq_getElem ledger 0 hl
  simp only [ledgerOf, List.getElem_map, List.getElem_range]
  rw [setLedger_eq, entryWord_putWords (2 * m) pos 12 (len ▸ hl) (value ▸ small _ (List.getElem_mem hl)), value]

end Sys2Proof.Machine
end

section
/-! SUPPORT. Post commands: pointers written, commands taken, rejected and completed (R52, R59, R60, R63). -/

namespace Sys2Proof.Machine

/-! ### A master's own pointers (R52, R60) -/

/-- The fields of the post rings that a master writes. -/
def ringPointers (m : Fin 16) : List Fld := [.POST_CMD_PUT m, .POST_EVT_GET m]

/-- A pointer stands alone in its word, whatever the word holds is stored, and it is its master's own. -/
theorem ringPointers_spec : ∀ m : Fin 16, ∀ f ∈ ringPointers m,
    f.blk = .POST ∧ f.ty = .lrw ∧ fldsAt .POST f.off = [f] ∧ winShape .POST f.off = none ∧ actsAlways f = false ∧
      gateFixed f = false ∧ 0x020 ≤ f.off ∧ (f.off - 0x020) / 16 = m.val := by
  decide +kernel

theorem afterWrite_pointer {m : Nat} {f : Fld} (blk : f.blk = .POST) (off : 0x020 ≤ f.off) (v : Nat) (s : State) :
    afterWrite m 0 f v s = reportInterrupted s := by
  unfold afterWrite
  rw [if_neg (by omega), if_neg (by omega), blk]

theorem judgeF_pointer {m v : Nat} {f : Fld} {s : State} (blk : f.blk = .POST) (ty : f.ty = .lrw) (always : actsAlways f = false)
    (gate : gateFixed f = false) (off : 0x020 ≤ f.off) (new : presentF m 0 f s ≠ v) : judgeF m 0 f v s = .store := by
  have en : f.off ≠ 0x000 := by omega
  simp [judgeF, always, gate, ty, blk, en, new.symm]

theorem storeF_pointer {m v : Nat} {f : Fld} {s : State} (blk : f.blk = .POST) (ty : f.ty = .lrw) (always : actsAlways f = false)
    (off : 0x020 ≤ f.off) : storeF m 0 f v s = setF 0 f v s := by
  have en : f.off ≠ 0x000 := by omega
  simp [storeF, storedValue, always, ty, blk, en]

/-- A changing write of a pointer stores it; firmware then reports what was interrupted, as far as there is room. -/
theorem writeReg_pointer {m : Nat} {v data : Nat} {k : Fin 16} {f : Fld} (hf : f ∈ ringPointers k) {x : Ext} {s : State}
    (h : Changes m 0 f v data s) :
    writeReg m f.blk 0 f.off data x s = (0, reportInterrupted (setF 0 f v s)) := by
  obtain ⟨blk, ty, flds, window, always, gate, off, -⟩ := ringPointers_spec k f hf
  obtain ⟨bits, new, -⟩ := h
  have word : judgeWord m .POST 0 f.off data s = (fldsAt .POST f.off).map fun g =>
      (g, bitsOf data g.lo g.width, if g = f then .store else .keep) := by
    rw [judgeWord, flds, List.map_singleton, List.map_singleton, if_pos rfl, bits, judgeF_pointer blk ty always gate off new]
  rw [blk, writeReg_store (f := f) (by omega) window (by simp [flds]) word, bits, storeF_pointer blk ty always off,
    afterWrite_pointer blk off]

/-- A write that may be made to a pointer is its master's own. -/
theorem mtag_of_pointer {w : Acc} {k : Fin 16} {f : Fld} (hf : f ∈ ringPointers k) {s : State} (h : Writes w f.blk 0 f.off s) :
    w.mtag.toNat = k := by
  obtain ⟨blk, -, -, -, -, -, off, own⟩ := ringPointers_spec k f hf
  obtain ⟨-, -, -, place, early⟩ := h
  rw [blk] at place early
  have place' : target (reqOf w (blkBase .POST 0 + f.off)).addr.toNat = .reg .POST 0 f.off := by
    simpa [reqOf, target_mod] using place
  have may : mayWrite (reqOf w (blkBase .POST 0 + f.off)).mtag.toNat (reqOf w (blkBase .POST 0 + f.off)).addr.toNat
      (consumeFrame w.src s) = true := by
    unfold earlyCode at early
    by_contra no
    rw [Bool.not_eq_true] at no
    simp [opWrite, opClaim, no] at early
  rw [mayWrite, place'] at may
  dsimp only at may
  rw [if_pos off] at may
  exact (beq_iff_eq.mp may).symm.trans own

/-- Reports of interrupted commands move EVT_PUT alone. -/
theorem getF_reportInterrupted {u : Nat} {g : Fld} (h : ∀ m, g.key u ≠ (Fld.POST_EVT_PUT m).key 0) (s : State) :
    getF u g (reportInterrupted s) = getF u g s := by
  unfold reportInterrupted
  split
  · rfl
  · refine getF_forAll _ s fun e _ t => ?_
    split
    · rfl
    · exact getF_postFor (h e.1) _ _ _ _ _ _

theorem quiet_reportInterrupted {s : State} (h : Quiet s) : Quiet (reportInterrupted s) := by
  unfold reportInterrupted
  split
  · exact h
  · refine quiet_forAll _ (fun e _ t ht => ?_) h
    split
    · exact ht
    · have noted : Quiet { t with interrupted := t.interrupted.filter (· != e) } := ht
      exact quiet_postFor _ _ _ _ _ _ noted

/-- A pointer's place is not that of any EVT_PUT. -/
theorem pointer_key_ne {k : Fin 16} {f : Fld} (hf : f ∈ ringPointers k) (m : Nat) : f.key 0 ≠ (Fld.POST_EVT_PUT m).key 0 := by
  simp only [ringPointers, List.mem_cons, List.not_mem_nil, or_false] at hf
  rcases hf with rfl | rfl <;> simp only [Fld.key, Fld.addr, Fld.POST_CMD_PUT, Fld.POST_EVT_GET, Fld.POST_EVT_PUT] <;> omega

theorem pointer_width {k : Fin 16} {f : Fld} (hf : f ∈ ringPointers k) : f.width = 7 := by
  simp only [ringPointers, List.mem_cons, List.not_mem_nil, or_false] at hf
  rcases hf with rfl | rfl <;> rfl

/-- A master's write that changes a pointer of its own. -/
theorem pointer_written {w : Acc} {k : Fin 16} {f : Fld} (hf : f ∈ ringPointers k) {v : Nat} {s : State} (h : Sets w 0 f v s) :
    w.mtag.toNat = k ∧ getF 0 f (regWrite w (regAt f.blk 0 f.off) s) = v := by
  obtain ⟨writes, changes⟩ := h
  have small : v < 2 ^ f.width := by
    obtain ⟨rfl, -⟩ := changes
    exact Nat.mod_lt _ (Nat.two_pow_pos _)
  have quiet := quiet_reportInterrupted (quiet_of_statusOnly (statusOnly_setF 0 f v _) writes.quiet)
  have answered := regAccess_answered writes (writeReg_pointer hf (x := extOf s) changes) quiet
  refine ⟨mtag_of_pointer hf writes, (answered.getF 0 f).trans ?_⟩
  rw [getF_reportInterrupted (pointer_key_ne hf), getF_setF_same, Nat.mod_eq_of_lt small]

theorem exec_cmdPut (m : Fin 16) (w : Acc) (s : State) :
    exec (.cmdPut m w) s = .next (regWrite w (regAt .POST 0 (0x020 + 16 * m.val)) s) := rfl

theorem exec_evtGet (m : Fin 16) (w : Acc) (s : State) :
    exec (.evtGet m w) s = .next (regWrite w (regAt .POST 0 (0x02C + 16 * m.val)) s) := rfl

/-! ### Commands taken and rejected (R60) -/

theorem ringKeys (m : Nat) : (Fld.POST_EVT_PUT m).key 0 ≠ (Fld.POST_CMD_GET m).key 0 := by
  simp only [Fld.key, Fld.addr, Fld.POST_EVT_PUT, Fld.POST_CMD_GET]
  omega

theorem cmdState_of_within {a b m pos : Nat} {s t : State} (h : PostWithin a b s t)
    (apart : entryAt (2 * m) pos + 4 ≤ a ∨ b ≤ entryAt (2 * m) pos) : cmdState m pos t = cmdState m pos s := by
  rw [cmdState, h.entryWord (by omega), cmdState]

/-- The completion of a command entry: EVT_PUT, words 0 and 2 of the event, the entry's state kept, other rings kept. -/
theorem postFor_spec (m pos : Nat) {oc : Nat} (ho : oc < 2 ^ 32) (results ledger : List Nat) (s : State) :
    getF 0 (.POST_EVT_PUT m) (postFor m pos 1 oc results ledger s) = (getF 0 (.POST_EVT_PUT m) s + 1) % 128 ∧
      entryWord (2 * m + 1) (getF 0 (.POST_EVT_PUT m) s) 0 (postFor m pos 1 oc results ledger s) =
        2 ^ 28 + entryWord (2 * m) pos 0 s % 2 ^ 16 ∧
      entryWord (2 * m + 1) (getF 0 (.POST_EVT_PUT m) s) 2 (postFor m pos 1 oc results ledger s) = oc ∧
      cmdState m pos (postFor m pos 1 oc results ledger s) = cmdState m pos s ∧
      PostWithin ((2 * m + 1) * 4096) ((2 * m + 2) * 4096) s (postFor m pos 1 oc results ledger s) := by
  obtain ⟨put, first, third, within⟩ := postEvent_spec m (entryWord (2 * m) pos 0 s) (entryWord (2 * m) pos 1 s)
    (kind := 1) (by omega) ho results ledger s
  obtain ⟨-, high⟩ := entryAt_in_ring (2 * m) pos
  rw [Nat.one_mul] at first
  exact ⟨put, first, third, cmdState_of_within within (.inl (by omega)), within⟩

theorem command_is_taken {m : Nat} {s : State} (fw : s.loader.fwRunning = true)
    (more : getF 0 (.POST_CMD_GET m) s ≠ getF 0 (.POST_CMD_PUT m) s) (room : (cmdsIn m 2 s).length < evtFree m s) :
    takeCommand m s =
      if cmdState m (getF 0 (.POST_CMD_GET m) s % 64) s = 1 then
        setCmdState m (getF 0 (.POST_CMD_GET m) s % 64) 2 (setF 0 (.POST_CMD_GET m) (getF 0 (.POST_CMD_GET m) s + 1) s)
      else postFor m (getF 0 (.POST_CMD_GET m) s % 64) 1 ocRejected [] []
        (setCmdState m (getF 0 (.POST_CMD_GET m) s % 64) 3 (setF 0 (.POST_CMD_GET m) (getF 0 (.POST_CMD_GET m) s + 1) s)) := by
  unfold takeCommand
  dsimp only
  rw [if_neg (by simp [fw, more, room])]

theorem exec_commandTake (m : Fin 16) {s : State} (core : coreRuns s = true) :
    exec (.commandTake m) s = .next (takeCommand m s) := congrArg Host.Outcome.next (if_pos core)

/-- A POSTED entry is taken as EXECUTING. -/
theorem posted_taken {m : Nat} {s t : State} {pos : Nat}
    (ht : t = setCmdState m pos 2 (setF 0 (.POST_CMD_GET m) (getF 0 (.POST_CMD_GET m) s + 1) s)) :
    getF 0 (.POST_CMD_GET m) t = (getF 0 (.POST_CMD_GET m) s + 1) % 128 ∧ cmdState m pos t = 2 ∧
      ∀ a, (a < entryAt (2 * m) pos ∨ entryAt (2 * m) pos + 4 ≤ a) → readByte t.post a = readByte s.post a := by
  subst ht
  refine ⟨?_, cmdState_setCmdState m pos (by omega) _, within_setCmdState m pos 2 _⟩
  rw [(postOnly_setCmdState m pos 2 _).getF]
  exact getF_setF_same 0 (.POST_CMD_GET m) _ s

/-- Any other entry is rejected unexecuted. -/
theorem unposted_rejected {m : Nat} {s t : State} {pos : Nat}
    (ht : t = postFor m pos 1 ocRejected [] [] (setCmdState m pos 3 (setF 0 (.POST_CMD_GET m) (getF 0 (.POST_CMD_GET m) s + 1) s))) :
    getF 0 (.POST_CMD_GET m) t = (getF 0 (.POST_CMD_GET m) s + 1) % 128 ∧ cmdState m pos t = 3 ∧
      getF 0 (.POST_EVT_PUT m) t = (getF 0 (.POST_EVT_PUT m) s + 1) % 128 ∧
      entryWord (2 * m + 1) (getF 0 (.POST_EVT_PUT m) s) 2 t = ocRejected := by
  have advanced := getF_setF_same 0 (.POST_CMD_GET m) (getF 0 (.POST_CMD_GET m) s + 1) s
  have same := getF_setF_other (getF 0 (.POST_CMD_GET m) s + 1) s (ringKeys m)
  generalize setF 0 (.POST_CMD_GET m) (getF 0 (.POST_CMD_GET m) s + 1) s = u at ht advanced same
  have marked := (postOnly_setCmdState m pos 3 u).getF 0
  have done := cmdState_setCmdState m pos (st := 3) (by omega) u
  obtain ⟨put, -, outcome, state, -⟩ := postFor_spec m pos (oc := ocRejected) (by decide) [] [] (setCmdState m pos 3 u)
  rw [marked, same] at put outcome
  subst ht
  refine ⟨?_, state.trans done, put, outcome⟩
  rw [getF_postFor (ringKeys m).symm, marked]
  exact advanced

/-! ### Commands completed (R59, R60, R63) -/

/-- The LEDGER that firmware writes. -/
def ledgerWords (results : List Nat) : List Nat := ((results ++ List.replicate 13 0).drop 9).take 4

theorem ledgerWords_spec (results : List Word) :
    (ledgerWords (results.map BitVec.toNat)).length = 4 ∧ ∀ v ∈ ledgerWords (results.map BitVec.toNat), v < 2 ^ 32 := by
  refine ⟨by simp [ledgerWords], fun v hv => ?_⟩
  have mem := List.mem_of_mem_drop (List.mem_of_mem_take hv)
  rcases List.mem_append.mp mem with result | zero
  · obtain ⟨w, -, rfl⟩ := List.mem_map.mp result
    exact w.isLt
  · rw [List.eq_of_mem_replicate zero]
    omega

theorem completeCommand_none {m pos : Nat} {changes : Bool} {results : List Nat} {s : State} (fw : s.loader.fwRunning = true)
    (executing : cmdState m pos s = 2) :
    completeCommand m pos none changes results s = setLedger m pos (ledgerWords results) s := by
  unfold completeCommand
  rw [if_neg (by simp [fw, executing])]
  rfl

theorem completeCommand_some {m pos oc : Nat} {changes : Bool} {results : List Nat} {s : State} (fw : s.loader.fwRunning = true)
    (executing : cmdState m pos s = 2) (room : evtFree m s ≠ 0) :
    completeCommand m pos (some oc) changes results s =
      postFor m pos 1 (if changes = true ∧ isKeeper m s = false then ocRejected else oc) (results.take 9) (ledgerWords results)
        (setCmdState m pos 3 (setLedger m pos (ledgerWords results) s)) := by
  unfold completeCommand
  rw [if_neg (by simp [fw, executing])]
  dsimp only
  rw [if_neg room]
  simp only [Bool.and_eq_true, Bool.not_eq_true']
  rfl

theorem exec_commandComplete (m : Fin 16) (pos : Fin 64) (oc : Option (BitVec 4)) (changes : Bool) (results : List Word)
    {s : State} (core : coreRuns s = true) :
    exec (.commandComplete m pos oc changes results) s =
      .next (completeCommand m pos (oc.map (·.toNat)) changes (results.map (·.toNat)) s) :=
  congrArg Host.Outcome.next (if_pos core)

/-- A step of an executing command writes its LEDGER alone. -/
theorem ledger_written (m pos : Nat) (results : List Word) {s t : State}
    (ht : t = setLedger m pos (ledgerWords (results.map BitVec.toNat)) s) :
    ledgerOf m pos t = ledgerWords (results.map BitVec.toNat) ∧ cmdState m pos t = cmdState m pos s ∧
      getF 0 (.POST_EVT_PUT m) t = getF 0 (.POST_EVT_PUT m) s ∧ OnlyFields [] { s with post := t.post } t := by
  obtain ⟨len, small⟩ := ledgerWords_spec results
  generalize ledgerWords (results.map BitVec.toNat) = ledger at ht len small
  have within := within_setLedger m pos ledger s
  have read := ledgerOf_setLedger m pos len small s
  have only : PostOnly s (setLedger m pos ledger s) := postOnly_putWords _ _ _ _ _ s
  rw [← ht] at within read only
  refine ⟨read, cmdState_of_within within (by omega), only.getF 0 _, ?_⟩
  obtain ⟨P, rfl⟩ := only
  exact ⟨fun _ _ _ => rfl, rfl⟩

/-- An entry of a command ring lies in its master's two rings. -/
theorem entryAt_in_rings (ring pos : Nat) : ring * 4096 ≤ entryAt ring pos ∧ entryAt ring pos + 64 ≤ (ring + 2) * 4096 ∧
    ring * 4096 ≤ (ring + 1) * 4096 := by
  obtain ⟨low, high⟩ := entryAt_in_ring ring pos
  omega

/-- A command that ends: state DONE, its completion entry, and no memory but the entry and the event ring. -/
theorem completion_posted {m pos oc : Nat} (ho : oc < 2 ^ 32) (results ledger : List Nat) {s t : State}
    (ht : t = postFor m pos 1 oc results ledger (setCmdState m pos 3 (setLedger m pos ledger s))) :
    cmdState m pos t = 3 ∧ getF 0 (.POST_EVT_PUT m) t = (getF 0 (.POST_EVT_PUT m) s + 1) % 128 ∧
      entryWord (2 * m + 1) (getF 0 (.POST_EVT_PUT m) s) 0 t = 2 ^ 28 + entryWord (2 * m) pos 0 s % 2 ^ 16 ∧
      entryWord (2 * m + 1) (getF 0 (.POST_EVT_PUT m) s) 2 t = oc ∧
      ∀ bottom top, bottom ≤ entryAt (2 * m) pos → entryAt (2 * m) pos + 64 ≤ top → bottom ≤ (2 * m + 1) * 4096 →
        (2 * m + 2) * 4096 ≤ top → PostWithin bottom top s t := by
  have noted := within_setLedger m pos ledger s
  have only : PostOnly s (setLedger m pos ledger s) := postOnly_putWords _ _ _ _ _ s
  generalize setLedger m pos ledger s = u at ht noted only
  have word := entryWord_setCmdState m pos (st := 3) (by omega) u
  have done := cmdState_setCmdState m pos (st := 3) (by omega) u
  have marked := within_setCmdState m pos 3 u
  have whole := (only.trans (postOnly_setCmdState m pos 3 u)).getF 0
  obtain ⟨put, first, third, state, within⟩ := postFor_spec m pos ho results ledger (setCmdState m pos 3 u)
  rw [noted.entryWord (by omega)] at word
  rw [whole] at put first third
  subst ht
  refine ⟨state.trans done, put, first.trans ?_, third, ?_⟩
  · rw [word]
    omega
  · intro bottom top low high next last
    have ledger_in : PostWithin bottom top s u := noted.mono (by omega) high
    exact (ledger_in.trans (marked.mono low (by omega))).trans (within.mono next last)

/-- What lies outside of two rings that follow each other. -/
theorem outside_rings {ring a : Nat} (h : ∀ k ∈ [ring, ring + 1], a < k * 4096 ∨ (k + 1) * 4096 ≤ a) :
    a < ring * 4096 ∨ (ring + 2) * 4096 ≤ a := by
  have events := h (ring + 1) (by simp)
  exact (h ring (by simp)).imp_right fun above => events.resolve_left (Nat.not_lt.mpr above)

/-- Settles O23. -/
theorem postCommandsAreTakenAndCompleted : Obligations.PostCommandsAreTakenAndCompleted := by
  refine ⟨fun m w v s => ⟨fun sets => ⟨_, exec_cmdPut m w s, pointer_written (k := m) (by simp [ringPointers]) sets⟩,
    fun sets => ⟨_, exec_evtGet m w s, pointer_written (k := m) (by simp [ringPointers]) sets⟩,
    fun core fw more room => ?_⟩, fun m pos oc changes results s core fw executing => ⟨?_, fun room => ?_⟩⟩
  · have taken := command_is_taken fw more room
    refine ⟨fun posted => ⟨_, exec_commandTake m core, posted_taken (taken.trans (if_pos posted))⟩,
      fun other => ⟨_, exec_commandTake m core, unposted_rejected (taken.trans (if_neg other))⟩⟩
  · obtain ⟨ledger, state, put, only⟩ := ledger_written m.val pos.val results
      (completeCommand_none (changes := changes) (results := results.map BitVec.toNat) fw executing)
    exact ⟨_, exec_commandComplete m pos none changes results core, ledger, state.trans executing, put, only⟩
  · have small : (if changes = true ∧ isKeeper m s = false then ocRejected else oc.toNat) < 2 ^ 32 := by
      have bits := oc.isLt
      split
      · decide
      · omega
    obtain ⟨state, put, first, third, within⟩ := completion_posted small ((results.map BitVec.toNat).take 9)
      (ledgerWords (results.map BitVec.toNat)) (completeCommand_some (oc := oc.toNat) fw executing room)
    obtain ⟨low, high, next⟩ := entryAt_in_rings (2 * m.val) pos
    refine ⟨_, exec_commandComplete m pos (some oc) changes results core, state, put, first, third, fun a outside =>
      within _ _ low high next le_rfl a (outside_rings outside)⟩

end Sys2Proof.Machine
end

section
/-! CERTIFICATES. A step runs the command at the front of the queue (O1); how a write meets a field (O16). -/

namespace Sys2Proof.Machine

/-! ### The step -/

/-- Every command answers a next state: the arms choose between next states, never between answers. -/
theorem exec_next (c : Instr) (s : State) : ∃ t, exec c s = .next t := by
  cases c <;> exact ⟨_, rfl⟩

/-- Settles O1. -/
theorem stepRunsFrontCommand : Obligations.StepRunsFrontCommand :=
  fun c _ s => ⟨step_cons, step_nil, exec_next c s⟩

/-! ### How a write meets a field (R82, R83) -/

/-- The verdict on a value that a field does not have, by the field's type. -/
theorem judgeF_changed {m u v : Nat} {f : Fld} {s : State} (always : actsAlways f = false) (gate : gateFixed f = false)
    (new : v ≠ presentF m u f s) (blk : f.blk ≠ .DEBUG) :
    judgeF m u f v s =
      match f.ty with
      | .rw => if getF u (.lock f.blk) s = 1 then .locked else if enOf f.blk u s = 1 then .enabled else .store
      | .lrw => if f.off = 0 ∧ getF u (.lock f.blk) s = 1 ∧ v = 0 then .locked else .store
      | .wo1 => if getF u f s = f.base then .store else .locked
      | .idx => .store
      | .cmd => if v = 1 then .start else .abort
      | .ro | .st | .snap | .win => .keep := by
  unfold judgeF
  cases f.ty <;> simp [always, gate, new, blk, isSet]

/-- Settles O16: a value that a field has is kept, any other one is judged by the field's type. -/
theorem writeIsJudgedByFieldType : Obligations.WriteIsJudgedByFieldType := by
  refine ⟨fun m u f v s always gate new blk => ?_, fun m u f s always => judgeF_keep always rfl⟩
  have verdict := judgeF_changed always gate new blk
  intro lock
  refine ⟨fun ty locked => ?_, fun ty unlocked enabled => ?_, fun ty unlocked disabled => ?_, fun ty off => ?_,
    fun ty off => ?_, fun ty => ?_, fun ty => ?_, fun ty => ?_⟩
  · rw [verdict, ty]
    exact if_pos locked
  · rw [verdict, ty]
    exact (if_neg unlocked).trans (if_pos enabled)
  · rw [verdict, ty]
    exact (if_neg unlocked).trans (if_neg disabled)
  · rw [verdict, ty]
    exact if_neg fun h => off h.1
  · rw [verdict, ty]
    simp [off, lock]
  · rw [verdict, ty]
  · rcases ty with ty | ty <;> rw [verdict, ty]
  · rw [verdict, ty]

end Sys2Proof.Machine
end

section
/-! SUPPORT. Status words of a block under a status change: bits set stay set, fields of other words keep their value, and a
write that its register takes completes with the answer alone (R84 to R87). -/

namespace Sys2Proof.Machine

/-! ### Fields of one block -/

/-- Two fields of one block that begin at different bits have different keys. -/
theorem key_ne_of_place {f g : Fld} (u : Nat) (hb : g.blk = f.blk) (h : g.off * 32 + g.lo ≠ f.off * 32 + f.lo) :
    g.key u ≠ f.key u := by
  rw [key_eq, key_eq, hb]
  omega

/-! ### Bits of BLK_STS -/

/-- Hardware that sets sticky bits clears none, in its own block or in another. -/
theorem bitOf_sts_setStsBits {c : Blk} {u i : Nat} (hi : i < 24) {s : State} (h : bitOf (getF u (.sts c) s) i = true)
    (b : Blk) (v mask : Nat) : bitOf (getF u (.sts c) (setStsBits b v mask s)) i = true := by
  have seq : (Fld.sts c).key u ≠ (Fld.seq b).key v := by
    simp only [Fld.key, Fld.addr, Fld.sts, Fld.seq]
    omega
  rw [setStsBits, getF_setF_other _ _ seq]
  by_cases same : (Fld.sts c).key u = (Fld.sts b).key v
  · have reads : ∀ t, getF u (.sts c) t = getF v (.sts b) t := fun t => by
      unfold getF
      rw [same]
      rfl
    rw [reads] at h ⊢
    rw [bitOf_eq_testBit] at h
    rw [getF_setF_same, bitOf_eq_testBit, show (Fld.sts b).width = 24 from rfl, Nat.testBit_mod_two_pow, Nat.testBit_or, h]
    simp [hi]
  · rwa [getF_setF_other _ _ same]

theorem bitOf_sts_queueEvent {c : Blk} {u i : Nat} (hi : i < 24) {s : State} (h : bitOf (getF u (.sts c) s) i = true)
    (m : Nat) (b : Blk) (v : Nat) : bitOf (getF u (.sts c) (queueEvent m b v s)) i = true := by
  have once := bitOf_sts_setStsBits hi h .CHAIN 0 32
  unfold queueEvent
  split
  · exact h
  · split
    · exact h
    · dsimp only
      split
      · exact bitOf_sts_setStsBits hi once .CHAIN 0 32
      · exact once

theorem bitOf_sts_irqUpdate {c : Blk} {u i : Nat} (hi : i < 24) {s : State} (h : bitOf (getF u (.sts c) s) i = true)
    (b : Blk) (v : Nat) : bitOf (getF u (.sts c) (irqUpdate b v s)) i = true := by
  unfold irqUpdate
  split
  · split
    · exact h
    · dsimp only
      have raised : ∀ l, bitOf (getF u (.sts c) { s with irqOut := l }) i = true := fun l => by
        rwa [getF_irqOut]
      split
      · exact bitOf_sts_queueEvent hi (raised _) _ b v
      · exact raised _
  · rwa [getF_irqOut]

/-- A sticky bit that hardware has just set. -/
theorem bitOf_sts_set {b : Blk} {u i mask : Nat} (hi : i < 24) (hm : mask.testBit i = true) (s : State) :
    bitOf (getF u (.sts b) (setStsBits b u mask s)) i = true := by
  have seq : (Fld.sts b).key u ≠ (Fld.seq b).key u := key_ne_of_place u rfl (by simp [Fld.sts, Fld.seq])
  rw [setStsBits, getF_setF_other _ _ seq, getF_setF_same, bitOf_eq_testBit, show (Fld.sts b).width = 24 from rfl,
    Nat.testBit_mod_two_pow, Nat.testBit_or, hm]
  simp [hi]

/-! ### Interrupt outputs -/

/-- An interrupt output that follows its level writes BLK_STS of CHAIN at most (R64). -/
theorem getF_irqUpdate_off {u : Nat} {g : Fld} (hl : g.lo < 32) (ho : g.off < 4096) (h4 : g.off ≠ 0x004) (b : Blk) (v : Nat)
    (s : State) : getF u g (irqUpdate b v s) = getF u g s := by
  have word : ∀ f : Fld, f.blk = .CHAIN → f.lo < 32 → f.off = 0x004 → g.key u ≠ f.key 0 := fun f fb fl fo same => by
    have equal := congrArg (· / 32) same
    simp only [key_div u hl, key_div 0 fl, fb, fo, blkBase_eq_page] at equal
    omega
  have sets : ∀ t, getF u g (setStsBits .CHAIN 0 32 t) = getF u g t := fun t => by
    rw [setStsBits, getF_setF_other _ _ (word (.seq .CHAIN) rfl (by decide) rfl),
      getF_setF_other _ _ (word (.sts .CHAIN) rfl (by decide) rfl)]
  have queues : ∀ m t, getF u g (queueEvent m b v t) = getF u g t := fun m t => by
    unfold queueEvent
    split
    · rfl
    · split
      · rfl
      · dsimp only
        split
        · exact (sets _).trans (sets t)
        · exact sets t
  unfold irqUpdate
  split
  · split
    · rfl
    · dsimp only
      split
      · exact queues _ _
      · rfl
  · rfl

/-- An output that does not rise sets no bit and queues no EVENT. -/
theorem getF_irqUpdate_silent {b : Blk} {v : Nat} {s : State} (h : irqLevel b v s = true → blkBase b v ∈ s.irqOut) (u : Nat)
    (g : Fld) : getF u g (irqUpdate b v s) = getF u g s := by
  unfold irqUpdate
  split
  · rename_i high
    rw [if_pos (by simpa using h high)]
  · rfl

/-! ### An access that its register takes -/

/-- From `s` to `t` an answer has left, or stands in an in-band request: ports keep all but their in-band requests, and what
was sent before stays sent. -/
structure Replied (s t : State) : Prop where
  answered : Answered s t
  port : ∀ p, ∃ ib, t.port p = { s.port p with lane := { (s.port p).lane with ib := ib } }
  sent : ∀ e ∈ s.sent, e ∈ t.sent

theorem replied_respond (src : Src) (mtag tag op addr code data : Nat) (s : State) :
    Replied s (respond src mtag tag op addr code data s) := by
  refine ⟨answered_respond _ _ _ _ _ _ _ s, fun p => ?_, fun e he => ?_⟩
  · cases src with
    | chain side =>
      unfold respond when
      dsimp only
      split <;> exact ⟨_, rfl⟩
    | inband lane =>
      unfold respond modLane
      by_cases same : p = lane.val
      · rw [same]
        exact ⟨_, port_modPort_same _ _ s⟩
      · exact ⟨_, port_modPort_other _ s same⟩
  · cases src with
    | chain side =>
      unfold respond when
      dsimp only
      split
      · exact List.mem_cons_of_mem _ he
      · exact he
    | inband lane => exact he

/-- What a reply leaves of a port beside its host lane. -/
theorem Replied.watch {s t : State} (h : Replied s t) (p : Nat) : (t.port p).watch = (s.port p).watch := by
  obtain ⟨ib, port⟩ := h.port p
  rw [port]

theorem Replied.getF {s t : State} (h : Replied s t) (u : Nat) (g : Fld) : getF u g t = getF u g s := h.answered.getF u g

/-- A write that its register answers with code 0 completes with the reply alone. -/
theorem completes_write {c : Instr} {w : Acc} {b : Blk} {u off : Nat} {x : Ext} {s t : State} (h : Writes w b u off s)
    (row : exec c s = .next (regAccess w opWrite (regAt b u off) (.ext x) s))
    (done : writeReg w.mtag.toNat b u off w.data.toNat x (consumeFrame w.src s) = (0, t)) (quiet : Quiet t) :
    Completes c s (Replied t) := by
  refine ⟨_, row, ?_⟩
  obtain ⟨-, -, stays⟩ := respond_keeps w.src w.mtag.toNat w.tag.toNat opWrite (reqOf w (blkBase b u + off)).addr.toNat 0 0 t
  have answer_eq : answer (reqOf w (blkBase b u + off)) opWrite 0 0 t =
      respond w.src w.mtag.toNat w.tag.toNat opWrite (reqOf w (blkBase b u + off)).addr.toNat 0 0 t := rfl
  rw [regAccess_writes h, done, answer_eq, settle_quiet (stays quiet)]
  exact replied_respond _ _ _ _ _ _ _ t

/-- A read that its register answers with code 0 and a word completes with the reply that bears it. -/
theorem completes_read {c : Instr} {r : Acc} {b : Blk} {u off data : Nat} {s t : State} (h : Reads r b u off s)
    (row : exec c s = .next (regRead r (regAt b u off) s))
    (done : readReg r.mtag.toNat b u off (consumeFrame r.src s) = (0, data, t)) (quiet : Quiet t) :
    Completes c s fun v =>
      v = respond r.src r.mtag.toNat r.tag.toNat opRead ((blkBase b u + off) % 2 ^ 24) 0 data t ∧ Replied t v := by
  obtain ⟨-, -, -, place, -⟩ := id h
  have place' : target (reqOf r (blkBase b u + off)).addr.toNat = .reg b u off := by
    simpa [reqOf, target_mod] using place
  have carried : performOp { req := reqOf r (blkBase b u + off), op := opRead, crossing := false, act := .ext (extOf s) }
      (consumeFrame r.src s) = (0, data, t) := by
    unfold performOp
    dsimp only
    rw [if_pos rfl, readOp, place']
    exact done
  have reply : regRead r (regAt b u off) s =
      respond r.src r.mtag.toNat r.tag.toNat opRead ((blkBase b u + off) % 2 ^ 24) 0 data t := by
    obtain ⟨-, -, stays⟩ := respond_keeps r.src r.mtag.toNat r.tag.toNat opRead ((blkBase b u + off) % 2 ^ 24) 0 data t
    rw [regAt, regRead_reads h, landAccess, carried]
    exact settle_quiet (stays quiet)
  exact ⟨_, row, reply, reply ▸ replied_respond _ _ _ _ _ _ _ t⟩

end Sys2Proof.Machine
end

section
/-! CERTIFICATES. Ignored writes and the clears of the status words (O17). -/

namespace Sys2Proof.Machine

/-! ### Sticky bits set by hardware (R85) -/

theorem setStsBits_sts_seq (b : Blk) (u mask : Nat) (s : State) :
    getF u (.sts b) (setStsBits b u mask s) = (getF u (.sts b) s ||| mask) % 2 ^ 24 ∧
      getF u (.seq b) (setStsBits b u mask s) = (getF u (.seq b) s + 1) % 256 := by
  have apart : (Fld.sts b).key u ≠ (Fld.seq b).key u := key_ne_of_place u rfl (by simp [Fld.sts, Fld.seq])
  exact ⟨(getF_setF_other _ _ apart).trans (getF_setF_same u (.sts b) _ s), getF_setF_same u (.seq b) _ _⟩

/-! ### Ignored writes (R84) -/

/-- The fields of BLK_IGN. -/
def ignFlds (b : Blk) : List Fld := [.ignCount b, .ignOvf b, .ignValid b, .ignReason b, .ignMtag b, .ignOffset b]

theorem offStatus_ignFlds {b : Blk} {g : Fld} (hg : g ∈ ignFlds b) : g.offStatus = true := by
  simp only [ignFlds, List.mem_cons, List.not_mem_nil, or_false] at hg
  rcases hg with rfl | rfl | rfl | rfl | rfl | rfl <;> rfl

/-- The fields of BLK_IGN have keys of their own. -/
theorem ignFlds_key_ne {b : Blk} {f g : Fld} (hf : f ∈ ignFlds b) (hg : g ∈ ignFlds b) (h : g.lo ≠ f.lo) (u : Nat) :
    g.key u ≠ f.key u := by
  have place : ∀ x ∈ ignFlds b, x.blk = b ∧ x.off = 0x010 := by simp [ignFlds, Fld.ignCount, Fld.ignOvf, Fld.ignValid,
    Fld.ignReason, Fld.ignMtag, Fld.ignOffset]
  obtain ⟨fb, fo⟩ := place f hf
  obtain ⟨gb, go⟩ := place g hg
  exact key_ne_of_place u (gb.trans fb.symm) (by omega)

/-- BLK_IGN once an ignored write is noted in it. -/
def noteIgnored (b : Blk) (u off m reason : Nat) (s : State) : State :=
  let s := bump8 u (.ignCount b) s
  if isSet u (.ignValid b) s then setF u (.ignOvf b) 1 s
  else setAll u [(.ignReason b, reason), (.ignMtag b, m), (.ignOffset b, off), (.ignValid b, 1)] s

theorem recordIgnored_eq (b : Blk) (u off m reason : Nat) (s : State) :
    recordIgnored b u off m reason s = irqUpdate b u (setStsBits b u (2 ^ 22) (noteIgnored b u off m reason s)) := rfl

/-- What follows the note leaves BLK_IGN. -/
theorem getF_recordIgnored {b : Blk} {g : Fld} (hg : g ∈ ignFlds b) (u off m reason : Nat) (s : State) :
    getF u g (recordIgnored b u off m reason s) = getF u g (noteIgnored b u off m reason s) := by
  have away := g.offStatus_spec (offStatus_ignFlds hg) u
  rw [recordIgnored_eq, getF_irqUpdate (away .CHAIN 0), getF_setStsBits (away b u)]

/-- An ignored write counts. -/
theorem noteIgnored_count (b : Blk) (u off m reason : Nat) (s : State) :
    getF u (.ignCount b) (noteIgnored b u off m reason s) = min (getF u (.ignCount b) s + 1) 255 % 256 := by
  have counted : getF u (.ignCount b) (bump8 u (.ignCount b) s) = min (getF u (.ignCount b) s + 1) 255 % 256 :=
    getF_setF_same u (.ignCount b) _ s
  have apart : ∀ g ∈ ignFlds b, g.lo ≠ 16 → (Fld.ignCount b).key u ≠ g.key u := fun g hg h =>
    ignFlds_key_ne hg (by simp [ignFlds]) h.symm u
  unfold noteIgnored
  dsimp only
  split
  · rw [getF_setF_other _ _ (apart _ (by simp [ignFlds]) (by simp [Fld.ignOvf])), counted]
  · rw [getF_setAll_other _ _ (by
      simp only [List.forall_mem_cons, List.not_mem_nil, false_implies, implies_true, and_true]
      and_intros <;> refine apart _ (by simp [ignFlds]) ?_ <;>
        simp [Fld.ignReason, Fld.ignMtag, Fld.ignOffset, Fld.ignValid]), counted]

/-- The count changes nothing else of BLK_IGN. -/
theorem getF_bumpIgn {b : Blk} {g : Fld} (hg : g ∈ ignFlds b) (h : g.lo ≠ 16) (u : Nat) (s : State) :
    getF u g (bump8 u (.ignCount b) s) = getF u g s :=
  getF_setF_other _ _ (ignFlds_key_ne (by simp [ignFlds]) hg h u)

/-- The first ignored write is recorded. -/
theorem noteIgnored_first {b : Blk} {u off m reason : Nat} {s : State} (first : getF u (.ignValid b) s ≠ 1)
    (hoff : off < 4096) (hm : m < 16) (hr : reason < 4) :
    let t := noteIgnored b u off m reason s
    getF u (.ignValid b) t = 1 ∧ getF u (.ignReason b) t = reason ∧ getF u (.ignMtag b) t = m ∧
      getF u (.ignOffset b) t = off := by
  have open_ : ¬isSet u (.ignValid b) (bump8 u (.ignCount b) s) = true := by
    simpa [isSet, getF_bumpIgn (b := b) (g := .ignValid b) (by simp [ignFlds]) (by simp [Fld.ignValid])] using first
  have noted : noteIgnored b u off m reason s = setF u (.ignValid b) 1 (setF u (.ignOffset b) off
      (setF u (.ignMtag b) m (setF u (.ignReason b) reason (bump8 u (.ignCount b) s)))) := if_neg open_
  have apart : ∀ {f g : Fld}, f ∈ ignFlds b → g ∈ ignFlds b → g.lo ≠ f.lo → g.key u ≠ f.key u :=
    fun hf hg h => ignFlds_key_ne hf hg h u
  dsimp only
  rw [noted]
  refine ⟨getF_setF_same u (.ignValid b) 1 _, ?_, ?_, ?_⟩
  · rw [getF_setF_other _ _ (apart (by simp [ignFlds]) (by simp [ignFlds]) (by simp [Fld.ignValid, Fld.ignReason])),
      getF_setF_other _ _ (apart (by simp [ignFlds]) (by simp [ignFlds]) (by simp [Fld.ignOffset, Fld.ignReason])),
      getF_setF_other _ _ (apart (by simp [ignFlds]) (by simp [ignFlds]) (by simp [Fld.ignMtag, Fld.ignReason])),
      getF_setF_same]
    exact Nat.mod_eq_of_lt hr
  · rw [getF_setF_other _ _ (apart (by simp [ignFlds]) (by simp [ignFlds]) (by simp [Fld.ignValid, Fld.ignMtag])),
      getF_setF_other _ _ (apart (by simp [ignFlds]) (by simp [ignFlds]) (by simp [Fld.ignOffset, Fld.ignMtag])),
      getF_setF_same]
    exact Nat.mod_eq_of_lt hm
  · rw [getF_setF_other _ _ (apart (by simp [ignFlds]) (by simp [ignFlds]) (by simp [Fld.ignValid, Fld.ignOffset])),
      getF_setF_same]
    exact Nat.mod_eq_of_lt hoff

/-- A later one sets IGN_OVF alone. -/
theorem noteIgnored_later {b : Blk} {u off m reason : Nat} {s : State} (held : getF u (.ignValid b) s = 1) :
    let t := noteIgnored b u off m reason s
    getF u (.ignOvf b) t = 1 ∧ ∀ g ∈ ignFlds b, g.lo ≠ 16 → g.lo ≠ 30 → getF u g t = getF u g s := by
  have closed : isSet u (.ignValid b) (bump8 u (.ignCount b) s) = true := by
    simpa [isSet, getF_bumpIgn (b := b) (g := .ignValid b) (by simp [ignFlds]) (by simp [Fld.ignValid])] using held
  have noted : noteIgnored b u off m reason s = setF u (.ignOvf b) 1 (bump8 u (.ignCount b) s) := if_pos closed
  dsimp only
  rw [noted]
  refine ⟨getF_setF_same u (.ignOvf b) 1 _, fun g hg count ovf => ?_⟩
  rw [getF_setF_other _ _ (ignFlds_key_ne (by simp [ignFlds]) hg ovf u), getF_bumpIgn hg count]

/-! ### Clears (R84 to R86) -/

/-- A clear with another SEQ or COUNT than the present one counts in CLR_MISS, and changes no status (R85). -/
theorem missed_bump8 (b : Blk) (u : Nat) (s : State) :
    let t := bump8 u (.clrMiss b) s
    getF u (.clrMiss b) t = min (getF u (.clrMiss b) s + 1) 255 % 256 ∧
      ∀ g : Fld, g.blk = b → g.off ≠ 0x014 → g.lo < 32 → getF u g t = getF u g s := by
  refine ⟨getF_setF_same u (.clrMiss b) _ s, fun g hb ho hl => getF_setF_other _ _ ?_⟩
  refine key_ne_of_off u hb hl ?_ ?_
  · simp [Fld.clrMiss]
  · simpa [Fld.clrMiss] using ho

/-- Bits that are cleared raise no interrupt output. -/
theorem irqLevel_of_cleared {b : Blk} {u k : Nat} {s : State}
    (h : irqLevel b u (setF u (.sts b) (getF u (.sts b) s &&& k) s) = true) : irqLevel b u s = true := by
  have other : ∀ f : Fld, f.blk = b → f.lo < 32 → f.off ≠ 0x004 → ∀ v, getF u f (setF u (.sts b) v s) = getF u f s :=
    fun f hb hl ho v => getF_setF_other v s (key_ne_of_off u (f := .sts b) hb hl (by simp [Fld.sts]) ho)
  have bits : getF u (.sts b) (setF u (.sts b) (getF u (.sts b) s &&& k) s) &&& getF u (.ien b) s ≠ 0 →
      getF u (.sts b) s &&& getF u (.ien b) s ≠ 0 := by
    intro set none_
    refine set (Nat.eq_of_testBit_eq fun i => ?_)
    have clear := congrArg (·.testBit i) none_
    simp only [Nat.testBit_and, Nat.zero_testBit, Bool.and_eq_false_iff] at clear
    rw [getF_setF_same, Nat.testBit_and, Nat.testBit_mod_two_pow, Nat.testBit_and, Nat.zero_testBit]
    rcases clear with clear | clear <;> simp [clear]
  simp only [irqLevel, isSet, other (.ien b) rfl (by simp [Fld.ien]) (by simp [Fld.ien]),
    other (.firstValid b) rfl (by simp [Fld.firstValid]) (by simp [Fld.firstValid]),
    other (.firstClass b) rfl (by simp [Fld.firstClass]) (by simp [Fld.firstClass]), Bool.or_eq_true, bne_iff_ne] at h ⊢
  exact h.imp_left bits

/-- BLK_STS cleared with the present SEQ. -/
theorem clearSts_present {b : Blk} {u data : Nat} {s : State} (seq : data / 2 ^ 24 % 2 ^ 8 = getF u (.seq b) s)
    (low : irqLevel b u s = true → blkBase b u ∈ s.irqOut) :
    getF u (.sts b) (clearSts b u data s) = (getF u (.sts b) s &&& (2 ^ 24 - 1 - data % 2 ^ 24)) % 2 ^ 24 ∧
      getF u (.seq b) (clearSts b u data s) = getF u (.seq b) s := by
  have silent := getF_irqUpdate_silent (s := setF u (.sts b) (getF u (.sts b) s &&& (2 ^ 24 - 1 - data % 2 ^ 24)) s)
    (b := b) (v := u) (fun high => low (irqLevel_of_cleared high)) u
  have apart : (Fld.seq b).key u ≠ (Fld.sts b).key u := key_ne_of_place u rfl (by simp [Fld.sts, Fld.seq])
  rw [clearSts, if_pos seq, silent, silent]
  exact ⟨getF_setF_same u (.sts b) _ s, getF_setF_other _ _ apart⟩

/-- BLK_FIRST cleared with the present SEQ. -/
theorem clearFirst_present {b : Blk} {u data : Nat} {s : State} (asked : bitOf data 31 = true)
    (seq : bitsOf data 8 8 = getF u (.seq b) s) :
    getF u (.firstValid b) (clearFirst b u data s) = 0 ∧ getF u (.firstOvf b) (clearFirst b u data s) = 0 := by
  have cleared : clearFirst b u data s = irqUpdate b u (setF u (.firstOvf b) 0 (setF u (.firstValid b) 0 s)) := by
    simp [clearFirst, asked, seq]
  have apart : (Fld.firstValid b).key u ≠ (Fld.firstOvf b).key u :=
    key_ne_of_place u rfl (by simp [Fld.firstValid, Fld.firstOvf])
  rw [cleared, getF_irqUpdate_off (by simp [Fld.firstValid]) (by simp [Fld.firstValid]) (by simp [Fld.firstValid]),
    getF_irqUpdate_off (by simp [Fld.firstOvf]) (by simp [Fld.firstOvf]) (by simp [Fld.firstOvf])]
  exact ⟨(getF_setF_other _ _ apart).trans (getF_setF_same u (.firstValid b) 0 s), getF_setF_same u (.firstOvf b) 0 _⟩

/-- BLK_IGN cleared with the present COUNT. -/
theorem clearIgn_present {b : Blk} {u data : Nat} {s : State} (asked : bitOf data 31 = true)
    (count : bitsOf data 16 8 = getF u (.ignCount b) s) :
    getF u (.ignValid b) (clearIgn b u data s) = 0 ∧ getF u (.ignOvf b) (clearIgn b u data s) = 0 ∧
      getF u (.ignCount b) (clearIgn b u data s) = 0 := by
  have cleared : clearIgn b u data s = setF u (.ignCount b) 0 (setF u (.ignOvf b) 0 (setF u (.ignValid b) 0 s)) := by
    simp [clearIgn, asked, count]
  have apart : ∀ {f g : Fld}, f ∈ ignFlds b → g ∈ ignFlds b → g.lo ≠ f.lo → g.key u ≠ f.key u :=
    fun hf hg h => ignFlds_key_ne hf hg h u
  rw [cleared]
  refine ⟨?_, ?_, getF_setF_same u (.ignCount b) 0 _⟩
  · rw [getF_setF_other _ _ (apart (by simp [ignFlds]) (by simp [ignFlds]) (by simp [Fld.ignCount, Fld.ignValid])),
      getF_setF_other _ _ (apart (by simp [ignFlds]) (by simp [ignFlds]) (by simp [Fld.ignOvf, Fld.ignValid]))]
    exact getF_setF_same u (.ignValid b) 0 s
  · rw [getF_setF_other _ _ (apart (by simp [ignFlds]) (by simp [ignFlds]) (by simp [Fld.ignCount, Fld.ignOvf]))]
    exact getF_setF_same u (.ignOvf b) 0 _

theorem statusOnly_bump8 (u : Nat) (f : Fld) (s : State) : StatusOnly s (bump8 u f s) := statusOnly_setF u f _ s

theorem statusOnly_clearSts (b : Blk) (u data : Nat) (s : State) : StatusOnly s (clearSts b u data s) := by
  unfold clearSts
  split
  · exact (statusOnly_setF u _ _ s).trans (statusOnly_irqUpdate b u _)
  · exact statusOnly_bump8 u _ s

theorem statusOnly_clearFirst (b : Blk) (u data : Nat) (s : State) : StatusOnly s (clearFirst b u data s) := by
  unfold clearFirst
  split
  · exact .refl s
  · split
    · exact ((statusOnly_setF u _ _ s).trans (statusOnly_setF u _ _ _)).trans (statusOnly_irqUpdate b u _)
    · exact statusOnly_bump8 u _ s

theorem statusOnly_clearIgn (b : Blk) (u data : Nat) (s : State) : StatusOnly s (clearIgn b u data s) := by
  unfold clearIgn
  split
  · exact .refl s
  · split
    · exact statusOnly_setAll u _ s
    · exact statusOnly_bump8 u _ s

/-- What a missed clear leaves, read in the state that follows the answer. -/
theorem missed_answered {b : Blk} {u : Nat} {s t : State} (h : Replied (bump8 u (.clrMiss b) s) t) :
    getF u (.clrMiss b) t = min (getF u (.clrMiss b) s + 1) 255 % 256 ∧ getF u (.sts b) t = getF u (.sts b) s ∧
      getF u (.seq b) t = getF u (.seq b) s ∧ getF u (.firstValid b) t = getF u (.firstValid b) s ∧
      getF u (.ignValid b) t = getF u (.ignValid b) s := by
  obtain ⟨counted, kept⟩ := missed_bump8 b u s
  have same : ∀ g : Fld, g.blk = b → g.off ≠ 0x014 → g.lo < 32 → getF u g t = getF u g s :=
    fun g hb ho hl => (h.getF u g).trans (kept g hb ho hl)
  refine ⟨(h.getF u _).trans counted, same _ rfl ?_ ?_, same _ rfl ?_ ?_, same _ rfl ?_ ?_, same _ rfl ?_ ?_⟩ <;>
    simp [Fld.sts, Fld.seq, Fld.firstValid, Fld.ignValid]

/-- Settles O17: the note of an ignored write in BLK_IGN with bit 22 of BLK_STS, and the three clears, each taken or missed. -/
theorem ignoredWritesAndClearsAreExact : Obligations.IgnoredWritesAndClearsAreExact := by
  refine ⟨fun b u mask s _ _ => setStsBits_sts_seq b u mask s, fun b u off m reason s _ hoff hm hr => ?_, fun b u w s _ => ?_⟩
  · have noted : ∀ g ∈ ignFlds b, getF u g (recordIgnored b u off m reason s) = getF u g (noteIgnored b u off m reason s) :=
      fun g hg => getF_recordIgnored hg u off m reason s
    refine ⟨(noted _ (by simp [ignFlds])).trans (noteIgnored_count b u off m reason s), ?_, fun first => ?_, fun held => ?_⟩
    · exact bitOf_sts_irqUpdate (by decide) (bitOf_sts_set (by decide) (by decide) _) b u
    · rw [noted _ (by simp [ignFlds]), noted _ (by simp [ignFlds]), noted _ (by simp [ignFlds]), noted _ (by simp [ignFlds])]
      exact noteIgnored_first first hoff hm hr
    · obtain ⟨ovf, same⟩ := noteIgnored_later (off := off) (m := m) (reason := reason) held
      have kept : ∀ g ∈ ignFlds b, g.lo ≠ 16 → g.lo ≠ 30 → getF u g (recordIgnored b u off m reason s) = getF u g s :=
        fun g hg h16 h30 => (noted g hg).trans (same g hg h16 h30)
      refine ⟨(noted _ (by simp [ignFlds])).trans ovf, kept _ ?_ ?_ ?_, kept _ ?_ ?_ ?_, kept _ ?_ ?_ ?_⟩ <;>
        simp [ignFlds, Fld.ignReason, Fld.ignMtag, Fld.ignOffset]
  · refine ⟨fun writes low => ?_, fun writes asked => ?_, fun writes asked => ?_⟩
    · refine completes_mono (completes_write writes rfl rfl (quiet_of_statusOnly (statusOnly_clearSts ..) writes.quiet))
        fun t answered => ?_
      have whole : w.data.toNat / 2 ^ 24 % 2 ^ 8 = w.data.toNat / 2 ^ 24 := by omega
      split
      · rename_i present
        obtain ⟨sts, seq⟩ := clearSts_present (whole.trans present) low
        exact ⟨(answered.getF u _).trans sts, (answered.getF u _).trans seq⟩
      · rename_i other
        refine missed_answered ?_
        rwa [clearSts, if_neg (by rwa [whole])] at answered
    · refine completes_mono (completes_write writes rfl rfl (quiet_of_statusOnly (statusOnly_clearFirst ..) writes.quiet))
        fun t answered => ?_
      split
      · rename_i present
        obtain ⟨valid, ovf⟩ := clearFirst_present asked present
        exact ⟨(answered.getF u _).trans valid, (answered.getF u _).trans ovf⟩
      · rename_i other
        refine missed_answered ?_
        rwa [clearFirst, if_neg (by simp [asked]), if_neg other] at answered
    · refine completes_mono (completes_write writes rfl rfl (quiet_of_statusOnly (statusOnly_clearIgn ..) writes.quiet))
        fun t answered => ?_
      split
      · rename_i present
        obtain ⟨valid, ovf, count⟩ := clearIgn_present asked present
        exact ⟨(answered.getF u _).trans valid, (answered.getF u _).trans ovf, (answered.getF u _).trans count⟩
      · rename_i other
        refine missed_answered ?_
        rwa [clearIgn, if_neg (by simp [asked]), if_neg other] at answered

end Sys2Proof.Machine
end

section
/-! CERTIFICATES. SNAP_CLR and the captures of counters (O18). -/

namespace Sys2Proof.Machine

/-! ### Keys and addresses -/

/-- Two fields of a map have different keys. -/
theorem key_ne_of_mem {b : Blk} {f g : Fld} (hf : f ∈ blkFlds b) (hg : g ∈ blkFlds b) (h : g ≠ f) (u : Nat) :
    g.key u ≠ f.key u := by
  obtain ⟨fb, fl⟩ := blkFlds_blk_lo hf
  obtain ⟨gb, gl⟩ := blkFlds_blk_lo hg
  rw [key_eq, key_eq, fb, gb]
  exact fun same => h (blkFlds_eq_of_off_lo hg hf (by omega) (by omega))

theorem blkBase_lt (b : Blk) (u : Fin 8) : blkBase b u + 4096 ≤ 2 ^ 24 := by
  have number : (blkPlace b).2 < 0x100 := by cases b <;> decide
  have page : blkPage b u < 0x1000 := by
    unfold blkPage
    generalize (blkPlace b).2 = n at number
    cases (blkPlace b).1 <;> simp only [Nat.add_mul] <;> omega
  rw [blkBase_eq_page]
  omega

/-- A register of the device is reached by its 24-bit address. -/
theorem regAt_address (b : Blk) (u : Fin 8) {off : Nat} (h : off < 4096) :
    (BitVec.ofNat 24 (blkBase b u + off)).toNat = regAt b u off := by
  have bound := blkBase_lt b u
  rw [BitVec.toNat_ofNat, Nat.mod_eq_of_lt (by omega), regAt]

/-- What the passing of a chain frame leaves of captures and buffers (R37). -/
theorem consumeFrame_captures (src : Src) (s : State) :
    (consumeFrame src s).snaps = s.snaps ∧ (consumeFrame src s).caps = s.caps ∧ (consumeFrame src s).banked = s.banked := by
  obtain ⟨l, F, T, I, E, L, D, J, h⟩ := consumeFrame_form src s
  rw [h]
  exact ⟨rfl, rfl, rfl⟩

/-- What a reply leaves of captures. -/
theorem Answered.captures {s t : State} (h : Answered s t) : t.snaps = s.snaps ∧ t.caps = s.caps ∧ t.wcap = s.wcap := by
  obtain ⟨l, P, rfl⟩ := h
  exact ⟨rfl, rfl, rfl⟩

/-! ### Commands that start and complete at once -/

/-- A key in another word than a command field's is none of the keys of that command. -/
theorem key_ne_command {u v : Nat} {g f : Fld} (h : g.key u / 32 ≠ blkBase f.blk v + f.off) (hl : f.lo + 4 < 32) :
    ∀ d ≤ 4, g.key u ≠ f.key v + d := by
  intro d hd same
  have place : f.key v = (blkBase f.blk v + f.off) * 32 + f.lo := rfl
  rw [place] at same
  omega

/-- A field of another word keeps its value as a command ends. -/
theorem getF_cmdEnd_off {u v : Nat} {g f : Fld} (h : ∀ d ≤ 4, g.key u ≠ f.key v + d) (oc : Nat) (s : State) :
    getF u g (cmdEnd v f oc s) = getF u g s := by
  have field : g.key u ≠ f.key v := h 0 (by omega)
  have outcome : g.key u ≠ f.outcome.key v := key_outcome v f ▸ h 4 (by omega)
  rw [cmdEnd, getF_setF_other _ _ field, getF_setF_other _ _ outcome]

theorem getF_cmdDone_off {u v : Nat} {g f : Fld} (h : g.key u / 32 ≠ blkBase f.blk v + f.off) (hl : f.lo + 4 < 32)
    (s : State) : getF u g (cmdDone v f s) = getF u g s :=
  (getF_cmdEnd_off (key_ne_command h hl) 2 _).trans (getF_cmdStart (key_ne_command h hl) s)

theorem statusOnly_cmdDone (u : Nat) (f : Fld) (s : State) : StatusOnly s (cmdDone u f s) :=
  (statusOnly_cmdStart u f s).trans (statusOnly_cmdEnd u f 2 _)

/-! ### SNAP_CLR (R95) -/

/-- SNAP_CLR of a map: an ordinary command field, in a word that holds neither a counter nor CLR_MISS. -/
theorem snapClr_place : ∀ (b : Blk), ∀ f ∈ cmdFlds b, isSnapClr f = true → f.commands = true ∧ f.blk = b ∧
    f ≠ .fire f.blk ∧ f.lo + 4 < 32 ∧ f.off ≠ 0x014 ∧ ∀ c ∈ counterFlds b, c.off ≠ f.off := by
  intro b
  cases b <;> decide +kernel

/-- A counter of a map: a field of its own word beside the header. -/
theorem counter_place : ∀ (b : Blk), ∀ c ∈ counterFlds b, c ∈ blkFlds b ∧ c.offStatus = true ∧ c ≠ .clrMiss b ∧
    c ≠ .WATCH_IMP_MAX ∧ winShape b c.off = none ∧ (fldsAt b c.off).find? (fun g => g.ty == .snap) = some c := by
  intro b
  cases b <;> decide +kernel

/-- Fields of a map set to 0 in turn all read 0. -/
theorem getF_forAll_zero {b : Blk} {u : Nat} {g : Fld} (hg : g ∈ blkFlds b) :
    ∀ (l : List Fld) (s : State), (∀ f ∈ l, f ∈ blkFlds b) → g ∈ l ∨ getF u g s = 0 →
      getF u g (forAll l (fun f => setF u f 0) s) = 0
  | [], _, _, h => h.resolve_left (by simp)
  | f :: l, s, hl, h => by
    rw [forAll_cons]
    refine getF_forAll_zero hg l _ (fun x hx => hl x (List.mem_cons_of_mem _ hx)) ?_
    by_cases same : g = f
    · rw [same]
      exact .inr ((getF_setF_same u f 0 s).trans (Nat.zero_mod _))
    · refine h.imp (fun m => (List.mem_cons.mp m).resolve_left same) fun zero => ?_
      rw [getF_setF_other _ _ (key_ne_of_mem (hl f List.mem_cons_self) hg same u), zero]

theorem clearCounters_zero {b : Blk} {c : Fld} (u : Nat) (hc : c ∈ counterFlds b) (s : State) :
    getF u c (clearCounters b u s) = 0 := by
  obtain ⟨mem, -, other, -⟩ := counter_place b c hc
  have clrMiss : Fld.clrMiss b ∈ blkFlds b := by simp [blkFlds, headerFlds]
  rw [clearCounters, getF_setF_other _ _ (key_ne_of_mem clrMiss mem other u)]
  exact getF_forAll_zero mem _ s (fun f hf => (counter_place b f hf).1) (.inl hc)

/-- The frame counters of every stream of a port set to 0 (R95). -/
def clearStreams (x : Port) : Port :=
  { x with streams := mapVals (fun _ e =>
      { e with frAdm := 0, frDeliv := 0, frExpTx := 0, frExpRx := 0, frTail := 0 }) x.streams }

/-- The state in which SNAP_CLR of a block is done, before its own field ends. -/
def snapCleared (b : Blk) (u : Nat) (s : State) : State :=
  match b with
  | .STREAM => modPort u clearStreams (clearCounters .STREAM u s)
  | .WATCH => setF u .WATCH_IMP_MAX 0 (clearCounters .WATCH u s)
  | b => clearCounters b u s

theorem startSnapClr_eq (b : Blk) (u : Nat) (f : Fld) (s : State) :
    startSnapClr b u f s = cmdDone u f (snapCleared b u s) := by
  cases b <;> rfl

theorem getF_snapCleared {b : Blk} {u : Nat} {g : Fld} (h : b = .WATCH → g.key u ≠ Fld.WATCH_IMP_MAX.key u) (s : State) :
    getF u g (snapCleared b u s) = getF u g (clearCounters b u s) := by
  unfold snapCleared
  split
  · exact getF_modPort ..
  · exact getF_setF_other _ _ (h rfl)
  · rfl

theorem quiet_snapCleared {b : Blk} {u : Nat} {s : State} (h : Quiet s) : Quiet (snapCleared b u s) := by
  unfold snapCleared
  split
  · exact quiet_modPort (f := clearStreams) (fun _ => rfl) (quiet_of_statusOnly (statusOnly_clearCounters ..) h)
  · exact quiet_of_statusOnly ((statusOnly_clearCounters ..).trans (statusOnly_setF ..)) h
  · exact quiet_of_statusOnly (statusOnly_clearCounters ..) h

/-- SNAP_CLR clears the counters of its block and CLR_MISS, and ends DONE. -/
theorem startSnapClr_spec {b : Blk} {f : Fld} (hf : f ∈ cmdFlds b) (snap : isSnapClr f = true) (u : Nat) (s : State) :
    (∀ c ∈ counterFlds b, getF u c (startSnapClr b u f s) = 0) ∧ getF u (.clrMiss b) (startSnapClr b u f s) = 0 ∧
      Ended u f ocDone (startSnapClr b u f s) := by
  obtain ⟨-, blk, -, lo, off, apart⟩ := snapClr_place b f hf snap
  have word : ∀ g ∈ blkFlds b, g.off ≠ f.off → ∀ t, getF u g (cmdDone u f t) = getF u g t := fun g hg ho t => by
    obtain ⟨gb, gl⟩ := blkFlds_blk_lo hg
    refine getF_cmdDone_off ?_ lo t
    rw [key_div u gl, gb, blk]
    omega
  have impMax : b = .WATCH → Fld.WATCH_IMP_MAX ∈ blkFlds b := by
    rintro rfl
    decide +kernel
  have clrMiss : Fld.clrMiss b ∈ blkFlds b := by simp [blkFlds, headerFlds]
  rw [startSnapClr_eq]
  refine ⟨fun c hc => ?_, ?_, ended_cmdEnd u f (by decide) _⟩
  · obtain ⟨mem, -, -, other, -⟩ := counter_place b c hc
    rw [word c mem (apart c hc), getF_snapCleared (fun watch => key_ne_of_mem (impMax watch) mem other u),
      clearCounters_zero u hc]
  · rw [word _ clrMiss off.symm, getF_snapCleared fun watch => key_ne_of_mem (impMax watch) clrMiss ?_ u, clearCounters,
      getF_setF_same, Nat.zero_mod]
    simp [Fld.clrMiss, Fld.WATCH_IMP_MAX]

theorem snapClr_clears {b : Blk} {u : Fin 8} {w : Acc} {f : Fld} {s : State} (hf : f ∈ cmdFlds b) (snap : isSnapClr f = true)
    (h : Starts w u f s) : Completes (.snapClr b u w) s fun t =>
      (∀ c ∈ counterFlds b, getF u c t = 0) ∧ getF u (.clrMiss b) t = 0 ∧ Ended u f ocDone t := by
  obtain ⟨commands, blk, fire, -⟩ := snapClr_place b f hf snap
  obtain ⟨writes, asks⟩ := h
  have at_ : snapClrAt b = f.off := by
    have last : (cmdFlds b).getLast? = some f := by
      simp only [isSnapClr, blk, Bool.and_eq_true, beq_iff_eq] at snap
      exact snap.1
    rw [snapClrAt, last]
    exact if_pos snap
  have started : writeReg w.mtag.toNat f.blk u f.off w.data.toNat (extOf s) (consumeFrame w.src s) =
      (0, startSnapClr b u f (consumeFrame w.src s)) := by
    rw [writeReg_start commands asks, startCmd, if_neg fire, if_pos snap, blk]
  have quiet : Quiet (startSnapClr b u f (consumeFrame w.src s)) := by
    rw [startSnapClr_eq]
    exact quiet_of_statusOnly (statusOnly_cmdDone u f _) (quiet_snapCleared writes.quiet)
  refine completes_mono (completes_write writes ?_ started quiet) fun t reply => ?_
  · change Host.Outcome.next (regWrite w (regAt b u (snapClrAt b)) s) = _
    rw [at_, blk]
    rfl
  · obtain ⟨counters, miss, ended⟩ := startSnapClr_spec hf snap u (consumeFrame w.src s)
    exact ⟨fun c hc => (reply.getF u c).trans (counters c hc), (reply.getF u _).trans miss, reply.answered.ended ended⟩

/-! ### Reads that capture (R93, R94, R156) -/

theorem counterLowRead_captures {b : Blk} {u : Fin 8} {r : Acc} {f : Fld} {s : State} (hf : f ∈ counterFlds b)
    (h : Reads r b u f.off s) : Completes (.counterLowRead (BitVec.ofNat 24 (blkBase b u + f.off)) r) s fun t =>
      let n := getF u f (consumeFrame r.src s)
      mapGet t.snaps (blkBase b u * 16 + r.mtag.toNat) = some (f.off, n) ∧ getF u f t = n ∧
        ∀ k, k ≠ blkBase b u * 16 + r.mtag.toNat → mapGet t.snaps k = mapGet s.snaps k := by
  obtain ⟨mem, offStatus, -, -, window, found⟩ := counter_place b f hf
  obtain ⟨blk, -⟩ := blkFlds_blk_lo mem
  obtain ⟨-, hq, -⟩ := id h
  obtain ⟨-, -, -, stays⟩ := consumeFrame_keeps r.src s
  obtain ⟨snaps, -, -⟩ := consumeFrame_captures r.src s
  obtain ⟨-, below, -⟩ := of_decide_eq_true offStatus
  have row : exec (.counterLowRead (BitVec.ofNat 24 (blkBase b u + f.off)) r) s = .next (regRead r (regAt b u f.off) s) := by
    rw [← regAt_address b u below]
    rfl
  have done (c : State) : readReg r.mtag.toNat b u f.off c = (0, getF u f c % 2 ^ 32,
      { c with snaps := mapPut c.snaps (blkBase b u * 16 + r.mtag.toNat) (f.off, getF u f c) }) := by
    simp only [readReg, window, found, readCounter, if_pos, blk]
  refine completes_mono (completes_read h row (done _) (stays hq)) fun t ⟨_, reply⟩ => ?_
  obtain ⟨kept, -, -⟩ := reply.answered.captures
  rw [kept]
  exact ⟨mapGet_mapPut_same _ _ _, reply.getF u f, fun k other => snaps ▸ mapGet_mapPut_other _ _ other⟩

/-- A read of a word that is no window and no counter answers the word and captures what it captures. -/
theorem readReg_word {m : Nat} {b : Blk} {u off : Nat} (window : winShape b off = none)
    (counter : (fldsAt b off).find? (fun f => f.ty == .snap) = none) (other : b ≠ .LINKUP) (s : State) :
    readReg m b u off s = (0, viewWord m b u off s, captureOn m b u off s) := by
  simp only [readReg, window, counter, if_neg other]

/-- A passing chain frame leaves the fields of the per-port maps. -/
theorem getF_port_consumeFrame (p : Nat) {g : Fld} (port : (blkPlace g.blk).1 = .port)
    (place : g.off * 32 + g.lo < 32 * 4096) (src : Src) (s : State) : getF p g (consumeFrame src s) = getF p g s := by
  obtain ⟨keeps, -⟩ := consumeFrame_keeps src s
  refine keeps p g (away_of_page place ?_)
  rw [blkPage_port port, show blkPage .CHAIN 0 = 2 from rfl]
  omega

theorem txSymCntRead_captures {p : Fin 8} {r : Acc} {s : State} (h : Reads r .TONES p 0x040 s) :
    Completes (.txSymCntRead p r) s fun t =>
      getF p .TONES_TX_SYM_CNT t = getF p .TONES_TX_SYM_CNT s ∧
      mapGet t.caps (Fld.TONES_TX_SF_CNT.key p * 16 + r.mtag.toNat) = some (getF p .TONES_TX_SF_CNT s) ∧
      mapGet t.caps (Fld.TONES_RX_SF_CNT.key p * 16 + r.mtag.toNat) = some (getF p .TONES_RX_SF_CNT s) := by
  obtain ⟨-, hq, -⟩ := id h
  obtain ⟨-, -, -, stays⟩ := consumeFrame_keeps r.src s
  have apart : Fld.TONES_TX_SF_CNT.key p * 16 + r.mtag.toNat ≠ Fld.TONES_RX_SF_CNT.key p * 16 + r.mtag.toNat := by
    have keys : Fld.TONES_TX_SF_CNT.key p ≠ Fld.TONES_RX_SF_CNT.key p := key_ne_of_place p rfl (by decide)
    omega
  have done := readReg_word (m := r.mtag.toNat) (b := .TONES) (u := p) (off := 0x040) rfl (by decide +kernel) (by decide)
    (consumeFrame r.src s)
  refine completes_mono (completes_read h rfl done (stays hq)) fun t ⟨_, reply⟩ => ?_
  obtain ⟨-, caps, -⟩ := reply.answered.captures
  have txSym := getF_port_consumeFrame p (g := .TONES_TX_SYM_CNT) rfl (by decide) r.src s
  have txSf := getF_port_consumeFrame p (g := .TONES_TX_SF_CNT) rfl (by decide) r.src s
  have rxSf := getF_port_consumeFrame p (g := .TONES_RX_SF_CNT) rfl (by decide) r.src s
  refine ⟨(reply.getF p _).trans txSym, ?_⟩
  rw [caps, ← txSf, ← rxSf]
  generalize consumeFrame r.src s = c
  exact ⟨(mapGet_mapPut_other _ _ apart).trans (mapGet_mapPut_same ..), mapGet_mapPut_same ..⟩

/-- Settles O18. -/
theorem countersClearAndCapture : Obligations.CountersClearAndCapture :=
  ⟨fun _ _ _ _ _ _ hf snap h => snapClr_clears hf snap h, fun _ _ _ _ _ _ hf h => counterLowRead_captures hf h,
    fun _ _ _ h => txSymCntRead_captures h⟩

end Sys2Proof.Machine
end

section
/-! CERTIFICATES. SET, STEP and the capture of device time (O20). -/

namespace Sys2Proof.Machine

/-! ### What leaves device time as it is -/

/-- Device time is the same in both states. -/
def SameTime (s t : State) : Prop := t.secs = s.secs ∧ t.nanos = s.nanos ∧ t.frac = s.frac

theorem SameTime.trans {s t u : State} (h : SameTime s t) (k : SameTime t u) : SameTime s u := by
  obtain ⟨secs, nanos, frac⟩ := h
  obtain ⟨secs', nanos', frac'⟩ := k
  exact ⟨secs'.trans secs, nanos'.trans nanos, frac'.trans frac⟩

theorem SameTime.nowNs {s t : State} (h : SameTime s t) : nowNs t = nowNs s := by
  obtain ⟨secs, nanos, -⟩ := h
  rw [Machine.nowNs, Machine.nowNs, secs, nanos]

theorem StatusOnly.sameTime {s t : State} (h : StatusOnly s t) : SameTime s t := by
  obtain ⟨F, T, I, E, L, D, J, rfl⟩ := h
  exact ⟨rfl, rfl, rfl⟩

theorem Answered.sameTime {s t : State} (h : Answered s t) : SameTime s t := by
  obtain ⟨l, P, rfl⟩ := h
  exact ⟨rfl, rfl, rfl⟩

/-- A passing chain frame leaves device time, the count of cycles and the cycle of the latest TIMESET. -/
theorem time_consumeFrame (src : Src) (s : State) : SameTime s (consumeFrame src s) ∧
    (consumeFrame src s).clk = s.clk ∧ (consumeFrame src s).cycles = s.cycles := by
  obtain ⟨l, F, T, I, E, L, D, J, h⟩ := consumeFrame_form src s
  rw [h]
  exact ⟨⟨rfl, rfl, rfl⟩, rfl, rfl⟩

theorem getF_time_consumeFrame {g : Fld} (blk : g.blk = .TIME) (place : g.off * 32 + g.lo < 32 * 4096) (src : Src) (s : State) :
    getF 0 g (consumeFrame src s) = getF 0 g s := by
  obtain ⟨keeps, -⟩ := consumeFrame_keeps src s
  refine keeps 0 g (away_of_page place ?_)
  rw [blk]
  decide

/-! ### A ROOT period (R96, R100) -/

theorem fillIdle_form (s : State) : ∃ l m, fillIdle s = { s with sent := l, slotMark := m } := by
  have sends (c : Bool) (side : Side) (s : State) :
      ∃ l, when c (emit (.chain side idleFrame)) s = { s with sent := l } := by
    cases c <;> exact ⟨_, rfl⟩
  unfold fillIdle
  split
  · exact ⟨_, _, rfl⟩
  · dsimp only
    obtain ⟨l, first⟩ := sends _ _ _
    rw [first]
    obtain ⟨k, second⟩ := sends _ _ _
    rw [second]
    exact ⟨_, _, rfl⟩

/-- A ROOT period in which no access is under way: device time advances, and the other counts touch no field. -/
theorem idle_advanced {s : State} (h : Quiet (advanceTime s)) :
    SameTime (advanceTime s) (idle s) ∧ ∀ u g, getF u g (idle s) = getF u g (advanceTime s) := by
  obtain ⟨l, m, filled⟩ := fillIdle_form (advanceTime s)
  unfold idle
  dsimp only
  rw [filled, settle_quiet (by exact h)]
  exact ⟨⟨rfl, rfl, rfl⟩, fun _ _ => rfl⟩

theorem quiet_setNow {s : State} (h : Quiet s) (ns fr : Nat) : Quiet (setNow ns fr s) := h

/-- Device time loaded by SET, its command ended (R100). -/
def timeLoaded (s : State) : State :=
  cmdEnd 0 .TIME_SET ocDone (sticky .TIME_TIME_SET 0 (setAll 0 [(.TIME_TIME_VALID, 1), (.TIME_TIME_SRC, 0)]
    (setNow ((getF 0 .TIME_SET_SEC_LO s + getF 0 .TIME_SET_SEC_HI s * 2 ^ 32) * 1000000000 + getF 0 .TIME_SET_NS s) 0 s)))

/-- Device time moved by STEP, its command ended (R100). -/
def timeStepped (s : State) : State :=
  cmdEnd 0 .TIME_STEP ocDone (setNow ((nowNs s : Int) + signedOf 32 (getF 0 .TIME_STEP_NS s)).toNat s.frac s)

theorem statusOnly_timeLoaded (s : State) : StatusOnly (setNow ((getF 0 .TIME_SET_SEC_LO s + getF 0 .TIME_SET_SEC_HI s * 2 ^ 32)
    * 1000000000 + getF 0 .TIME_SET_NS s) 0 s) (timeLoaded s) :=
  ((statusOnly_setAll ..).trans (statusOnly_sticky ..)).trans (statusOnly_cmdEnd ..)

theorem getF_timeLoaded_step (s : State) : getF 0 .TIME_STEP (timeLoaded s) = getF 0 .TIME_STEP s := by
  rw [timeLoaded, getF_cmdEnd_off (by decide), getF_sticky_off (by decide), getF_setAll_other _ _ (by decide),
    getF_setNow]

theorem advanceTime_set {s : State} (runs : s.clk.timeRun = true) (set : getF 0 .TIME_SET s = 1)
    (step : getF 0 .TIME_STEP s ≠ 1) : advanceTime s = timeLoaded s := by
  have setRuns : cmdRuns 0 .TIME_SET s = true := beq_iff_eq.mpr set
  have stepRests : cmdRuns 0 .TIME_STEP (timeLoaded s) = false := by
    rw [cmdRuns, isSet, getF_timeLoaded_step]
    exact beq_false_of_ne step
  rw [timeLoaded] at stepRests ⊢
  simp only [advanceTime, runs, setRuns, stepRests, Bool.not_true, Bool.false_eq_true, if_false, if_true]

theorem advanceTime_step {s : State} (runs : s.clk.timeRun = true) (set : getF 0 .TIME_SET s ≠ 1)
    (step : getF 0 .TIME_STEP s = 1) : advanceTime s = timeStepped (setNow (nowNs s + 8) s.frac s) := by
  have setRests : cmdRuns 0 .TIME_SET s = false := beq_false_of_ne set
  have stepRuns : cmdRuns 0 .TIME_STEP (setNow (nowNs s + 8) s.frac s) = true := by
    rw [cmdRuns, isSet, getF_setNow]
    exact beq_iff_eq.mpr step
  rw [timeStepped]
  simp only [advanceTime, runs, setRests, stepRuns, Bool.not_true, Bool.false_eq_true, if_false, if_true]

/-- A number of nanoseconds within the range of the seconds is what device time reads once it is set to it. -/
theorem nowNs_setNow {ns : Nat} (h : ns < 2 ^ 48 * 1000000000) (fr : Nat) (s : State) : nowNs (setNow ns fr s) = ns := by
  unfold nowNs setNow
  dsimp only
  omega

/-- SET runs: the next ROOT period loads device time and ends it. -/
theorem step_loads {s : State} (empty : s.pending = []) (quiet : Quiet s) (runs : s.clk.timeRun = true)
    (set : getF 0 .TIME_SET s = 1) (rests : getF 0 .TIME_STEP s ≠ 1) (range : getF 0 .TIME_SET_NS s ≤ 999999999) :
    ∃ t, step s = .next t ∧
      t.secs = (getF 0 .TIME_SET_SEC_LO s + getF 0 .TIME_SET_SEC_HI s * 2 ^ 32) % 2 ^ 48 ∧
      t.nanos = getF 0 .TIME_SET_NS s ∧ t.frac = 0 ∧ getF 0 .TIME_TIME_VALID t = 1 ∧ getF 0 .TIME_TIME_SRC t = 0 ∧
      StsSet .TIME_TIME_SET 0 t ∧ Ended 0 .TIME_SET ocDone t := by
  have status := statusOnly_timeLoaded s
  obtain ⟨secs, nanos, frac⟩ := status.sameTime
  have loaded := idle_advanced (s := s) (by
    rw [advanceTime_set runs set rests]
    exact quiet_of_statusOnly status (quiet_setNow quiet _ _))
  rw [advanceTime_set runs set rests] at loaded
  obtain ⟨⟨secs', nanos', frac'⟩, fields⟩ := loaded
  refine ⟨_, step_nil empty, ?_, ?_, frac'.trans frac, ?_, ?_, ?_, ?_, ?_⟩
  · rw [secs', secs]
    unfold setNow
    dsimp only
    omega
  · rw [nanos', nanos]
    unfold setNow
    dsimp only
    omega
  · rw [fields, timeLoaded, getF_cmdEnd_off (by decide), getF_sticky_off (by decide), setAll_cons,
      getF_setAll_other _ _ (by decide), getF_setF_same]
    rfl
  · rw [fields, timeLoaded, getF_cmdEnd_off (by decide), getF_sticky_off (by decide), setAll_cons, setAll_cons]
    exact (getF_setF_same ..).trans rfl
  · rw [StsSet, fields, timeLoaded, getF_cmdEnd_off (by decide)]
    exact stsSet_sticky (by decide) (away_of_page (by decide) (by decide)).offStatus _
  · rw [fields]
    exact (ended_cmdEnd 0 .TIME_SET (by decide) _).1
  · rw [fields]
    exact (ended_cmdEnd 0 .TIME_SET (by decide) _).2

/-- STEP runs: the next ROOT period moves device time by the signed nanoseconds and ends it. -/
theorem step_steps {s : State} {d : Int} (empty : s.pending = []) (quiet : Quiet s) (runs : s.clk.timeRun = true)
    (amount : d = signedOf 32 (getF 0 .TIME_STEP_NS s)) (step : getF 0 .TIME_STEP s = 1) (rests : getF 0 .TIME_SET s ≠ 1)
    (low : 0 ≤ (nowNs s : Int) + 8 + d) (high : (nowNs s : Int) + 8 + d < 2 ^ 48 * 1000000000)
    (next : nowNs s + 8 < 2 ^ 48 * 1000000000) :
    ∃ t, Machine.step s = .next t ∧ (nowNs t : Int) = nowNs s + 8 + d ∧ t.frac = s.frac % 2 ^ 16 ∧
      Ended 0 .TIME_STEP ocDone t := by
  have advanced := advanceTime_step runs rests step
  have ticked := nowNs_setNow next s.frac s
  have amount' : signedOf 32 (getF 0 .TIME_STEP_NS (setNow (nowNs s + 8) s.frac s)) = d := by rw [getF_setNow, amount]
  have frac : (setNow (nowNs s + 8) s.frac s).frac = s.frac % 2 ^ 16 := by rw [setNow]
  have quiet' := quiet_setNow quiet (nowNs s + 8) s.frac
  generalize setNow (nowNs s + 8) s.frac s = a at *
  have status : StatusOnly (setNow ((nowNs a : Int) + d).toNat a.frac a) (timeStepped a) := by
    rw [timeStepped, amount']
    exact statusOnly_cmdEnd ..
  have moved := idle_advanced (s := s) (by
    rw [advanced]
    exact quiet_of_statusOnly status (quiet_setNow quiet' _ _))
  rw [advanced] at moved
  obtain ⟨same, fields⟩ := moved
  refine ⟨_, step_nil empty, ?_, ?_, ?_⟩
  · rw [(status.sameTime.trans same).nowNs, nowNs_setNow (by omega)]
    omega
  · obtain ⟨-, -, frac'⟩ := status.sameTime.trans same
    rw [frac', setNow, frac]
    exact Nat.mod_mod _ _
  · have ended := ended_cmdEnd 0 .TIME_STEP (oc := ocDone) (by decide)
      (setNow ((nowNs a : Int) + signedOf 32 (getF 0 .TIME_STEP_NS a)).toNat a.frac a)
    exact ⟨(fields ..).trans ended.1, (fields ..).trans ended.2⟩

/-! ### SET and STEP written (R100) -/

theorem statusOnly_startTimeCmd (f : Fld) (s : State) : StatusOnly s (startTimeCmd f s) := by
  unfold startTimeCmd
  split
  · exact (statusOnly_cmdStart ..).trans (statusOnly_cmdEnd ..)
  · exact statusOnly_cmdStart ..

/-- An accepted command of device time: it runs, or a TIMESET of the same cycle ends it. -/
theorem startTimeCmd_spec {f : Fld} (width : f.width = 1) (s : State) :
    (s.clk.timesetAt ≠ some s.cycles → Runs 0 f (startTimeCmd f s)) ∧
      (s.clk.timesetAt = some s.cycles → Ended 0 f ocAborted (startTimeCmd f s)) := by
  refine ⟨fun other => ?_, fun same => ?_⟩
  · rw [startTimeCmd, if_neg other]
    exact runs_cmdStart 0 f width s
  · rw [startTimeCmd, if_pos same]
    exact ended_cmdEnd 0 f (by decide) _

/-- What an accepted command of device time leaves once it is answered. -/
theorem startTimeCmd_answered {f : Fld} {src : Src} {s t : State} (width : f.width = 1)
    (h : Answered (startTimeCmd f (consumeFrame src s)) t) :
    nowNs t = nowNs s ∧ t.frac = s.frac ∧ (s.clk.timesetAt ≠ some s.cycles → Runs 0 f t) ∧
      (s.clk.timesetAt = some s.cycles → Ended 0 f ocAborted t) := by
  obtain ⟨before, clk, cycles⟩ := time_consumeFrame src s
  have same := (before.trans (statusOnly_startTimeCmd f _).sameTime).trans h.sameTime
  obtain ⟨-, -, frac⟩ := id same
  obtain ⟨runs, ends⟩ := startTimeCmd_spec width (consumeFrame src s)
  rw [clk, cycles] at runs ends
  exact ⟨same.nowNs, frac, fun other => h.runs (runs other), fun met => h.ended (ends met)⟩

theorem setTime_starts {w : Acc} {s : State} (h : Starts w 0 .TIME_SET s) (range : getF 0 .TIME_SET_NS s ≤ 999999999) :
    Completes (.setTime w) s fun t =>
      nowNs t = nowNs s ∧ t.frac = s.frac ∧ (s.clk.timesetAt ≠ some s.cycles → Runs 0 .TIME_SET t) ∧
        (s.clk.timesetAt = some s.cycles → Ended 0 .TIME_SET ocAborted t) := by
  have accepted : startSet (consumeFrame w.src s) = startTimeCmd .TIME_SET (consumeFrame w.src s) :=
    if_neg (by rw [getF_time_consumeFrame rfl (by decide)]; omega)
  have own : startOwnCmd w.mtag.toNat 0 .TIME_SET (extOf s) (consumeFrame w.src s) =
      startTimeCmd .TIME_SET (consumeFrame w.src s) := accepted
  have started := regAccess_started (extOf s) (by decide +kernel) (by decide) h
    (own ▸ quiet_of_statusOnly (statusOnly_startTimeCmd ..) h.1.quiet)
  rw [own] at started
  exact ⟨_, rfl, startTimeCmd_answered rfl started⟩

theorem setTime_rejects {w : Acc} {s : State} (h : Starts w 0 .TIME_SET s) (range : 999999999 < getF 0 .TIME_SET_NS s) :
    Completes (.setTime w) s fun t => nowNs t = nowNs s ∧ t.frac = s.frac ∧ Ended 0 .TIME_SET ocRejected t := by
  have own : startOwnCmd w.mtag.toNat 0 .TIME_SET (extOf s) (consumeFrame w.src s) =
      cmdEnd 0 .TIME_SET ocRejected (consumeFrame w.src s) :=
    if_pos (by rwa [getF_time_consumeFrame rfl (by decide)])
  have started := regAccess_started (extOf s) (by decide +kernel) (by decide) h
    (own ▸ quiet_of_statusOnly (statusOnly_cmdEnd ..) h.1.quiet)
  rw [own] at started
  obtain ⟨before, -⟩ := time_consumeFrame w.src s
  have same := (before.trans (statusOnly_cmdEnd 0 .TIME_SET ocRejected _).sameTime).trans started.sameTime
  obtain ⟨-, -, frac⟩ := id same
  exact ⟨_, rfl, same.nowNs, frac, started.ended (ended_cmdEnd 0 .TIME_SET (by decide) _)⟩

theorem stepTime_starts {w : Acc} {s : State} {d : Int} (amount : d = signedOf 32 (getF 0 .TIME_STEP_NS s))
    (h : Starts w 0 .TIME_STEP s) (range : d.natAbs < 1000000000) (low : 0 ≤ (nowNs s : Int) + d) :
    Completes (.stepTime w) s fun t =>
      nowNs t = nowNs s ∧ t.frac = s.frac ∧ (s.clk.timesetAt ≠ some s.cycles → Runs 0 .TIME_STEP t) ∧
        (s.clk.timesetAt = some s.cycles → Ended 0 .TIME_STEP ocAborted t) := by
  obtain ⟨before, -⟩ := time_consumeFrame w.src s
  have accepted : startStep (consumeFrame w.src s) = startTimeCmd .TIME_STEP (consumeFrame w.src s) := by
    refine if_neg ?_
    rw [getF_time_consumeFrame rfl (by decide), before.nowNs, ← amount]
    omega
  have own : startOwnCmd w.mtag.toNat 0 .TIME_STEP (extOf s) (consumeFrame w.src s) =
      startTimeCmd .TIME_STEP (consumeFrame w.src s) := accepted
  have started := regAccess_started (extOf s) (by decide +kernel) (by decide) h
    (own ▸ quiet_of_statusOnly (statusOnly_startTimeCmd ..) h.1.quiet)
  rw [own] at started
  exact ⟨_, rfl, startTimeCmd_answered rfl started⟩

/-! ### NOW_NS read (R101) -/

theorem fldsAt_nowNs : fldsAt .TIME 0x020 = [.TIME_NOW_NS] := by decide +kernel

/-- A read of NOW_NS answers the nanoseconds. -/
theorem viewWord_nowNs (m : Nat) (s : State) : viewWord m .TIME 0 0x020 s = s.nanos % 2 ^ 30 := by
  rw [viewWord, fldsAt_nowNs]
  change 0 + s.nanos % 2 ^ 30 * 2 ^ 0 = _
  omega

/-- A read of NOW_NS captures the seconds and the fraction for its master. -/
theorem caps_nowNs (m : Nat) (s : State) : (captureOn m .TIME 0 0x020 s).caps =
    mapPut (mapPut (mapPut s.caps (Fld.TIME_NOW_SEC_LO.key 0 * 16 + m) (s.secs % 2 ^ 32))
      (Fld.TIME_NOW_SEC_HI.key 0 * 16 + m) (s.secs / 2 ^ 32 % 2 ^ 16)) (Fld.TIME_NOW_FRAC.key 0 * 16 + m) s.frac := rfl

/-- Captures of two fields by one master lie apart. -/
theorem capture_ne {f g : Fld} {u : Nat} (h : g.key u ≠ f.key u) (m : Nat) : g.key u * 16 + m ≠ f.key u * 16 + m := by
  omega

theorem nowNsRead_captures {side : Side} {w : Acc} {s : State} (src : w.src = .chain side) (h : Reads w .TIME 0 0x020 s) :
    Completes (.nowNsRead w) s fun t =>
      t.sent = .chain side (respFrame s w.mtag.toNat w.tag.toNat opRead 0x9020 0 (s.nanos % 2 ^ 30)) ::
        (consumeFrame w.src s).sent ∧
      mapGet t.caps (Fld.TIME_NOW_SEC_LO.key 0 * 16 + w.mtag.toNat) = some (s.secs % 2 ^ 32) ∧
      mapGet t.caps (Fld.TIME_NOW_SEC_HI.key 0 * 16 + w.mtag.toNat) = some (s.secs / 2 ^ 32 % 2 ^ 16) ∧
      mapGet t.caps (Fld.TIME_NOW_FRAC.key 0 * 16 + w.mtag.toNat) = some s.frac ∧ nowNs t = nowNs s := by
  obtain ⟨reach, hq, -⟩ := id h
  obtain ⟨-, -, -, stays⟩ := consumeFrame_keeps w.src s
  obtain ⟨before, -⟩ := time_consumeFrame w.src s
  have acts : (consumeFrame w.src s).acting = true := by
    rw [acting_consumeFrame]
    rw [src, reaches, Bool.and_eq_true] at reach
    exact reach.1
  have addr := chainAddr_consumeFrame w.src s
  have done := readReg_word (m := w.mtag.toNat) (b := .TIME) (u := 0) (off := 0x020) rfl (by decide +kernel) (by decide)
    (consumeFrame w.src s)
  refine completes_mono (completes_read h rfl done (stays hq)) fun t ⟨reply, replied⟩ => ?_
  have captured : SameTime (consumeFrame w.src s) (captureOn w.mtag.toNat .TIME 0 0x020 (consumeFrame w.src s)) :=
    ⟨rfl, rfl, rfl⟩
  have same := (before.trans captured).trans replied.answered.sameTime
  obtain ⟨-, caps, -⟩ := replied.answered.captures
  obtain ⟨secs, nanos, frac⟩ := before
  refine ⟨?_, ?_, ?_, ?_, same.nowNs⟩
  · rw [reply, src, respond_chain (by exact src ▸ acts), viewWord_nowNs, ← src, nanos]
    rw [respFrame, respFrame, ← addr]
    rfl
  · rw [caps, caps_nowNs, mapGet_mapPut_other _ _ (capture_ne (by decide) _),
      mapGet_mapPut_other _ _ (capture_ne (by decide) _), mapGet_mapPut_same, secs]
  · rw [caps, caps_nowNs, mapGet_mapPut_other _ _ (capture_ne (by decide) _), mapGet_mapPut_same, secs]
  · rw [caps, caps_nowNs, mapGet_mapPut_same, frac]

/-- Settles O20. -/
theorem deviceTimeSetSteppedRead : Obligations.DeviceTimeSetSteppedRead :=
  ⟨fun _ empty quiet runs => ⟨step_loads empty quiet runs, fun _ => step_steps empty quiet runs⟩,
    fun _ _ => ⟨setTime_starts, setTime_rejects, fun _ => stepTime_starts, fun _ => nowNsRead_captures⟩⟩

end Sys2Proof.Machine
end

section
/-! CERTIFICATES. Table windows: capture, buffer, store, and the index that moves on (O19). -/

namespace Sys2Proof.Machine

/-! ### Maps -/

theorem mapPutAll_concat {α : Type} (m : NMap α) (l : List (Nat × α)) (k : Nat) (v : α) :
    mapPutAll m (l ++ [(k, v)]) = mapPut (mapPutAll m l) k v := by
  rw [mapPutAll, List.foldl_append]
  rfl

/-- The words of an entry end with the word written last. -/
theorem bufferedWords_succ (k e n data : Nat) (old : List Nat) (s : State) :
    ∃ front : List Nat, front.length = n ∧ bufferedWords k e (n + 1) data old s = front ++ [data] := by
  rw [bufferedWords, List.range_succ, List.map_append, List.map_singleton, if_pos rfl]
  exact ⟨_, by rw [List.length_map, List.length_range], rfl⟩

/-! ### Windows -/

/-- The data register of a window lies in the map beside the status words. -/
theorem window_place {b : Blk} {off : Nat} {shape : Nat × Nat} (h : winShape b off = some shape) :
    off < 4096 ∧ off ≠ 0x004 ∧ off ≠ 0x00C ∧ off ≠ 0x010 := by
  cases b <;> simp only [winShape, reduceCtorEq] at h <;> split_ifs at h <;> omega

theorem readReg_window {m : Nat} {b : Blk} {u off entries words : Nat} (h : winShape b off = some (entries, words)) (s : State) :
    readReg m b u off s = readWindow m b u off entries words s := by
  rw [readReg, h]

theorem writeReg_window {m : Nat} {b : Blk} {u off entries words data : Nat} (h : winShape b off = some (entries, words))
    (x : Ext) (s : State) : writeReg m b u off data x s = writeWindow m b u off entries words data s := by
  obtain ⟨-, sts, first, ign⟩ := window_place h
  rw [writeReg, if_neg sts, if_neg first, if_neg ign, h]

/-- What a chain frame that passes leaves of a window: its index, its buffers, its entries. -/
theorem window_consumeFrame (src : Src) (s : State) : (∀ m u f, getB m u f (consumeFrame src s) = getB m u f s) ∧
    (∀ p, (consumeFrame src s).port p = s.port p) := by
  obtain ⟨l, F, T, I, E, L, D, J, h⟩ := consumeFrame_form src s
  rw [h]
  exact ⟨fun _ _ _ => rfl, fun _ => rfl⟩

/-- A window's index advanced for a master. -/
def advanceIdx (m : Nat) (b : Blk) (u off entries words : Nat) (s : State) : State :=
  setB m u (winIdx b off) (nextIdx (getB m u (winIdx b off) s) entries words) s

theorem getB_advanceIdx (m : Nat) (b : Blk) (u off entries words : Nat) (s : State) :
    getB m u (winIdx b off) (advanceIdx m b u off entries words s) =
      nextIdx (getB m u (winIdx b off) s) entries words % 2 ^ 32 := getB_setB_same ..

/-- What a reply leaves of write buffers. -/
theorem Answered.wbuf {s t : State} (h : Answered s t) : t.wbuf = s.wbuf := by
  obtain ⟨l, P, rfl⟩ := h
  rfl

section
variable {m : Nat} {b : Blk} {u off entries words data : Nat} {s : State}

/-- A read of word 0 of an entry. -/
theorem readWindow_first (entry : bitsOf (getB m u (winIdx b off) s) 0 16 < entries)
    (word : bitsOf (getB m u (winIdx b off) s) 16 4 < words) (first : bitsOf (getB m u (winIdx b off) s) 16 4 = 0) :
    let e := bitsOf (getB m u (winIdx b off) s) 0 16
    readWindow m b u off entries words s = (0, (entryWords b u off e s).headD 0, advanceIdx m b u off entries words
      { s with wcap := mapPut s.wcap (winKey m b u off) (e, entryWords b u off e s) }) := by
  simp only [readWindow, if_neg (not_or.mpr ⟨Nat.not_le.mpr entry, Nat.not_le.mpr word⟩), if_pos first]
  rfl

/-- Buffered words are no index. -/
theorem getB_buffered (f : Fld) (B : NMap Nat) (s : State) : getB m u f { s with wbuf := B } = getB m u f s := rfl

/-- A write of a word before the last of its entry. -/
theorem writeWindow_buffers (entry : bitsOf (getB m u (winIdx b off) s) 0 16 < entries)
    (word : bitsOf (getB m u (winIdx b off) s) 16 4 + 1 < words) :
    let e := bitsOf (getB m u (winIdx b off) s) 0 16
    let i := bitsOf (getB m u (winIdx b off) s) 16 4
    let next := advanceIdx m b u off entries words s
    writeWindow m b u off entries words data s =
      (0, { next with wbuf := mapPut next.wbuf ((winKey m b u off * 65536 + e) * 16 + i) data }) := by
  simp only [writeWindow, if_neg (not_or.mpr ⟨Nat.not_le.mpr entry, Nat.not_le.mpr (Nat.lt_of_succ_lt word)⟩),
    if_pos (Nat.ne_of_lt word)]
  rfl

/-- The entry that a write of its last word stores, and whether a field of it was ignored. -/
def storeEntry (m : Nat) (b : Blk) (u off entries words data : Nat) (s : State) : Nat × State :=
  let idx := getB m u (winIdx b off) s
  let e := bitsOf idx 0 16
  let next := advanceIdx m b u off entries words s
  writeEntry b u off e (bufferedWords (winKey m b u off) e words data (entryWords b u off e next) next)
    { next with wbuf := next.wbuf.filter fun x => x.1 / 16 != winKey m b u off * 65536 + e }

/-- A write of the last word of an entry. -/
theorem writeWindow_last (entry : bitsOf (getB m u (winIdx b off) s) 0 16 < entries)
    (last : bitsOf (getB m u (winIdx b off) s) 16 4 + 1 = words) :
    let r := storeEntry m b u off entries words data s
    writeWindow m b u off entries words data s = endJudging b u off m (r.1 == 1) (r.1 == 2) r.2 := by
  simp only [writeWindow, if_neg (not_or.mpr ⟨Nat.not_le.mpr entry, Nat.not_le.mpr (Nat.lt_of_succ_le (Nat.le_of_eq last))⟩),
    if_neg (not_not.mpr last)]
  rfl

theorem writeEntry_oam (u e : Nat) (l : List Nat) (s : State) : writeEntry .OAM u 0x024 e l s =
    (0, modOam u (fun o => { o with txBuf := mapPutAll o.txBuf (l.zipIdx.map fun x => (16 * e + x.2, x.1)) }) s) := rfl

/-- A transmit buffer whose last word is written holds that word. -/
theorem txBuf_last (buf : NMap Nat) (e data : Nat) (front : List Nat) :
    mapGet (mapPutAll buf ((front ++ [data]).zipIdx.map fun x => (16 * e + x.2, x.1))) (16 * e + front.length) = some data := by
  rw [List.zipIdx_append, List.map_append, List.zipIdx_singleton, List.map_singleton, mapPutAll_concat, Nat.zero_add]
  exact mapGet_mapPut_same ..

/-- A write of the last word of an entry of the transmit buffer: the entry takes its words. -/
theorem writeWindow_stores (entry : bitsOf (getB m u (winIdx .OAM 0x024) s) 0 16 < entries)
    (last : bitsOf (getB m u (winIdx .OAM 0x024) s) 16 4 + 1 = words) :
    ∃ t, writeWindow m .OAM u 0x024 entries words data s = (0, t) ∧
      getB m u (winIdx .OAM 0x024) t = nextIdx (getB m u (winIdx .OAM 0x024) s) entries words % 2 ^ 32 ∧
      mapGet (t.port u).oam.txBuf (16 * bitsOf (getB m u (winIdx .OAM 0x024) s) 0 16 +
        bitsOf (getB m u (winIdx .OAM 0x024) s) 16 4) = some data ∧ (Quiet s → Quiet t) := by
  have write := writeWindow_last (data := data) entry last
  have advanced := getB_advanceIdx m .OAM u 0x024 entries words s
  have calm : Quiet s → Quiet (advanceIdx m .OAM u 0x024 entries words s) := id
  unfold storeEntry at write
  dsimp only at write
  generalize advanceIdx m .OAM u 0x024 entries words s = next at write advanced calm
  obtain ⟨front, length, word⟩ := bufferedWords_succ (winKey m .OAM u 0x024) (bitsOf (getB m u (winIdx .OAM 0x024) s) 0 16)
    (bitsOf (getB m u (winIdx .OAM 0x024) s) 16 4) data
    (entryWords .OAM u 0x024 (bitsOf (getB m u (winIdx .OAM 0x024) s) 0 16) next) next
  rw [last] at word
  rw [word, writeEntry_oam] at write
  refine ⟨_, write, advanced, ?_, fun quiet => quiet_modOam _ _ (calm quiet)⟩
  rw [modOam, port_modPort_same, ← length]
  exact txBuf_last ..

end

/-! ### Reads and writes of a window's data register (R97, R98) -/

section
variable {b : Blk} {u : Fin 8} {off entries words : Nat} {w : Acc} {s : State} (shape : winShape b off = some (entries, words))
include shape

theorem row_tableData (r : Acc) (s : State) :
    exec (.tableDataRead (BitVec.ofNat 24 (blkBase b u + off)) r) s = .next (regRead r (regAt b u off) s) ∧
      exec (.tableDataWrite (BitVec.ofNat 24 (blkBase b u + off)) r) s = .next (regWrite r (regAt b u off) s) := by
  obtain ⟨below, -⟩ := window_place shape
  rw [← regAt_address b u below]
  exact ⟨rfl, rfl⟩

theorem tableDataRead_first (h : Reads w b u off s)
    (entry : bitsOf (getB w.mtag.toNat u (winIdx b off) s) 0 16 < entries)
    (word : bitsOf (getB w.mtag.toNat u (winIdx b off) s) 16 4 < words)
    (first : bitsOf (getB w.mtag.toNat u (winIdx b off) s) 16 4 = 0) :
    let idx := getB w.mtag.toNat u (winIdx b off) s
    Completes (.tableDataRead (BitVec.ofNat 24 (blkBase b u + off)) w) s fun t =>
      getB w.mtag.toNat u (winIdx b off) t = nextIdx idx entries words % 2 ^ 32 ∧
        mapGet t.wcap (winKey w.mtag.toNat b u off) =
          some (bitsOf idx 0 16, entryWords b u off (bitsOf idx 0 16) (consumeFrame w.src s)) := by
  obtain ⟨-, hq, -⟩ := id h
  obtain ⟨-, -, -, stays⟩ := consumeFrame_keeps w.src s
  obtain ⟨banked, -⟩ := window_consumeFrame w.src s
  obtain ⟨row, -⟩ := row_tableData (u := u) shape w s
  rw [← banked] at entry word first ⊢
  have done := readReg_window shape (consumeFrame w.src s) ▸ readWindow_first entry word first
  refine completes_mono (completes_read h row done (stays hq)) fun t ⟨_, reply⟩ => ?_
  obtain ⟨-, -, wcap⟩ := reply.answered.captures
  refine ⟨(reply.answered.getB ..).trans (getB_advanceIdx ..), ?_⟩
  rw [wcap]
  exact mapGet_mapPut_same ..

theorem tableDataWrite_buffers (h : Writes w b u off s)
    (entry : bitsOf (getB w.mtag.toNat u (winIdx b off) s) 0 16 < entries)
    (word : bitsOf (getB w.mtag.toNat u (winIdx b off) s) 16 4 + 1 < words) :
    let idx := getB w.mtag.toNat u (winIdx b off) s
    Completes (.tableDataWrite (BitVec.ofNat 24 (blkBase b u + off)) w) s fun t =>
      getB w.mtag.toNat u (winIdx b off) t = nextIdx idx entries words % 2 ^ 32 ∧
        mapGet t.wbuf ((winKey w.mtag.toNat b u off * 65536 + bitsOf idx 0 16) * 16 + bitsOf idx 16 4) = some w.data.toNat ∧
        ∀ p, (t.port p).streams = (s.port p).streams ∧ (t.port p).oam = (s.port p).oam ∧ (t.port p).sig = (s.port p).sig := by
  obtain ⟨banked, ports⟩ := window_consumeFrame w.src s
  obtain ⟨-, row⟩ := row_tableData (u := u) shape w s
  rw [← banked] at entry word ⊢
  have done := (writeReg_window shape (extOf s) (consumeFrame w.src s)).trans
    (writeWindow_buffers (data := w.data.toNat) entry word)
  refine completes_mono (completes_write h row done h.quiet) fun t reply => ⟨?_, ?_, fun p => ?_⟩
  · rw [reply.answered.getB, getB_buffered, getB_advanceIdx]
  · rw [reply.answered.wbuf]
    exact mapGet_mapPut_same ..
  · have kept := ports p
    obtain ⟨ib, port⟩ := reply.port p
    rw [port, ← kept]
    exact ⟨rfl, rfl, rfl⟩

end

theorem tableDataWrite_stores {u : Fin 8} {entries words : Nat} {w : Acc} {s : State}
    (shape : winShape .OAM 0x024 = some (entries, words)) (h : Writes w .OAM u 0x024 s)
    (entry : bitsOf (getB w.mtag.toNat u (winIdx .OAM 0x024) s) 0 16 < entries)
    (last : bitsOf (getB w.mtag.toNat u (winIdx .OAM 0x024) s) 16 4 + 1 = words) :
    let idx := getB w.mtag.toNat u (winIdx .OAM 0x024) s
    Completes (.tableDataWrite (BitVec.ofNat 24 (blkBase .OAM u + 0x024)) w) s fun t =>
      getB w.mtag.toNat u (winIdx .OAM 0x024) t = nextIdx idx entries words % 2 ^ 32 ∧
        mapGet (t.port u).oam.txBuf (16 * bitsOf idx 0 16 + bitsOf idx 16 4) = some w.data.toNat := by
  obtain ⟨banked, -⟩ := window_consumeFrame w.src s
  obtain ⟨-, row⟩ := row_tableData (u := u) shape w s
  rw [← banked] at entry last ⊢
  obtain ⟨t, stored, idx, buffer, stays⟩ := writeWindow_stores (data := w.data.toNat) entry last
  have done := (writeReg_window shape (extOf s) (consumeFrame w.src s)).trans stored
  refine completes_mono (completes_write h row done (stays h.quiet)) fun v reply => ?_
  obtain ⟨ib, port⟩ := reply.port u
  refine ⟨(reply.answered.getB ..).trans idx, ?_⟩
  rw [port]
  exact buffer

/-- Settles O19. -/
theorem tableWindowsMoveTheirIndex : Obligations.TableWindowsMoveTheirIndex := by
  intro b u off entries words w s _ shape m t0 idx e i next entry word
  refine ⟨fun h first => tableDataRead_first shape h entry word first,
    fun h more => tableDataWrite_buffers shape h entry more, ?_⟩
  rintro h last rfl rfl
  exact tableDataWrite_stores shape h entry last

end Sys2Proof.Machine
end

section
/-! CERTIFICATES. Memory upsets scrubbed, corrected or given up; the rails of the supply (O58). -/

namespace Sys2Proof.Machine

/-! ### Copies of triplicated fields (R423) -/

/-- Copies that agree in `s` agree in `t`. -/
structure CopiesAgree (s t : State) : Prop where
  keeps : ∀ k, mapGet s.tmr k = none → mapGet t.tmr k = none

theorem copiesAgree_of_tmr {s t : State} (h : t.tmr = s.tmr) : CopiesAgree s t := ⟨fun _ agree => h ▸ agree⟩

theorem CopiesAgree.refl (s : State) : CopiesAgree s s := copiesAgree_of_tmr rfl

theorem CopiesAgree.trans {s t u : State} (h : CopiesAgree s t) (k : CopiesAgree t u) : CopiesAgree s u :=
  ⟨fun key agree => k.keeps key (h.keeps key agree)⟩

theorem copiesAgree_setF (u : Nat) (f : Fld) (v : Nat) (s : State) : CopiesAgree s (setF u f v s) := by
  refine ⟨fun k agree => ?_⟩
  rw [setF]
  dsimp only
  split
  · by_cases same : k = f.key u
    · rw [same, mapGet_mapDel_same]
    · rw [mapGet_mapDel_other _ same, agree]
  · exact agree

theorem copiesAgree_setAll (u : Nat) (l : List (Fld × Nat)) (s : State) : CopiesAgree s (setAll u l s) := by
  induction l generalizing s with
  | nil => exact .refl s
  | cons e l ih => exact (copiesAgree_setF u e.1 e.2 s).trans (ih _)

theorem copiesAgree_setStsBits (b : Blk) (u mask : Nat) (s : State) : CopiesAgree s (setStsBits b u mask s) :=
  (copiesAgree_setF ..).trans (copiesAgree_setF ..)

theorem copiesAgree_queueEvent (m : Nat) (b : Blk) (u : Nat) (s : State) : CopiesAgree s (queueEvent m b u s) := by
  unfold queueEvent
  split
  · exact .refl s
  · split
    · exact copiesAgree_of_tmr rfl
    · dsimp only
      split
      · refine ((copiesAgree_setStsBits .CHAIN 0 32 s).trans (copiesAgree_of_tmr ?_)).trans (copiesAgree_setStsBits ..)
        rfl
      · exact copiesAgree_setStsBits ..

theorem copiesAgree_irqUpdate (b : Blk) (u : Nat) (s : State) : CopiesAgree s (irqUpdate b u s) := by
  unfold irqUpdate
  split
  · split
    · exact .refl s
    · dsimp only
      split
      · refine (copiesAgree_of_tmr ?_).trans (copiesAgree_queueEvent ..)
        rfl
      · exact copiesAgree_of_tmr rfl
  · exact copiesAgree_of_tmr rfl

theorem copiesAgree_latchFirst (b : Blk) (u cls src detail inj : Nat) (s : State) :
    CopiesAgree s (latchFirst b u cls src detail inj s) := by
  unfold latchFirst
  dsimp only
  split
  · exact copiesAgree_setF ..
  · refine (copiesAgree_of_tmr ?_).trans (copiesAgree_setAll ..)
    rfl

theorem copiesAgree_correctedFault (b : Blk) (u src detail : Nat) (s : State) :
    CopiesAgree s (correctedFault b u src detail s) :=
  (((copiesAgree_setStsBits ..).trans (copiesAgree_latchFirst ..)).trans (copiesAgree_irqUpdate ..)).trans
    (copiesAgree_of_tmr rfl)

theorem copiesAgree_countBy (u : Nat) (f : Fld) (k : Nat) (s : State) : CopiesAgree s (countBy u f k s) := by
  unfold countBy
  dsimp only
  split
  · exact (copiesAgree_setF ..).trans (copiesAgree_correctedFault ..)
  · exact copiesAgree_setF ..

/-! ### A scrubbing pass (R423) -/

/-- What is done about copies that differ: they are counted and the field's address is shown. -/
theorem scrubField_cases (u : Nat) (f : Fld) (s : State) :
    scrubField u f s = s ∧ mapGet s.tmr (f.key u) = none ∨ scrubField u f s = setF u f (getF u f s) s ∨
      ∃ bad, scrubField u f s = correctedFault .TMRS 0 0x10 (f.addr u / 4096 % 256)
        (setAll 0 [(.TMRS_LAST_ADDR, f.addr u), (.TMRS_LAST_VALID, 1)]
          (countBy 0 .TMRS_CORRECTED bad (setF u f (getF u f s) s))) := by
  unfold scrubField
  split
  · exact .inl ⟨rfl, ‹_›⟩
  · dsimp only
    split
    · exact .inr (.inl rfl)
    · exact .inr (.inr ⟨_, rfl⟩)

theorem copiesAgree_scrubField (u : Nat) (f : Fld) (s : State) : CopiesAgree s (scrubField u f s) := by
  obtain ⟨rests, -⟩ | voted | ⟨bad, reported⟩ := scrubField_cases u f s
  · rw [rests]
    exact .refl s
  · rw [voted]
    exact copiesAgree_setF ..
  · rw [reported]
    exact (((copiesAgree_setF ..).trans (copiesAgree_countBy ..)).trans (copiesAgree_setAll ..)).trans
      (copiesAgree_correctedFault ..)

/-- A field scrubbed has three copies alike. -/
theorem scrubField_agrees {u : Nat} {f : Fld} (hf : f.tmr = true) (s : State) :
    mapGet (scrubField u f s).tmr (f.key u) = none := by
  have voted : mapGet (setF u f (getF u f s) s).tmr (f.key u) = none := by
    rw [setF]
    dsimp only
    rw [if_pos hf]
    exact mapGet_mapDel_same ..
  obtain ⟨rests, agree⟩ | voting | ⟨bad, reported⟩ := scrubField_cases u f s
  · rw [rests, agree]
  · rw [voting, voted]
  · rw [reported]
    exact (((copiesAgree_countBy ..).trans (copiesAgree_setAll ..)).trans (copiesAgree_correctedFault ..)).keeps _ voted

/-- Scrubbing a field counts no pass. -/
theorem getF_passes_scrubField {x : Blk × Nat} {f : Fld} (hx : x ∈ allBlks) (hf : f ∈ blkFlds x.1) (tmr : f.tmr = true)
    (s : State) : getF 0 .TMRS_PASSES (scrubField x.2 f s) = getF 0 .TMRS_PASSES s := by
  have apart : Fld.TMRS_PASSES.key 0 ≠ f.key x.2 := fun same => by
    obtain ⟨-, rfl⟩ := key_inj (x := (.TMRS, 0)) (by decide +kernel) hx (by decide +kernel) hf same
    exact absurd tmr (by decide)
  have off (b : Blk) (v : Nat) := Fld.offStatus_spec (g := .TMRS_PASSES) (by decide) 0 b v
  obtain ⟨rests, -⟩ | voting | ⟨bad, reported⟩ := scrubField_cases x.2 f s
  · rw [rests]
  · rw [voting, getF_setF_other _ _ apart]
  · rw [reported, getF_correctedFault (off _ _) (off _ _), setAll_cons,
      getF_setAll_other _ _ (by decide), getF_setF_other (f := .TMRS_LAST_ADDR) _ _ (by decide),
      getF_countBy (by decide) (off _ _) (off _ _), getF_setF_other _ _ apart]

/-- What one element of a list brings about, and none undoes, holds after all of them. -/
theorem forAll_reaches {α : Type} {P : State → Prop} {f : α → State → State} {x : α} (does : ∀ s, P (f x s))
    (keeps : ∀ y s, P s → P (f y s)) : ∀ {l : List α}, x ∈ l → ∀ s, P (forAll l f s)
  | y :: l, hx, s => by
    have rest : ∀ (l : List α) s, P s → P (forAll l f s) := fun l => by
      induction l with
      | nil => exact fun _ => id
      | cons y l ih => exact fun s h => ih _ (keeps y s h)
    rw [forAll_cons]
    rcases List.mem_cons.mp hx with rfl | hx
    · exact rest l _ (does s)
    · exact forAll_reaches does keeps hx _

/-- A pass over the triplicated fields of every block. -/
def scrubPass (s : State) : State :=
  if s.tmr.isEmpty then s else forAll allBlks (fun x => forAll ((blkFlds x.1).filter fun f => f.tmr) (scrubField x.2)) s

theorem scrubPass_agrees {b : Blk × Nat} {f : Fld} (hb : b ∈ allBlks) (hf : f ∈ blkFlds b.1) (tmr : f.tmr = true) (s : State) :
    mapGet (scrubPass s).tmr (f.key b.2) = none := by
  have block (x : Blk × Nat) (s : State) (h : mapGet s.tmr (f.key b.2) = none) :
      mapGet (forAll ((blkFlds x.1).filter fun f => f.tmr) (scrubField x.2) s).tmr (f.key b.2) = none := by
    generalize (blkFlds x.1).filter _ = l
    induction l generalizing s with
    | nil => exact h
    | cons g l ih => exact ih _ ((copiesAgree_scrubField x.2 g s).keeps _ h)
  unfold scrubPass
  split
  · next empty => rw [List.isEmpty_iff.mp empty, mapGet_nil]
  · refine forAll_reaches (P := fun s => mapGet s.tmr (f.key b.2) = none) (fun s => ?_) block hb s
    exact forAll_reaches (P := fun s => mapGet s.tmr (f.key b.2) = none) (scrubField_agrees tmr)
      (fun g s => (copiesAgree_scrubField b.2 g s).keeps _) (List.mem_filter.mpr ⟨hf, tmr⟩) s

theorem getF_passes_scrubPass (s : State) : getF 0 .TMRS_PASSES (scrubPass s) = getF 0 .TMRS_PASSES s := by
  unfold scrubPass
  split
  · rfl
  · exact getF_forAll _ s fun x hx t => getF_forAll _ t fun f hf r =>
      getF_passes_scrubField hx (List.mem_of_mem_filter hf) (List.mem_filter.mp hf).2 r

theorem tmrScrub_agrees {b : Blk × Nat} {f : Fld} {s : State} (hb : b ∈ allBlks) (hf : f ∈ blkFlds b.1) (tmr : f.tmr = true) :
    Completes .tmrScrub s fun t => mapGet t.tmr (f.key b.2) = none ∧ Counted 0 .TMRS_PASSES s t := by
  have counts := counted_count (f := .TMRS_PASSES) (u := 0) rfl (Fld.offStatus_spec (by decide) ..)
    (Fld.offStatus_spec (by decide) ..) (scrubPass s)
  rw [Counted, getF_passes_scrubPass] at counts
  have kept := copiesAgree_countBy 0 .TMRS_PASSES 1 (scrubPass s)
  exact ⟨count 0 .TMRS_PASSES (scrubPass s), rfl, kept.keeps _ (scrubPass_agrees hb hf tmr s), counts⟩

/-! ### PEAK_CLR (R267) -/

theorem getF_setAll_cons_same {u : Nat} {f : Fld} (v : Nat) {l : List (Fld × Nat)} (s : State)
    (h : ∀ e ∈ l, f.key u ≠ e.1.key u) : getF u f (setAll u ((f, v) :: l) s) = v % 2 ^ f.width := by
  rw [setAll_cons, getF_setAll_other _ _ h, getF_setF_same]

theorem startPeakClr_spec (n : Nat) (s : State) :
    getF n .LAYBY_PEAK_EVEN (startPeakClr n s) = usedSlots (2 * n) s % 2 ^ 14 ∧
      getF n .LAYBY_PEAK_ODD (startPeakClr n s) = usedSlots (2 * n + 1) s % 2 ^ 14 ∧
      Ended n .LAYBY_PEAK_CLR ocDone (startPeakClr n s) := by
  have word : ∀ f : Fld, f.blk = .LAYBY → f.off = 0x028 → f.lo < 32 →
      f.key n / 32 ≠ blkBase Blk.LAYBY n + Fld.LAYBY_PEAK_CLR.off := fun f blk off lo => by
    rw [key_div n lo, blk, off]
    change _ + 0x028 ≠ _ + 0x02C
    omega
  have apart : Fld.LAYBY_PEAK_EVEN.key n ≠ Fld.LAYBY_PEAK_ODD.key n := key_ne_of_place n rfl (by decide)
  unfold startPeakClr
  refine ⟨?_, ?_, ended_cmdEnd n _ (by decide) _⟩
  · rw [getF_cmdDone_off (word _ rfl rfl (by decide)) (by decide), getF_setAll_cons_same _ _ (by simpa using apart)]
    rfl
  · rw [getF_cmdDone_off (word _ rfl rfl (by decide)) (by decide), setAll_cons, getF_setAll_cons_same _ _ (by simp)]
    rfl

theorem peakClr_takes {n : Fin 4} {w : Acc} {s : State} (h : Starts w n .LAYBY_PEAK_CLR s) :
    Completes (.peakClr n w) s fun t =>
      getF n .LAYBY_PEAK_EVEN t = usedSlots (2 * n.val) s % 2 ^ 14 ∧
        getF n .LAYBY_PEAK_ODD t = usedSlots (2 * n.val + 1) s % 2 ^ 14 ∧ Ended n .LAYBY_PEAK_CLR ocDone t := by
  have used (p : Nat) : usedSlots p (consumeFrame w.src s) = usedSlots p s := by
    obtain ⟨-, ports⟩ := window_consumeFrame w.src s
    rw [usedSlots, usedSlots, ports]
  have status : StatusOnly (consumeFrame w.src s) (startPeakClr n (consumeFrame w.src s)) :=
    (statusOnly_setAll ..).trans (statusOnly_cmdDone ..)
  have started := regAccess_started (extOf s) (by decide +kernel) (by decide) h (quiet_of_statusOnly status h.1.quiet)
  obtain ⟨even, odd, ended⟩ := startPeakClr_spec n (consumeFrame w.src s)
  rw [used] at even odd
  exact ⟨_, rfl, (started.getF ..).trans even, (started.getF ..).trans odd, started.ended ended⟩

/-! ### Supply faults (R422) -/

/-- A system reset after a fatal fault: no Keeper, an episode has begun, and RSTC shows the block. -/
theorem systemReset_spec (s : State) :
    getF 0 .RSTC_FATAL_BLOCK (assertReset 6 2 s) = getF 0 .RSTC_FATAL_BLOCK s ∧ (assertReset 6 2 s).clk.episode = true ∧
      keeper (assertReset 6 2 s) = none := by
  obtain ⟨⟨keeper, -, episode, -⟩, -⟩ := gone_systemReset (bit := 6) (by decide) (s := s) (s' := s) rfl
  have kept : keptKeys.contains (Fld.RSTC_FATAL_BLOCK.key 0) = true := by decide +kernel
  refine ⟨?_, episode, keeper⟩
  change getF 0 _ (noteCause 6 2 (systemClear s)) = _
  rw [getF_noteCause (by decide) (by decide) (by decide) (by decide), getF_systemClear, if_pos kept,
    getF_unstageAll (by decide)]

theorem getF_fatalBlock_muteAll (on : Bool) (s : State) :
    getF 0 .RSTC_FATAL_BLOCK (muteAll on s) = getF 0 .RSTC_FATAL_BLOCK s := by
  have apart : ∀ p ∈ List.range 8, Fld.RSTC_FATAL_BLOCK.key 0 ≠ Fld.TXSH_MUTED.key p := by decide
  exact getF_forAll _ _ fun p hp t => getF_setF_other _ _ (apart p hp)

/-- A fault of the PWRC block that no field routes to a core reset takes the device through a system reset. -/
theorem fatalLadder_supply {src : Nat} (core : ∀ s, routedToCore .PWRC src s = false) (s : State) :
    getF 0 .RSTC_FATAL_BLOCK (fatalLadder .PWRC 0 src s) = blkBase .PWRC 0 ∧
      (fatalLadder .PWRC 0 src s).clk.episode = true ∧ keeper (fatalLadder .PWRC 0 src s) = none := by
  unfold fatalLadder
  dsimp only
  rw [core, if_neg Bool.false_ne_true]
  obtain ⟨block, rest⟩ := systemReset_spec
    (muteAll true (setAll 0 [(.RSTC_FATAL_BLOCK, blkBase .PWRC 0), (.RSTC_FATAL_VALID, 1)] (finishSave s)))
  rw [getF_fatalBlock_muteAll, getF_setAll_cons_same _ _ (by decide)] at block
  exact ⟨block, rest⟩

/-- A fatal source of PWRC that no field routes to a core reset. -/
theorem fatal_supply {src : Nat} (core : ∀ s, routedToCore .PWRC src s = false) (detail : Nat) (s : State) :
    getF 0 .RSTC_FATAL_BLOCK (fatal .PWRC 0 src detail s) = blkBase .PWRC 0 ∧
      (fatal .PWRC 0 src detail s).clk.episode = true ∧ keeper (fatal .PWRC 0 src detail s) = none := by
  rw [fatal]
  exact fatalLadder_supply core _

theorem routedToCore_core (s : State) : routedToCore .PWRC 0x10 s = false := rfl

theorem routedToCore_nvm (s : State) : routedToCore .PWRC 0x13 s = false := rfl

/-- The rails whose faults take the whole device down, outside the resets of power. -/
theorem exec_supplyFault {s : State} (calm : s.clk.episode = false) :
    exec (.supplyFault .core) s = .next (fatal .PWRC 0 0x10 0 s) ∧
      exec (.supplyFault .nvm) s = .next (fatal .PWRC 0 0x13 0 s) := by
  have held : ¬(s.clk.episode && (s.clk.asserted.contains 0 || s.clk.asserted.contains 1)) = true := by simp [calm]
  exact ⟨congrArg Host.Outcome.next (if_neg held), congrArg Host.Outcome.next (if_neg held)⟩

theorem supplyFault_resets {rail : Rail} {s : State} (rails : rail ∈ [Rail.core, .nvm]) (calm : s.clk.episode = false) :
    Completes (.supplyFault rail) s fun t =>
      getF 0 .RSTC_FATAL_BLOCK t = blkBase .PWRC 0 ∧ t.clk.episode = true ∧ keeper t = none := by
  obtain ⟨core, nvm⟩ := exec_supplyFault calm
  simp only [List.mem_cons, List.not_mem_nil, or_false] at rails
  rcases rails with rfl | rfl
  · exact ⟨_, core, fatal_supply routedToCore_core ..⟩
  · exact ⟨_, nvm, fatal_supply routedToCore_nvm ..⟩

/-! ### Corrected words of the lay-by (R266) -/

theorem getF_sts_latchFirst (b : Blk) (u cls src detail inj : Nat) (s : State) :
    getF u (.sts b) (latchFirst b u cls src detail inj s) = getF u (.sts b) s := by
  have apart : ∀ g : Fld, g.blk = b → g.off = 0x00C → (Fld.sts b).key u ≠ g.key u := fun g blk off => by
    refine key_ne_of_place u blk.symm ?_
    change 0x004 * 32 + 0 ≠ _
    rw [off]
    omega
  unfold latchFirst
  dsimp only
  split
  · exact getF_setF_other _ _ (apart (.firstOvf b) rfl rfl)
  · refine (getF_setAll_other _ _ fun e he => ?_).trans rfl
    simp only [List.mem_cons, List.not_mem_nil, or_false] at he
    rcases he with rfl | rfl | rfl | rfl | rfl | rfl | rfl <;> exact apart _ rfl rfl

/-- A corrected fault sets its bit of BLK_STS. -/
theorem bitOf_sts_correctedFault {b : Blk} {src i : Nat} (bit : faultBit b src = i) (hi : i < 24) (u detail : Nat) (s : State) :
    bitOf (getF u (.sts b) (correctedFault b u src detail s)) i = true := by
  refine bitOf_sts_irqUpdate hi ?_ b u
  rw [getF_sts_latchFirst]
  exact bitOf_sts_set hi (by rw [bit, Nat.testBit_two_pow_self]) s

/-- The lay-by of a pavilion detects faults while its domain is on. -/
theorem laybyDetects {n : Nat} {s : State} (hn : n < 4) (on : domainOn (10 + n) s = true) :
    (decide (blkUnits .LAYBY ≤ n) || !domainOn (blkDomain .LAYBY n) s) = false := by
  rw [Bool.or_eq_false_iff, decide_eq_false_iff_not, Bool.not_eq_false']
  exact ⟨Nat.not_le.mpr hn, on⟩

theorem detect_laybyCorrected {n : Nat} {s : State} (hn : n < 4) (on : domainOn (10 + n) s = true) (detail : Nat) :
    detect .LAYBY n 0x10 detail s = correctedFault .LAYBY n 0x10 detail (count n .LAYBY_ECC_CORR s) := by
  rw [detect, laybyDetects hn on, if_neg Bool.false_ne_true]
  rfl

theorem detect_laybyUncorrected {n : Nat} {s : State} (hn : n < 4) (on : domainOn (10 + n) s = true) (detail : Nat) :
    detect .LAYBY n 0x11 detail s = correctedFault .LAYBY n 0x11 detail (count n .LAYBY_ECC_UNCORR s) := by
  rw [detect, laybyDetects hn on, if_neg Bool.false_ne_true]
  rfl

/-- A mark on an element shows in PAV_WEAR and, through a fault, in CHAIN alone. -/
theorem getF_markElem {u : Nat} {g : Fld} {m : Mark} (wear : Away u g .PAV_WEAR m.pav) (chain : Away u g .CHAIN 0) (s : State) :
    getF u g (markElem m s) = getF u g s := by
  have shown : ∀ t, getF u g (showMarks m.pav t) = getF u g t := fun t => by
    refine getF_setAll_other _ _ fun e he => ?_
    simp only [List.mem_cons, List.not_mem_nil, or_false] at he
    rcases he with rfl | rfl | rfl | rfl
    · exact wear.key_ne (f := .PAV_WEAR_MARKED_ENG) (by decide)
    · exact wear.key_ne (f := .PAV_WEAR_MARKED_PIPE) (by decide)
    · exact wear.key_ne (f := .PAV_WEAR_MARKED_DEC) (by decide)
    · exact wear.key_ne (f := .PAV_WEAR_MARKED_ROWS) (by decide)
  unfold markElem
  split
  · rfl
  · rw [getF_correctedFault wear.offStatus chain.offStatus, shown, getF_modNvm]

theorem port_markElem (m : Mark) (s : State) (k : Nat) : (markElem m s).port k = s.port k := by
  unfold markElem
  split
  · rfl
  · rw [port_correctedFault]
    exact (statusOnly_setAll ..).port k

theorem noteRow_keeps (n bank row : Nat) (s : State) : (∀ k, (noteRow n bank row s).port k = s.port k) ∧
    ∀ u g, Away u g .PAV_WEAR n → Away u g .CHAIN 0 → getF u g (noteRow n bank row s) = getF u g s := by
  unfold noteRow
  dsimp only
  split
  · refine ⟨fun k => ?_, fun u g wear chain => ?_⟩
    · rw [port_markElem]
      rfl
    · rw [getF_markElem (by exact wear) chain, getF_modPav]
  · exact ⟨fun _ => rfl, fun _ _ _ _ => getF_modPav ..⟩

/-- A field of LAYBY lies away from PAV_WEAR and CHAIN. -/
theorem away_layby (n : Nat) {g : Fld} (blk : g.blk = .LAYBY) (place : g.off * 32 + g.lo < 32 * 4096) :
    Away n g .PAV_WEAR n ∧ Away n g .CHAIN 0 := by
  refine ⟨away_of_page place ?_, away_of_page place ?_⟩ <;> rw [blk, blkPage_pavilion rfl]
  · rw [blkPage_pavilion rfl]
    simp [blkPlace]
  · rw [show blkPage .CHAIN 0 = 2 from rfl]
    omega

theorem laybyEcc_corrected {p : Fin 8} {bank : Byte} {row : Nat} {node : Fin 16} {cls : Fin 8} {ms : BitVec 16} {s : State}
    (live : Live p s) (on : domainOn (10 + pavOf p) s = true) :
    Completes (.laybyEccError p true bank row false node cls ms) s fun t =>
      (t.port p).cws = (s.port p).cws ∧ bitOf (getF (pavOf p) (.sts .LAYBY) t) 0 = true ∧
        Counted (pavOf p) .LAYBY_ECC_CORR s t := by
  have hn : pavOf p < 4 := by
    have := p.isLt
    unfold pavOf
    omega
  have acts : exec (.laybyEccError p true bank row false node cls ms) s = .next (noteRow (pavOf p) bank.toNat row
      (correctedFault .LAYBY (pavOf p) 0x10 bank.toNat (count (pavOf p) .LAYBY_ECC_CORR s))) := by
    rw [← detect_laybyCorrected hn on]
    refine (congrArg Host.Outcome.next (portEvent_live live _)).trans (congrArg Host.Outcome.next ?_)
    dsimp only
    rw [on]
    rfl
  obtain ⟨ports, keeps⟩ := noteRow_keeps (pavOf p) bank.toNat row
    (correctedFault .LAYBY (pavOf p) 0x10 bank.toNat (count (pavOf p) .LAYBY_ECC_CORR s))
  obtain ⟨wear, chain⟩ := away_layby (pavOf p) (g := .sts .LAYBY) rfl (by decide)
  obtain ⟨wear', chain'⟩ := away_layby (pavOf p) (g := .LAYBY_ECC_CORR) rfl (by decide)
  have off (b : Blk) (v : Nat) := Fld.offStatus_spec (g := .LAYBY_ECC_CORR) (by decide) (pavOf p) b v
  refine ⟨_, acts, ?_, ?_, ?_⟩
  · rw [ports, port_correctedFault, count, port_countBy]
  · rw [keeps _ _ wear chain]
    exact bitOf_sts_correctedFault rfl (by decide) ..
  · rw [Counted, keeps _ _ wear' chain', getF_correctedFault (off _ _) (off _ _)]
    exact counted_count rfl (off _ _) (off _ _) s

/-! ### Codewords given up -/

/-- A register field, the transmit slots of a port and its queued notices. -/
def slotView (p u : Nat) (g : Fld) (s : State) : Nat × List TxCw × List Notice :=
  (getF u g s, (s.port p).cws, (s.port p).notices)

section
variable {p u : Nat} {g : Fld}

theorem slotView_of_statusOnly {s t : State} (h : StatusOnly s t) (hg : getF u g t = getF u g s) :
    slotView p u g t = slotView p u g s := by
  simp only [slotView, hg, h.port]

theorem slotView_modPort {f : Port → Port} (slots : ∀ x, ((f x).cws, (f x).notices) = (x.cws, x.notices)) (s : State) :
    slotView p u g (modPort p f s) = slotView p u g s := by
  simp only [slotView, getF_modPort, port_modPort_same, slots]

theorem slotView_emit (e : Emission) (s : State) : slotView p u g (emit e s) = slotView p u g s := rfl

theorem slotView_countBy {f : Fld} (h : Aside p u g) (hf : f.inLane) (k : Nat) (s : State) :
    slotView p u g (countBy p f k s) = slotView p u g s :=
  slotView_of_statusOnly (statusOnly_countBy p f k s) (getF_countBy_away (h.away hf).1 (h.away hf).2 h.chain k s)

theorem slotView_count {f : Fld} (h : Aside p u g) (hf : f.inLane) (s : State) :
    slotView p u g (count p f s) = slotView p u g s := slotView_countBy h hf 1 s

theorem slotView_pressure (h : Aside p u g) (v : Nat) (s : State) :
    slotView p u g (setF p .STREAM_PRESSURE v s) = slotView p u g s :=
  slotView_of_statusOnly (statusOnly_setF ..) (getF_setF_other _ _ (h.stream.key_ne (f := .STREAM_PRESSURE) (by decide)))

theorem slotView_sticky {k : Sticky} (hc : Away u g .CHAIN 0) (hk : Away u g k.blk p) (s : State) :
    slotView p u g (sticky k p s) = slotView p u g s :=
  slotView_of_statusOnly (statusOnly_sticky k p s) (getF_sticky hk.offStatus hc.offStatus s)

/-! Pressure of the classes -/

theorem slotView_sendFlow (h : Aside p u g) (ended : Nat) (pause : Bool) (s : State) :
    slotView p u g (sendFlow p ended pause s) = slotView p u g s := by
  unfold sendFlow
  split
  · rfl
  · split
    · exact (slotView_count h (by decide) _).trans (slotView_emit ..)
    · split
      · exact (slotView_count h (by decide) _).trans (slotView_emit ..)
      · rfl

theorem slotView_updPressure (h : Aside p u g) (c : Nat) (s : State) :
    slotView p u g (updPressure p c s) = slotView p u g s := by
  unfold updPressure
  dsimp only
  split
  · exact (slotView_sendFlow h ..).trans (slotView_pressure h ..)
  · split
    · exact (slotView_sendFlow h ..).trans (slotView_pressure h ..)
    · rfl

theorem slotView_updPressures (h : Aside p u g) (s : State) : slotView p u g (updPressures p s) = slotView p u g s := by
  unfold updPressures
  generalize List.range 8 = l
  induction l generalizing s with
  | nil => rfl
  | cons c l ih => exact (ih _).trans (slotView_updPressure h c s)

/-! Frames and streams -/

theorem slotView_modStream (i : Nat) (f : StreamEnt → StreamEnt) (s : State) :
    slotView p u g (modStream p i f s) = slotView p u g s := slotView_modPort (by intro; rfl) s

theorem slotView_countStream (h : Aside p u g) (i k n : Nat) (s : State) :
    slotView p u g (countStream p i k n s) = slotView p u g s := by
  unfold countStream
  dsimp only
  split
  · refine (slotView_of_statusOnly (statusOnly_correctedFault ..) ?_).trans (slotView_modStream ..)
    exact getF_correctedFault h.stream.offStatus h.chain.offStatus _ _ _
  · exact slotView_modStream ..

theorem slotView_expireTx (h : Aside p u g) (i n : Nat) (s : State) :
    slotView p u g (expireTx p i n s) = slotView p u g s := by
  unfold expireTx
  split
  · rfl
  · refine (slotView_sticky (k := .STREAM_EXPIRED) h.chain h.stream _).trans ((slotView_countBy h (by decide) _ _).trans ?_)
    exact (slotView_modPort (by intro; rfl) _).trans (slotView_countStream h ..)

theorem slotView_sweepFrames (i k : Nat) (s : State) : slotView p u g (sweepFrames p i k s) = slotView p u g s := by
  induction k generalizing s with
  | zero => rfl
  | succ k ih =>
    unfold sweepFrames
    split
    · split
      · refine (ih _).trans ?_
        split
        · exact slotView_modPort (by intro; rfl) s
        · exact (slotView_modStream ..).trans (slotView_modPort (by intro; rfl) s)
      · rfl
    · rfl

theorem slotView_settleCw (w : TxCw) (s : State) : slotView p u g (settleCw p w s) = slotView p u g s :=
  (slotView_sweepFrames ..).trans (slotView_modPort (by intro; rfl) s)

/-- A codeword given up leaves its slot, and its notice is queued while there is room. -/
theorem slotView_giveUp (h : Aside p u g) (laybyP : Away u g .LAYBY_P p) {w : TxCw} {s : State}
    (room : (s.port p).notices.length < 1024) :
    slotView p u g (giveUp p none w s) = (getF u g s,
      (s.port p).cws.filter (fun v => !(v.node == w.node && v.cls == w.cls && v.ms == w.ms)),
      (s.port p).notices ++ [⟨w.node, w.cls, w.stream, w.ms, none⟩]) := by
  unfold giveUp
  extract_lets lost marked told
  have before : slotView p u g (settleCw p w (expireTx p w.stream lost told)) = slotView p u g (dropCw p w s) :=
    (slotView_settleCw ..).trans ((slotView_expireTx h ..).trans ((slotView_sticky h.chain laybyP _).trans
      (slotView_modPort (by intro; rfl) _)))
  generalize settleCw p w (expireTx p w.stream lost told) = t at before
  simp only [slotView, dropCw, getF_modPort, port_modPort_same, Prod.mk.injEq] at before
  obtain ⟨field, cws, notices⟩ := before
  rw [queueNotice, if_pos (by rw [notices]; exact room), slotView, port_modPort_same, getF_modPort, field]
  dsimp only
  rw [cws, notices]

end

/-- The status of the lay-by lies aside of the maps of a port. -/
theorem aside_laybySts (p : Nat) :
    Aside p (pavOf p) (.sts .LAYBY) ∧ Away (pavOf p) (.sts .LAYBY) .LAYBY_P p := by
  have port (b : Blk) (hb : (blkPlace b).1 = .port) : Away (pavOf p) (.sts .LAYBY) b p := by
    refine away_of_page (by decide) ?_
    rw [blkPage_port hb, show blkPage (Fld.sts .LAYBY).blk (pavOf p) = (2 + pavOf p) * 0x100 + 3 from rfl, pavOf]
    omega
  obtain ⟨-, chain⟩ := away_layby (pavOf p) (g := .sts .LAYBY) rfl (by decide)
  exact ⟨⟨chain, port _ rfl, port _ rfl⟩, port _ rfl⟩

theorem laybyEcc_uncorrected {p : Fin 8} {bank : Byte} {row : Nat} {node : Fin 16} {cls : Fin 8} {ms : BitVec 16} {c : TxCw}
    {s : State} (live : Live p s) (on : domainOn (10 + pavOf p) s = true)
    (found : (s.port p).cws.find? (fun v => v.node == node.val && v.cls == cls.val && v.ms == ms.toNat) = some c)
    (room : (s.port p).notices.length < 1024) :
    Completes (.laybyEccError p false bank row false node cls ms) s fun t =>
      (∀ v ∈ (t.port p).cws, (v.node == node.val && v.cls == cls.val && v.ms == ms.toNat) = false) ∧
        bitOf (getF (pavOf p) (.sts .LAYBY) t) 1 = true ∧ ⟨node, cls, c.stream, ms.toNat, none⟩ ∈ (t.port p).notices := by
  have hn : pavOf p < 4 := by
    have := p.isLt
    unfold pavOf
    omega
  have ports : ∀ k, (correctedFault .LAYBY (pavOf p) 0x11 bank.toNat (count (pavOf p) .LAYBY_ECC_UNCORR s)).port k = s.port k :=
    fun k => by rw [port_correctedFault, count, port_countBy]
  have reported := bitOf_sts_correctedFault (b := .LAYBY) (src := 0x11) rfl (by decide) (pavOf p) bank.toNat
    (count (pavOf p) .LAYBY_ECC_UNCORR s)
  have acts : exec (.laybyEccError p false bank row false node cls ms) s = .next (loseSlot p false node cls ms.toNat
      (correctedFault .LAYBY (pavOf p) 0x11 bank.toNat (count (pavOf p) .LAYBY_ECC_UNCORR s))) := by
    rw [← detect_laybyUncorrected hn on]
    refine (congrArg Host.Outcome.next (portEvent_live live _)).trans (congrArg Host.Outcome.next ?_)
    dsimp only
    rw [on]
    rfl
  generalize correctedFault .LAYBY (pavOf p) 0x11 bank.toNat (count (pavOf p) .LAYBY_ECC_UNCORR s) = d at *
  rw [← ports p] at found room
  have lost : loseSlot p false node cls ms.toNat d = updPressures p (giveUp p none c d) := by
    rw [loseSlot, if_neg Bool.false_ne_true, found]
  have mine : c.node = node.val ∧ c.cls = cls.val ∧ c.ms = ms.toNat := by
    simpa [and_assoc] using List.find?_some found
  obtain ⟨aside, laybyP⟩ := aside_laybySts p
  have view := (slotView_updPressures aside _).trans (slotView_giveUp aside laybyP (w := c) room)
  rw [← lost] at view
  generalize loseSlot p false node cls ms.toNat d = t at acts view
  obtain ⟨hnode, hcls, hms⟩ := mine
  rw [hnode, hcls, hms] at view
  simp only [slotView, Prod.mk.injEq] at view
  obtain ⟨field, cws, notices⟩ := view
  refine ⟨t, acts, fun v hv => ?_, ?_, ?_⟩
  · rw [cws, List.mem_filter] at hv
    simpa only [Bool.not_eq_true'] using hv.2
  · rw [field]
    exact reported
  · rw [notices]
    exact List.mem_append_right _ (List.mem_singleton_self _)

/-- Settles O58. -/
theorem upsetsAreScrubbedAndReported : Obligations.UpsetsAreScrubbedAndReported :=
  fun _ _ _ _ _ _ _ _ _ _ _ _ => ⟨tmrScrub_agrees,
    fun live on => ⟨laybyEcc_corrected live on, laybyEcc_uncorrected live on⟩, peakClr_takes,
    fun _ rails calm => supplyFault_resets rails calm, rfl, rfl⟩

end Sys2Proof.Machine
end

section
/-! SUPPORT. What the departure of a port from its link's state leaves of its reflectometry (R158, R325): `diagView` holds the
fields of the port's DIAG block, the events of its latest run and a request to abort. -/

namespace Sys2Proof.Machine

/-! ### The view -/

/-- The fields of the DIAG block of a port, the events of its latest reflectometry run, and whether an abort is asked for. -/
def diagView (p : Nat) (s : State) : (Fld → Nat) × List (Nat × Nat × Int × Nat) × Bool :=
  (fun g => if g.blk = .DIAG ∧ g.inBlk then getF p g s else 0, (s.port p).watch.tdr, (s.port p).watch.tdrAbort)

/-- A field, with its OUTCOME and ABORT_LATE, of another block of the ports. -/
def Fld.offDiag (f : Fld) : Bool := portBlks.contains f.blk && f.blk != .DIAG && f.inBlk

theorem blkPage_ne_diag {b : Blk} (port : b ∈ portBlks) (other : b ≠ .DIAG) (p : Nat) : blkPage b p ≠ blkPage .DIAG p := by
  have numbers : ∀ b ∈ portBlks, b ≠ .DIAG → (blkPlace b).1 = .port ∧ (blkPlace b).2 ≠ (blkPlace .DIAG).2 := by decide
  obtain ⟨place, number⟩ := numbers b port other
  rw [blkPage_port place, blkPage_port rfl]
  omega

section
variable {p : Nat}

theorem getF_of_diagView {g : Fld} {s t : State} (blk : g.blk = .DIAG) (place : g.inBlk) (h : diagView p t = diagView p s) :
    getF p g t = getF p g s := by
  have fields := congrFun (congrArg (·.1) h) g
  simpa only [diagView, blk, place, and_self, if_true] using fields

theorem diagView_of_statusOnly {s t : State} (h : StatusOnly s t)
    (fields : ∀ g : Fld, g.blk = .DIAG → g.inBlk → getF p g t = getF p g s) : diagView p t = diagView p s := by
  have own : (fun g : Fld => if g.blk = .DIAG ∧ g.inBlk then getF p g t else 0) =
      fun g => if g.blk = .DIAG ∧ g.inBlk then getF p g s else 0 := by
    funext g
    split
    · next here => exact fields g here.1 here.2
    · rfl
  rw [diagView, own, h.port]
  rfl

theorem away_of_diag {g : Fld} (blk : g.blk = .DIAG) (place : g.inBlk) {b : Blk} (port : b ∈ portBlks) (other : b ≠ .DIAG) :
    Away p g b p := by
  refine away_of_page (Fld.inBlk.place place) ?_
  rw [blk]
  exact (blkPage_ne_diag port other p).symm

theorem away_chain_of_diag {g : Fld} (blk : g.blk = .DIAG) (place : g.inBlk) : Away p g .CHAIN 0 := by
  refine away_of_page (Fld.inBlk.place place) ?_
  rw [blk, blkPage_port rfl, show blkPage .CHAIN 0 = 2 from rfl]
  omega

theorem Fld.offDiag_spec {f : Fld} (h : f.offDiag) : f.blk ∈ portBlks ∧ f.blk ≠ .DIAG ∧ f.off * 32 + f.lo + 4 < 32 * 4096 := by
  simpa only [Fld.offDiag, Fld.inBlk, Bool.and_eq_true, List.contains_iff_mem, bne_iff_ne, ne_eq, decide_eq_true_eq,
    and_assoc] using h

/-- The keys of a field of another block, of its OUTCOME and of its ABORT_LATE, are none of DIAG. -/
theorem key_ne_of_diag {f g : Fld} (h : f.offDiag) (blk : g.blk = .DIAG) (place : g.inBlk) {d : Nat} (hd : d ≤ 4) :
    g.key p ≠ f.key p + d := by
  obtain ⟨port, other, small⟩ := f.offDiag_spec h
  have page := blkPage_ne_diag port other p
  have here := Fld.inBlk.place place
  rw [key_eq, key_eq, blk]
  omega

@[simp] theorem diagView_setF {f : Fld} (h : f.offDiag) (v : Nat) (s : State) : diagView p (setF p f v s) = diagView p s :=
  diagView_of_statusOnly (statusOnly_setF ..) fun _ blk place =>
    getF_setF_other _ _ (key_ne_of_diag h blk place (d := 0) (by omega))

@[simp] theorem diagView_setAll (l : List (Fld × Nat)) (s : State) (h : ∀ e ∈ l, e.1.offDiag) :
    diagView p (setAll p l s) = diagView p s :=
  diagView_of_statusOnly (statusOnly_setAll ..) fun _ blk place =>
    getF_setAll_other _ _ fun e he => key_ne_of_diag (h e he) blk place (d := 0) (by omega)

@[simp] theorem diagView_sticky {k : Sticky} (port : k.blk ∈ portBlks) (other : k.blk ≠ .DIAG) (s : State) :
    diagView p (sticky k p s) = diagView p s :=
  diagView_of_statusOnly (statusOnly_sticky ..) fun _ blk place =>
    getF_sticky (away_of_diag blk place port other).offStatus (away_chain_of_diag blk place).offStatus s

theorem diagView_correctedFault {b : Blk} (port : b ∈ portBlks) (other : b ≠ .DIAG) (src detail : Nat) (s : State) :
    diagView p (correctedFault b p src detail s) = diagView p s :=
  diagView_of_statusOnly (statusOnly_correctedFault ..) fun _ blk place =>
    getF_correctedFault (away_of_diag blk place port other).offStatus (away_chain_of_diag blk place).offStatus src detail s

@[simp] theorem diagView_countBy {f : Fld} (h : f.offDiag) (k : Nat) (s : State) :
    diagView p (countBy p f k s) = diagView p s := by
  obtain ⟨port, other, -⟩ := f.offDiag_spec h
  refine diagView_of_statusOnly (statusOnly_countBy ..) fun g blk place => ?_
  have apart : g.key p ≠ f.key p := key_ne_of_diag h blk place (d := 0) (by omega)
  exact getF_countBy apart (away_of_diag blk place port other).offStatus (away_chain_of_diag blk place).offStatus k s

@[simp] theorem diagView_count {f : Fld} (h : f.offDiag) (s : State) : diagView p (count p f s) = diagView p s :=
  diagView_countBy h 1 s

@[simp] theorem diagView_cmdEnd {f : Fld} (h : f.offDiag) (oc : Nat) (s : State) :
    diagView p (cmdEnd p f oc s) = diagView p s :=
  diagView_of_statusOnly (statusOnly_cmdEnd ..) fun _ blk place =>
    getF_cmdEnd_off (fun _ => key_ne_of_diag h blk place) oc s

@[simp] theorem diagView_cmdStop {f : Fld} (h : f.offDiag) (oc : Nat) (s : State) :
    diagView p (cmdStop p f oc s) = diagView p s := by
  have late (s : State) : diagView p (setF p f.abortLate 1 s) = diagView p s :=
    diagView_of_statusOnly (statusOnly_setF ..) fun _ blk place => getF_setF_other _ _ (by
      rw [key_abortLate]
      exact key_ne_of_diag h blk place (by omega))
  unfold cmdStop cmdDoneLate when
  split
  · rfl
  · split
    · split
      · rw [late, diagView_cmdEnd h]
      · exact diagView_cmdEnd h ..
    · exact diagView_cmdEnd h ..

@[simp] theorem diagView_ite (c : Prop) [Decidable c] (s t : State) :
    diagView p (if c then s else t) = if c then diagView p s else diagView p t := apply_ite (diagView p) c s t

@[simp] theorem diagView_when (c : Bool) (f : State → State) (s : State) :
    diagView p (when c f s) = if c then diagView p (f s) else diagView p s := apply_ite (diagView p) (c = true) (f s) s

@[simp] theorem diagView_forAll {α : Type} {f : α → State → State} (l : List α) (s : State)
    (h : ∀ x ∈ l, ∀ t, diagView p (f x t) = diagView p t) : diagView p (forAll l f s) = diagView p s := by
  induction l generalizing s with
  | nil => rfl
  | cons x l ih => exact (ih (f x s) fun y hy => h y (List.mem_cons_of_mem _ hy)).trans (h x List.mem_cons_self s)

theorem diagView_modPort {f : Port → Port} (h : ∀ x, ((f x).watch.tdr, (f x).watch.tdrAbort) = (x.watch.tdr, x.watch.tdrAbort))
    (s : State) : diagView p (modPort p f s) = diagView p s := by
  simp only [diagView, getF_modPort, port_modPort_same, h]

@[simp] theorem diagView_modLink (f : Link → Link) (s : State) : diagView p (modLink p f s) = diagView p s :=
  diagView_modPort (by intro; rfl) s

@[simp] theorem diagView_modSig (f : Signal → Signal) (s : State) : diagView p (modSig p f s) = diagView p s :=
  diagView_modPort (by intro; rfl) s

@[simp] theorem diagView_modRc (f : Rc → Rc) (s : State) : diagView p (modRc p f s) = diagView p s :=
  diagView_modPort (by intro; rfl) s

@[simp] theorem diagView_modOam (f : Oam → Oam) (s : State) : diagView p (modOam p f s) = diagView p s :=
  diagView_modPort (by intro; rfl) s

@[simp] theorem diagView_modStream (i : Nat) (f : StreamEnt → StreamEnt) (s : State) :
    diagView p (modStream p i f s) = diagView p s := diagView_modPort (by intro; rfl) s

@[simp] theorem diagView_emit (e : Emission) (s : State) : diagView p (emit e s) = diagView p s := rfl

/-! ### Frames admitted once a change of code rate is dropped -/

@[simp] theorem diagView_countStream (i k n : Nat) (s : State) : diagView p (countStream p i k n s) = diagView p s := by
  simp +decide only [countStream, diagView_ite, diagView_correctedFault, diagView_modStream, ite_self]

@[simp] theorem diagView_startFrame (c : Nat) (s : State) : diagView p (startFrame p c s) = diagView p s := by
  unfold startFrame
  split
  · split
    · rfl
    · exact (diagView_countStream ..).trans (diagView_modPort (by intro; rfl) s)
  · rfl

@[simp] theorem diagView_mapBytes (c n : Nat) (s : State) : diagView p (mapBytes p c n s) = diagView p s := by
  unfold mapBytes
  dsimp only
  split
  · split
    · exact (diagView_modPort (by intro; rfl) _).trans (diagView_startFrame ..)
    · exact diagView_startFrame ..
  · exact diagView_startFrame ..

@[simp] theorem diagView_mapClass (c k : Nat) (s : State) : diagView p (mapClass p c k s) = diagView p s := by
  induction k generalizing s with
  | zero => rfl
  | succ k ih =>
    unfold mapClass
    split
    · split
      · exact (ih _).trans (diagView_mapBytes ..)
      · rfl
    · rfl

@[simp] theorem diagView_sendFlow (ended : Nat) (pause : Bool) (s : State) :
    diagView p (sendFlow p ended pause s) = diagView p s := by
  simp +decide [sendFlow]

@[simp] theorem diagView_updPressure (c : Nat) (s : State) : diagView p (updPressure p c s) = diagView p s := by
  simp +decide [updPressure]

@[simp] theorem diagView_settleClasses (s : State) : diagView p (settleClasses p s) = diagView p s := by
  simp [settleClasses, settleClass]

/-! ### Departures from DIAG (R320) -/

@[simp] theorem diagView_setTable (t : Nat) (m : NMap ToneEntry) (s : State) :
    diagView p (setTable p t m s) = diagView p s := by
  simp +decide [setTable, noteTables]

/-- A port in DIAG whose run has ended has no link to leave, no standard link and no run to abort. -/
theorem dropLink_of_diag {s : State} (st : stOf p s = stDiag) (ended : getF p .DIAG_TDR_RUN s ≠ 1) :
    dropLink p s = newLink p (rcDrop p (oamDiscard p (dropSwitches p s))) := by
  have rests : cmdStop p .DIAG_TDR_RUN 3 s = s := if_pos (by simp [cmdRuns, isSet, ended])
  have run : when (stOf p s == stDiag) (cmdStop p .DIAG_TDR_RUN 3) s = s := by
    unfold when
    rw [rests, ite_self]
  have show_ : leaveShow p s = s := if_pos (by rw [inShow, st]; rfl)
  have compat : leaveCompat p s = s := if_neg (by rw [st]; decide)
  unfold dropLink
  dsimp only
  rw [run, show_, compat]

theorem diagView_dropLink {s : State} (st : stOf p s = stDiag) (ended : getF p .DIAG_TDR_RUN s ≠ 1) :
    diagView p (dropLink p s) = diagView p s := by
  rw [dropLink_of_diag st ended]
  simp +decide [newLink, rcDrop, oamDiscard, sendLost, dropSwitches]

@[simp] theorem diagView_enterSt (st : Nat) (s : State) : diagView p (enterSt p st s) = diagView p s := by
  simp +decide [enterSt, noteMuted, setSt]

theorem diagView_toLinkDown {s : State} (st : stOf p s = stDiag) (ended : getF p .DIAG_TDR_RUN s ≠ 1) :
    diagView p (toLinkDown p none s) = diagView p s := by
  rw [toLinkDown, diagView_enterSt, diagView_setAll _ _ (by decide), diagView_dropLink st ended]

theorem diagView_toDisabled {s : State} (st : stOf p s = stDiag) (ended : getF p .DIAG_TDR_RUN s ≠ 1) :
    diagView p (toDisabled p s) = diagView p s := by
  rw [toDisabled, inShow, st]
  simp +decide [abortLinkCmds, diagView_dropLink st ended, when]

theorem stOf_enterSt (st : Nat) (s : State) : stOf p (enterSt p st s) = st % 2 ^ Fld.PORT_CTL_STATE.width := by
  have muted : Fld.PORT_CTL_STATE.key p ≠ Fld.TXSH_MUTED.key p := by
    rw [key_eq, key_eq, blkPage_port rfl, blkPage_port rfl]
    simp [blkPlace, Fld.PORT_CTL_STATE, Fld.TXSH_MUTED]
    omega
  rw [enterSt, noteMuted, stOf, getF_setF_other _ _ muted, setSt, getF_setF_same]

theorem stOf_toLinkDown (s : State) : stOf p (toLinkDown p none s) = stLinkDown := stOf_enterSt ..

/-! ### The end of a run -/

theorem getF_state_cmdStop (oc : Nat) (s : State) : stOf p (cmdStop p .DIAG_TDR_RUN oc s) = stOf p s := by
  refine getF_cmdStop (by decide) ?_ oc s
  rw [key_div p (by decide), blkBase_eq_page, blkBase_eq_page, blkPage_port rfl, blkPage_port rfl]
  simp [blkPlace, Fld.PORT_CTL_STATE, Fld.DIAG_TDR_RUN]

/-- A run that ends takes the port out of DIAG, with its results as they stand. -/
theorem endTdr_spec {oc : Nat} {s : State} (st : stOf p s = stDiag) (runs : getF p .DIAG_TDR_RUN s = 1) (hoc : oc < 16) :
    diagView p (endTdr p oc s) = diagView p (cmdStop p .DIAG_TDR_RUN oc s) ∧ Ended p .DIAG_TDR_RUN oc (endTdr p oc s) ∧
      stOf p (endTdr p oc s) ≠ stDiag := by
  have ended := ended_cmdStop runs hoc
  have st' := (getF_state_cmdStop oc s).trans st
  have rests : getF p .DIAG_TDR_RUN (cmdStop p .DIAG_TDR_RUN oc s) ≠ 1 := by
    obtain ⟨zero, -⟩ := ended
    rw [zero]
    decide
  unfold endTdr
  generalize cmdStop p .DIAG_TDR_RUN oc s = t at *
  have left : diagView p (if getF p (.en .PORT_CTL) t = 1 then toLinkDown p none t else toDisabled p t) = diagView p t ∧
      stOf p (if getF p (.en .PORT_CTL) t = 1 then toLinkDown p none t else toDisabled p t) ≠ stDiag := by
    split
    · exact ⟨diagView_toLinkDown st' rests, by rw [stOf_toLinkDown]; decide⟩
    · exact ⟨diagView_toDisabled st' rests, by rw [stOf_toDisabled]; decide⟩
  dsimp only
  rw [if_neg (not_not.mpr st')]
  obtain ⟨view, away⟩ := left
  obtain ⟨zero, outcome⟩ := ended
  exact ⟨view, ⟨(getF_of_diagView rfl rfl view).trans zero, (getF_of_diagView rfl rfl view).trans outcome⟩, away⟩

end

end Sys2Proof.Machine
end

section
/-! SUPPORT. Survey profiles: what forming, averaging and comparing one leaves as it was (R327 to R330). -/

namespace Sys2Proof.Machine

/-! ### The comparison of a profile (R329) -/

/-- A field of a port that no comparison of a profile writes: none of the status words of SURVEY and CHAIN, no result of the
comparison, not the count of lost log entries. -/
structure Unjudged (p : Nat) (g : Fld) : Prop where
  survey : OffStatus p g .SURVEY p
  chain : OffStatus p g .CHAIN 0
  apart : ∀ f ∈ [Fld.SURVEY_METRIC, .SURVEY_LAST_BIN, .SURVEY_RUN, .SURVEY_SV_EVENTS], g.key p ≠ f.key p
  lodge : g.key p ≠ Fld.LODGE_LOG_OVF.key 0

/-- A field of a port's block lies in no word of the Lodge. -/
theorem key_ne_logOvf {g : Fld} (port : (blkPlace g.blk).1 = .port) (place : g.off * 32 + g.lo < 32 * 4096) (p : Nat) :
    g.key p ≠ Fld.LODGE_LOG_OVF.key 0 := by
  rw [key_eq, key_eq, blkPage_port port, show blkPage Fld.LODGE_LOG_OVF.blk 0 = 0x100 from rfl]
  have small : Fld.LODGE_LOG_OVF.off * 32 + Fld.LODGE_LOG_OVF.lo < 32 * 4096 := by decide
  omega

/-- The fields of SURVEY that a comparison does not write. -/
def Fld.unjudged (g : Fld) : Bool :=
  g.blk == .SURVEY && g.offStatus && [Fld.SURVEY_METRIC, .SURVEY_LAST_BIN, .SURVEY_RUN, .SURVEY_SV_EVENTS].all fun f =>
    g.off * 32 + g.lo != f.off * 32 + f.lo

theorem unjudged_of_survey {g : Fld} (h : g.unjudged) (p : Nat) : Unjudged p g := by
  simp only [Fld.unjudged, Bool.and_eq_true, beq_iff_eq, List.all_eq_true, bne_iff_ne, ne_eq] at h
  obtain ⟨⟨blk, off⟩, apart⟩ := h
  obtain ⟨lo, below, -⟩ := of_decide_eq_true off
  refine ⟨g.offStatus_spec off .., g.offStatus_spec off .., fun f hf => ?_, key_ne_logOvf (by rw [blk]; rfl) (by omega) p⟩
  have same : g.blk = f.blk := by
    rw [blk]
    simp only [List.mem_cons, List.not_mem_nil, or_false] at hf
    rcases hf with rfl | rfl | rfl | rfl <;> rfl
  exact key_ne_of_place p same (apart f hf)

/-- The fields of the other blocks of a port are not judged. -/
theorem unjudged_of_blk {g : Fld} (port : (blkPlace g.blk).1 = .port) (other : (blkPlace g.blk).2 ≠ (blkPlace .SURVEY).2)
    (place : g.off * 32 + g.lo < 32 * 4096) (p : Nat) : Unjudged p g ∧ Away p g .SURVEY p := by
  have survey : Away p g .SURVEY p := by
    refine away_of_page place ?_
    rw [blkPage_port port, blkPage_port rfl]
    omega
  have chain : Away p g .CHAIN 0 := by
    refine away_of_page place ?_
    rw [blkPage_port port, show blkPage .CHAIN 0 = 2 from rfl]
    omega
  refine ⟨⟨survey.offStatus, chain.offStatus, fun f hf => ?_, key_ne_logOvf port place p⟩, survey⟩
  have here : f.blk = .SURVEY ∧ f.off * 32 + f.lo < 32 * 4096 := by
    simp only [List.mem_cons, List.not_mem_nil, or_false] at hf
    rcases hf with rfl | rfl | rfl | rfl <;> decide
  obtain ⟨blk, small⟩ := here
  exact Away.key_ne (blk ▸ survey) small

/-- A field, and what a port keeps of its reflectometry and survey beside the comparison: the events of the latest run, a
request to abort it, the profile held, the profiles averaged, a request to abort the averaging. -/
def profileView (p : Nat) (g : Fld) (s : State) :
    Nat × List (Nat × Nat × Int × Nat) × Bool × Option (List Int) × List (List Int) × Bool :=
  let w := (s.port p).watch
  (getF p g s, w.tdr, w.tdrAbort, w.prof, w.acc, w.baseAbort)

section
variable {p : Nat} {g : Fld}

theorem profileView_of_statusOnly {s t : State} (h : StatusOnly s t) (hg : getF p g t = getF p g s) :
    profileView p g t = profileView p g s := by
  simp only [profileView, hg, h.port]

theorem profileView_sticky (h : Unjudged p g) {k : Sticky} (hk : k.blk = .SURVEY) (s : State) :
    profileView p g (sticky k p s) = profileView p g s :=
  profileView_of_statusOnly (statusOnly_sticky ..) (getF_sticky (hk ▸ h.survey) h.chain s)

theorem profileView_writeLog (h : Unjudged p g) (source bin : Nat) (mag : Int) (s : State) :
    profileView p g (writeLog p source bin mag s) = profileView p g s := by
  have counted : profileView p g (count p .SURVEY_SV_EVENTS s) = profileView p g s :=
    profileView_of_statusOnly (statusOnly_count ..) (getF_countBy (h.apart _ (by simp)) h.survey h.chain 1 s)
  have logged (l : NMap (List Nat)) (s : State) : profileView p g { s with log := l } = profileView p g s := rfl
  unfold writeLog
  extract_lets e n t
  split
  · exact (logged _ t).trans counted
  · refine (profileView_sticky h rfl _).trans ((profileView_of_statusOnly (statusOnly_setF ..) ?_).trans
      ((logged _ t).trans counted))
    exact getF_setF_other _ _ h.lodge

theorem profileView_judgeProfile (h : Unjudged p g) (source persist : Nat) (event : Bool) (now base : List Int) (s : State) :
    profileView p g (judgeProfile p source persist event now base s).2 = profileView p g s := by
  unfold judgeProfile
  extract_lets bins metric ties bin hit run w below results fire open_ judged
  have shown : profileView p g results = profileView p g s := by
    refine (profileView_of_statusOnly (statusOnly_setAll ..) (getF_setAll_other _ _ fun e he => ?_)).trans rfl
    simp only [List.mem_cons, List.not_mem_nil, or_false] at he
    rcases he with rfl | rfl | rfl <;> exact h.apart _ (by simp)
  have noted : profileView p g judged = profileView p g results := by
    simp only [judged, profileView, modWatch, getF_modPort, port_modPort_same]
  split
  · rfl
  · dsimp only
    split
    · exact (profileView_writeLog h ..).trans ((profileView_sticky h rfl _).trans (noted.trans shown))
    · exact noted.trans shown

end

/-! ### A profile formed (R328, R330) -/

/-- A profile held and counted. -/
def profileHeld (p source : Nat) (rho : List Int) (s : State) : State :=
  count p .SURVEY_PROFILES (setF p .SURVEY_CUR_SRC (if source = 1 then 1 else 0)
    (modWatch p (fun w => { w with prof := some ((List.range 256).map (rhoAt rho)) }) s))

/-- A profile given to the baseline being averaged. -/
def profileAveraged (p : Nat) (rho : List Int) (s : State) : State :=
  if !cmdRuns p .SURVEY_SV_BASE_SAVE s then s
  else if (s.port p).watch.baseAbort then cmdEnd p .SURVEY_SV_BASE_SAVE 3 (modWatch p (fun w => { w with acc := [] }) s)
  else if (s.port p).watch.acc.length < getF p .SURVEY_SV_AVG s then
    modWatch p (fun w => { w with acc := w.acc ++ [(List.range 256).map (rhoAt rho)] }) s
  else s

/-- A profile compared with the baseline. -/
def profileCompared (p source : Nat) (rho : List Int) (s : State) : State :=
  if getF p (.en .SURVEY) s ≠ 1 || getF p .SURVEY_BASE_VALID s ≠ 1 then s
  else if getF p .DIAG_VF s ≠ getF p .SURVEY_BASE_VF s then sticky .SURVEY_SV_VF_MISMATCH p s
  else (judgeProfile p source (getF p .SURVEY_SV_PERSIST s) true ((List.range 256).map (rhoAt rho))
    (mapGetD s.nvm.bases p []) s).2

theorem newProfile_eq (p source : Nat) (rho : List Int) (s : State) :
    newProfile p source rho s = profileCompared p source rho (profileAveraged p rho (profileHeld p source rho s)) := rfl

section
variable {p : Nat} {g : Fld}

theorem profileView_compared (h : Unjudged p g) (source : Nat) (rho : List Int) (s : State) :
    profileView p g (profileCompared p source rho s) = profileView p g s := by
  unfold profileCompared
  split
  · rfl
  · split
    · exact profileView_sticky h rfl s
    · exact profileView_judgeProfile h ..

/-- The word of SV_BASE_SAVE holds no other field of SURVEY. -/
theorem getF_averaged (h : g.key p / 32 ≠ blkBase .SURVEY p + 0x02C) (rho : List Int) (s : State) :
    getF p g (profileAveraged p rho s) = getF p g s := by
  unfold profileAveraged
  split
  · rfl
  · split
    · exact (getF_cmdEnd_off (key_ne_command (f := .SURVEY_SV_BASE_SAVE) h (by decide)) 3 _).trans (getF_modPort ..)
    · split
      · exact getF_modPort ..
      · rfl

theorem watch_averaged (rho : List Int) (s : State) :
    ((profileAveraged p rho s).port p).watch.prof = (s.port p).watch.prof ∧
      ((profileAveraged p rho s).port p).watch.tdr = (s.port p).watch.tdr ∧
      ((profileAveraged p rho s).port p).watch.tdrAbort = (s.port p).watch.tdrAbort := by
  unfold profileAveraged
  split
  · exact ⟨rfl, rfl, rfl⟩
  · split
    · rw [(statusOnly_cmdEnd ..).port, modWatch, port_modPort_same]
      exact ⟨rfl, rfl, rfl⟩
    · split
      · rw [modWatch, port_modPort_same]
        exact ⟨rfl, rfl, rfl⟩
      · exact ⟨rfl, rfl, rfl⟩

/-- A baseline of enough profiles takes no more. -/
theorem averaged_full {s : State} (going : (s.port p).watch.baseAbort = false)
    (enough : getF p .SURVEY_SV_AVG s ≤ (s.port p).watch.acc.length) (rho : List Int) : profileAveraged p rho s = s := by
  unfold profileAveraged
  rw [going, if_neg Bool.false_ne_true, if_neg (Nat.not_lt.mpr enough)]
  exact ite_self s

theorem getF_held (count : g.key p ≠ Fld.SURVEY_PROFILES.key p) (source : g.key p ≠ Fld.SURVEY_CUR_SRC.key p)
    (survey : OffStatus p g .SURVEY p) (chain : OffStatus p g .CHAIN 0) (src : Nat) (rho : List Int) (s : State) :
    getF p g (profileHeld p src rho s) = getF p g s :=
  (getF_countBy count survey chain 1 _).trans ((getF_setF_other _ _ source).trans (getF_modPort ..))

theorem port_held (src : Nat) (rho : List Int) (s : State) : ((profileHeld p src rho s).port p).watch =
    { (s.port p).watch with prof := some ((List.range 256).map (rhoAt rho)) } := by
  rw [profileHeld, (statusOnly_count ..).port, (statusOnly_setF ..).port, modWatch, port_modPort_same]

/-- A profile formed leaves the fields of a port's other blocks, the events of its latest run and a request to abort it. -/
theorem newProfile_keeps (port : (blkPlace g.blk).1 = .port) (other : (blkPlace g.blk).2 ≠ (blkPlace .SURVEY).2)
    (place : g.off * 32 + g.lo < 32 * 4096) (src : Nat) (rho : List Int) (s : State) :
    getF p g (newProfile p src rho s) = getF p g s ∧
      ((newProfile p src rho s).port p).watch.tdr = (s.port p).watch.tdr ∧
      ((newProfile p src rho s).port p).watch.tdrAbort = (s.port p).watch.tdrAbort := by
  obtain ⟨unjudged, away⟩ := unjudged_of_blk port other place p
  have view := profileView_compared unjudged src rho (profileAveraged p rho (profileHeld p src rho s))
  obtain ⟨-, tdr', abort'⟩ := watch_averaged (p := p) rho (profileHeld p src rho s)
  have word : g.key p / 32 ≠ blkBase .SURVEY p + 0x02C := by
    simp only [Away, keyPage] at away
    rw [blkBase_eq_page]
    omega
  simp only [profileView, Prod.mk.injEq] at view
  obtain ⟨field, tdr, abort, -⟩ := view
  rw [newProfile_eq, field, tdr, abort, tdr', abort', port_held, getF_averaged word]
  exact ⟨getF_held (away.key_ne (f := .SURVEY_PROFILES) (by decide)) (away.key_ne (f := .SURVEY_CUR_SRC) (by decide))
    unjudged.survey unjudged.chain .., rfl, rfl⟩

end

end Sys2Proof.Machine
end

section
/-! CERTIFICATES. Reflectometry runs, survey profiles and their baseline (O50). -/

namespace Sys2Proof.Machine

/-! ### The end of a run (R324, R325) -/

section
variable {p : Nat}

/-- The word of TDR_RUN holds no result of a run. -/
theorem getF_diag_cmdStop {g : Fld} (blk : g.blk = .DIAG) (lo : g.lo < 32) (off : g.off ≠ 0x020) (oc : Nat) (s : State) :
    getF p g (cmdStop p .DIAG_TDR_RUN oc s) = getF p g s := by
  refine getF_cmdStop (by decide) ?_ oc s
  rw [key_div p lo, blk]
  change blkBase .DIAG p + g.off ≠ blkBase .DIAG p + 0x020
  omega

theorem getF_diag_endTdr {g : Fld} {oc : Nat} {s : State} (st : stOf p s = stDiag) (runs : getF p .DIAG_TDR_RUN s = 1)
    (hoc : oc < 16) (blk : g.blk = .DIAG) (place : g.inBlk) (lo : g.lo < 32) (off : g.off ≠ 0x020) :
    getF p g (endTdr p oc s) = getF p g s := by
  obtain ⟨view, -⟩ := endTdr_spec st runs hoc
  rw [getF_of_diagView blk place view, getF_diag_cmdStop blk lo off]

theorem getF_state_of_diag {f : Fld} (blk : f.blk = .DIAG) (place : f.off * 32 + f.lo < 32 * 4096) (k : Nat) (s : State) :
    stOf p (countBy p f k s) = stOf p s := by
  have off (b : Blk) (v : Nat) := Fld.offStatus_spec (g := .PORT_CTL_STATE) (by decide) p b v
  have away : Away p .PORT_CTL_STATE f.blk p := by
    refine away_of_page (by decide) ?_
    rw [blk, blkPage_port rfl, blkPage_port rfl]
    simp [blkPlace, Fld.PORT_CTL_STATE]
  exact getF_countBy (away.key_ne place) (off _ _) (off _ _) k s

theorem unfitTdr_spec {s : State} (st : stOf p s = stDiag) (runs : getF p .DIAG_TDR_RUN s = 1) :
    Ended p .DIAG_TDR_RUN ocUnfit (unfitTdr p s) ∧ stOf p (unfitTdr p s) ≠ stDiag ∧ StsSet .DIAG_TDR_UNFIT p (unfitTdr p s) := by
  have off (b : Blk) (v : Nat) := Fld.offStatus_spec (g := .DIAG_TDR_RUN) (by decide) p b v
  have apart : Fld.DIAG_TDR_RUN.key p ≠ Fld.DIAG_TDR_UNFITS.key p := key_ne_of_place p rfl (by decide)
  have st' : stOf p (sticky .DIAG_TDR_UNFIT p (count p .DIAG_TDR_UNFITS s)) = stDiag :=
    (getF_sticky_off (by decide) _ _).trans ((getF_state_of_diag rfl (by decide) 1 s).trans st)
  have runs' : getF p .DIAG_TDR_RUN (sticky .DIAG_TDR_UNFIT p (count p .DIAG_TDR_UNFITS s)) = 1 :=
    (getF_sticky_off (by decide) _ _).trans ((getF_countBy apart (off _ _) (off _ _) 1 s).trans runs)
  have set := stsSet_sticky (k := .DIAG_TDR_UNFIT) (u := p) (by decide) (away_chain_of_diag rfl rfl).offStatus
    (count p .DIAG_TDR_UNFITS s)
  unfold unfitTdr
  obtain ⟨-, ended, away⟩ := endTdr_spec st' runs' (oc := 6) (by decide)
  refine ⟨ended, away, ?_⟩
  rw [StsSet, getF_diag_endTdr st' runs' (by decide) rfl rfl (by decide) (by decide)]
  exact set

/-- The events and the losses of a run shown, before it ends. -/
def tdrResults (p : Nat) (ev : List (Nat × Nat × Int × Nat)) (pre : NMap Nat) (s : State) : State :=
  let s := modWatch p (fun w => { w with tdr := ev, ilPre := pre }) { s with fresh := s.fresh + 8 }
  let s := setAll p [(.DIAG_TDR_EVENTS, ev.length), (.DIAG_TDR_VALID, 1)] s
  let s := when (ev.any fun e => e.2.1 ≤ 2) (sticky .DIAG_TDR_FAULT p) s
  sticky .DIAG_TDR_DONE p (count p .DIAG_TDR_RUNS s)

/-- What is done once the results of a run stand. -/
def tdrClosed (p : Nat) (rho : List Int) (s : State) : State :=
  let t := newProfile p 1 rho (endTdr p 2 s)
  when (t.port p).watch.tdrAbort (setF p Fld.DIAG_TDR_RUN.abortLate 1) t

theorem tdrEvents_length (s : State) (vf thr : Nat) (peaks : List Reflection) : (tdrEvents s vf thr peaks).length ≤ 8 := by
  rw [tdrEvents, List.length_map, List.length_zipIdx, List.length_take]
  exact Nat.min_le_left ..

theorem finishTdr_form (p : Nat) (peaks : List Reflection) (loss : List (Nat × Nat)) (s : State) :
    ∃ ev pre rho, ev.length ≤ 8 ∧ finishTdr p peaks loss s = tdrClosed p rho (tdrResults p ev pre s) := by
  unfold finishTdr
  extract_lets vf ev far pre
  refine ⟨ev, pre, tdrProfile vf peaks, tdrEvents_length .., ?_⟩
  unfold tdrClosed tdrResults
  dsimp only

theorem getF_when {u : Nat} {g : Fld} {f : State → State} {s : State} (c : Bool) (h : getF u g (f s) = getF u g s) :
    getF u g (when c f s) = getF u g s := by
  unfold when
  split
  · exact h
  · rfl

/-- The results of a run leave the fields of other words. -/
theorem getF_tdrResults {g : Fld} (off : g.offStatus = true) (events : g.key p ≠ Fld.DIAG_TDR_EVENTS.key p)
    (valid : g.key p ≠ Fld.DIAG_TDR_VALID.key p) (runs : g.key p ≠ Fld.DIAG_TDR_RUNS.key p) (ev : List (Nat × Nat × Int × Nat))
    (pre : NMap Nat) (s : State) : getF p g (tdrResults p ev pre s) = getF p g s := by
  unfold tdrResults
  extract_lets held shown fault
  rw [getF_sticky_off off, count, getF_countBy runs (g.offStatus_spec off ..) (g.offStatus_spec off ..),
    getF_when _ (getF_sticky_off off ..)]
  exact (getF_setF_other _ _ valid).trans ((getF_setF_other _ _ events).trans (getF_modPort ..))

theorem tdrResults_spec (ev : List (Nat × Nat × Int × Nat)) (pre : NMap Nat) (s : State) :
    getF p .DIAG_TDR_VALID (tdrResults p ev pre s) = 1 ∧ StsSet .DIAG_TDR_DONE p (tdrResults p ev pre s) ∧
      Counted p .DIAG_TDR_RUNS s (tdrResults p ev pre s) ∧ ((tdrResults p ev pre s).port p).watch.tdr = ev ∧
      ((tdrResults p ev pre s).port p).watch.tdrAbort = (s.port p).watch.tdrAbort := by
  have key (f g : Fld) (hb : g.blk = f.blk) (h : g.off * 32 + g.lo ≠ f.off * 32 + f.lo) : g.key p ≠ f.key p :=
    key_ne_of_place p hb h
  have offR (b : Blk) (v : Nat) := Fld.offStatus_spec (g := .DIAG_TDR_RUNS) (by decide) p b v
  have offV (b : Blk) (v : Nat) := Fld.offStatus_spec (g := .DIAG_TDR_VALID) (by decide) p b v
  unfold tdrResults
  extract_lets held shown fault
  have runs : getF p .DIAG_TDR_RUNS fault = getF p .DIAG_TDR_RUNS s := by
    refine (getF_when _ (getF_sticky_off (by decide) ..)).trans ?_
    exact (getF_setF_other _ _ (key .DIAG_TDR_VALID .DIAG_TDR_RUNS rfl (by decide))).trans
      ((getF_setF_other _ _ (key .DIAG_TDR_EVENTS .DIAG_TDR_RUNS rfl (by decide))).trans (getF_modPort ..))
  have valid : getF p .DIAG_TDR_VALID fault = 1 :=
    (getF_when _ (getF_sticky_off (by decide) ..)).trans (getF_setF_same ..)
  have watch : (fault.port p).watch = { (s.port p).watch with tdr := ev, ilPre := pre } := by
    have port : fault.port p = held.port p :=
      (port_when _ ((statusOnly_sticky ..).port p)).trans ((statusOnly_setAll ..).port p)
    rw [port]
    simp only [held, modWatch, port_modPort_same]
    rfl
  have counts := counted_count (f := .DIAG_TDR_RUNS) (u := p) rfl (offR _ _) (offR _ _) fault
  have kept : ((sticky .DIAG_TDR_DONE p (count p .DIAG_TDR_RUNS fault)).port p).watch = (fault.port p).watch :=
    congrArg Port.watch (((statusOnly_count ..).trans (statusOnly_sticky ..)).port p)
  rw [Counted, runs] at counts
  refine ⟨?_, stsSet_sticky (by decide) (away_chain_of_diag rfl rfl).offStatus _, ?_, ?_, ?_⟩
  · have apart := key .DIAG_TDR_RUNS .DIAG_TDR_VALID rfl (by decide)
    rw [getF_sticky_off (by decide), count, getF_countBy apart (offV _ _) (offV _ _), valid]
  · rw [Counted, getF_sticky_off (by decide), counts]
  · rw [kept, watch]
  · rw [kept, watch]

/-- A run with its results, done: the results stand, the port has left DIAG. -/
theorem tdrClosed_spec {s : State} (st : stOf p s = stDiag) (runs : getF p .DIAG_TDR_RUN s = 1) (rho : List Int) :
    Ended p .DIAG_TDR_RUN ocDone (tdrClosed p rho s) ∧
      (∀ g : Fld, g.blk = .DIAG → g.inBlk → g.lo < 32 → g.off ≠ 0x020 → getF p g (tdrClosed p rho s) = getF p g s) ∧
      ((tdrClosed p rho s).port p).watch.tdr = (s.port p).watch.tdr ∧
      ((s.port p).watch.tdrAbort = true → getF p Fld.DIAG_TDR_RUN.abortLate (tdrClosed p rho s) = 1) := by
  obtain ⟨view, ⟨zero, outcome⟩, -⟩ := endTdr_spec st runs (oc := 2) (by decide)
  have fields (g : Fld) (blk : g.blk = .DIAG) (place : g.inBlk) :
      getF p g (newProfile p 1 rho (endTdr p 2 s)) = getF p g (endTdr p 2 s) := by
    obtain ⟨kept, -⟩ := newProfile_keeps (p := p) (g := g) (by rw [blk]; rfl) (by rw [blk]; decide) (Fld.inBlk.place place) 1 rho
      (endTdr p 2 s)
    exact kept
  obtain ⟨-, tdr, abort⟩ := newProfile_keeps (p := p) (g := .DIAG_TDR_RUN) rfl (by decide) (by decide) 1 rho (endTdr p 2 s)
  have events : ((endTdr p 2 s).port p).watch.tdr = (s.port p).watch.tdr ∧
      ((endTdr p 2 s).port p).watch.tdrAbort = (s.port p).watch.tdrAbort := by
    simp only [diagView, (statusOnly_cmdStop ..).port, Prod.mk.injEq] at view
    exact view.2
  obtain ⟨tdr', abort'⟩ := events
  unfold tdrClosed
  dsimp only
  have results (g : Fld) (blk : g.blk = .DIAG) (place : g.inBlk) (lo : g.lo < 32) (off : g.off ≠ 0x020) :
      getF p g (newProfile p 1 rho (endTdr p 2 s)) = getF p g s :=
    (fields g blk place).trans (getF_diag_endTdr st runs (by decide) blk place lo off)
  have zero' := (fields .DIAG_TDR_RUN rfl rfl).trans zero
  have outcome' := (fields Fld.DIAG_TDR_RUN.outcome rfl rfl).trans outcome
  rw [tdr'] at tdr
  rw [abort'] at abort
  generalize newProfile p 1 rho (endTdr p 2 s) = t at *
  have late (g : Fld) (h : g.key p ≠ Fld.DIAG_TDR_RUN.abortLate.key p) :
      getF p g (when (t.port p).watch.tdrAbort (setF p Fld.DIAG_TDR_RUN.abortLate 1) t) = getF p g t :=
    getF_when _ (getF_setF_other _ _ h)
  refine ⟨⟨?_, ?_⟩, fun g blk place lo off => ?_, ?_, fun asked => ?_⟩
  · rw [late .DIAG_TDR_RUN (key_ne_of_place p rfl (by decide)), zero']
  · exact (late Fld.DIAG_TDR_RUN.outcome (key_ne_of_place p rfl (by decide))).trans outcome'
  · rw [late g (key_ne_of_off p blk lo (by decide) off), results g blk place lo off]
  · rw [port_when _ ((statusOnly_setF ..).port p), tdr]
  · rw [abort, asked]
    exact (getF_setF_same ..).trans rfl

end

/-! ### The silences of a run (R324) -/

section
variable {p : Fin 8} {peaks : List Reflection} {loss : List (Nat × Nat)} {s : State}

/-- The end of a silence of a run under way. -/
theorem endSilence_running (st : stOf p s = stDiag) (runs : getF p .DIAG_TDR_RUN s = 1) (power : Bool) :
    endSilence p power peaks loss s =
      if power then unfitTdr p s
      else if (s.port p).watch.sweeps ≤ 1 then finishTdr p peaks loss s
      else if (s.port p).watch.tdrAbort then endTdr p 3 s
      else sendChirp p (modWatch p (fun w => { w with sweeps := w.sweeps - 1 }) s) :=
  if_neg (by simp [st, cmdRuns, isSet, runs])

theorem completes_silence (live : Live p s) {power : Bool} {P : State → Prop} (h : P (endSilence p power peaks loss s)) :
    Completes (.tdrSilenceEnd p power peaks loss) s P := completes_portEvent rfl live h

theorem silence_unfit (live : Live p s) (st : stOf p s = stDiag) (runs : getF p .DIAG_TDR_RUN s = 1) :
    Completes (.tdrSilenceEnd p true peaks loss) s fun t => Ended p .DIAG_TDR_RUN ocUnfit t ∧ stOf p t ≠ stDiag := by
  obtain ⟨ended, away, -⟩ := unfitTdr_spec st runs
  refine completes_silence live ?_
  rw [endSilence_running st runs, if_pos rfl]
  exact ⟨ended, away⟩

theorem silence_aborted (live : Live p s) (st : stOf p s = stDiag) (runs : getF p .DIAG_TDR_RUN s = 1)
    (more : 1 < (s.port p).watch.sweeps) (asked : (s.port p).watch.tdrAbort = true) :
    Completes (.tdrSilenceEnd p false peaks loss) s fun t => Ended p .DIAG_TDR_RUN ocAborted t ∧ stOf p t ≠ stDiag := by
  obtain ⟨-, ended, away⟩ := endTdr_spec st runs (oc := 3) (by decide)
  refine completes_silence live ?_
  rw [endSilence_running st runs, if_neg Bool.false_ne_true, if_neg (Nat.not_le.mpr more), if_pos asked]
  exact ⟨ended, away⟩

/-- A chirp goes out on a line that is not muted. -/
theorem sendChirp_sent {p : Nat} {s : State} (unmuted : getF p .TXSH_MUTED s ≠ 1) :
    ∃ lo hi mask, sendChirp p s = { s with sent := .chirp p lo hi mask :: s.sent } := by
  have open_ : isSet p .TXSH_MUTED s = false := beq_false_of_ne unmuted
  rw [sendChirp, emitLine, open_]
  exact ⟨_, _, _, rfl⟩

theorem watch_modWatch (p : Nat) (f : Watch → Watch) (s : State) : ((modWatch p f s).port p).watch = f (s.port p).watch := by
  rw [modWatch, port_modPort_same]

theorem silence_next (live : Live p s) (st : stOf p s = stDiag) (runs : getF p .DIAG_TDR_RUN s = 1)
    (more : 1 < (s.port p).watch.sweeps) (going : (s.port p).watch.tdrAbort = false) (unmuted : getF p .TXSH_MUTED s ≠ 1) :
    Completes (.tdrSilenceEnd p false peaks loss) s fun t => (∃ lo hi mask, t.sent = .chirp p lo hi mask :: s.sent) ∧
      (t.port p).watch.sweeps + 1 = (s.port p).watch.sweeps ∧ t.fields = s.fields := by
  refine completes_silence live ?_
  obtain ⟨lo, hi, mask, sent⟩ := sendChirp_sent (p := p)
    (s := modWatch p (fun w => { w with sweeps := w.sweeps - 1 }) s) unmuted
  rw [endSilence_running st runs, if_neg Bool.false_ne_true, if_neg (Nat.not_le.mpr more),
    if_neg (by rw [going]; exact Bool.false_ne_true), sent]
  refine ⟨⟨lo, hi, mask, rfl⟩, ?_, rfl⟩
  have port := watch_modWatch p (fun w => { w with sweeps := w.sweeps - 1 }) s
  have left : (s.port p).watch.sweeps - 1 + 1 = (s.port p).watch.sweeps := Nat.sub_add_cancel (Nat.le_of_lt more)
  generalize modWatch p (fun w => { w with sweeps := w.sweeps - 1 }) s = t at port
  have sweeps : (t.port p).watch.sweeps = (s.port p).watch.sweeps - 1 := by rw [port]
  change (t.port p).watch.sweeps + 1 = _
  rw [sweeps, left]

theorem silence_done (live : Live p s) (st : stOf p s = stDiag) (runs : getF p .DIAG_TDR_RUN s = 1)
    (last : (s.port p).watch.sweeps ≤ 1) :
    Completes (.tdrSilenceEnd p false peaks loss) s fun t =>
      Ended p .DIAG_TDR_RUN ocDone t ∧ getF p .DIAG_TDR_VALID t = 1 ∧ StsSet .DIAG_TDR_DONE p t ∧
        Counted p .DIAG_TDR_RUNS s t ∧ (t.port p).watch.tdr.length ≤ 8 ∧
        ((s.port p).watch.tdrAbort = true → getF p Fld.DIAG_TDR_RUN.abortLate t = 1) := by
  obtain ⟨ev, pre, rho, length, form⟩ := finishTdr_form p peaks loss s
  obtain ⟨valid, set, counts, events, abort⟩ := tdrResults_spec (p := p) ev pre s
  have run : getF p .DIAG_TDR_RUN (tdrResults p ev pre s) = 1 := by
    have apart (f : Fld) (blk : f.blk = .DIAG) (off : f.off ≠ 0x020) (lo : f.lo < 32) : Fld.DIAG_TDR_RUN.key p ≠ f.key p :=
      key_ne_of_off p blk.symm (by decide) lo off.symm
    rw [getF_tdrResults (by decide) (apart _ rfl (by decide) (by decide)) (apart _ rfl (by decide) (by decide))
      (apart _ rfl (by decide) (by decide)), runs]
  have st' : stOf p (tdrResults p ev pre s) = stDiag := by
    have apart (f : Fld) (blk : f.blk = .DIAG) (place : f.off * 32 + f.lo < 32 * 4096) :
        Fld.PORT_CTL_STATE.key p ≠ f.key p := by
      rw [key_eq, key_eq, blk, blkPage_port rfl, blkPage_port rfl]
      simp only [blkPlace, Fld.PORT_CTL_STATE]
      omega
    exact (getF_tdrResults (by decide) (apart _ rfl (by decide)) (apart _ rfl (by decide)) (apart _ rfl (by decide)) ..).trans st
  obtain ⟨ended, results, tdr, late⟩ := tdrClosed_spec st' run rho
  refine completes_silence live ?_
  rw [endSilence_running st runs, if_neg Bool.false_ne_true, if_pos last, form]
  refine ⟨ended, ?_, ?_, ?_, ?_, fun asked => late (abort.trans asked)⟩
  · rw [results .DIAG_TDR_VALID rfl rfl (by decide) (by decide), valid]
  · rw [StsSet, results (.sts Sticky.DIAG_TDR_DONE.blk) rfl rfl (by decide) (by decide)]
    exact set
  · rw [Counted, results .DIAG_TDR_RUNS rfl rfl (by decide) (by decide)]
    exact counts
  · rw [tdr, events]
    exact length

end

/-! ### TDR_RUN written (R324) -/

/-- A command of a port that a write starts, away from a disable of its pavilion. -/
theorem completes_portStart {c : Instr} {w : Acc} {p : Nat} {f : Fld} {x : Ext} {s : State} (own : f.ownCommand = true)
    (h : StartsAt w p f s) (row : exec c s = .next (regAccess w opWrite (regAt f.blk p f.off) (.ext x) s))
    (quiet : Quiet (startOwnCmd w.mtag.toNat p f x (consumeFrame w.src s))) :
    Completes c s (Replied (startOwnCmd w.mtag.toNat p f x (consumeFrame w.src s))) := by
  obtain ⟨⟨writes, asks⟩, calm⟩ := h
  refine completes_write writes row ?_ quiet
  rw [writeReg_start (commands_of_ownCommand own) asks, startCmd_own own _ fun _ => ?_]
  rw [disableMeets_consumeFrame, calm]

theorem domainOn_consumeFrame {d : Nat} (h : d < 64) (src : Src) (s : State) :
    domainOn d (consumeFrame src s) = domainOn d s := by
  obtain ⟨fields, -⟩ := consumeFrame_keeps src s
  have place : (Fld.PWRC_ON d).off * 32 + (Fld.PWRC_ON d).lo < 32 * 4096 := by
    simp only [Fld.PWRC_ON]
    omega
  rw [domainOn, domainOn, isSet, isSet, fields 0 _ (away_of_page place ?_)]
  rw [show (Fld.PWRC_ON d).blk = .PWRC from rfl]
  decide

theorem pavEnabled_consumeFrame (p : Nat) (src : Src) (s : State) : pavEnabled p (consumeFrame src s) = pavEnabled p s := by
  obtain ⟨fields, pavs, -⟩ := consumeFrame_keeps src s
  have pav : (consumeFrame src s).pav (pavOf p) = s.pav (pavOf p) := by rw [State.pav, pavs, State.pav]
  rw [pavEnabled, pavEnabled, isSet, isSet, pav, fields _ _ (away_pavCtl _ rfl (by decide)),
    fields _ _ (away_pavCtl _ rfl (by decide))]

theorem mayTdr_consumeFrame {p : Nat} (hp : p < 8) (src : Src) (s : State) :
    mayTdr p (consumeFrame src s) = mayTdr p s := by
  have port (g : Fld) (hb : (blkPlace g.blk).1 = .port) (place : g.off * 32 + g.lo < 32 * 4096) :
      getF p g (consumeFrame src s) = getF p g s := getF_port_consumeFrame p hb place src s
  rw [mayTdr, mayTdr, lineMode, lineMode, stOf, stOf, domainOn_consumeFrame (by omega), domainOn_consumeFrame (by omega),
    pavEnabled_consumeFrame, port _ rfl (by decide), port _ rfl (by decide), port _ rfl (by decide), port _ rfl (by decide)]

section
variable {p : Nat} {s : State}

theorem not_diag_of_mayTdr (h : mayTdr p s = true) : stOf p s ≠ stDiag := by
  simp only [mayTdr, Bool.and_eq_true] at h
  intro st
  rw [st] at h
  exact absurd h.2 (by decide)

theorem statusOnly_enterSt (p st : Nat) (s : State) : StatusOnly s (enterSt p st s) :=
  (statusOnly_setF ..).trans (statusOnly_setF ..)

/-- A port that enters a state in which it sends is muted by its pavilion and by a substitution alone. -/
theorem unmuted_enterSt {st : Nat} (sends : quietState (st % 2 ^ Fld.PORT_CTL_STATE.width) = false) (clk : s.clk.muted = false)
    (link : (s.port p).link.waitSub = false) : getF p .TXSH_MUTED (enterSt p st s) = 0 := by
  have entered : stOf p (setSt p st s) = st % 2 ^ Fld.PORT_CTL_STATE.width := getF_setF_same ..
  have status := statusOnly_setF p .PORT_CTL_STATE st s
  obtain ⟨-, -, -, -, -, -, clk', -⟩ := status.frame
  rw [enterSt, noteMuted, getF_setF_same, entered, sends, setSt, clk', clk, status.port, link]
  rfl

/-- A run begun, before the port enters DIAG. -/
def tdrBegun (p : Nat) (s : State) : State :=
  modWatch p (fun w => { w with sweeps := getF p .DIAG_TDR_SWEEPS s, tdrVf := getF p .DIAG_VF s, tdrAbort := false })
    (cmdStart p .DIAG_TDR_RUN s)

theorem startTdr_may (may : mayTdr p s = true) : startTdr p s = enterSt p stDiag (tdrBegun p s) :=
  if_neg (by rw [may]; exact Bool.false_ne_true)

/-- TDR_RUN accepted: the port is in DIAG, its line unmuted where nothing else mutes it. -/
theorem startTdr_spec (may : mayTdr p s = true) :
    stOf p (startTdr p s) = stDiag ∧ Runs p .DIAG_TDR_RUN (startTdr p s) ∧
      ((startTdr p s).port p).watch.sweeps = getF p .DIAG_TDR_SWEEPS s ∧
      (s.clk.muted = false → (s.port p).link.waitSub = false → getF p .TXSH_MUTED (startTdr p s) = 0) := by
  have status := statusOnly_cmdStart p .DIAG_TDR_RUN s
  obtain ⟨one, running⟩ := runs_cmdStart p .DIAG_TDR_RUN rfl s
  obtain ⟨-, -, -, -, -, -, clk, -⟩ := status.frame
  have view := diagView_enterSt (p := p) stDiag (tdrBegun p s)
  have begun (g : Fld) : getF p g (tdrBegun p s) = getF p g (cmdStart p .DIAG_TDR_RUN s) := getF_modPort ..
  rw [startTdr_may may]
  refine ⟨stOf_enterSt .., ⟨?_, ?_⟩, ?_, fun muted sub => unmuted_enterSt (by decide) ?_ ?_⟩
  · rw [getF_of_diagView rfl rfl view, begun, one]
  · rw [getF_of_diagView rfl rfl view, begun, running]
  · rw [(statusOnly_enterSt ..).port, tdrBegun, watch_modWatch]
  · exact clk ▸ muted
  · rw [tdrBegun, modWatch, port_modPort_same, status.port, sub]

theorem quiet_startTdr (h : Quiet s) : Quiet (startTdr p s) := by
  by_cases may : mayTdr p s = true
  · rw [startTdr_may may]
    refine quiet_of_statusOnly (statusOnly_enterSt ..) (quiet_modPort (by intro; rfl) ?_)
    exact quiet_of_statusOnly (statusOnly_cmdStart ..) h
  · rw [startTdr, if_pos (by simp [may])]
    exact quiet_of_statusOnly (statusOnly_cmdEnd p .DIAG_TDR_RUN 4 s) h

theorem inband_toLinkDown (s : State) : inband p (toLinkDown p none s) = inband p s := by
  simp [toLinkDown, enterSt, noteMuted, setSt]

theorem inband_endTdr (oc : Nat) (s : State) : inband p (endTdr p oc s) = inband p s := by
  have stopped := inband_cmdStop p p .DIAG_TDR_RUN oc s
  unfold endTdr
  dsimp only
  split
  · exact stopped
  · split
    · exact (inband_toLinkDown _).trans stopped
    · exact (inband_toDisabled p _).trans stopped

theorem quiet_unfitTdr (h : Quiet s) : Quiet (unfitTdr p s) := by
  refine quiet_of_outside (outside_unfitTdr p s) ((inband_endTdr 6 _).trans ?_) h
  exact (inband_sticky ..).trans (inband_countBy ..)

/-- TDR_RUN begun by a write, with the two values that the spec leaves open used up. -/
def tdrStarted (p : Nat) (s : State) : State := startTdr p { s with fresh := s.fresh + 2 }

theorem tdrStarted_spec (may : mayTdr p s = true) :
    stOf p (tdrStarted p s) = stDiag ∧ Runs p .DIAG_TDR_RUN (tdrStarted p s) ∧
      ((tdrStarted p s).port p).watch.sweeps = getF p .DIAG_TDR_SWEEPS s ∧
      (s.clk.muted = false → (s.port p).link.waitSub = false → getF p .TXSH_MUTED (tdrStarted p s) = 0) :=
  startTdr_spec (s := { s with fresh := s.fresh + 2 }) may

theorem quiet_tdrStarted (h : Quiet s) : Quiet (tdrStarted p s) := quiet_startTdr (s := { s with fresh := s.fresh + 2 }) h

/-- What TDR_RUN starts, by the power that its first silence finds. -/
theorem startOwnCmd_tdr (m : Nat) (x : Ext) (may : mayTdr p s = true) :
    startOwnCmd m p .DIAG_TDR_RUN x s = firstChirp p x.power (tdrStarted p s) := by
  obtain ⟨entered, -⟩ := tdrStarted_spec may
  exact if_pos ⟨entered, not_diag_of_mayTdr may⟩

theorem startOwnCmd_tdr_rejected (m : Nat) (x : Ext) (may : mayTdr p s = false) :
    startOwnCmd m p .DIAG_TDR_RUN x s = cmdReject p .DIAG_TDR_RUN { s with fresh := s.fresh + 2 } ∧
      stOf p (cmdReject p .DIAG_TDR_RUN { s with fresh := s.fresh + 2 }) = stOf p s := by
  have rejected : startTdr p { s with fresh := s.fresh + 2 } = cmdReject p .DIAG_TDR_RUN { s with fresh := s.fresh + 2 } :=
    if_pos (by rw [show mayTdr p { s with fresh := s.fresh + 2 } = mayTdr p s from rfl, may]; rfl)
  have state : stOf p (cmdReject p .DIAG_TDR_RUN { s with fresh := s.fresh + 2 }) = stOf p s := by
    refine (getF_cmdEnd_off (key_ne_command ?_ (by decide)) 4 _).trans rfl
    rw [key_div p (by decide), blkBase_eq_page, blkBase_eq_page, blkPage_port rfl, blkPage_port rfl]
    simp [blkPlace, Fld.PORT_CTL_STATE, Fld.DIAG_TDR_RUN]
  refine ⟨?_, state⟩
  change (if stOf p (startTdr p { s with fresh := s.fresh + 2 }) = stDiag ∧ stOf p s ≠ stDiag then _ else _) = _
  rw [rejected, state, if_neg fun h => h.2 h.1]

end

section
variable {p : Fin 8} {w : Acc} {s : State}

theorem tdrRun_chirps (h : StartsAt w p .DIAG_TDR_RUN s) (may : mayTdr p s = true) (muted : s.clk.muted = false)
    (sub : (s.port p).link.waitSub = false) : Completes (.tdrRun p w false) s fun t =>
      stOf p t = stDiag ∧ Runs p .DIAG_TDR_RUN t ∧ (∃ lo hi mask, .chirp p.val lo hi mask ∈ t.sent) ∧
        (t.port p).watch.sweeps = getF p .DIAG_TDR_SWEEPS s := by
  have calm := h.1.1.quiet
  obtain ⟨-, clk, -⟩ := time_consumeFrame w.src s
  obtain ⟨-, ports⟩ := window_consumeFrame w.src s
  have asked := getF_port_consumeFrame p (g := .DIAG_TDR_SWEEPS) rfl (by decide) w.src s
  have may' : mayTdr p (consumeFrame w.src s) = true := (mayTdr_consumeFrame p.isLt ..).trans may
  have started := startOwnCmd_tdr w.mtag.toNat { extOf s with power := false } may'
  obtain ⟨st, runs, sweeps, open_⟩ := tdrStarted_spec may'
  have unmuted := open_ (clk ▸ muted) ((congrArg (·.link.waitSub) (ports p)).trans sub)
  have quiet := quiet_tdrStarted (p := p) calm
  have sweeps' := sweeps.trans asked
  generalize tdrStarted p (consumeFrame w.src s) = t at *
  obtain ⟨lo, hi, mask, sent⟩ := sendChirp_sent (p := p) (s := t) (by rw [unmuted]; decide)
  have began := started.trans sent
  refine completes_mono (completes_portStart (by decide +kernel) h rfl (by rw [began]; exact quiet)) fun v reply => ?_
  rw [began] at reply
  obtain ⟨ib, port⟩ := reply.port p
  refine ⟨(reply.getF ..).trans st, reply.answered.runs runs, ⟨lo, hi, mask, reply.sent _ List.mem_cons_self⟩, ?_⟩
  rw [port]
  exact sweeps'

theorem tdrRun_unfit (h : StartsAt w p .DIAG_TDR_RUN s) (may : mayTdr p s = true) :
    Completes (.tdrRun p w true) s fun t =>
      stOf p t ≠ stDiag ∧ Ended p .DIAG_TDR_RUN ocUnfit t ∧ StsSet .DIAG_TDR_UNFIT p t := by
  have calm := h.1.1.quiet
  have may' : mayTdr p (consumeFrame w.src s) = true := (mayTdr_consumeFrame p.isLt ..).trans may
  have started := startOwnCmd_tdr w.mtag.toNat { extOf s with power := true } may'
  obtain ⟨st, ⟨one, -⟩, -⟩ := tdrStarted_spec may'
  have quiet := quiet_tdrStarted (p := p) calm
  generalize tdrStarted p (consumeFrame w.src s) = t at *
  have began : startOwnCmd w.mtag.toNat p .DIAG_TDR_RUN { extOf s with power := true } (consumeFrame w.src s) = unfitTdr p t :=
    started
  obtain ⟨ended, away, set⟩ := unfitTdr_spec st one
  refine completes_mono (completes_portStart (by decide +kernel) h rfl (by rw [began]; exact quiet_unfitTdr quiet))
    fun v reply => ?_
  rw [began] at reply
  refine ⟨?_, reply.answered.ended ended, ?_⟩
  · rw [stOf, reply.getF]
    exact away
  · rw [StsSet, reply.getF]
    exact set

theorem tdrRun_rejected {power : Bool} (h : StartsAt w p .DIAG_TDR_RUN s) (may : mayTdr p s = false) :
    Completes (.tdrRun p w power) s fun t => stOf p t = stOf p s ∧ Ended p .DIAG_TDR_RUN ocRejected t := by
  have may' : mayTdr p (consumeFrame w.src s) = false := (mayTdr_consumeFrame p.isLt ..).trans may
  obtain ⟨started, state⟩ := startOwnCmd_tdr_rejected w.mtag.toNat { extOf s with power := power } may'
  have quiet : Quiet (cmdReject p .DIAG_TDR_RUN { consumeFrame w.src s with fresh := (consumeFrame w.src s).fresh + 2 }) :=
    quiet_of_statusOnly (statusOnly_cmdEnd p .DIAG_TDR_RUN 4 _) h.1.1.quiet
  refine completes_mono (completes_portStart (by decide +kernel) h rfl (by rw [started]; exact quiet)) fun v reply => ?_
  rw [started] at reply
  refine ⟨?_, reply.answered.ended (ended_cmdEnd p .DIAG_TDR_RUN (by decide) _)⟩
  rw [stOf, reply.getF]
  exact state.trans (getF_port_consumeFrame p rfl (by decide) w.src s)

end

end Sys2Proof.Machine
end

section
/-! CERTIFICATES. Survey profiles and the baseline (O50). -/

namespace Sys2Proof.Machine

/-! ### A profile formed in showtime (R327, R328) -/

section
variable {p : Nat} {s : State}

/-- A field of SURVEY in another word than SV_BASE_SAVE. -/
theorem word_ne_baseSave {g : Fld} (blk : g.blk = .SURVEY) (lo : g.lo < 32) (off : g.off ≠ 0x02C) (p : Nat) :
    g.key p / 32 ≠ blkBase .SURVEY p + 0x02C := by
  rw [key_div p lo, blk]
  omega

theorem newProfile_results (rho : List Int) (s : State) :
    ((newProfile p 0 rho s).port p).watch.prof = some ((List.range 256).map (rhoAt rho)) ∧
      Counted p .SURVEY_PROFILES s (newProfile p 0 rho s) ∧ getF p .SURVEY_CUR_SRC (newProfile p 0 rho s) = 0 := by
  have offP (b : Blk) (v : Nat) := Fld.offStatus_spec (g := .SURVEY_PROFILES) (by decide) p b v
  have offC (b : Blk) (v : Nat) := Fld.offStatus_spec (g := .SURVEY_CUR_SRC) (by decide) p b v
  have apart : Fld.SURVEY_PROFILES.key p ≠ Fld.SURVEY_CUR_SRC.key p := key_ne_of_place p rfl (by decide)
  have counted := counted_count (f := .SURVEY_PROFILES) (u := p) rfl (offP _ _) (offP _ _) (setF p .SURVEY_CUR_SRC 0
    (modWatch p (fun w => { w with prof := some ((List.range 256).map (rhoAt rho)) }) s))
  rw [Counted, getF_setF_other _ _ apart, getF_modWatch] at counted
  have source : getF p .SURVEY_CUR_SRC (profileHeld p 0 rho s) = 0 :=
    (getF_countBy apart.symm (offC _ _) (offC _ _) 1 _).trans (getF_setF_same ..)
  have held := port_held (p := p) 0 rho s
  have count : getF p .SURVEY_PROFILES (profileHeld p 0 rho s) = min (getF p .SURVEY_PROFILES s + 1) (2 ^ 48 - 1) := counted
  rw [newProfile_eq]
  generalize profileHeld p 0 rho s = t at *
  have view (g : Fld) (h : g.unjudged) := profileView_compared (unjudged_of_survey h p) 0 rho (profileAveraged p rho t)
  simp only [profileView, Prod.mk.injEq] at view
  obtain ⟨profiles, -, -, prof, -⟩ := view .SURVEY_PROFILES (by decide)
  obtain ⟨curSrc, -⟩ := view .SURVEY_CUR_SRC (by decide)
  obtain ⟨kept, -⟩ := watch_averaged (p := p) rho t
  refine ⟨by rw [prof, kept, held], ?_, ?_⟩
  · rw [Counted, profiles, getF_averaged (word_ne_baseSave rfl (by decide) (by decide) p), count]
  · rw [curSrc, getF_averaged (word_ne_baseSave rfl (by decide) (by decide) p), source]

end

theorem surveyProfile_kept {p : Fin 8} {rho : List Int} {s : State} (live : Live p s) (st : stOf p s = stShow)
    (adapts : (stepExp p 0 s).isSome = true) (due : (s.port p).watch.profAt ≠ some s.cycles) :
    Completes (.surveyProfile p rho) s fun t =>
      (t.port p).watch.prof = some ((List.range 256).map (rhoAt rho)) ∧ Counted p .SURVEY_PROFILES s t ∧
        getF p .SURVEY_CUR_SRC t = 0 := by
  refine completes_portEvent rfl live ?_
  rw [if_neg due, showProfile, if_pos (by simp [st, adapts])]
  exact newProfile_results rho s

/-! ### SV_BASE_SAVE written (R330) -/

section
variable {p : Fin 8} {w : Acc} {s : State}

theorem trunkShow_consumeFrame (p : Nat) (src : Src) (s : State) : trunkShow p (consumeFrame src s) = trunkShow p s := by
  rw [trunkShow, trunkShow, stOf, stOf, getF_port_consumeFrame p rfl (by decide)]

theorem svBaseSave_starts (h : StartsAt w p .SURVEY_SV_BASE_SAVE s) (show_ : trunkShow p s = true)
    (enabled : getF p (.en .SURVEY) s = 1) :
    Completes (.svBaseSave p w) s fun t => Runs p .SURVEY_SV_BASE_SAVE t ∧ (t.port p).watch.acc = [] := by
  have calm := h.1.1.quiet
  have show' := (trunkShow_consumeFrame p w.src s).trans show_
  have enabled' := (getF_port_consumeFrame p (g := .en .SURVEY) rfl (by decide) w.src s).trans enabled
  have started (m : Nat) (x : Ext) : startOwnCmd m p .SURVEY_SV_BASE_SAVE x (consumeFrame w.src s) =
      cmdStart p .SURVEY_SV_BASE_SAVE (modWatch p (fun w => { w with acc := [], baseAbort := false }) (consumeFrame w.src s)) :=
    if_neg (by simp [show', enabled'])
  refine completes_mono (completes_portStart (x := extOf s) (by decide +kernel) h rfl ?_) fun t reply => ?_
  · rw [started]
    exact quiet_of_statusOnly (statusOnly_cmdStart ..) (quiet_modPort (by intro; rfl) calm)
  · rw [started] at reply
    refine ⟨reply.answered.runs (runs_cmdStart _ _ rfl _), ?_⟩
    rw [reply.watch, (statusOnly_cmdStart ..).port, watch_modWatch]

theorem svBaseSave_rejected (h : StartsAt w p .SURVEY_SV_BASE_SAVE s) (show_ : trunkShow p s = false) :
    Completes (.svBaseSave p w) s fun t => Ended p .SURVEY_SV_BASE_SAVE ocRejected t ∧ (t.port p).watch = (s.port p).watch := by
  have show' := (trunkShow_consumeFrame p w.src s).trans show_
  have started (m : Nat) (x : Ext) : startOwnCmd m p .SURVEY_SV_BASE_SAVE x (consumeFrame w.src s) =
      cmdEnd p .SURVEY_SV_BASE_SAVE ocRejected (consumeFrame w.src s) :=
    if_pos (by simp [show'])
  obtain ⟨-, ports⟩ := window_consumeFrame w.src s
  refine completes_mono (completes_portStart (x := extOf s) (by decide +kernel) h rfl ?_) fun t reply => ?_
  · rw [started]
    exact quiet_of_statusOnly (statusOnly_cmdEnd ..) h.1.1.quiet
  · rw [started] at reply
    refine ⟨reply.answered.ended (ended_cmdEnd _ _ (by decide) _), ?_⟩
    rw [reply.watch, (statusOnly_cmdEnd ..).port, ports]

end

/-! ### A baseline completed (R330, R335) -/

/-- What the completion of a baseline reads is the same in both states: the command, the number of profiles asked for, the
generation and the profiles themselves. -/
structure SameBase (p : Nat) (s t : State) : Prop where
  runs : getF p .SURVEY_SV_BASE_SAVE t = getF p .SURVEY_SV_BASE_SAVE s
  asked : getF p .SURVEY_SV_AVG t = getF p .SURVEY_SV_AVG s
  gen : getF p .SURVEY_BASE_GEN t = getF p .SURVEY_BASE_GEN s
  acc : (t.port p).watch.acc = (s.port p).watch.acc

theorem SameBase.refl (p : Nat) (s : State) : SameBase p s s := ⟨rfl, rfl, rfl, rfl⟩

section
variable {p : Nat} {s : State}

theorem newProfile_full (going : (s.port p).watch.baseAbort = false)
    (enough : getF p .SURVEY_SV_AVG s ≤ (s.port p).watch.acc.length) (rho : List Int) : SameBase p s (newProfile p 0 rho s) := by
  have held (g : Fld) (h : g.unjudged) (blk : g.blk = .SURVEY)
      (profiles : g.off * 32 + g.lo ≠ 0x060 * 32) (source : g.off * 32 + g.lo ≠ 0x034 * 32 + 24) :
      getF p g (profileHeld p 0 rho s) = getF p g s := by
    obtain ⟨survey, chain, -⟩ := unjudged_of_survey h p
    exact getF_held (key_ne_of_place p blk profiles) (key_ne_of_place p blk source) survey chain 0 rho s
  have port := port_held (p := p) 0 rho s
  have full : profileAveraged p rho (profileHeld p 0 rho s) = profileHeld p 0 rho s := by
    refine averaged_full ?_ ?_ rho
    · rw [port]
      exact going
    · rw [port, held .SURVEY_SV_AVG (by decide) rfl (by decide) (by decide)]
      exact enough
  have view (g : Fld) (h : g.unjudged) := profileView_compared (unjudged_of_survey h p) 0 rho (profileHeld p 0 rho s)
  simp only [profileView, Prod.mk.injEq] at view
  obtain ⟨runs, -, -, -, acc, -⟩ := view .SURVEY_SV_BASE_SAVE (by decide)
  obtain ⟨asked, -⟩ := view .SURVEY_SV_AVG (by decide)
  obtain ⟨gen, -⟩ := view .SURVEY_BASE_GEN (by decide)
  rw [newProfile_eq, full]
  refine ⟨runs.trans (held _ (by decide) rfl (by decide) (by decide)),
    asked.trans (held _ (by decide) rfl (by decide) (by decide)), gen.trans (held _ (by decide) rfl (by decide) (by decide)), ?_⟩
  rw [acc, port]

/-- The profile of the same cycle, judged first, leaves a baseline that has its profiles. -/
theorem profileFirst_keeps {p : Fin 8} {s : State} (enough : getF p .SURVEY_SV_AVG s ≤ (s.port p).watch.acc.length)
    (going : (s.port p).watch.baseAbort = false ∨ ∀ r, s.pending.head? ≠ some (.surveyProfile p r)) :
    SameBase p s (profileFirst p s) := by
  unfold profileFirst
  split
  · next q rho rest pending =>
    split
    · next same =>
      have other : (s.port p).watch.baseAbort = false := by
        refine going.resolve_right fun none => none rho ?_
        rw [pending, List.head?_cons, Fin.ext same]
      have formed : SameBase p s (showProfile p rho s) := by
        unfold showProfile
        split
        · exact newProfile_full other enough rho
        · exact .refl p s
      obtain ⟨runs, asked, gen, acc⟩ := formed
      refine ⟨(getF_modPort ..).trans runs, (getF_modPort ..).trans asked, (getF_modPort ..).trans gen, ?_⟩
      rw [watch_modWatch]
      exact acc
    · exact .refl p s
  · exact .refl p s

/-! The baseline stored -/

theorem bitOf_sts_correctedFault_keeps {b : Blk} {u i : Nat} (hi : i < 24) {s : State}
    (h : bitOf (getF u (.sts b) s) i = true) (src detail : Nat) :
    bitOf (getF u (.sts b) (correctedFault b u src detail s)) i = true := by
  refine bitOf_sts_irqUpdate hi ?_ b u
  rw [getF_sts_latchFirst]
  exact bitOf_sts_setStsBits hi h ..

theorem bitOf_sts_countBy {u i : Nat} {f : Fld} (hi : i < 24) {s : State} (h : bitOf (getF u (.sts f.blk) s) i = true)
    (apart : (Fld.sts f.blk).key u ≠ f.key u) (k : Nat) : bitOf (getF u (.sts f.blk) (countBy u f k s)) i = true := by
  have set (v : Nat) : bitOf (getF u (.sts f.blk) (setF u f v s)) i = true := by rwa [getF_setF_other _ _ apart]
  unfold countBy
  dsimp only
  split
  · exact bitOf_sts_correctedFault_keeps hi (set _) ..
  · exact set _

/-- A log entry clears no sticky bit of SURVEY. -/
theorem stsSet_writeLog {k : Sticky} (blk : k.blk = .SURVEY) (hi : k.bit < 24) (h : StsSet k p s) (source bin : Nat) (mag : Int) :
    StsSet k p (writeLog p source bin mag s) := by
  rw [StsSet, blk] at h ⊢
  have counted : bitOf (getF p (.sts .SURVEY) (count p .SURVEY_SV_EVENTS s)) k.bit = true :=
    bitOf_sts_countBy (f := .SURVEY_SV_EVENTS) hi h (key_ne_of_place p rfl (by decide)) 1
  unfold writeLog
  extract_lets e n t
  split
  · exact counted
  · refine bitOf_sts_irqUpdate hi (bitOf_sts_setStsBits hi ?_ ..) ..
    rw [getF_setF_other _ _ (key_ne_logOvf rfl (by decide) p)]
    exact counted

theorem nvm_writeLog (source bin : Nat) (mag : Int) (s : State) : (writeLog p source bin mag s).nvm = s.nvm := by
  have status := statusOnly_count p .SURVEY_SV_EVENTS s
  obtain ⟨-, -, -, -, -, nvm, -⟩ := status.frame
  unfold writeLog
  extract_lets e n t
  split
  · exact nvm
  · obtain ⟨-, -, -, -, -, nvm', -⟩ := (statusOnly_sticky .SURVEY_SV_LOG_FULL p (setF 0 .LODGE_LOG_OVF
      (satAdd 16 (getF 0 .LODGE_LOG_OVF t) 1) { t with log := mapPut t.log 63 e })).frame
    exact nvm'.trans nvm

theorem getF_writeLog {g : Fld} (h : Unjudged p g) (source bin : Nat) (mag : Int) (s : State) :
    getF p g (writeLog p source bin mag s) = getF p g s := congrArg (·.1) (profileView_writeLog h source bin mag s)

/-- A field of another word keeps its value as a command ends, late abort or not. -/
theorem getF_cmdDoneLate_off {u v : Nat} {g f : Fld} (h : ∀ d ≤ 4, g.key u ≠ f.key v + d) (late : Bool) (s : State) :
    getF u g (cmdDoneLate v f late s) = getF u g s := by
  have apart : g.key u ≠ f.abortLate.key v := key_abortLate v f ▸ h 1 (by omega)
  exact (getF_when _ (getF_setF_other _ _ apart)).trans (getF_cmdEnd_off h 2 s)

/-- A baseline in NVM, shown in SURVEY, before the command ends. -/
def baseStored (p : Nat) (base : List Int) (s : State) : State :=
  let s := modNvm (fun n => { n with bases := mapPut n.bases p base }) { s with fresh := s.fresh + 256 }
  setAll p [(.SURVEY_BASE_VALID, 1), (.SURVEY_BASE_VF, getF p .DIAG_VF s), (.SURVEY_BASE_GEN, getF p .SURVEY_BASE_GEN s + 1)] s

/-- A baseline stored, its command ended and logged. -/
def baseClosed (p : Nat) (s : State) : State :=
  writeLog p 3 0 0 (sticky .SURVEY_SV_BASE_SAVED p (modWatch p (fun w => { w with acc := [] })
    (cmdDoneLate p .SURVEY_SV_BASE_SAVE false s)))

theorem finishBaseSave_form (runs : getF p .SURVEY_SV_BASE_SAVE s = 1) (some_ : (s.port p).watch.acc ≠ [])
    (enough : getF p .SURVEY_SV_AVG s ≤ (s.port p).watch.acc.length) :
    ∃ base, finishBaseSave p s = baseClosed p (baseStored p base s) := by
  have closes : ¬(!cmdRuns p .SURVEY_SV_BASE_SAVE s || (s.port p).watch.acc.isEmpty ||
      decide ((s.port p).watch.acc.length < getF p .SURVEY_SV_AVG s)) = true := by
    simp [cmdRuns, isSet, runs, some_, enough]
  exact ⟨_, if_neg closes⟩

theorem baseStored_spec (p : Nat) (base : List Int) (s : State) :
    getF p .SURVEY_BASE_VALID (baseStored p base s) = 1 ∧
      getF p .SURVEY_BASE_GEN (baseStored p base s) = (getF p .SURVEY_BASE_GEN s + 1) % 2 ^ 16 ∧
      mapGet (baseStored p base s).nvm.bases p = some base := by
  have apart (f g : Fld) (blk : g.blk = f.blk) (place : g.off * 32 + g.lo ≠ f.off * 32 + f.lo) : g.key p ≠ f.key p :=
    key_ne_of_place p blk place
  unfold baseStored
  extract_lets t
  have status := statusOnly_setAll p [(.SURVEY_BASE_VALID, 1), (.SURVEY_BASE_VF, getF p .DIAG_VF t),
    (.SURVEY_BASE_GEN, getF p .SURVEY_BASE_GEN t + 1)] t
  obtain ⟨-, -, -, -, -, nvm, -⟩ := status.frame
  refine ⟨?_, (getF_setF_same ..).trans rfl, ?_⟩
  · rw [setAll_cons, setAll_cons, setAll_cons]
    refine (getF_setF_other _ _ (apart .SURVEY_BASE_GEN .SURVEY_BASE_VALID rfl (by decide))).trans ?_
    exact (getF_setF_other _ _ (apart .SURVEY_BASE_VF .SURVEY_BASE_VALID rfl (by decide))).trans (getF_setF_same ..)
  · rw [nvm]
    exact mapGet_mapPut_same ..

theorem baseClosed_spec (p : Nat) (s : State) :
    (∀ g : Fld, g.unjudged → g.off ≠ 0x02C → getF p g (baseClosed p s) = getF p g s) ∧ (baseClosed p s).nvm = s.nvm ∧
      Ended p .SURVEY_SV_BASE_SAVE ocDone (baseClosed p s) ∧ StsSet .SURVEY_SV_BASE_SAVED p (baseClosed p s) := by
  have closed (g : Fld) (h : g.unjudged) (off : g.offStatus = true) :
      getF p g (baseClosed p s) = getF p g (cmdDoneLate p .SURVEY_SV_BASE_SAVE false s) := by
    rw [baseClosed, getF_writeLog (unjudged_of_survey h p), getF_sticky_off off, getF_modWatch]
  obtain ⟨zero, outcome⟩ := ended_cmdDoneLate p .SURVEY_SV_BASE_SAVE false s
  have status := statusOnly_cmdDoneLate p .SURVEY_SV_BASE_SAVE false s
  obtain ⟨-, -, -, -, -, done, -⟩ := status.frame
  refine ⟨fun g h off => ?_, ?_, ⟨?_, ?_⟩, stsSet_writeLog rfl (by decide) (stsSet_sticky (by decide) ?_ _) ..⟩
  · have own := h
    simp only [Fld.unjudged, Bool.and_eq_true, beq_iff_eq] at own
    obtain ⟨⟨blk, status⟩, -⟩ := own
    obtain ⟨lo, -⟩ := of_decide_eq_true status
    rw [closed g h status]
    exact getF_cmdDoneLate_off (key_ne_command (f := .SURVEY_SV_BASE_SAVE) (word_ne_baseSave blk lo off p) (by decide)) false s
  · obtain ⟨-, -, -, -, -, saved, -⟩ := (statusOnly_sticky .SURVEY_SV_BASE_SAVED p (modWatch p (fun w => { w with acc := [] })
      (cmdDoneLate p .SURVEY_SV_BASE_SAVE false s))).frame
    exact (nvm_writeLog ..).trans (saved.trans done)
  · rw [closed _ (by decide) (by decide), zero]
  · rw [closed _ (by decide) (by decide), outcome]
  · exact (away_of_page (by decide) (by
      rw [show (Fld.sts Sticky.SURVEY_SV_BASE_SAVED.blk).blk = .SURVEY from rfl, blkPage_port rfl,
        show blkPage .CHAIN 0 = 2 from rfl]
      omega)).offStatus

end

theorem svBaseSaveDone_stores {p : Fin 8} {s : State} (live : Live p s) (runs : getF p .SURVEY_SV_BASE_SAVE s = 1)
    (some_ : (s.port p).watch.acc ≠ []) (enough : getF p .SURVEY_SV_AVG s ≤ (s.port p).watch.acc.length)
    (going : (s.port p).watch.baseAbort = false ∨ ∀ r, s.pending.head? ≠ some (.surveyProfile p r)) :
    Completes (.svBaseSaveDone p) s fun t => getF p .SURVEY_BASE_VALID t = 1 ∧
      getF p .SURVEY_BASE_GEN t = (getF p .SURVEY_BASE_GEN s + 1) % 2 ^ 16 ∧ (mapGet t.nvm.bases p).isSome = true ∧
      Ended p .SURVEY_SV_BASE_SAVE ocDone t ∧ StsSet .SURVEY_SV_BASE_SAVED p t := by
  have running : cmdRuns p .SURVEY_SV_BASE_SAVE s = true := beq_iff_eq.mpr runs
  obtain ⟨runs', asked, gen', acc⟩ := profileFirst_keeps enough going
  refine completes_portEvent rfl live ?_
  rw [running, when, if_pos rfl]
  have enough' : getF p .SURVEY_SV_AVG (profileFirst p s) ≤ ((profileFirst p s).port p).watch.acc.length := by
    rw [asked, acc]
    exact enough
  obtain ⟨base, form⟩ := finishBaseSave_form (runs'.trans runs) (acc ▸ some_) enough'
  obtain ⟨valid, gen, bases⟩ := baseStored_spec p base (profileFirst p s)
  obtain ⟨fields, nvm, ended, saved⟩ := baseClosed_spec p (baseStored p base (profileFirst p s))
  rw [form]
  refine ⟨?_, ?_, ?_, ended, saved⟩
  · rw [fields .SURVEY_BASE_VALID (by decide) (by decide), valid]
  · rw [fields .SURVEY_BASE_GEN (by decide) (by decide), gen, gen']
  · rw [nvm, bases]
    rfl

/-- Settles O50. -/
theorem reflectometryAndSurveyRun : Obligations.ReflectometryAndSurveyRun :=
  fun _ _ _ _ _ _ _ => ⟨fun h may => ⟨tdrRun_chirps h may, tdrRun_unfit h may⟩, tdrRun_rejected,
    fun live st runs => ⟨silence_unfit live st runs, silence_aborted live st runs, silence_next live st runs,
      silence_done live st runs⟩,
    surveyProfile_kept, svBaseSave_starts, svBaseSave_rejected, svBaseSaveDone_stores⟩

end Sys2Proof.Machine
end
